-- ==== Sys2Proof/Word.lean ====
section
/-! DEFINITION. The word types of the Septoirak and their plainest arithmetic: 8-, 32- and 64-bit quantities
(R10, R12), 50-bit addresses (R80), and the reading and replacing of a bit field of a natural number. -/

namespace Sys2Proof

/-- One byte of memory. -/
abbrev Byte := BitVec 8

/-- A general register, a special register or a 32-bit control-window register (R69, R12). -/
abbrev Word := BitVec 32

/-- A 64-bit register or lock pair (R12). -/
abbrev DWord := BitVec 64

/-- A 50-bit physical address (R80). -/
abbrev Addr := BitVec 50

/-- Bits `[lo + w - 1 : lo]` of `v`. -/
def bitsOf (v lo w : Nat) : Nat := v / 2 ^ lo % 2 ^ w

/-- Bit `i` of `v`. -/
def bitOf (v i : Nat) : Bool := v / 2 ^ i % 2 == 1

/-- `v` with bits `[lo + w - 1 : lo]` replaced by the low `w` bits of `x`. -/
def setBits (v lo w x : Nat) : Nat :=
  v % 2 ^ lo + (x % 2 ^ w) * 2 ^ lo + v / 2 ^ (lo + w) * 2 ^ (lo + w)

/-- 1 for true, 0 for false. -/
def bit01 (b : Bool) : Nat := if b then 1 else 0

/-- `v + 1`, held at `top` once reached (the saturating counters of the register tables). -/
def satInc (v top : Nat) : Nat := if v < top then v + 1 else top

/-- The little-endian value of a list of bytes (R10). -/
def leValue : List Byte → Nat
  | [] => 0
  | b :: r => b.toNat + 256 * leValue r

/-- The `n` bytes of `v`, least significant first (R10). -/
def leBytes : Nat → Nat → List Byte
  | 0, _ => []
  | n + 1, v => BitVec.ofNat 8 v :: leBytes n (v / 256)

/-- The signed value of the low `w` bits of `v` (two's complement). -/
def signedOf (w v : Nat) : Int :=
  let x := v % 2 ^ w
  if 2 * x < 2 ^ w then (x : Int) else (x : Int) - (2 ^ w : Nat)

/-- The `w`-bit two's-complement pattern of an integer. -/
def patternOf (w : Nat) (i : Int) : Nat := (i % ((2 ^ w : Nat) : Int)).toNat

/-- The positions below `n` whose bit of `v` is 1, lowest first. -/
def setPositions (n v : Nat) : List Nat := (List.range n).filter (bitOf v)

end Sys2Proof
end

