-- ==== Sys2Proof/Syntax.lean ====
section
/-! DEFINITION. The commands of the block: one constructor for each row of the opcode table, with the row's operands. An instruction of
the Ocnyx cores carries where it stands; a register write carries its writer; a frame its bytes. -/
namespace Sys2Proof

/-- Who accesses a register (Table 15.3): a berth, the Quayside target port with the privileged or the secure attribute, the target
port with neither, which acts as USER, or the Gangway. -/
inductive Writer where
  | berth (b : Nat)
  | host (secure : Bool)
  | hostUser
  | gangway
  deriving DecidableEq, Repr

/-- Where an instruction stands: the berth that issues it, and whether it is a 16-bit short form (R113, R117). -/
structure Site where
  berth : BitVec 9
  short : Bool
  deriving DecidableEq, Repr

/-- A register number of Table 4.1. -/
abbrev Reg5 := BitVec 5

/-- How a load or a store names its address (R80, R81, R117, R121): a base register and a displacement under a bank, or the direct
page with the displacement u6 × 4 of C.LWD and C.SWD. -/
inductive Mem where
  | base (rs1 : Reg5) (disp : BitVec 12) (bk : BitVec 2)
  | page (u6 : BitVec 6)
  deriving DecidableEq, Repr

/-- How an image bit operation names its bit (R82, R131): a base register and a displacement, or the short form's u8. -/
inductive BitName where
  | base (rs1 : Reg5) (disp : BitVec 10)
  | page (u8 : BitVec 8)
  deriving DecidableEq, Repr

/-- The check of a beat of 32 bytes with its check bits (R456, R460, R465). -/
inductive BeatCheck where
  | good
  | corrected
  | bad
  deriving DecidableEq, Repr

/-- A write beat of the target port (Table 15.1): its byte enables, its data and the outcome of its check. -/
structure Beat where
  strb  : BitVec 32
  data  : BitVec 256
  check : BeatCheck
  deriving DecidableEq, Repr

/-- What the reads of a program image returned (R465, R470): its bytes up to the first beat that failed, how many beats were corrected,
and the response code of the one that failed, 0 for an uncorrectable one. -/
structure ImageReads where
  bytes     : List (BitVec 8)
  corrected : BitVec 8
  fail      : BitVec 2
  deriving DecidableEq, Repr

/-- What a response beat of the initiator port answers (R463): the request in a place of the outstanding ones, or no outstanding
tag. -/
inductive Tag where
  | request (i : BitVec 9)
  | stray
  deriving DecidableEq, Repr

/-- What the outside drives on a pad's pin: a voltage below or above the receiver's thresholds or between them, or nothing
(R283). -/
inductive PinLevel where
  | low
  | high
  | between
  | released
  deriving DecidableEq, Repr

/-- A write that can arm a timebase compare (R322): of TB_CMPn, or of TB_CMPPERn, which holds EN. -/
inductive CompareWrite where
  | value (v : BitVec 64)
  | period (v : BitVec 32)
  deriving DecidableEq, Repr

/-- How a frame on a lane ended (Table 12.2): in TERM, in TERM_BAD, or by a control block of a type that the table lacks. -/
inductive FrameEnd where
  | term
  | termBad
  | unknown
  deriving DecidableEq, Repr

/-- When the frames of one SYNC_INTERVAL leave (R379): the SerDes phases of the SYNC's stamps on rings A and B, and the stamp units from
there to the stamps of the RTTP behind it. -/
structure SyncTimes where
  phaseA : BitVec 4
  phaseB : BitVec 4
  lagA   : BitVec 16
  lagB   : BitVec 16
  deriving DecidableEq, Repr

/-- A command: its constructor names its row of the opcode table, which gives its rule. Rows without operands
stand last. -/
inductive Instr where
  -- The integer instructions (R118, R119)
  | add (i : Site) (rd rs1 rs2 : Reg5)
  | sub (i : Site) (rd rs1 rs2 : Reg5)
  | and (i : Site) (rd rs1 rs2 : Reg5)
  | or (i : Site) (rd rs1 rs2 : Reg5)
  | xor (i : Site) (rd rs1 rs2 : Reg5)
  | andn (i : Site) (rd rs1 rs2 : Reg5)
  | sll (i : Site) (rd rs1 rs2 : Reg5)
  | srl (i : Site) (rd rs1 rs2 : Reg5)
  | sra (i : Site) (rd rs1 rs2 : Reg5)
  | slt (i : Site) (rd rs1 rs2 : Reg5)
  | sltu (i : Site) (rd rs1 rs2 : Reg5)
  | min (i : Site) (rd rs1 rs2 : Reg5)
  | max (i : Site) (rd rs1 rs2 : Reg5)
  | minu (i : Site) (rd rs1 rs2 : Reg5)
  | maxu (i : Site) (rd rs1 rs2 : Reg5)
  | mul (i : Site) (rd rs1 rs2 : Reg5)
  | mulh (i : Site) (rd rs1 rs2 : Reg5)
  | mulhu (i : Site) (rd rs1 rs2 : Reg5)
  | clz (i : Site) (rd rs1 : Reg5)
  | ror (i : Site) (rd rs1 rs2 : Reg5)
  | addi (i : Site) (rd rs1 : Reg5) (imm : BitVec 14)
  | andi (i : Site) (rd rs1 : Reg5) (imm : BitVec 14)
  | ori (i : Site) (rd rs1 : Reg5) (imm : BitVec 14)
  | xori (i : Site) (rd rs1 : Reg5) (imm : BitVec 14)
  | slti (i : Site) (rd rs1 : Reg5) (imm : BitVec 14)
  | sltiu (i : Site) (rd rs1 : Reg5) (imm : BitVec 14)
  | lui (i : Site) (rd : Reg5) (imm : BitVec 19)
  | slli (i : Site) (rd rs1 sh : Reg5)
  | srli (i : Site) (rd rs1 sh : Reg5)
  | srai (i : Site) (rd rs1 sh : Reg5)
  | rori (i : Site) (rd rs1 sh : Reg5)
  | extu (i : Site) (rd rs1 pos len1 : Reg5)
  | exts (i : Site) (rd rs1 pos len1 : Reg5)
  | ins (i : Site) (rd rs1 pos len1 : Reg5)
  -- Loads and stores (R121 to R123, R528)
  | lb (i : Site) (rd : Reg5) (m : Mem)
  | lbu (i : Site) (rd : Reg5) (m : Mem)
  | lh (i : Site) (rd : Reg5) (m : Mem)
  | lhu (i : Site) (rd : Reg5) (m : Mem)
  | lw (i : Site) (rd : Reg5) (m : Mem)
  | sb (i : Site) (rs2 : Reg5) (m : Mem)
  | sh (i : Site) (rs2 : Reg5) (m : Mem)
  | sw (i : Site) (rs2 : Reg5) (m : Mem)
  | lwi (i : Site) (rd : Reg5) (u19 : BitVec 19)
  | swi (i : Site) (rs : Reg5) (u19 : BitVec 19)
  | loadReturn (b : BitVec 9) (i : BitVec 6)
  | storePerformed (b : BitVec 9) (i : BitVec 6)
  -- Branches, jumps, calls and loops (R124 to R127)
  | beq (i : Site) (rs1 rs2 : Reg5) (disp : BitVec 14)
  | bne (i : Site) (rs1 rs2 : Reg5) (disp : BitVec 14)
  | blt (i : Site) (rs1 rs2 : Reg5) (disp : BitVec 14)
  | bge (i : Site) (rs1 rs2 : Reg5) (disp : BitVec 14)
  | bltu (i : Site) (rs1 rs2 : Reg5) (disp : BitVec 14)
  | bgeu (i : Site) (rs1 rs2 : Reg5) (disp : BitVec 14)
  | beqi (i : Site) (rs1 : Reg5) (imm : BitVec 5) (disp : BitVec 14)
  | bnei (i : Site) (rs1 : Reg5) (imm : BitVec 5) (disp : BitVec 14)
  | blti (i : Site) (rs1 : Reg5) (imm : BitVec 5) (disp : BitVec 14)
  | bgei (i : Site) (rs1 : Reg5) (imm : BitVec 5) (disp : BitVec 14)
  | bbs (i : Site) (rs1 bit : Reg5) (disp : BitVec 14)
  | bbc (i : Site) (rs1 bit : Reg5) (disp : BitVec 14)
  | jmp (i : Site) (disp : BitVec 24)
  | call (i : Site) (disp : BitVec 24)
  | jmpr (i : Site) (rt : Reg5) (bk : BitVec 2)
  | callr (i : Site) (rt : Reg5) (bk : BitVec 2)
  | ret (i : Site)
  | callfb (i : Site) (rs1 rs2 : Reg5) (disp : BitVec 14)
  | callfbr (i : Site) (rs1 rs2 rt : Reg5) (bk : BitVec 2)
  | loop (i : Site) (n : BitVec 2) (rs1 : Reg5) (disp : BitVec 14)
  | loopi (i : Site) (n : BitVec 2) (count : BitVec 8) (disp : BitVec 14)
  -- MACX and the image bit operations (R129, R131)
  | macx (i : Site) (rx ry : Reg5) (k : BitVec 4) (wide neg clr : Bool)
  | bld (i : Site) (rd : Reg5) (n : BitName)
  | bldn (i : Site) (rd : Reg5) (n : BitName)
  | band (i : Site) (rd : Reg5) (n : BitName)
  | bandn (i : Site) (rd : Reg5) (n : BitName)
  | bor (i : Site) (rd : Reg5) (n : BitName)
  | born (i : Site) (rd : Reg5) (n : BitName)
  | bxor (i : Site) (rd : Reg5) (n : BitName)
  | bxorn (i : Site) (rd : Reg5) (n : BitName)
  | bst (i : Site) (rd : Reg5) (n : BitName)
  | bset (i : Site) (rd : Reg5) (n : BitName)
  | brst (i : Site) (rd : Reg5) (n : BitName)
  | edgr (i : Site) (rd : Reg5) (n : BitName)
  | edgf (i : Site) (rd : Reg5) (n : BitName)
  | cNop (i : Site)
  -- Bollards (R133, R197)
  | bcas (i : Site) (rd rs1 rs2 : Reg5) (bk : BitVec 2)
  | btry (i : Site) (rd rs1 rs2 : Reg5) (bk : BitVec 2)
  | bacq (i : Site) (rd rs1 rs2 : Reg5) (bk : BitVec 2)
  | brel (i : Site) (rd rs1 : Reg5) (bk : BitVec 2)
  | bollardTimeout (b : BitVec 9)
  -- Manifests (R134, R135)
  | mopen (i : Site) (rd rs1 : Reg5) (k : BitVec 3)
  | mguard (i : Site) (rd rs1 rs2 : Reg5) (bk : BitVec 2) (k : BitVec 3)
  | mput (i : Site) (rd rs1 rs2 : Reg5) (bk : BitVec 2) (k : BitVec 3)
  | mpin (i : Site) (rd rs1 rs2 : Reg5) (bk : BitVec 2) (k : BitVec 3)
  | msend (i : Site) (rd rs1 : Reg5) (bk : BitVec 2) (k : BitVec 3)
  | mcommit (i : Site) (rd rs1 : Reg5) (k : BitVec 3)
  | mabort (i : Site) (rd : Reg5) (k : BitVec 3)
  -- Pins and engines from a berth (R136, R138)
  | outp (i : Site) (pad rs1 : Reg5)
  | outpm (i : Site) (rs1 rs2 : Reg5)
  | inp (i : Site) (rd : Reg5)
  | pewr (i : Site) (rs : Reg5) (e : BitVec 3) (r : BitVec 6)
  | perd (i : Site) (rd : Reg5) (e : BitVec 3) (r : BitVec 6)
  -- Special registers, system calls and waits (R139 to R143)
  | rdsr (i : Site) (rd : Reg5) (sr : BitVec 7)
  | wrsr (i : Site) (sr : BitVec 7) (rs1 : Reg5)
  | syscall (i : Site) (code : BitVec 12)
  | retx (i : Site)
  | fence (i : Site) (mask : BitVec 4)
  | waitt (i : Site) (rd rs1 rs2 : Reg5) (mode : BitVec 2) (consume : Bool)
  | waite (i : Site) (rd : Reg5) (consume poll : Bool)
  | sleep (i : Site) (rd : Reg5) (consume : Bool)
  -- The Carousel (chapter 2)
  | interruptEntry (b : BitVec 9)
  | timerCompare (b : BitVec 9)
  | parkRequest (w : Writer) (b : BitVec 9)
  | unparkRequest (w : Writer) (b : BitVec 9)
  | berthParked (b : BitVec 9)
  | reclass (w : Writer) (c : BitVec 5) (v : BitVec 32)
  | breachClear (w : Writer) (c : BitVec 5) (v : BitVec 32)
  | twinActivate (p : BitVec 4)
  | twinCopyDone (p : BitVec 4)
  | twinDeactivate (p : BitVec 4)
  -- Memories and bollards (chapters 5 and 6)
  | scrubWord (m : BitVec 4)
  | memClrCe (w : Writer)
  | memClrUe (w : Writer)
  | memClrPeak (w : Writer)
  | bolForcedRelease (w : Writer)
  | bolHandOver (w : Writer) (b : BitVec 9)
  | hostTry (w : Writer) (inh : Bool) (user : BitVec 15)
  | hostRel (w : Writer)
  | bolClrCnt (w : Writer)
  | bolClrPeak (w : Writer)
  -- Pin engines (chapter 7)
  | peNop (e : BitVec 6)
  | peStop (e : BitVec 6)
  | peJmp (e : BitVec 6)
  | peWait (e : BitVec 6)
  | peWaitComplete (e : BitVec 6) (n : BitVec 32)
  | peIn (e : BitVec 6)
  | peOut (e : BitVec 6)
  | pePush (e : BitVec 6)
  | pePull (e : BitVec 6)
  | peStallEnd (e : BitVec 6) (n : BitVec 32)
  | peMov (e : BitVec 6)
  | peSet (e : BitVec 6)
  | peEdge (e : BitVec 6)
  | peCntClr (e : BitVec 6)
  | peCntInc (e : BitVec 6)
  | peCntArm (e : BitVec 6)
  | peFlag (e : BitVec 6)
  | peFlagWaitComplete (e : BitVec 6) (n : BitVec 32)
  | peDly (e : BitVec 6)
  | peDlyComplete (e : BitVec 6)
  | engineStart (w : Writer) (e : BitVec 6) (v : BitVec 32)
  | engineStop (w : Writer) (e : BitVec 6) (v : BitVec 32)
  | programRestart (w : Writer) (e : BitVec 6) (v : BitVec 32)
  | dividerRestart (w : Writer) (e : BitVec 6) (v : BitVec 32)
  | txClear (w : Writer) (e : BitVec 6) (v : BitVec 32)
  | rxClear (w : Writer) (e : BitVec 6) (v : BitVec 32)
  | stallClear (w : Writer) (e : BitVec 6) (v : BitVec 32)
  | groupStart (w : Writer) (t : BitVec 3) (mask : BitVec 8) (restart clkr : Bool)
  | groupStop (w : Writer) (t : BitVec 3) (mask : BitVec 8)
  | tileFlagSet (w : Writer) (t : BitVec 3) (v : BitVec 32)
  | tileFlagClear (w : Writer) (t : BitVec 3) (v : BitVec 31)
  | tstatClear (w : Writer) (t : BitVec 3)
  | programWordWrite (w : Writer) (e : BitVec 6) (k : BitVec 6) (v : BitVec 16)
  | migrationRequest (w : Writer) (t : BitVec 3) (v : BitVec 15)
  | migrationCancel (w : Writer) (t : BitVec 3)
  | migrationFence (t : BitVec 3)
  | migrationCopy (t : BitVec 3)
  | migrationDone (t : BitVec 3)
  -- Pads (chapter 9)
  | padInputChange (t : BitVec 3) (i : BitVec 5) (l : PinLevel)
  | padConfigWrite (w : Writer) (t : BitVec 3) (i : BitVec 5) (v : BitVec 32)
  | padDoutWrite (w : Writer) (t : BitVec 3) (v : BitVec 32)
  | padOwnerWrite (w : Writer) (t : BitVec 3) (i : BitVec 5) (v : BitVec 32)
  | safeForceClear (w : Writer) (t : BitVec 3) (v : BitVec 32)
  | imageWordSelect (w : Writer) (t : BitVec 3) (v : BitVec 32)
  | latchRelease (w : Writer) (t : BitVec 3)
  | denyClear (w : Writer) (t : BitVec 3)
  | comparatorConfig (w : Writer) (c : BitVec 4) (v : BitVec 32)
  | comparatorTrip (c : BitVec 4) (u : BitVec 21)
  -- Events, timebase and line phase (chapter 10)
  | channelAssertion (n : BitVec 7)
  | channelFire (w : Writer) (k : BitVec 2) (v : BitVec 32)
  | channelConfig (w : Writer) (n : BitVec 7) (v : BitVec 32)
  | channelHoldEnd (n : BitVec 7)
  | groupWrite (w : Writer) (g : BitVec 4) (v : BitVec 32)
  | softwareInterrupt (w : Writer) (b : BitVec 9)
  | timebaseStepRequest (w : Writer) (v : BitVec 32)
  | timebaseCompareArm (w : Writer) (n : BitVec 4) (k : CompareWrite)
  | timebaseCompare (n : BitVec 4)
  | trackerConfig (w : Writer) (v : BitVec 32)
  | trackerCountClear (w : Writer)
  -- Scan and manifests (chapter 11)
  | classEnable (w : Writer) (c : BitVec 4) (v : BitVec 32)
  | classDisable (w : Writer) (c : BitVec 4) (v : BitVec 32)
  | classTick (c : BitVec 4)
  | latchTransfer (c : BitVec 4)
  | scheduledCommitJoin (h : BitVec 4)
  | checkpointRetentive (w : Writer) (c : BitVec 4)
  | checkpointInstance (w : Writer) (c : BitVec 4)
  | maintRequest (w : Writer) (act : BitVec 3)
  | maintRelease (w : Writer)
  | overrunClear (w : Writer) (c : BitVec 4)
  | mftCountClear (w : Writer)
  -- Ringmaster and the Lighthouses (chapter 14)
  | sourceClear (w : Writer) (n : BitVec 8)
  | faultInject (w : Writer) (v : BitVec 32)
  | softwareRaise (w : Writer) (v : BitVec 32)
  | lighthouseConfig (w : Writer) (x : BitVec 4) (v : BitVec 32)
  | lighthouseServe (w : Writer) (x : BitVec 4) (v : BitVec 32)
  | tileLighthouseExpiry (t : BitVec 3)
  | clockStopTrip (bosc : Bool)
  | resetCountClear (w : Writer) (v : BitVec 32)
  -- Quayside (chapter 15)
  | targetRead (addr : BitVec 35) (len : BitVec 4) (id : BitVec 8) (attr : BitVec 2) (strb : BitVec 32)
  | targetWrite (addr : BitVec 35) (id : BitVec 8) (attr : BitVec 2) (beats : List Beat)
  | initiatorResponse (tag : Tag) (resp : BitVec 2) (check : BeatCheck) (data : BitVec 256)
  | mailboxH2d (w : Writer) (v : BitVec 32)
  | doorbell (w : Writer) (v : BitVec 32)
  | mailboxD2h (w : Writer) (v : BitVec 32)
  | hostSoftwareInterrupt (w : Writer)
  | featureDone (w : Writer)
  | load (w : Writer)
  | start (w : Writer)
  | qspStop (w : Writer)
  | imageLoadDone (img : ImageReads)
  -- Supplies, clocks, resets and modes (chapter 17)
  | bankClassify (t : BitVec 3) (peak : BitVec 16) (steady : Bool)
  | supplyFail (k : BitVec 4)
  | resetNPulse (ns : BitVec 16)
  | softwareReset (w : Writer) (v : BitVec 32)
  | debugReset (w : Writer) (v : BitVec 32)
  | coreReset (w : Writer) (mask : BitVec 32)
  | berthReset (w : Writer) (b : BitVec 9)
  | deepSleepRequest (w : Writer)
  | recover (w : Writer) (v : BitVec 32)
  | dividerRequest (w : Writer) (v : BitVec 32)
  | relockRequest (w : Writer) (v : BitVec 32)
  | pllLock (lock : Bool)
  | pllUnlock (ref : Bool)
  | sensorRead (rs : List (Nat × Int))
  | peakClear (w : Writer)
  -- The rest
  | registerWrite (w : Writer) (off : BitVec 24) (v : BitVec 64)
  | undefinedInstruction (i : Site)
  | peUndefined (e : BitVec 6)
  | vddMonitor (k : BitVec 2)
  | bankOvervoltage (t : BitVec 3)
  -- Beyram and the MACs (chapter 12)
  | blockLock (lane : BitVec 2)
  | blockLockLoss (lane : BitVec 2)
  | helloInterval (p : BitVec 1)
  | hello (p : BitVec 1) (f : List Byte) (err : FrameEnd)
  | data (p : BitVec 1) (f : List Byte) (err : FrameEnd)
  | frameTransmit (r : BitVec 1)
  | dreqInterval (p : BitVec 1) (ph : BitVec 4)
  | dreq (p : BitVec 1) (f : List Byte) (err : FrameEnd) (ph : BitVec 4) (res : BitVec 32)
  | drsp (p : BitVec 1) (f : List Byte) (err : FrameEnd) (ph : BitVec 4)
  | syncInterval (times : SyncTimes)
  | sync (p : BitVec 1) (f : List Byte) (err : FrameEnd) (ph : BitVec 4) (res : BitVec 32)
  | elect (p : BitVec 1) (f : List Byte) (err : FrameEnd)
  | rttp (p : BitVec 1) (f : List Byte) (err : FrameEnd) (ph : BitVec 4)
  | link (p : BitVec 1) (f : List Byte) (err : FrameEnd)
  | dupExpiry (src : BitVec 10)
  | roundStart (j : BitVec 4)
  | prepare (p : BitVec 1) (f : List Byte) (err : FrameEnd)
  | vote (p : BitVec 1) (f : List Byte) (err : FrameEnd)
  | voteDeadline (j : BitVec 4)
  | collectionDeadline (j : BitVec 4)
  | decideFrame (p : BitVec 1) (f : List Byte) (err : FrameEnd)
  | tokenDeadline (j : BitVec 4)
  | xev (p : BitVec 1) (code : BitVec 8) (src : BitVec 10) (hops : BitVec 10)
  | beyCountClear (w : Writer)
  | macFrameReceive (m : BitVec 1) (f : List Byte)
  | macTransmit (m : BitVec 1)
  | gateInterval (m : BitVec 1)
  -- The Safety Net (chapter 13)
  | hb (f : List Byte) (err : FrameEnd)
  | pairRequest (w : Writer) (standby : Bool)
  | pair (f : List Byte) (err : FrameEnd)
  | unpairRequest (w : Writer)
  | resyncRequest (w : Writer)
  | logOpen (f : List Byte) (err : FrameEnd)
  | lines (f : List Byte) (err : FrameEnd)
  | commitRec (f : List Byte) (err : FrameEnd)
  | ack (f : List Byte) (err : FrameEnd)
  | nak (f : List Byte) (err : FrameEnd)
  | fault (f : List Byte) (err : FrameEnd)
  | rsLines (f : List Byte) (err : FrameEnd)
  | rsDone (f : List Byte) (err : FrameEnd)
  | snCountClear (w : Writer)
  -- Debug (chapter 16)
  | ident (f : List Byte)
  | chal (f : List Byte)
  | unlock (f : List Byte)
  | read (f : List Byte)
  | write (f : List Byte)
  | stateReadSteal (found : Bool)
  | halt (f : List Byte)
  | resume (f : List Byte)
  | step (f : List Byte)
  | itr (f : List Byte)
  | snap (f : List Byte)
  | vt (f : List Byte)
  | svc (f : List Byte)
  | dbgHalt (w : Writer) (mask : BitVec 32)
  | dbgResume (w : Writer) (mask : BitVec 32)
  | dbgStep (w : Writer) (b : BitVec 9)
  | dbgItr (w : Writer) (v : BitVec 32)
  | unlockRequest (w : Writer) (level : BitVec 2)
  | challengeRead (w : Writer)
  | lifecycleChange (lc : BitVec 2)
  | vtxWrite (w : Writer) (v : BitVec 32)
  | vrxRead (w : Writer)
  | traceSoft (w : Writer) (v : BitVec 32)
  | traceClear (w : Writer) (v : BitVec 32)
  -- Commands without operands
  | timebaseStep
  | ppsCapture
  | lineCrossing
  | trackerTimeout
  | trackerHoldExpiry
  | linePhaseWrap
  | commitStart
  | editWindowOpen
  | checkpointWriteDone
  | serviceSample
  | syncTimeout
  | electionTimeout
  | rttTimeout
  | hbInterval
  | heartbeatMiss
  | pairInterval
  | logTransmit
  | cycleApply
  | applyComplete
  | lockedTimeout
  | psenseFall
  | psenseWaitTimeout
  | takeoverCommit
  | logEntryDurable
  | logSearchDone
  | lighthouseExpiry
  | hostReset
  | hostResetRelease
  | ndoucIdleTimeout
  | uartGapTimeout
  | resumeInstant
  | stepDone
  | itrDone
  | supplyRise
  | supplyGood
  | resetRelease
  | resetNReset
  | dozeEntry
  | deepSleepEntry
  | wakeComplete
  | dividerChange
  | relockSwitch
  | relockPllReset
  | relockReturn
  | relockTimeout
  | thermalPowerOff
  | governorPeriod
  | resyncTransmit
  deriving DecidableEq, Repr

end Sys2Proof
end

