-- ==== Sys2Proof/Machine/Crypto.lean ====
section
/-! DEFINITION. The checks and signatures that the spec names by standard: CRC-32C (R166), the CRC-32 of IEEE 802.3
(R394), AES-128 and its CMAC (R394, R482), SHA-256 and ECDSA P-256 (R470). -/

namespace Sys2Proof.Machine

/-! ### CRC -/

/-- Eight reflected shifts of a CRC register. -/
def crcBits (poly : Nat) : Nat → Nat → Nat
  | 0, c => c
  | n + 1, c => crcBits poly n (if c % 2 = 1 then (c / 2) ^^^ poly else c / 2)

/-- A reflected CRC register over a list of bytes. -/
def crcReg (poly : Nat) : List Byte → Nat → Nat
  | [], c => c
  | b :: r, c => crcReg poly r (crcBits poly 8 (c ^^^ b.toNat))

/-- CRC-32C (R166): polynomial 0x1EDC6F41 reflected. -/
def crc32c (bs : List Byte) : Nat := crcReg 0x82F63B78 bs 0xFFFFFFFF ^^^ 0xFFFFFFFF

/-- The CRC-32 of IEEE 802.3 with its register preset to `init` (R394). -/
def crc32 (init : Nat) (bs : List Byte) : Nat := crcReg 0xEDB88320 bs init ^^^ 0xFFFFFFFF

/-! ### AES-128 -/

/-- Product in GF(2^8) modulo x^8 + x^4 + x^3 + x + 1, over the low `n` bits of `b`. -/
def gfMul : Nat → Nat → Nat → Nat
  | 0, _, _ => 0
  | n + 1, a, b =>
    let a2 := if 128 ≤ a then (a * 2 % 256) ^^^ 0x1B else a * 2
    (if b % 2 = 1 then a else 0) ^^^ gfMul n a2 (b / 2)

/-- a^254, the inverse in GF(2^8). -/
def gfInv (a : Nat) : Nat :=
  let m := gfMul 8
  let p2 := m a a
  let p3 := m p2 a
  let p12 := m (m p3 p3) (m p3 p3)
  let p15 := m p12 p3
  let p60 := m (m p15 p15) (m p15 p15)
  let p120 := m p60 p60
  let p126 := m (m p120 p3) p3
  let p127 := m p126 a
  m p127 p127

/-- The S-box of FIPS 197. -/
def sbox (a : Nat) : Nat :=
  let b := gfInv a
  let rot (k : Nat) : Nat := (b * 2 ^ k + b / 2 ^ (8 - k)) % 256
  b ^^^ rot 1 ^^^ rot 2 ^^^ rot 3 ^^^ rot 4 ^^^ 0x63

def xorBytes (a b : List Nat) : List Nat := (a.zip b).map fun p => p.1 ^^^ p.2

/-- The next round key. -/
def aesNextKey (rcon : Nat) (k : List Nat) : List Nat :=
  let w (i : Nat) : List Nat := (k.drop (4 * i)).take 4
  let l := w 3
  let t := ((l.drop 1 ++ l.take 1).map sbox)
  let t0 := xorBytes t [rcon, 0, 0, 0]
  let w0 := xorBytes (w 0) t0
  let w1 := xorBytes (w 1) w0
  let w2 := xorBytes (w 2) w1
  w0 ++ w1 ++ w2 ++ xorBytes (w 3) w2

/-- ShiftRows over a column-major block of 16 bytes. -/
def aesShift (s : List Nat) : List Nat := (List.range 16).map fun i => s.getD ((i + 4 * (i % 4)) % 16) 0

/-- MixColumns of one column. -/
def aesMixCol (c : List Nat) : List Nat :=
  (List.range 4).map fun i =>
    let g (k : Nat) : Nat := c.getD ((i + k) % 4) 0
    gfMul 8 (g 0) 2 ^^^ gfMul 8 (g 1) 3 ^^^ g 2 ^^^ g 3

def aesMix (s : List Nat) : List Nat :=
  (List.range 4).flatMap fun c => aesMixCol ((s.drop (4 * c)).take 4)

/-- Rounds of AES-128 from a state and the next round key. -/
def aesRounds : Nat → Nat → List Nat → List Nat → List Nat
  | 0, _, _, s => s
  | n + 1, rcon, k, s =>
    let k1 := aesNextKey rcon k
    let t := aesShift (s.map sbox)
    let u := if n = 0 then t else aesMix t
    aesRounds n (gfMul 8 rcon 2) k1 (xorBytes u k1)

/-- AES-128 of one block (FIPS 197). -/
def aes128 (key block : List Nat) : List Nat := aesRounds 10 1 key (xorBytes block key)

/-- Doubling in GF(2^128) of a 16-byte block (SP 800-38B). -/
def cmacDouble (b : List Nat) : List Nat :=
  let v := b.foldl (fun a x => a * 256 + x) 0
  let w := (v * 2 % 2 ^ 128) ^^^ (if 2 ^ 127 ≤ v then 0x87 else 0)
  (List.range 16).map fun i => w / 2 ^ (8 * (15 - i)) % 256

/-- The blocks of CMAC, at most `fuel`. -/
def cmacGo (key k1 k2 : List Nat) : Nat → List Nat → List Nat → List Nat
  | 0, c, _ => c
  | f + 1, c, m =>
    if m.length ≤ 16 then
      let last := if m.length = 16 then xorBytes m k1
        else xorBytes (m ++ [0x80] ++ List.replicate (15 - m.length) 0) k2
      aes128 key (xorBytes c last)
    else cmacGo key k1 k2 f (aes128 key (xorBytes c (m.take 16))) (m.drop 16)

/-- AES-128-CMAC (SP 800-38B). -/
def cmac (key : List Byte) (msg : List Byte) : List Nat :=
  let k := key.map BitVec.toNat
  let k1 := cmacDouble (aes128 k (List.replicate 16 0))
  cmacGo k k1 (cmacDouble k1) (msg.length / 16 + 1) (List.replicate 16 0) (msg.map BitVec.toNat)

/-! ### SHA-256 -/

def shaRotr (n x : Nat) : Nat := (x / 2 ^ n + x * 2 ^ (32 - n)) % 2 ^ 32

/-- Greatest r with r^k ≤ n, below 2^bits, for the SHA-256 constants. -/
def kthRoot (k n : Nat) : Nat → Nat → Nat
  | 0, r => r
  | b + 1, r => if (r + 2 ^ b) ^ k ≤ n then kthRoot k n b (r + 2 ^ b) else kthRoot k n b r

/-- Primes below 312, the first 64. -/
def primes64 : List Nat :=
  (List.range 312).filter fun p => decide (2 ≤ p) && (List.range p).all fun q => decide (q < 2) || p % q != 0

/-- Round constants: 32 fractional bits of the cube roots of the primes (FIPS 180-4). -/
def shaK : List Nat := primes64.map fun p => kthRoot 3 (p * 2 ^ 96) 36 0 % 2 ^ 32

/-- Initial hash: 32 fractional bits of the square roots of the first eight primes. -/
def shaH0 : List Nat := (primes64.take 8).map fun p => kthRoot 2 (p * 2 ^ 64) 36 0 % 2 ^ 32

/-- The message schedule, newest word first. -/
def shaSchedule : Nat → List Nat → List Nat
  | 0, w => w
  | n + 1, w =>
    let g (i : Nat) : Nat := w.getD (i - 1) 0
    let a := g 15
    let b := g 2
    let s0 := shaRotr 7 a ^^^ shaRotr 18 a ^^^ a / 8
    let s1 := shaRotr 17 b ^^^ shaRotr 19 b ^^^ b / 1024
    shaSchedule n (((g 16 + s0 + g 7 + s1) % 2 ^ 32) :: w)

/-- One round of the compression function on a to h. -/
def shaRound (v : List Nat) (kw : Nat) : List Nat :=
  let g (i : Nat) : Nat := v.getD i 0
  let e := g 4
  let a := g 0
  let ch := (e &&& g 5) ^^^ ((2 ^ 32 - 1 - e) &&& g 6)
  let t1 := g 7 + (shaRotr 6 e ^^^ shaRotr 11 e ^^^ shaRotr 25 e) + ch + kw
  let maj := (a &&& g 1) ^^^ (a &&& g 2) ^^^ (g 1 &&& g 2)
  let t2 := (shaRotr 2 a ^^^ shaRotr 13 a ^^^ shaRotr 22 a) + maj
  [(t1 + t2) % 2 ^ 32, a, g 1, g 2, (g 3 + t1) % 2 ^ 32, e, g 5, g 6]

/-- The big-endian value of some bytes. -/
def beValue (bs : List Byte) : Nat := bs.foldl (fun a b => a * 256 + b.toNat) 0

/-- One block. -/
def shaBlock (h : List Nat) (blk : List Byte) : List Nat :=
  let w0 := (List.range 16).map fun i => beValue ((blk.drop (4 * i)).take 4)
  let w := (shaSchedule 48 w0.reverse).reverse
  let v := ((shaK.zip w).map fun p => p.1 + p.2).foldl shaRound h
  (h.zip v).map fun p => (p.1 + p.2) % 2 ^ 32

/-- The blocks, at most `fuel`. -/
def shaGo : Nat → List Nat → List Byte → List Nat
  | 0, h, _ => h
  | f + 1, h, m => if m.isEmpty then h else shaGo f (shaBlock h (m.take 64)) (m.drop 64)

/-- SHA-256 (FIPS 180-4) as a 256-bit number, most significant byte first. -/
def sha256 (msg : List Byte) : Nat :=
  let n := msg.length
  let pad := (119 - n % 64) % 64
  let tail := (List.range 8).map fun i => BitVec.ofNat 8 (n * 8 / 2 ^ (8 * (7 - i)))
  let m := msg ++ [0x80] ++ List.replicate pad 0 ++ tail
  (shaGo (m.length / 64 + 1) shaH0 m).foldl (fun a x => a * 2 ^ 32 + x) 0

/-! ### ECDSA P-256 -/

def p256p : Nat := 2 ^ 256 - 2 ^ 224 + 2 ^ 192 + 2 ^ 96 - 1
def p256n : Nat := 0xFFFFFFFF00000000FFFFFFFFFFFFFFFFBCE6FAADA7179E84F3B9CAC2FC632551
def p256b : Nat := 0x5AC635D8AA3A93E7B3EBBD55769886BC651D06B0CC53B0F63BCE3C3E27D2604B
def p256gx : Nat := 0x6B17D1F2E12C4247F8BCE6E563A440F277037D812DEB33A0F4A13945D898C296
def p256gy : Nat := 0x4FE342E2FE1A7F9B8EE7EB4A7C0F9E162BCE33576B315ECECBB6406837BF51F5

/-- a^e modulo m, over the low `fuel` bits of e. -/
def powMod (m : Nat) : Nat → Nat → Nat → Nat
  | 0, _, _ => 1
  | f + 1, a, e =>
    let r := powMod m f (a * a % m) (e / 2)
    if e % 2 = 1 then r * a % m else r

/-- The inverse modulo a prime. -/
def invMod (m a : Nat) : Nat := powMod m 256 (a % m) (m - 2)

/-- The sum of two points of the curve; none is the point at infinity. -/
def p256Add (p q : Option (Nat × Nat)) : Option (Nat × Nat) :=
  match p, q with
  | none, _ => q
  | _, none => p
  | some (x1, y1), some (x2, y2) =>
    let m := p256p
    let finish (l : Nat) : Option (Nat × Nat) :=
      let x3 := (l * l + 2 * m - x1 - x2) % m
      some (x3, (l * (x1 + m - x3) + m - y1) % m)
    if x1 = x2 then
      if (y1 + y2) % m = 0 then none
      else finish ((3 * x1 * x1 + m - 3) % m * invMod m (2 * y1) % m)
    else finish ((y2 + m - y1) % m * invMod m (x2 + m - x1) % m)

/-- A multiple of a point, over the low `fuel` bits of the scalar. -/
def p256Mul : Nat → Nat → Option (Nat × Nat) → Option (Nat × Nat)
  | 0, _, _ => none
  | f + 1, k, p =>
    let r := p256Mul f (k / 2) (p256Add p p)
    if k % 2 = 1 then p256Add r p else r

/-- ECDSA verification on P-256 of a 256-bit digest. -/
def ecdsaVerify (qx qy digest r s : Nat) : Bool :=
  let n := p256n
  let onCurve := decide (qx < p256p) && decide (qy < p256p) &&
    (qy * qy % p256p == (qx * qx * qx + (p256p - 3) * qx + p256b) % p256p)
  if r = 0 ∨ n ≤ r ∨ s = 0 ∨ n ≤ s ∨ onCurve = false then false
  else
    let w := invMod n s
    match p256Add (p256Mul 256 (digest * w % n) (some (p256gx, p256gy))) (p256Mul 256 (r * w % n) (some (qx, qy))) with
    | some (x, _) => x % n == r
    | none => false

end Sys2Proof.Machine
end

