-- ==== Sys2Proof/Config.lean ====
section
/-! DEFINITION. What an implementation fixes and the free values: the three configurations of Table 0.1 and the
block inputs that are constant in a chip, and, as constants without a body, the values that the spec leaves open. -/

namespace Sys2Proof

/-- The three configurations (R5). -/
inductive Qs where
  | qs2
  | qs4
  | qs8
  deriving DecidableEq, Repr

/-- The configuration and the block inputs that the surrounding chip holds constant: the licence (R5), the device identity `qs_devid`
(R467), the boot inputs (R468, R470), the lifecycle and debug inputs (R481, R519), the key inputs (R470, R482) and the debug pin selection
(R474). -/
structure Straps where
  qs         : Qs
  devid      : DWord
  bootEn     : Bool
  bootAddr   : BitVec 48
  rotpkHash  : BitVec 256
  dbgKey     : BitVec 128
  fuse       : BitVec 2
  factory    : Bool
  dbgsel     : Bool
  deriving DecidableEq, Repr

/-- Tiles of a configuration (Table 0.1). -/
def Qs.tiles : Qs → Nat
  | .qs2 => 2
  | .qs4 => 4
  | .qs8 => 8

/-- The code of OCX_FEAT0.CFG (R105). -/
def Qs.code : Qs → Nat
  | .qs2 => 0
  | .qs4 => 1
  | .qs8 => 2

/-- Cores, berths, engines, comparators and tracked bollards (Table 0.1). -/
def Straps.tiles (c : Straps) : Nat := c.qs.tiles
def Straps.cores (c : Straps) : Nat := 4 * c.tiles
def Straps.berths (c : Straps) : Nat := 64 * c.tiles
def Straps.engines (c : Straps) : Nat := 8 * c.tiles
def Straps.comparators (c : Straps) : Nat := 2 * c.tiles
def Straps.bollards (c : Straps) : Nat := 128 * c.tiles

/-- The size S of one image of the Image Store (Table 5.4). -/
def Straps.imageS (c : Straps) : Nat := 0x20000 * c.tiles

/-- The size of the Image Store (Table 0.1): 3, 4 or 6 MiB. -/
def Straps.imageSize (c : Straps) : Nat := 4 * c.imageS + 0x200000

/-- A byte of the boot ROM (R152: its contents are not documented). FREE VALUE. -/
opaque Config.bootRomByte : Nat → Byte

/-- The check bits of an 8-byte word (R456: the spec gives their number and not their code). FREE VALUE. -/
opaque Config.checkBits : DWord → Byte

/-- The first challenge and its successors (R482: the device draws a random challenge). FREE VALUE. -/
opaque Config.challenge : Nat → DWord

/-- A byte that stands for one of a memory line that cannot be read, where the Safety Net sends the line all the same (R169; the
spec does not say what it sends). FREE VALUE, one for each draw. -/
opaque Config.lineByte : Nat → Nat → Byte

/-- A pad's level as the receiver sees it while its pin floats or lies between the thresholds (R283, Table 9.6).
FREE VALUE. -/
opaque Config.freeLevel : Nat → Bool

/-- Any other open value of the spec, one for each draw of the state's counter. FREE VALUE. -/
opaque Config.freeValue : Nat → Word

/-- The proportional-integral law of R382, which the spec names and does not write out: what it makes of the shifts KP and KI, the
offset and the sum of the offsets. FREE VALUE (notes/assumptions/51.md). -/
opaque Config.servo : Nat → Nat → Int → Int → Int

end Sys2Proof
end

