-- ==== Sys2Proof/Machine/RegTable.lean ====
section
/-! DEFINITION. The control window's registers, one row per register table of the spec: where each
register stands (its offset from CW, R12, R59 and the register sections of every chapter), which of its bits
software may write (RW), clear by writing one (W1C) or write while unlocked (LK), which are stored but read
as zero (keys), which reset restores them (R19, Table 0.6), and their reset value. -/

namespace Sys2Proof.Machine

/-- One register table of the spec: `cnt1` copies `str1` bytes apart, each with `cnt2` copies `str2` bytes
apart; `w64` marks a 64-bit register (R12); the masks are over its 32 or 64 bits. -/
structure RegDesc where
  base : Nat
  cnt1 : Nat
  str1 : Nat
  cnt2 : Nat
  str2 : Nat
  w64  : Bool
  rw   : Nat
  w1c  : Nat
  lk   : Nat
  hid  : Nat
  por  : Nat
  dbg  : Nat
  rst  : Nat
  deriving DecidableEq, Repr

namespace Reg

abbrev CAR_STAT (n : Nat) : Nat := 0x100000 + 0x1000 * n
abbrev CAR_SLOTMAP (n : Nat) : Nat := 0x100008 + 0x1000 * n
abbrev CAR_RECLASS (n : Nat) : Nat := 0x100010 + 0x1000 * n
abbrev CAR_RECLASS_ST (n : Nat) : Nat := 0x100014 + 0x1000 * n
abbrev CAR_PARKREQ (n : Nat) : Nat := 0x100018 + 0x1000 * n
abbrev CAR_PARKED (n : Nat) : Nat := 0x10001C + 0x1000 * n
abbrev CAR_QSIZE (n : Nat) : Nat := 0x100020 + 0x1000 * n
abbrev CAR_BRCLR (n : Nat) : Nat := 0x100024 + 0x1000 * n
abbrev CAR_BCFG (m n : Nat) : Nat := 0x100100 + 0x1000 * m + 0x4 * n
abbrev CAR_BSTAT (m n : Nat) : Nat := 0x100140 + 0x1000 * m + 0x4 * n
abbrev CAR_BREACH (m n : Nat) : Nat := 0x100180 + 0x1000 * m + 0x4 * n
abbrev CAR_TCMP (m n : Nat) : Nat := 0x100200 + 0x1000 * m + 0x8 * n
abbrev CAR_TWIN (n : Nat) : Nat := 0x120000 + 0x100 * n
abbrev MEM_ECCSTAT : Nat := 0x2000
abbrev MEM_CLR : Nat := 0x2004
abbrev MEM_CELOG : Nat := 0x2008
abbrev MEM_UELOG : Nat := 0x2010
abbrev MEM_SCRUB : Nat := 0x2018
abbrev MEM_SCRUBSTAT : Nat := 0x201C
abbrev MEM_INFLT : Nat := 0x2020
abbrev BOL_STAT : Nat := 0x10000
abbrev BOL_CNT : Nat := 0x10004
abbrev BOL_CLR : Nat := 0x10008
abbrev BOL_FADDR : Nat := 0x10010
abbrev BOL_FORCE : Nat := 0x10018
abbrev BOL_FST : Nat := 0x1001C
abbrev BOL_HADDR : Nat := 0x10020
abbrev BOL_HOP : Nat := 0x10028
abbrev BOL_HST : Nat := 0x1002C
abbrev BOL_TMO (n : Nat) : Nat := 0x11000 + 0x4 * n
abbrev BOL_WAIT (n : Nat) : Nat := 0x12000 + 0x8 * n
abbrev BOL_ENT (n : Nat) : Nat := 0x18000 + 0x10 * n
abbrev BOL_ENTQ (n : Nat) : Nat := 0x18008 + 0x10 * n
abbrev PAD_CFG (m n : Nat) : Nat := 0x80000 + 0x1000 * m + 0x4 * n
abbrev PAD_OWN (m n : Nat) : Nat := 0x80080 + 0x1000 * m + 0x4 * n
abbrev PAD_DOUT (n : Nat) : Nat := 0x80100 + 0x1000 * n
abbrev PAD_IN (n : Nat) : Nat := 0x80104 + 0x1000 * n
abbrev PAD_IMGB (n : Nat) : Nat := 0x80120 + 0x1000 * n
abbrev PAD_SFST (n : Nat) : Nat := 0x80124 + 0x1000 * n
abbrev PAD_LATCH (n : Nat) : Nat := 0x80128 + 0x1000 * n
abbrev PAD_STAT (n : Nat) : Nat := 0x8012C + 0x1000 * n
abbrev PAD_LOCK (n : Nat) : Nat := 0x80130 + 0x1000 * n
abbrev PAD_FSEL (m n : Nat) : Nat := 0x80108 + 0x1000 * m + 0x4 * n
abbrev PAD_CMP (m n : Nat) : Nat := 0x80140 + 0x1000 * m + 0x4 * n
abbrev PAD_INCONF : Nat := 0x80200
abbrev EVF_CHCFG (n : Nat) : Nat := 0x90000 + 0x4 * n
abbrev EVF_LEVEL (n : Nat) : Nat := 0x90200 + 0x4 * n
abbrev EVF_STICKY (n : Nat) : Nat := 0x90210 + 0x4 * n
abbrev EVF_MERGE (n : Nat) : Nat := 0x90220 + 0x4 * n
abbrev EVF_FIRE (n : Nat) : Nat := 0x90230 + 0x4 * n
abbrev EVF_WAKE (n : Nat) : Nat := 0x90240 + 0x4 * n
abbrev EVF_GRP (n : Nat) : Nat := 0x90300 + 0x4 * n
abbrev EVF_OVR : Nat := 0x90340
abbrev EVF_SNAP : Nat := 0x90344
abbrev EVF_RMSCH : Nat := 0x90348
abbrev EVF_SWI : Nat := 0x9034C
abbrev EVF_CLINE (m n : Nat) : Nat := 0x90400 + 0x8 * m + 0x4 * n
abbrev TB_NOW : Nat := 0x91000
abbrev TB_CTRL : Nat := 0x91008
abbrev TB_CORR : Nat := 0x9100C
abbrev TB_STEP : Nat := 0x91010
abbrev TB_STAT : Nat := 0x91014
abbrev TB_SNAP : Nat := 0x91018
abbrev TB_PPSTS : Nat := 0x91020
abbrev TB_CAPCFG : Nat := 0x91028
abbrev TB_CAP (n : Nat) : Nat := 0x91030 + 0x8 * n
abbrev TB_CMP (n : Nat) : Nat := 0x91100 + 0x8 * n
abbrev TB_CMPPER (n : Nat) : Nat := 0x91180 + 0x4 * n
abbrev LPT_CFG : Nat := 0x92000
abbrev LPT_GAIN : Nat := 0x92004
abbrev LPT_OFS : Nat := 0x92008
abbrev LPT_PH : Nat := 0x9200C
abbrev LPT_INC : Nat := 0x92010
abbrev LPT_STAT : Nat := 0x92014
abbrev LPT_ERR : Nat := 0x92018
abbrev LPT_SNAP : Nat := 0x9201C
abbrev SCN_STAT : Nat := 0xA0000
abbrev SCN_MNT : Nat := 0xA0010
abbrev SCN_MNTST : Nat := 0xA0014
abbrev SCN_EDIT : Nat := 0xA0018
abbrev SCN_CKPT : Nat := 0xA0020
abbrev SCN_CKPTST : Nat := 0xA0024
abbrev SCN_RLIST : Nat := 0xA0028
abbrev SCN_PUDT : Nat := 0xA0030
abbrev SCN_CLS (n : Nat) : Nat := 0xA0100 + 0x40 * n
abbrev SCN_PER (n : Nat) : Nat := 0xA0104 + 0x40 * n
abbrev SCN_START (n : Nat) : Nat := 0xA0108 + 0x40 * n
abbrev SCN_LMAP (n : Nat) : Nat := 0xA0110 + 0x40 * n
abbrev SCN_OMAP (n : Nat) : Nat := 0xA0118 + 0x40 * n
abbrev SCN_STAMP (n : Nat) : Nat := 0xA0120 + 0x40 * n
abbrev SCN_NEXT (n : Nat) : Nat := 0xA0128 + 0x40 * n
abbrev SCN_CYC (n : Nat) : Nat := 0xA0130 + 0x40 * n
abbrev SCN_OVR (n : Nat) : Nat := 0xA0134 + 0x40 * n
abbrev SCN_STW (n : Nat) : Nat := 0xA0138 + 0x40 * n
abbrev SCN_WORST (n : Nat) : Nat := 0xA013C + 0x40 * n
abbrev SCN_BIND (n : Nat) : Nat := 0xA1000 + 0x4 * n
abbrev MFT_STAT : Nat := 0xB0000
abbrev MFT_LEAD : Nat := 0xB0004
abbrev MFT_CNT : Nat := 0xB0008
abbrev MFT_CLR : Nat := 0xB000C
abbrev MFT_H (n : Nat) : Nat := 0xB0100 + 0x4 * n
abbrev BEY_CFG : Nat := 0xC0000
abbrev BEY_STAT : Nat := 0xC0004
abbrev BEY_TSYNC : Nat := 0xC0020
abbrev BEY_STEPTHR : Nat := 0xC0024
abbrev BEY_OFS : Nat := 0xC0028
abbrev BEY_RTT : Nat := 0xC002C
abbrev BEY_CNT0 : Nat := 0xC0030
abbrev BEY_CNT1 : Nat := 0xC0034
abbrev BEY_CLR : Nat := 0xC0038
abbrev BEY_XEV : Nat := 0xC003C
abbrev BEY_CNT2 : Nat := 0xC0040
abbrev BEY_PORT (n : Nat) : Nat := 0xC0010 + 0x4 * n
abbrev BEY_PDLY (n : Nat) : Nat := 0xC0018 + 0x4 * n
abbrev BEY_SGCFG (n : Nat) : Nat := 0xC0200 + 0x20 * n
abbrev BEY_SGCRD (n : Nat) : Nat := 0xC0204 + 0x20 * n
abbrev BEY_SGPER (n : Nat) : Nat := 0xC0208 + 0x20 * n
abbrev BEY_SGSTART (n : Nat) : Nat := 0xC0210 + 0x20 * n
abbrev BEY_SGST (n : Nat) : Nat := 0xC0218 + 0x20 * n
abbrev BEY_SGCNT (n : Nat) : Nat := 0xC021C + 0x20 * n
abbrev BEY_RXA (n : Nat) : Nat := 0xC1000 + 0x20 * n
abbrev BEY_RXB (n : Nat) : Nat := 0xC1008 + 0x20 * n
abbrev BEY_RXID (n : Nat) : Nat := 0xC100C + 0x20 * n
abbrev BEY_RXS (n : Nat) : Nat := 0xC1010 + 0x20 * n
abbrev BEY_RXLSEQ (n : Nat) : Nat := 0xC1014 + 0x20 * n
abbrev BEY_RXSID (n : Nat) : Nat := 0xC1018 + 0x20 * n
abbrev BEY_RXSIZE (n : Nat) : Nat := 0xC101C + 0x20 * n
abbrev BEY_TXSAFE (n : Nat) : Nat := 0xC2000 + 0x10 * n
abbrev BEY_TXSEQ (n : Nat) : Nat := 0xC2004 + 0x10 * n
abbrev BEY_TXSID (n : Nat) : Nat := 0xC2008 + 0x10 * n
abbrev BEY_SKEY (m n : Nat) : Nat := 0xC2800 + 0x10 * m + 0x4 * n
abbrev NET_CFG (n : Nat) : Nat := 0xD0000 + 0x1000 * n
abbrev NET_STAT (n : Nat) : Nat := 0xD0004 + 0x1000 * n
abbrev NET_ADDR (n : Nat) : Nat := 0xD0008 + 0x1000 * n
abbrev NET_TSTX (n : Nat) : Nat := 0xD0010 + 0x1000 * n
abbrev NET_GCTL (n : Nat) : Nat := 0xD0020 + 0x1000 * n
abbrev NET_GCBASE (n : Nat) : Nat := 0xD0028 + 0x1000 * n
abbrev NET_GCCYC (n : Nat) : Nat := 0xD0030 + 0x1000 * n
abbrev NET_GCL (m n : Nat) : Nat := 0xD0100 + 0x1000 * m + 0x4 * n
abbrev NET_RXA (n : Nat) : Nat := 0xD2000 + 0x20 * n
abbrev NET_RXB (n : Nat) : Nat := 0xD2008 + 0x20 * n
abbrev NET_RXK (n : Nat) : Nat := 0xD200C + 0x20 * n
abbrev NET_RXS (n : Nat) : Nat := 0xD2010 + 0x20 * n
abbrev RMS_CLEAR : Nat := 0xE0000
abbrev RMS_STAT : Nat := 0xE0004
abbrev RMS_LOG : Nat := 0xE0008
abbrev RMS_NB : Nat := 0xE000C
abbrev RMS_LOCK : Nat := 0xE0010
abbrev RMS_INJ : Nat := 0xE0014
abbrev RMS_RAISE : Nat := 0xE0018
abbrev RMS_SUM (n : Nat) : Nat := 0xE0040 + 0x4 * n
abbrev RMS_CFG (n : Nat) : Nat := 0xE1000 + 0x8 * n
abbrev RMS_WIN (n : Nat) : Nat := 0xE1004 + 0x8 * n
abbrev RMS_STATN (n : Nat) : Nat := 0xE2000 + 0x4 * n
abbrev LHS_CFG (n : Nat) : Nat := 0xE8000 + 0x20 * n
abbrev LHS_TMO (n : Nat) : Nat := 0xE8004 + 0x20 * n
abbrev LHS_WIN (n : Nat) : Nat := 0xE8008 + 0x20 * n
abbrev LHS_OWNER (n : Nat) : Nat := 0xE800C + 0x20 * n
abbrev LHS_SERVE (n : Nat) : Nat := 0xE8010 + 0x20 * n
abbrev LHS_CNT (n : Nat) : Nat := 0xE8014 + 0x20 * n
abbrev LHS_LOCK : Nat := 0xE8200
abbrev LHS_RSTCNT : Nat := 0xE8204
abbrev CLK_MON : Nat := 0xE8208
abbrev LHS_RCCLR : Nat := 0xE820C
abbrev NET_SNCFG : Nat := 0xF0000
abbrev NET_SNCTL : Nat := 0xF0004
abbrev NET_SNID : Nat := 0xF0008
abbrev NET_SNSTAT : Nat := 0xF000C
abbrev NET_SNCYC : Nat := 0xF0010
abbrev NET_SNACK : Nat := 0xF0014
abbrev NET_SNTKO : Nat := 0xF0018
abbrev NET_SNTKOT : Nat := 0xF0020
abbrev NET_SNCNT : Nat := 0xF0028
abbrev NET_SNCNT2 : Nat := 0xF002C
abbrev NET_SNNB : Nat := 0xF0030
abbrev NET_SNCLR : Nat := 0xF0034
abbrev NET_SNREG (n : Nat) : Nat := 0xF0100 + 0x10 * n
abbrev NET_SNRLEN (n : Nat) : Nat := 0xF0108 + 0x10 * n
abbrev NET_SNENG (n : Nat) : Nat := 0xF0200 + 0x4 * n
abbrev QSP_TCFG : Nat := 0x200000
abbrev QSP_TACL : Nat := 0x200004
abbrev QSP_FEAT_ACCEPT2 : Nat := 0x200030
abbrev QSP_FEAT_DONE : Nat := 0x200034
abbrev QSP_STAT : Nat := 0x200038
abbrev QSP_ELOG : Nat := 0x200040
abbrev QSP_BOOTADDR : Nat := 0x200050
abbrev QSP_BSTAT : Nat := 0x200058
abbrev QSP_CMD : Nat := 0x20005C
abbrev QSP_CMDADDR : Nat := 0x200060
abbrev QSP_CMDST : Nat := 0x200068
abbrev QSP_HROUTE : Nat := 0x200070
abbrev QSP_HPEND : Nat := 0x200074
abbrev QSP_HSWI : Nat := 0x200078
abbrev QSP_MSIADDR : Nat := 0x200080
abbrev QSP_MSIDATA : Nat := 0x200088
abbrev QSP_DBELL : Nat := 0x20008C
abbrev QSP_DBNB : Nat := 0x200090
abbrev QSP_H2D : Nat := 0x200094
abbrev QSP_D2H : Nat := 0x200098
abbrev QSP_FEAT_OFFER (n : Nat) : Nat := 0x200010 + 0x4 * n
abbrev DBG_AUTH : Nat := 0x300004
abbrev DBG_CHAL : Nat := 0x300008
abbrev DBG_UNLK : Nat := 0x300010
abbrev DBG_UNLKREQ : Nat := 0x300018
abbrev DBG_CTRL : Nat := 0x300020
abbrev DBG_STAT : Nat := 0x300024
abbrev DBG_NDCNT : Nat := 0x300028
abbrev DBG_FREEZE : Nat := 0x30002C
abbrev DBG_HALT : Nat := 0x300030
abbrev DBG_RESUME : Nat := 0x300034
abbrev DBG_HALTED : Nat := 0x300038
abbrev DBG_XMASK : Nat := 0x30003C
abbrev DBG_XTRIG : Nat := 0x300040
abbrev DBG_STEP : Nat := 0x300044
abbrev DBG_ITRSEL : Nat := 0x300048
abbrev DBG_ITR : Nat := 0x30004C
abbrev DBG_ITRST : Nat := 0x300050
abbrev DBG_VTX : Nat := 0x300060
abbrev DBG_VRX : Nat := 0x300064
abbrev DBG_VTSTAT : Nat := 0x300068
abbrev DBG_VTNB : Nat := 0x30006C
abbrev DBG_TCTL : Nat := 0x300070
abbrev DBG_TSTAT : Nat := 0x300074
abbrev DBG_TWP : Nat := 0x300078
abbrev DBG_TSW : Nat := 0x30007C
abbrev DBG_TFILT : Nat := 0x300080
abbrev DBG_SNTWP : Nat := 0x3000F0
abbrev DBG_TEVM (n : Nat) : Nat := 0x3000A0 + 0x4 * n
abbrev DBG_CSTAT (n : Nat) : Nat := 0x300100 + 0x4 * n
abbrev DBG_CMPA (n : Nat) : Nat := 0x300200 + 0x10 * n
abbrev DBG_CMPC (n : Nat) : Nat := 0x300208 + 0x10 * n
abbrev DBG_SNPC (n : Nat) : Nat := 0x301000 + 0x8 * n
abbrev PWR_STAT : Nat := 0x0
abbrev PWR_RSTCAUSE : Nat := 0x4
abbrev PWR_RST : Nat := 0x8
abbrev PWR_CRST : Nat := 0xC
abbrev PWR_BRST : Nat := 0x10
abbrev PWR_SLEEP : Nat := 0x14
abbrev PWR_WAKEVEC : Nat := 0x18
abbrev PWR_RECOVER : Nat := 0x20
abbrev PWR_RECOV : Nat := 0x24
abbrev PWR_STOPRUN : Nat := 0x28
abbrev CLK_DIV : Nat := 0x100
abbrev CLK_STAT : Nat := 0x104
abbrev CLK_RELOCK : Nat := 0x108
abbrev CLK_RLST : Nat := 0x10C
abbrev CLK_TCRIT : Nat := 0x110
abbrev THM_CFG : Nat := 0x200
abbrev THM_PEAK : Nat := 0x204
abbrev THM_TILE (n : Nat) : Nat := 0x210 + 0x4 * n

end Reg

/-- Registers of 02_carousel_and_midway.md (CAR_STAT to CAR_TWIN). -/
def regRows0 : List RegDesc := [
    RegDesc.mk 0x100000 32 0x1000 1 0x4 false 0x0 0x0 0x0 0x0 0x0 0x0 0x0,
    RegDesc.mk 0x100008 32 0x1000 1 0x4 true 0x0 0x0 0x0 0x0 0x0 0x0 0x0,
    RegDesc.mk 0x100010 32 0x1000 1 0x4 false 0x0 0x0 0x0 0x0 0x0 0x0 0x0,
    RegDesc.mk 0x100014 32 0x1000 1 0x4 false 0x0 0x0 0x0 0x0 0x0 0x0 0x0,
    RegDesc.mk 0x100018 32 0x1000 1 0x4 false 0xFFFF 0x0 0x0 0x0 0x0 0x0 0xFFFF,
    RegDesc.mk 0x10001C 32 0x1000 1 0x4 false 0x0 0x0 0x0 0x0 0x0 0x0 0xFFFF,
    RegDesc.mk 0x100020 32 0x1000 1 0x4 false 0x0 0x0 0x0 0x0 0x0 0x0 0x404080,
    RegDesc.mk 0x100024 32 0x1000 1 0x4 false 0x0 0x0 0x0 0x0 0x0 0x0 0x0,
    RegDesc.mk 0x100100 32 0x1000 16 0x4 false 0xF0 0x0 0x0 0x0 0x0 0x0 0x0,
    RegDesc.mk 0x100140 32 0x1000 16 0x4 false 0x0 0x0 0x0 0x0 0x0 0x0 0x0,
    RegDesc.mk 0x100180 32 0x1000 16 0x4 false 0x0 0x0 0x0 0x0 0x0 0x0 0x0,
    RegDesc.mk 0x100200 32 0x1000 16 0x8 true 0xFFFFFFFFFFFFFFFF 0x0 0x0 0x0 0x0 0x0 0xFFFFFFFFFFFFFFFF,
    RegDesc.mk 0x120000 8 0x100 1 0x4 false 0x3 0x30000 0x0 0x0 0x0 0x0 0x0]

/-- Registers of 05_memories_and_address_map.md (MEM_ECCSTAT to MEM_INFLT). -/
def regRows1 : List RegDesc := [
    RegDesc.mk 0x2000 1 0x4 1 0x4 false 0x0 0x0 0x0 0x0 0xFFFFFFFF 0x0 0x0,
    RegDesc.mk 0x2004 1 0x4 1 0x4 false 0x0 0x0 0x0 0x0 0x0 0x0 0x0,
    RegDesc.mk 0x2008 1 0x4 1 0x4 true 0x0 0x8000000000000000 0x0 0x0 0xFFFFFFFFFFFFFFFF 0x0 0x0,
    RegDesc.mk 0x2010 1 0x4 1 0x4 true 0x0 0x8000000000000000 0x0 0x0 0xFFFFFFFFFFFFFFFF 0x0 0x0,
    RegDesc.mk 0x2018 1 0x4 1 0x4 false 0xFFFF7 0x0 0x0 0x0 0x0 0x0 0x1007,
    RegDesc.mk 0x201C 1 0x4 1 0x4 false 0x0 0x0 0x0 0x0 0x0 0x0 0x0,
    RegDesc.mk 0x2020 1 0x4 1 0x4 false 0x0 0x0 0x0 0x0 0x0 0x0 0x0]

/-- Registers of 06_bollards.md (BOL_STAT to BOL_ENTQn). -/
def regRows2 : List RegDesc := [
    RegDesc.mk 0x10000 1 0x4 1 0x4 false 0x0 0x0 0x0 0x0 0x0 0x0 0x0,
    RegDesc.mk 0x10004 1 0x4 1 0x4 false 0x0 0x0 0x0 0x0 0x0 0x0 0x0,
    RegDesc.mk 0x10008 1 0x4 1 0x4 false 0x0 0x0 0x0 0x0 0x0 0x0 0x0,
    RegDesc.mk 0x10010 1 0x4 1 0x4 true 0x3FFFFFFFFFFFF 0x0 0x0 0x0 0x0 0x0 0x0,
    RegDesc.mk 0x10018 1 0x4 1 0x4 false 0x0 0x0 0x0 0x0 0x0 0x0 0x0,
    RegDesc.mk 0x1001C 1 0x4 1 0x4 false 0x0 0x0 0x0 0x0 0x0 0x0 0x0,
    RegDesc.mk 0x10020 1 0x4 1 0x4 true 0x3FFFFFFFFFFFF 0x0 0x0 0x0 0x0 0x0 0x0,
    RegDesc.mk 0x10028 1 0x4 1 0x4 false 0x0 0x0 0x0 0x0 0x0 0x0 0x0,
    RegDesc.mk 0x1002C 1 0x4 1 0x4 false 0x0 0x0 0x0 0x0 0x0 0x0 0x0,
    RegDesc.mk 0x11000 512 0x4 1 0x4 false 0xFFFFFFFF 0x0 0x0 0x0 0x0 0x0 0x989680,
    RegDesc.mk 0x12000 512 0x8 1 0x4 true 0x0 0x0 0x0 0x0 0x0 0x0 0x0,
    RegDesc.mk 0x18000 1024 0x10 1 0x4 true 0x0 0x0 0x0 0x0 0x0 0x0 0x0,
    RegDesc.mk 0x18008 1024 0x10 1 0x4 false 0x0 0x0 0x0 0x0 0x0 0x0 0x0]

/-- Registers of 09_pads_and_pin_ownership.md (PAD_CFGi to PAD_INCONF). -/
def regRows3 : List RegDesc := [
    RegDesc.mk 0x80000 8 0x1000 32 0x4 false 0x1FFFFFF 0x0 0x0 0x0 0x0 0x0 0x130A,
    RegDesc.mk 0x80080 8 0x1000 32 0x4 false 0x0 0x0 0x7F 0x0 0x0 0x0 0x0,
    RegDesc.mk 0x80100 8 0x1000 1 0x4 false 0xFFFFFFFF 0x0 0x0 0x0 0x0 0x0 0x0,
    RegDesc.mk 0x80104 8 0x1000 1 0x4 false 0x0 0x0 0x0 0x0 0x0 0x0 0x0,
    RegDesc.mk 0x80120 8 0x1000 1 0x4 false 0x1FFFF0 0x0 0x0 0x0 0x0 0x0 0x8,
    RegDesc.mk 0x80124 8 0x1000 1 0x4 false 0x0 0xFFFFFFFF 0x0 0x0 0x0 0x0 0x0,
    RegDesc.mk 0x80128 8 0x1000 1 0x4 false 0x0 0x0 0x0 0x0 0xFF 0x0 0x0,
    RegDesc.mk 0x8012C 8 0x1000 1 0x4 false 0x0 0x0 0x0 0x0 0x10000 0x0 0x0,
    RegDesc.mk 0x80130 8 0x1000 1 0x4 false 0x1 0x0 0x0 0x0 0x0 0x0 0x0,
    RegDesc.mk 0x80108 8 0x1000 4 0x4 false 0x0 0x0 0x0 0x0 0x0 0x0 0x0,
    RegDesc.mk 0x80140 8 0x1000 2 0x4 false 0x1FFF 0x0 0x0 0x0 0x0 0x0 0x3FF,
    RegDesc.mk 0x80200 1 0x4 1 0x4 false 0x0 0x0 0x0 0x0 0x0 0x0 0x0]

/-- Registers of 10_event_fabric_and_timebase.md (EVF_CHCFGn to LPT_CFG). -/
def regRows4 : List RegDesc := [
    RegDesc.mk 0x90000 128 0x4 1 0x4 false 0x1F3FF 0x0 0x0 0x0 0x0 0x0 0x0,
    RegDesc.mk 0x90200 4 0x4 1 0x4 false 0x0 0x0 0x0 0x0 0x0 0x0 0x0,
    RegDesc.mk 0x90210 4 0x4 1 0x4 false 0x0 0xFFFFFFFF 0x0 0x0 0x0 0x0 0x0,
    RegDesc.mk 0x90220 4 0x4 1 0x4 false 0x0 0xFFFFFFFF 0x0 0x0 0x0 0x0 0x0,
    RegDesc.mk 0x90230 4 0x4 1 0x4 false 0x0 0x0 0x0 0x0 0x0 0x0 0x0,
    RegDesc.mk 0x90240 4 0x4 1 0x4 false 0xFFFFFFFF 0x0 0x0 0x0 0x0 0x0 0x0,
    RegDesc.mk 0x90300 16 0x4 1 0x4 false 0x1FFFF 0x0 0x0 0x0 0x0 0x0 0x10000,
    RegDesc.mk 0x90340 1 0x4 1 0x4 false 0x0 0x1F 0x0 0x0 0x0 0x0 0x0,
    RegDesc.mk 0x90344 1 0x4 1 0x4 false 0x1 0x2 0x0 0x0 0x0 0x0 0x1,
    RegDesc.mk 0x90348 1 0x4 1 0x4 false 0xFFFFFFFF 0x0 0x0 0x0 0x0 0x0 0x0,
    RegDesc.mk 0x9034C 1 0x4 1 0x4 false 0x0 0x0 0x0 0x0 0x0 0x0 0x0,
    RegDesc.mk 0x90400 32 0x8 2 0x4 false 0xFFFFFFFF 0x0 0x0 0x0 0x0 0x0 0x0,
    RegDesc.mk 0x91000 1 0x4 1 0x4 true 0x0 0x0 0x0 0x0 0x0 0x0 0x0,
    RegDesc.mk 0x91008 1 0x4 1 0x4 false 0x3 0x0 0x0 0x0 0x0 0x0 0x0,
    RegDesc.mk 0x9100C 1 0x4 1 0x4 false 0xFFFF 0x0 0x0 0x0 0x0 0x0 0x0,
    RegDesc.mk 0x91010 1 0x4 1 0x4 false 0x0 0x0 0x0 0x0 0x0 0x0 0x0,
    RegDesc.mk 0x91014 1 0x4 1 0x4 false 0x0 0xF2 0x0 0x0 0x0 0x0 0x0,
    RegDesc.mk 0x91018 1 0x4 1 0x4 true 0x0 0x0 0x0 0x0 0x0 0x0 0x0,
    RegDesc.mk 0x91020 1 0x4 1 0x4 true 0x0 0x0 0x0 0x0 0x0 0x0 0x0,
    RegDesc.mk 0x91028 1 0x4 1 0x4 false 0xFFFFFFFF 0x0 0x0 0x0 0x0 0x0 0x0,
    RegDesc.mk 0x91030 4 0x8 1 0x4 true 0x0 0x0 0x0 0x0 0x0 0x0 0x0,
    RegDesc.mk 0x91100 16 0x8 1 0x4 true 0xFFFFFFFFFFFFFFFF 0x0 0x0 0x0 0x0 0x0 0xFFFFFFFFFFFFFFFF,
    RegDesc.mk 0x91180 16 0x4 1 0x4 false 0xFFFFFFFF 0x0 0x0 0x0 0x0 0x0 0x0,
    RegDesc.mk 0x92000 1 0x4 1 0x4 false 0xF7F1F 0x0 0x0 0x0 0x0 0x0 0x80000]

/-- Registers of 10_event_fabric_and_timebase.md (LPT_GAIN to LPT_SNAP). -/
def regRows5 : List RegDesc := [
    RegDesc.mk 0x92004 1 0x4 1 0x4 false 0xFFFF00FF 0x0 0x0 0x0 0x0 0x0 0xB60052,
    RegDesc.mk 0x92008 1 0x4 1 0x4 false 0xFFFFFFFF 0x0 0x0 0x0 0x0 0x0 0x0,
    RegDesc.mk 0x9200C 1 0x4 1 0x4 false 0x0 0x0 0x0 0x0 0x0 0x0 0x0,
    RegDesc.mk 0x92010 1 0x4 1 0x4 false 0x0 0x0 0x0 0x0 0x0 0x0 0x0,
    RegDesc.mk 0x92014 1 0x4 1 0x4 false 0x0 0x0 0x0 0x0 0x0 0x0 0x0,
    RegDesc.mk 0x92018 1 0x4 1 0x4 false 0x0 0x0 0x0 0x0 0x0 0x0 0x0,
    RegDesc.mk 0x9201C 1 0x4 1 0x4 false 0x0 0x0 0x0 0x0 0x0 0x0 0x0]

/-- Registers of 11_scan_cycle_and_manifests.md (SCN_STAT to MFT_CLR). -/
def regRows6 : List RegDesc := [
    RegDesc.mk 0xA0000 1 0x4 1 0x4 false 0x0 0x1C 0x0 0x0 0x0 0x0 0x0,
    RegDesc.mk 0xA0010 1 0x4 1 0x4 false 0x0 0x0 0x0 0x0 0x0 0x0 0x0,
    RegDesc.mk 0xA0014 1 0x4 1 0x4 false 0x0 0x0 0x0 0x0 0x0 0x0 0x0,
    RegDesc.mk 0xA0018 1 0x4 1 0x4 false 0x1FFFF 0x0 0x0 0x0 0x0 0x0 0x0,
    RegDesc.mk 0xA0020 1 0x4 1 0x4 false 0x0 0x0 0x0 0x0 0x0 0x0 0x0,
    RegDesc.mk 0xA0024 1 0x4 1 0x4 false 0x0 0x0 0x0 0x0 0x0 0x0 0x0,
    RegDesc.mk 0xA0028 1 0x4 1 0x4 true 0x3FF3FFFFFFFFFFFF 0x0 0x0 0x0 0x0 0x0 0x0,
    RegDesc.mk 0xA0030 1 0x4 1 0x4 true 0x3FFFFFFFFFFFF 0x0 0x0 0x0 0x0 0x0 0x0,
    RegDesc.mk 0xA0100 16 0x40 1 0x4 false 0x7F73 0x0 0x0 0x0 0x0 0x0 0x0,
    RegDesc.mk 0xA0104 16 0x40 1 0x4 false 0xFFFFFFFF 0x0 0x0 0x0 0x0 0x0 0x0,
    RegDesc.mk 0xA0108 16 0x40 1 0x4 true 0xFFFFFFFFFFFFFFFF 0x0 0x0 0x0 0x0 0x0 0x0,
    RegDesc.mk 0xA0110 16 0x40 1 0x4 true 0xFFE3FFFFFFFFFFFF 0x0 0x0 0x0 0x0 0x0 0x0,
    RegDesc.mk 0xA0118 16 0x40 1 0x4 true 0xFFE3FFFFFFFFFFFF 0x0 0x0 0x0 0x0 0x0 0x0,
    RegDesc.mk 0xA0120 16 0x40 1 0x4 true 0x0 0x0 0x0 0x0 0x0 0x0 0x0,
    RegDesc.mk 0xA0128 16 0x40 1 0x4 true 0x0 0x0 0x0 0x0 0x0 0x0 0x0,
    RegDesc.mk 0xA0130 16 0x40 1 0x4 false 0x0 0x0 0x0 0x0 0x0 0x0 0x0,
    RegDesc.mk 0xA0134 16 0x40 1 0x4 false 0x0 0x0 0x0 0x0 0x0 0x0 0x0,
    RegDesc.mk 0xA0138 16 0x40 1 0x4 false 0x1FFFF1 0x0 0x0 0x0 0x0 0x0 0x0,
    RegDesc.mk 0xA013C 16 0x40 1 0x4 false 0x0 0x0 0x0 0x0 0x0 0x0 0x0,
    RegDesc.mk 0xA1000 512 0x4 1 0x4 false 0x1F 0x0 0x0 0x0 0x0 0x0 0x0,
    RegDesc.mk 0xB0000 1 0x4 1 0x4 false 0x0 0x0 0x0 0x0 0x0 0x0 0x0,
    RegDesc.mk 0xB0004 1 0x4 1 0x4 false 0xFFF 0x0 0x0 0x0 0x0 0x0 0x100,
    RegDesc.mk 0xB0008 1 0x4 1 0x4 false 0x0 0x0 0x0 0x0 0x0 0x0 0x0,
    RegDesc.mk 0xB000C 1 0x4 1 0x4 false 0x0 0x0 0x0 0x0 0x0 0x0 0x0]

/-- Registers of 11_scan_cycle_and_manifests.md (MFT_Hn to MFT_Hn). -/
def regRows7 : List RegDesc := [
    RegDesc.mk 0xB0100 16 0x4 1 0x4 false 0x0 0x0 0x0 0x0 0x0 0x0 0x0]

/-- Registers of 12_beyram_link.md (BEY_CFG to BEY_RXLSEQn). -/
def regRows8 : List RegDesc := [
    RegDesc.mk 0xC0000 1 0x4 1 0x4 false 0xFFFFFFF 0x0 0x0 0x0 0x0 0x0 0x3FFFF,
    RegDesc.mk 0xC0004 1 0x4 1 0x4 false 0x0 0x14 0x0 0x0 0x0 0x0 0x0,
    RegDesc.mk 0xC0020 1 0x4 1 0x4 false 0xFFFFFFF 0x0 0x0 0x0 0x0 0x0 0x633D090,
    RegDesc.mk 0xC0024 1 0x4 1 0x4 false 0xFFFFFFFF 0x0 0x0 0x0 0x0 0x0 0x400,
    RegDesc.mk 0xC0028 1 0x4 1 0x4 false 0x0 0x0 0x0 0x0 0x0 0x0 0x0,
    RegDesc.mk 0xC002C 1 0x4 1 0x4 false 0x0 0x0 0x0 0x0 0x0 0x0 0x0,
    RegDesc.mk 0xC0030 1 0x4 1 0x4 false 0x0 0x0 0x0 0x0 0x0 0x0 0x0,
    RegDesc.mk 0xC0034 1 0x4 1 0x4 false 0x0 0x0 0x0 0x0 0x0 0x0 0x0,
    RegDesc.mk 0xC0038 1 0x4 1 0x4 false 0x0 0x0 0x0 0x0 0x0 0x0 0x0,
    RegDesc.mk 0xC003C 1 0x4 1 0x4 false 0x1 0x0 0x0 0x0 0x0 0x0 0x0,
    RegDesc.mk 0xC0040 1 0x4 1 0x4 false 0x0 0x0 0x0 0x0 0x0 0x0 0x0,
    RegDesc.mk 0xC0010 2 0x4 1 0x4 false 0x0 0x0 0x0 0x0 0x0 0x0 0x0,
    RegDesc.mk 0xC0018 2 0x4 1 0x4 false 0x0 0x0 0x0 0x0 0x0 0x0 0x0,
    RegDesc.mk 0xC0200 16 0x20 1 0x4 false 0x3FF07FF 0x0 0x0 0x0 0x0 0x0 0x0,
    RegDesc.mk 0xC0204 16 0x20 1 0x4 false 0x3FF03FF 0x0 0x0 0x0 0x0 0x0 0x0,
    RegDesc.mk 0xC0208 16 0x20 1 0x4 false 0xFFFFFFFF 0x0 0x0 0x0 0x0 0x0 0x0,
    RegDesc.mk 0xC0210 16 0x20 1 0x4 true 0xFFFFFFFFFFFFFFFF 0x0 0x0 0x0 0x0 0x0 0x0,
    RegDesc.mk 0xC0218 16 0x20 1 0x4 false 0x0 0x40000 0x0 0x0 0x0 0x0 0x0,
    RegDesc.mk 0xC021C 16 0x20 1 0x4 false 0x0 0x0 0x0 0x0 0x0 0x0 0x0,
    RegDesc.mk 0xC1000 64 0x20 1 0x4 true 0x3FFFFFFFFFFFF 0x0 0x0 0x0 0x0 0x0 0x0,
    RegDesc.mk 0xC1008 64 0x20 1 0x4 false 0xFFFFFFFF 0x0 0x0 0x0 0x0 0x0 0x20403FF,
    RegDesc.mk 0xC100C 64 0x20 1 0x4 false 0xFFFFFFFF 0x0 0x0 0x0 0x0 0x0 0x1000000,
    RegDesc.mk 0xC1010 64 0x20 1 0x4 false 0x70 0x0 0x0 0x0 0x0 0x0 0x0,
    RegDesc.mk 0xC1014 64 0x20 1 0x4 false 0xFFFFFFFF 0x0 0x0 0x0 0x0 0x0 0x0]

/-- Registers of 12_beyram_link.md (BEY_RXSIDn to NET_RXSn). -/
def regRows9 : List RegDesc := [
    RegDesc.mk 0xC1018 64 0x20 1 0x4 false 0xFFFFFFFF 0x0 0x0 0x0 0x0 0x0 0x0,
    RegDesc.mk 0xC101C 64 0x20 1 0x4 false 0xFF 0x0 0x0 0x0 0x0 0x0 0x0,
    RegDesc.mk 0xC2000 64 0x10 1 0x4 false 0x7FFFFF 0x0 0x0 0x0 0x0 0x0 0x100000,
    RegDesc.mk 0xC2004 64 0x10 1 0x4 false 0xFFFFFFFF 0x0 0x0 0x0 0x0 0x0 0x0,
    RegDesc.mk 0xC2008 64 0x10 1 0x4 false 0xFFFFFFFF 0x0 0x0 0x0 0x0 0x0 0x0,
    RegDesc.mk 0xC2800 16 0x10 4 0x4 false 0x0 0x0 0x0 0xFFFFFFFF 0xFFFFFFFF 0x0 0x0,
    RegDesc.mk 0xD0000 2 0x1000 1 0x4 false 0x3F 0x0 0x0 0x0 0x0 0x0 0x8,
    RegDesc.mk 0xD0004 2 0x1000 1 0x4 false 0x0 0x0 0x0 0x0 0x0 0x0 0x0,
    RegDesc.mk 0xD0008 2 0x1000 1 0x4 true 0xFFFFFFFFFFFF 0x0 0x0 0x0 0x0 0x0 0x0,
    RegDesc.mk 0xD0010 2 0x1000 1 0x4 true 0x0 0x0 0x0 0x0 0x0 0x0 0x0,
    RegDesc.mk 0xD0020 2 0x1000 1 0x4 false 0x7F01 0x0 0x0 0x0 0x0 0x0 0x0,
    RegDesc.mk 0xD0028 2 0x1000 1 0x4 true 0xFFFFFFFFFFFFFFFF 0x0 0x0 0x0 0x0 0x0 0x0,
    RegDesc.mk 0xD0030 2 0x1000 1 0x4 false 0xFFFFFFFF 0x0 0x0 0x0 0x0 0x0 0x0,
    RegDesc.mk 0xD0100 2 0x1000 64 0x4 false 0xFFFFFFFF 0x0 0x0 0x0 0x0 0x0 0xFF,
    RegDesc.mk 0xD2000 32 0x20 1 0x4 true 0x3FFFFFFFFFFFF 0x0 0x0 0x0 0x0 0x0 0x0,
    RegDesc.mk 0xD2008 32 0x20 1 0x4 false 0xFFFFFFFF 0x0 0x0 0x0 0x0 0x0 0x0,
    RegDesc.mk 0xD200C 32 0x20 1 0x4 false 0xFFFFFFFF 0x0 0x0 0x0 0x0 0x0 0x0,
    RegDesc.mk 0xD2010 32 0x20 1 0x4 false 0x3FFF0070 0x0 0x0 0x0 0x0 0x0 0x0]

/-- Registers of 14_ringmaster_and_lighthouse.md (RMS_CLEAR to LHS_RCCLR). -/
def regRows10 : List RegDesc := [
    RegDesc.mk 0xE0000 1 0x4 1 0x4 false 0x0 0x0 0x0 0x0 0x0 0x0 0x0,
    RegDesc.mk 0xE0004 1 0x4 1 0x4 false 0x0 0x0 0x0 0x0 0x0 0x0 0x0,
    RegDesc.mk 0xE0008 1 0x4 1 0x4 false 0x0 0x0 0x0 0x0 0x0 0x0 0x0,
    RegDesc.mk 0xE000C 1 0x4 1 0x4 false 0x1FF 0x0 0x0 0x0 0x0 0x0 0x0,
    RegDesc.mk 0xE0010 1 0x4 1 0x4 false 0x1 0x0 0x0 0x0 0x0 0x0 0x0,
    RegDesc.mk 0xE0014 1 0x4 1 0x4 false 0x0 0x0 0x0 0x0 0x0 0x0 0x0,
    RegDesc.mk 0xE0018 1 0x4 1 0x4 false 0x0 0x0 0x0 0x0 0x0 0x0 0x0,
    RegDesc.mk 0xE0040 8 0x4 1 0x4 false 0x0 0x0 0x0 0x0 0x0 0x0 0x0,
    RegDesc.mk 0xE1000 256 0x8 1 0x4 false 0x0 0x0 0xFF1F7F 0x0 0x0 0x0 0x1800,
    RegDesc.mk 0xE1004 256 0x8 1 0x4 false 0x0 0x0 0x33FF 0x0 0x0 0x0 0x0,
    RegDesc.mk 0xE2000 256 0x4 1 0x4 false 0x0 0x0 0x0 0x0 0x0 0x0 0x0,
    RegDesc.mk 0xE8000 9 0x20 1 0x4 false 0x0 0x0 0x7 0x0 0x0 0x0 0x0,
    RegDesc.mk 0xE8004 9 0x20 1 0x4 false 0x0 0x0 0x3FFFFFF 0x0 0x0 0x0 0xF4240,
    RegDesc.mk 0xE8008 9 0x20 1 0x4 false 0x0 0x0 0x3FFFFFF 0x0 0x0 0x0 0x0,
    RegDesc.mk 0xE800C 9 0x20 1 0x4 false 0x0 0x0 0x1FF 0x0 0x0 0x0 0x0,
    RegDesc.mk 0xE8010 9 0x20 1 0x4 false 0x0 0x0 0x0 0x0 0x0 0x0 0x0,
    RegDesc.mk 0xE8014 9 0x20 1 0x4 false 0x0 0x0 0x0 0x0 0x0 0x0 0x0,
    RegDesc.mk 0xE8200 1 0x4 1 0x4 false 0x1 0x0 0x0 0x0 0x0 0x0 0x0,
    RegDesc.mk 0xE8204 1 0x4 1 0x4 false 0x0 0x0 0x0 0x0 0x0 0x0 0x0,
    RegDesc.mk 0xE8208 1 0x4 1 0x4 false 0x0 0x3 0x0 0x0 0x3 0x0 0x0,
    RegDesc.mk 0xE820C 1 0x4 1 0x4 false 0x0 0x0 0x0 0x0 0x0 0x0 0x0]

/-- Registers of 13_safety_net.md (NET_SNCFG to NET_SNENGt). -/
def regRows11 : List RegDesc := [
    RegDesc.mk 0xF0000 1 0x4 1 0x4 false 0xFFFF01FF 0x0 0x0 0x0 0x0 0x0 0x64320108,
    RegDesc.mk 0xF0004 1 0x4 1 0x4 false 0x0 0x0 0x0 0x0 0x0 0x0 0x0,
    RegDesc.mk 0xF0008 1 0x4 1 0x4 false 0xFFFFFFFF 0x0 0x0 0x0 0x0 0x0 0x0,
    RegDesc.mk 0xF000C 1 0x4 1 0x4 false 0x0 0x800 0x0 0x0 0x0 0x0 0x0,
    RegDesc.mk 0xF0010 1 0x4 1 0x4 false 0x0 0x0 0x0 0x0 0x0 0x0 0x0,
    RegDesc.mk 0xF0014 1 0x4 1 0x4 false 0x0 0x0 0x0 0x0 0x0 0x0 0x0,
    RegDesc.mk 0xF0018 1 0x4 1 0x4 false 0x0 0x0 0x0 0x0 0x0 0x0 0x0,
    RegDesc.mk 0xF0020 1 0x4 1 0x4 true 0x0 0x0 0x0 0x0 0x0 0x0 0x0,
    RegDesc.mk 0xF0028 1 0x4 1 0x4 false 0x0 0x0 0x0 0x0 0x0 0x0 0x0,
    RegDesc.mk 0xF002C 1 0x4 1 0x4 false 0x0 0x0 0x0 0x0 0x0 0x0 0x0,
    RegDesc.mk 0xF0030 1 0x4 1 0x4 false 0x1FF 0x0 0x0 0x0 0x0 0x0 0x0,
    RegDesc.mk 0xF0034 1 0x4 1 0x4 false 0x0 0x0 0x0 0x0 0x0 0x0 0x0,
    RegDesc.mk 0xF0100 16 0x10 1 0x4 true 0x3FFFFFFFFFFFF 0x0 0x0 0x0 0x0 0x0 0x0,
    RegDesc.mk 0xF0108 16 0x10 1 0x4 false 0x8003FFFF 0x0 0x0 0x0 0x0 0x0 0x0,
    RegDesc.mk 0xF0200 8 0x4 1 0x4 false 0xFF 0x0 0x0 0x0 0x0 0x0 0x0]

/-- Registers of 15_quayside_ports_and_start_up.md (QSP_TCFG to QSP_FEAT_OFFERn). -/
def regRows12 : List RegDesc := [
    RegDesc.mk 0x200000 1 0x4 1 0x4 false 0x7 0x0 0x0 0x0 0x0 0x0 0x4,
    RegDesc.mk 0x200004 1 0x4 1 0x4 false 0x80000000 0x0 0x7FF 0x0 0x0 0x0 0x0,
    RegDesc.mk 0x200030 1 0x4 1 0x4 false 0xFFFFFFFF 0x0 0x0 0x0 0x0 0x0 0x0,
    RegDesc.mk 0x200034 1 0x4 1 0x4 false 0x1 0x0 0x0 0x0 0x0 0x0 0x0,
    RegDesc.mk 0x200038 1 0x4 1 0x4 false 0x0 0x0 0x0 0x0 0x0 0x0 0x0,
    RegDesc.mk 0x200040 1 0x4 1 0x4 true 0x0 0x8000000000000000 0x0 0x0 0x0 0x0 0x0,
    RegDesc.mk 0x200050 1 0x4 1 0x4 true 0x0 0x0 0x0 0x0 0x0 0x0 0x0,
    RegDesc.mk 0x200058 1 0x4 1 0x4 false 0x0 0x0 0x0 0x0 0x0 0x0 0xF,
    RegDesc.mk 0x20005C 1 0x4 1 0x4 false 0x0 0x0 0x0 0x0 0x0 0x0 0x0,
    RegDesc.mk 0x200060 1 0x4 1 0x4 true 0xFFFFFFFFFFFF 0x0 0x0 0x0 0x0 0x0 0x0,
    RegDesc.mk 0x200068 1 0x4 1 0x4 false 0x0 0x0 0x0 0x0 0x0 0x0 0x0,
    RegDesc.mk 0x200070 1 0x4 1 0x4 false 0x777777 0x0 0x0 0x0 0x0 0x0 0x0,
    RegDesc.mk 0x200074 1 0x4 1 0x4 false 0x0 0x3F 0x0 0x0 0x0 0x0 0x0,
    RegDesc.mk 0x200078 1 0x4 1 0x4 false 0x0 0x0 0x0 0x0 0x0 0x0 0x0,
    RegDesc.mk 0x200080 1 0x4 1 0x4 true 0xFFFFFFFFFFFF 0x0 0x0 0x0 0x0 0x0 0x0,
    RegDesc.mk 0x200088 1 0x4 1 0x4 false 0xFFFFFFFF 0x0 0x0 0x0 0x0 0x0 0x0,
    RegDesc.mk 0x20008C 1 0x4 1 0x4 false 0x0 0x0 0x0 0x0 0x0 0x0 0x0,
    RegDesc.mk 0x200090 1 0x4 1 0x4 false 0x1FF 0x0 0x0 0x0 0x0 0x0 0x0,
    RegDesc.mk 0x200094 1 0x4 1 0x4 false 0xFFFFFFFF 0x0 0x0 0x0 0x0 0x0 0x0,
    RegDesc.mk 0x200098 1 0x4 1 0x4 false 0xFFFFFFFF 0x0 0x0 0x0 0x0 0x0 0x0,
    RegDesc.mk 0x200010 6 0x4 1 0x4 false 0x0 0x0 0x0 0x0 0xFFFFFFFF 0x0 0x0]

/-- Registers of 16_debug_and_trace.md (DBG_AUTH to DBG_TWP). -/
def regRows13 : List RegDesc := [
    RegDesc.mk 0x300004 1 0x4 1 0x4 false 0x0 0x0 0x0 0x0 0x0 0xFFFFFFFF 0x0,
    RegDesc.mk 0x300008 1 0x4 1 0x4 true 0x0 0x0 0x0 0x0 0x0 0xFFFFFFFFFFFFFFFF 0x0,
    RegDesc.mk 0x300010 1 0x4 1 0x4 true 0x0 0x0 0x0 0xFFFFFFFFFFFFFFFF 0x0 0xFFFFFFFFFFFFFFFF 0x0,
    RegDesc.mk 0x300018 1 0x4 1 0x4 false 0x0 0x0 0x0 0x0 0x0 0xFFFFFFFF 0x0,
    RegDesc.mk 0x300020 1 0x4 1 0x4 false 0x71 0x0 0x0 0x0 0x0 0xFFFFFFFF 0x40,
    RegDesc.mk 0x300024 1 0x4 1 0x4 false 0x0 0x0 0x0 0x0 0x4 0x0 0x0,
    RegDesc.mk 0x300028 1 0x4 1 0x4 false 0x0 0x0 0x0 0x0 0x0 0xFFFFFFFF 0x0,
    RegDesc.mk 0x30002C 1 0x4 1 0x4 false 0x1F 0x0 0x0 0x0 0x0 0xFFFFFFFF 0x12,
    RegDesc.mk 0x300030 1 0x4 1 0x4 false 0x0 0x0 0x0 0x0 0x0 0xFFFFFFFF 0x0,
    RegDesc.mk 0x300034 1 0x4 1 0x4 false 0x0 0x0 0x0 0x0 0x0 0xFFFFFFFF 0x0,
    RegDesc.mk 0x300038 1 0x4 1 0x4 false 0x0 0x0 0x0 0x0 0x0 0x0 0x0,
    RegDesc.mk 0x30003C 1 0x4 1 0x4 false 0xFFFFFFFF 0x0 0x0 0x0 0x0 0xFFFFFFFF 0x0,
    RegDesc.mk 0x300040 1 0x4 1 0x4 false 0x3 0x0 0x0 0x0 0x0 0xFFFFFFFF 0x0,
    RegDesc.mk 0x300044 1 0x4 1 0x4 false 0x0 0x0 0x0 0x0 0x0 0xFFFFFFFF 0x0,
    RegDesc.mk 0x300048 1 0x4 1 0x4 false 0x1FF 0x0 0x0 0x0 0x0 0xFFFFFFFF 0x0,
    RegDesc.mk 0x30004C 1 0x4 1 0x4 false 0x0 0x0 0x0 0x0 0x0 0xFFFFFFFF 0x0,
    RegDesc.mk 0x300050 1 0x4 1 0x4 false 0x0 0x10 0x0 0x0 0x0 0x0 0x1,
    RegDesc.mk 0x300060 1 0x4 1 0x4 false 0x0 0x0 0x0 0x0 0x0 0xFFFFFFFF 0x0,
    RegDesc.mk 0x300064 1 0x4 1 0x4 false 0x0 0x0 0x0 0x0 0x0 0xFFFFFFFF 0x0,
    RegDesc.mk 0x300068 1 0x4 1 0x4 false 0x0 0x30000 0x0 0x0 0x0 0xFFFFFFFF 0x0,
    RegDesc.mk 0x30006C 1 0x4 1 0x4 false 0x1FF 0x0 0x0 0x0 0x0 0xFFFFFFFF 0x0,
    RegDesc.mk 0x300070 1 0x4 1 0x4 false 0x7F 0x0 0x0 0x0 0x0 0xFFFFFFFF 0x0,
    RegDesc.mk 0x300074 1 0x4 1 0x4 false 0x0 0x3000000 0x0 0x0 0x0 0xFFFFFFFF 0x0,
    RegDesc.mk 0x300078 1 0x4 1 0x4 false 0x0 0x0 0x0 0x0 0x0 0xFFFFFFFF 0x0]

/-- Registers of 16_debug_and_trace.md (DBG_TSW to DBG_SNPCb). -/
def regRows14 : List RegDesc := [
    RegDesc.mk 0x30007C 1 0x4 1 0x4 false 0x0 0x0 0x0 0x0 0x0 0xFFFFFFFF 0x0,
    RegDesc.mk 0x300080 1 0x4 1 0x4 false 0x3FF 0x0 0x0 0x0 0x0 0xFFFFFFFF 0x200,
    RegDesc.mk 0x3000F0 1 0x4 1 0x4 false 0x0 0x0 0x0 0x0 0x0 0x0 0x0,
    RegDesc.mk 0x3000A0 4 0x4 1 0x4 false 0xFFFFFFFF 0x0 0x0 0x0 0x0 0xFFFFFFFF 0x0,
    RegDesc.mk 0x300100 32 0x4 1 0x4 false 0x0 0x10 0x0 0x0 0x0 0x0 0x0,
    RegDesc.mk 0x300200 4 0x10 1 0x4 true 0xFFFFFFFFFFFFFF 0x0 0x0 0x0 0x0 0xFFFFFFFFFFFFFFFF 0x0,
    RegDesc.mk 0x300208 4 0x10 1 0x4 false 0xF3FF7 0x0 0x0 0x0 0x0 0xFFFFFFFF 0x0,
    RegDesc.mk 0x301000 512 0x8 1 0x4 true 0x0 0x0 0x0 0x0 0x0 0x0 0x0]

/-- Registers of 17_supplies_clocks_reset_modes.md (PWR_STAT to THM_TILEt). -/
def regRows15 : List RegDesc := [
    RegDesc.mk 0x0 1 0x4 1 0x4 false 0x0 0xC00 0x0 0x0 0x0 0x0 0x3,
    RegDesc.mk 0x4 1 0x4 1 0x4 false 0x0 0x0 0x0 0x0 0xFFFFFFFF 0x0 0x1,
    RegDesc.mk 0x8 1 0x4 1 0x4 false 0x0 0x0 0x0 0x0 0x0 0x0 0x0,
    RegDesc.mk 0xC 1 0x4 1 0x4 false 0x0 0x0 0x0 0x0 0x0 0x0 0x0,
    RegDesc.mk 0x10 1 0x4 1 0x4 false 0x0 0x0 0x0 0x0 0x0 0x0 0x0,
    RegDesc.mk 0x14 1 0x4 1 0x4 false 0xFF01 0x0 0x0 0x0 0x0 0x0 0xFF00,
    RegDesc.mk 0x18 1 0x4 1 0x4 true 0x8003FFFFFFFFFFFF 0x0 0x0 0x0 0x0 0x0 0x0,
    RegDesc.mk 0x20 1 0x4 1 0x4 false 0x0 0x0 0x0 0x0 0x0 0x0 0x0,
    RegDesc.mk 0x24 1 0x4 1 0x4 false 0x1FF 0x0 0x0 0x0 0x0 0x0 0x0,
    RegDesc.mk 0x28 1 0x4 1 0x4 true 0xFFFFFFFFFFFFFFFF 0x0 0x0 0x0 0x0 0x0 0x0,
    RegDesc.mk 0x100 1 0x4 1 0x4 false 0x3 0x0 0x0 0x0 0x0 0x0 0x0,
    RegDesc.mk 0x104 1 0x4 1 0x4 false 0x0 0x0 0x0 0x0 0x10 0x0 0x0,
    RegDesc.mk 0x108 1 0x4 1 0x4 false 0x0 0x0 0x0 0x0 0x0 0x0 0x0,
    RegDesc.mk 0x10C 1 0x4 1 0x4 false 0x0 0x0 0x0 0x0 0x0 0x0 0x0,
    RegDesc.mk 0x110 1 0x4 1 0x4 true 0xFFFFFFFFFFFFFFFF 0x0 0x0 0x0 0x0 0x0 0x0,
    RegDesc.mk 0x200 1 0x4 1 0x4 false 0xFFFF 0x0 0x0 0x0 0x0 0x0 0x700A,
    RegDesc.mk 0x204 1 0x4 1 0x4 false 0x0 0x0 0x0 0x0 0x0 0x0 0x0,
    RegDesc.mk 0x210 8 0x4 1 0x4 false 0x0 0x0 0x0 0x0 0x0 0x0 0x0]

/-- Every register of the control window but the pin engines' (R234) and the constants OCX_FEAT0 to OCX_FEAT7. -/
def regRows : List RegDesc :=
  regRows0 ++ regRows1 ++ regRows2 ++ regRows3 ++ regRows4 ++ regRows5 ++ regRows6 ++ regRows7 ++
    regRows8 ++ regRows9 ++ regRows10 ++ regRows11 ++ regRows12 ++ regRows13 ++ regRows14 ++ regRows15

/-- The (byte) place of `off` inside a register of this row, if the row covers it. -/
def RegDesc.place (r : RegDesc) (off : Nat) : Option Nat :=
  if off < r.base then none else
  let o := off - r.base
  let i := if r.cnt1 = 1 then 0 else o / r.str1
  let o1 := o - i * r.str1
  let j := if r.cnt2 = 1 then 0 else o1 / r.str2
  let o2 := o1 - j * r.str2
  if i < r.cnt1 ∧ j < r.cnt2 ∧ o2 < (if r.w64 then 8 else 4) then some o2 else none

/-- The row that covers an offset, with the place inside the register. -/
def regFind (off : Nat) : Option (RegDesc × Nat) :=
  regRows.findSome? fun r => (r.place off).map fun p => (r, p)

end Sys2Proof.Machine
end

