-- ==== Sys2Proof/Machine/Store.lean ====
section
/-! DEFINITION. Sparse stores as plain data: a list of (key, value) pairs in one canonical form, keys strictly
rising and no entry equal to what an unlisted key reads as. Memory, the register file of the control window, the
berths' registers and every table of like things are held this way, so that equal stores are equal lists. -/

namespace Sys2Proof.Machine

/-- A sparse store of values of one type, keyed by a natural number. -/
abbrev Store (α : Type) := List (Nat × α)

/-- The value a key reads as: its entry, or the default of an unlisted key. -/
def Store.get {α : Type} (m : Store α) (dflt : Nat → α) (k : Nat) : α :=
  match m with
  | [] => dflt k
  | (j, v) :: r => if j = k then v else Store.get r dflt k

/-- The store without any entry of a key. -/
def Store.erase {α : Type} (m : Store α) (k : Nat) : Store α := m.filter fun e => e.1 != k

/-- The store with an entry put before the first greater key. -/
def Store.insert {α : Type} (m : Store α) (k : Nat) (v : α) : Store α :=
  match m with
  | [] => [(k, v)]
  | e :: r => if k < e.1 then (k, v) :: e :: r else e :: Store.insert r k v

/-- The store after a write; writing what an unlisted key reads as removes the entry. -/
def Store.put {α : Type} [DecidableEq α] (m : Store α) (dflt : Nat → α) (k : Nat) (v : α) : Store α :=
  if v = dflt k then m.erase k else (m.erase k).insert k v

/-- The canonical form: keys strictly rising, and no entry equal to its default. -/
def Store.wf {α : Type} [DecidableEq α] (m : Store α) (dflt : Nat → α) : Bool :=
  match m with
  | [] => true
  | (k, v) :: r => decide (v ≠ dflt k) && (r.all fun e => decide (k < e.1)) && Store.wf r dflt

end Sys2Proof.Machine
end

