-- ==== Sys2Proof/Machine/State.lean ====
section
/-! DEFINITION. The state of the block: every register, memory, queue, counter, mode and pin the spec gives it,
and the queue of the commands that wait. All of it is plain data. -/

namespace Sys2Proof.Machine

/-- The twelve operating modes of Table 1.4, with RETAINING for no other: each has the code R24 gives it. -/
inductive Mode where
  | off
  | ramp
  | reset
  | service
  | stop
  | run
  | standby
  | halt
  | doze
  | deepSleep
  | safe
  | factory
  deriving DecidableEq, Repr

/-- What is raised (Table 3.8): code, subcode, line, EADDR, IMP, the EPC, and the address of the instruction. -/
structure Raised where
  code : Nat
  sub  : Nat
  line : Nat
  addr : Nat
  imp  : Bool
  epc  : Nat
  at_  : Nat
  deriving DecidableEq, Repr

/-- What a berth that is not ready waits for (Table 2.11, R140, R141, R193, R135, R464). `rd` is the register
the wait returns its result in, as numbered by Table 4.1. -/
inductive Wait where
  | none
  | waitt (rd : Nat) (consume : Bool)
  | waite (rd : Nat) (consume : Bool)
  | sleep (rd : Nat) (consume : Bool)
  /-- BACQ waiting for a bollard (R193): its status register, the word's global address, its arrival (R194), its time
  limit (R197) and what its acquire records (R188). -/
  | bollard (rd addr arrival limit : Nat) (inh : Bool) (user : Nat)
  /-- MCOMMIT waiting for its manifest to be applied or to fail (R135). -/
  | commit (rd : Nat) (manifest : Nat)
  /-- An MCOMMIT that has completed while the core is halted: its status waits for the resume (R489). -/
  | status (rd value : Nat)
  /-- A timed berth stalled after a timing breach (R50). -/
  | breach
  /-- An exception entry to a level whose spill is being written to the external region (R99, R463): what is raised, and the
  place in program order of the spill's first store. -/
  | entering (r : Raised) (level first : Nat)
  /-- A call whose record, and spill, is being written to the external region (R76, R463), and the place in program order of its
  first store there: the callee's first instruction waits. -/
  | record (first : Nat)
  deriving DecidableEq, Repr

/-- Where a load-like operation's result comes from (R123). -/
inductive LoadSource where
  /-- an address, read when the data returns: size in bytes, sign extension -/
  | memory (addr size : Nat) (signed : Bool)
  /-- a result fixed at issue (image bit operations, INP, PERD, bollards, manifests) -/
  | value (v : Word)
  deriving DecidableEq, Repr

/-- What a berth held when it issued an external load, to which an error response takes it back (R100): its general and
special registers, and the loads in flight then with their destinations. -/
structure Rescue where
  gpr  : Store Word
  sr   : Store Word
  pend : List (Nat × Nat)
  deriving DecidableEq, Repr

/-- A load-queue entry (R44): the physical destination (none once a later write took it), the source, the address of the
instruction and its place in the berth's program order; for an external load also what an error response restores, and
whether one has come. -/
structure LoadEntry where
  dest   : Option Nat
  src    : LoadSource
  pc     : Addr
  seq    : Nat
  rescue : Option Rescue
  failed : Bool
  deriving DecidableEq, Repr

/-- A store-buffer entry (R44, R528), with the PL of its instruction (R463). -/
structure StoreEntry where
  addr  : Nat
  size  : Nat
  value : Nat
  seq   : Nat
  level : Nat
  /-- sent to the initiator port and awaiting its response (R464) -/
  sent  : Bool
  deriving DecidableEq, Repr

/-- A word of a call record or a spilled frame that RET or RETX reads from the external region (R73, R78, R463): its address, the
level of the read, whether its request has left, and the value once it has arrived. -/
structure StackRead where
  addr  : Nat
  level : Nat
  sent  : Bool
  value : Option Nat
  deriving DecidableEq, Repr

/-- One berth (R69 to R92). `gpr` is keyed by physical register: 0 to 7 the globals, 8 + 16f + i register i of
frame f. `sr` is keyed by special-register number (Table 3.5). -/
structure Berth where
  gpr    : Store Word
  sr     : Store Word
  pc     : Addr
  wait   : Wait
  /-- the load-delay position (R49, R86): the destination of the load just issued and its old value -/
  shadow : Option (Nat × Word)
  loads  : List LoadEntry
  stores : List StoreEntry
  /-- next place in program order -/
  seq    : Nat
  /-- the timer compare has not asserted since it was last written (R139) -/
  armed  : Bool
  /-- addresses of external stores whose imprecise BUS is still to be taken (R100) -/
  faults : List Nat
  /-- external stack words that the RET or RETX at PC has asked for -/
  reads  : List StackRead
  /-- external stack words of a call or of an exception's entry that still wait for a store-buffer entry (R45, R177): address, value
  and level -/
  writes : List (Nat × Nat × Nat)
  /-- external 32-byte beats that its fetches have delivered, the latest last, by address / 32 (R463) -/
  beats  : List Nat
  /-- an external beat whose fetch failed before the instruction that needs it could raise BUS (R100, R465) -/
  badBeat : Option Nat
  /-- the wait it has left without issuing since, and the timebase value by which a line of the same ready cycle meets it (R54) -/
  woke   : Option (Wait × Nat)
  deriving DecidableEq, Repr

/-- The state of one SECDED word (Table 5.8). -/
inductive Ecc where
  | clean
  | data
  | check
  | uncorrectable
  deriving DecidableEq, Repr

/-- The memories (chapter 5). `bytes` holds every byte of the tile SRAMs, the Image Store, the retained store and
the trace buffer, keyed by global address; an unlisted byte reads as zero. `ecc` is keyed by address / 8 and
`dirty` by address / 64 (R163). -/
structure MemSys where
  bytes   : List Host.Cell
  ecc     : Store Ecc
  dirty   : Store Bool
  /-- next word of each scrubber (R171): 0 to 7 the tiles, 8 the Image Store -/
  scrubAt : Store Nat
  /-- the scrubbers that have completed a walk since PASSES last counted (Table 5.10) -/
  scrubbed : List Nat
  deriving DecidableEq, Repr

/-- Who acquired a tracked bollard (R205, Table 6.9). -/
inductive Holder where
  | berth (n : Nat)
  | host
  | gangway
  deriving DecidableEq, Repr

/-- A tracking entry (R182, R183): the word's address, its holder and the fields the word shows. -/
structure BolEntry where
  addr   : Nat
  holder : Holder
  inh    : Bool
  epoch  : Nat
  user   : Nat
  deriving DecidableEq, Repr

/-- The tracking table, entry number by entry number (R182, R211), the arrival counter of R194, and the host's
and the Gangway's own instances of BOL_HADDR and BOL_HST (R209). -/
structure BolSys where
  entries : Store (Option BolEntry)
  arrival : Nat
  hostAddr : Nat
  hostStatus : Nat
  gwAddr   : Nat
  gwStatus : Nat
  deriving DecidableEq, Repr

/-- What keeps an engine at one instruction (R218, R224, R226, R230, R231). -/
inductive EngWait where
  | none
  /-- a WAIT, whose tick fell at an edge of the engine's own time; `seen` once its transition or assertion has been seen (Table 7.4,
  kinds 1 and 3) -/
  | cond (seen : Bool) (at_ : Nat)
  /-- a stalled PULL (R238); `auto` when it is the automatic pull of an OUT -/
  | pull
  /-- a stalled PUSH; `auto` when it is the automatic push of an IN, whose shift is done (R226) -/
  | push (auto : Bool)
  /-- a DLY; its ticks still to pass before the one of the next instruction (R231) -/
  | delay (left : Nat)
  | flag
  /-- an IN that a migration has moved with its data shifted: its automatic PUSH is what executes (R226, R250) -/
  | shifted
  deriving DecidableEq, Repr

/-- One pin engine (R212). `regs` is keyed by engine register number (R255) and `prog` by program word. The engine's own
time counts its ECLK edges: those that have passed, the edge of its next tick, and how many have passed since the latest
TCLK edge (R216, R244). `out` holds the levels on the pads of the tile as last taken, and above bit 31, by run offset, the output
enables; `coming` the transitions placed and still to come, in time order: when, in eighths of an ECLK cycle of that time, which of
these bits, and its value (R219, R220). The read-back is two ECLK cycles older (R215): `seen` is what it has taken of `out`, and `past`
the transitions since. -/
structure Engine where
  regs   : Store Word
  prog   : Store Nat
  tx     : List Word
  rx     : List Word
  pc     : Nat
  run    : Bool
  wait   : EngWait
  acc    : Nat
  passed : Nat
  now    : Nat
  lead   : Nat
  out    : Nat
  seen   : Nat
  past   : List (Nat × Nat × Bool)
  coming : List (Nat × Nat × Bool)
  /-- stopped by the freeze-on-halt bit and to start again on leaving HALT (R242) -/
  frozen : Bool
  deriving DecidableEq, Repr

/-- The migration in progress in a tile (R248 to R250): its engines within the tile, its handle, PADS, and whether the IN
at the fence has already shifted its data (R226). -/
structure Migration where
  src     : Nat
  dst     : Nat
  handle  : Nat
  pads    : Bool
  shifted : Bool
  deriving DecidableEq, Repr

/-- The pin engines, the tile registers 47 to 63 (R255), keyed by 64 × tile + number, and the migrations in progress, by
tile. -/
structure EngSys where
  engines : Store Engine
  tile    : Store Word
  mig     : Store (Option Migration)
  deriving DecidableEq, Repr

/-- The event fabric (R304 to R313): channels whose pre-gate level a pulse holds at 1, producer codes whose level is
1 (Table 10.1), channels whose present output has reached its consumers, channels held at 0 after a write of
EVF_CHCFGn (R308), and groups whose clear overlaps a set that has still to act (R310). -/
structure EvfSys where
  pulses   : List Nat
  high     : List Nat
  asserted : List Nat
  held     : List Nat
  offWins  : List Nat
  deriving DecidableEq, Repr

/-- The identity a pad write is checked under (R278, R279): a core, or a secure or non-secure outside writer. -/
inductive Identity where
  | core (c : Nat)
  | secure
  | nonsecure
  deriving DecidableEq, Repr

/-- What a manifest records (Table 4.8, R350 to R353). -/
inductive MftAct where
  | guard (addr : Nat) (value : Nat) (cmp : Nat)
  | put (addr : Nat) (value : Nat)
  | pins (tile mask values : Nat) (who : Identity)
  | start (tile mask : Nat) (who : Identity)
  | send (link arg : Nat) (payload : List Byte)
  deriving DecidableEq, Repr

/-- A manifest (R346) or a class manifest (R347): its owner, parameters, actions in order and the store it uses. -/
structure Manifest where
  owner : Nat
  sync  : Bool
  edit  : Bool
  group : Nat
  acts  : List MftAct
  bytes : Nat
  /-- MCOMMIT has been accepted; with K = 1 the instant V (R135, R358), and whether a step of the timebase has passed over it
  before the commit began -/
  committed : Bool
  instant   : Option Nat
  passed    : Bool
  deriving DecidableEq, Repr

/-- A commit waiting for the manifest unit (R357): a class commit, one that has failed before it began (R522), and the
commit of a berth's manifest. -/
inductive Commit where
  | cls (c : Nat)
  | failed (c : Nat)
  | berth (handle : Nat)
  deriving DecidableEq, Repr

/-- An output map as read (R338, R340): output words to copy, engines to load with their source offsets, the entries or words
that break its table, and the entries whose read found an uncorrectable error. -/
structure OutMap where
  copies : List Nat
  loads  : List (Nat × Nat)
  bad    : Nat
  ue     : Nat
  deriving DecidableEq, Repr

/-- A pin edge that is still to come (R358): the instant V, the commit's actions, and its group where it is a sync-group
commit. -/
structure PinEdge where
  v     : Nat
  acts  : List MftAct
  group : Option Nat
  deriving DecidableEq, Repr

/-- One scan class beyond its registers (R331 to R345). -/
structure ScanClass where
  /-- a cycle that releases is running, from its tick on (R342) -/
  running   : Bool
  /-- its release is still to come -/
  release   : Bool
  /-- the expected set, and the members that have reported done (R336, R342) -/
  expected  : List Nat
  done      : List Nat
  /-- input words whose latch buffers the last tick assembled and that await their transfer, with the stamp word, its
  offset and value (R339, R341) -/
  assembled : List Nat
  stampWord : Option (Nat × Nat)
  latching  : Bool
  /-- the receive buffers whose swaps that tick defers: MAC buffer n as n, Beyram buffer n as 32 + n (R391) -/
  frozen    : List Nat
  /-- the output map as it stood at the release, and whether the class has been disabled in the cycle, which that map then
  ends (R332) -/
  omap      : OutMap
  kept      : Bool
  /-- the instant of the last done -/
  doneAt    : Nat
  deriving DecidableEq, Repr

/-- Who holds the maintenance gate (R366): a berth, the target port, the Gangway or the device itself. -/
structure Gate where
  activity : Nat
  holder   : Nat
  deriving DecidableEq, Repr

/-- A checkpoint capture (R363, R364): mode, the class whose commit fixes it, and once fixed the instant C, its slot and
image. -/
structure Capture where
  whole  : Bool
  cls    : Nat
  fixed  : Bool
  at_    : Nat
  slot   : Nat
  offset : Nat
  record : List Byte
  deriving DecidableEq, Repr

/-- The scan sequencer and the manifest unit (chapter 11). `manifests` is keyed by handle, 0 to 15, and 16 + c for
the class manifest of class c; `results` holds SCN_MNTST as each requester sees it, keyed by requester number; `edges` holds
the pin edges of scheduled commits that have been applied (R358). -/
structure ScanSys where
  classes   : Store ScanClass
  manifests : Store (Option Manifest)
  queue     : List Commit
  gate      : Option Gate
  results   : Store Nat
  capture   : Option Capture
  edges     : List PinEdge
  deriving DecidableEq, Repr

/-- An entry of the fault log as it waits for the retained store (Table 14.3), or the Lighthouse count record. -/
inductive LogItem where
  | entry (src cls react flags count mode detail time : Nat)
  | count
  deriving DecidableEq, Repr

/-- What a device reset waits for in the log queue (R441, R451). -/
inductive ResetCause where
  | por
  | resetN
  | lighthouse
  | ringmaster
  | software
  deriving DecidableEq, Repr

/-- Ringmaster (R435 to R447): window starts by source, the log queue (its head is being written), events lost since
the last entry that began to be written, whether the search of R444 is done, the next sequence number, the reset that follows
an entry's durability, the sources and reactions that the end of DEEP-SLEEP performs (R443; source 256 is a hardware action), whether
the head is being written, and for it the timebase value at which its writing began and the LOST it carries. -/
structure RmsSys where
  windows  : Store Nat
  queue    : List LogItem
  lost     : Nat
  ready    : Bool
  nextSeq  : Nat
  resetDue : Option ResetCause
  deferred : List (Nat × Nat)
  writing  : Bool
  began    : Nat
  gap      : Nat
  deriving DecidableEq, Repr

/-- The Lighthouses (R448 to R454), by Lighthouse: the count, the TCLK edge of the last serve or start, and the timeout
in force; and the TCLK edges left to the next CCLK-derived tick and to the next BOSC tick, 0 where its phase is still to
be found. -/
structure LhsSys where
  counts  : Store Nat
  started : Store Nat
  tmo     : Store Nat
  ctick   : Nat
  btick   : Nat
  deriving DecidableEq, Repr

/-- Who a request on the initiator port belongs to (R463): a berth's load or store, its read of a stack word, its fetch, an MSI, or
a load of a program image, which may have ended with beats of a burst still to come. -/
inductive InitOwner where
  | load (b seq : Nat)
  | store (b seq : Nat)
  | stack (b addr : Nat)
  | fetch (b : Nat)
  | msi
  | image (live : Bool)
  deriving DecidableEq, Repr

/-- An outstanding request of the Quayside initiator port (R463, R466): its owner, the address of the next response beat and the bytes
that it takes there, the value that it writes, its req_attr, its tag, and for a burst the beats that follow the next one. -/
structure InitReq where
  owner : InitOwner
  addr  : Nat
  size  : Nat
  write : Bool
  data  : Nat
  attr  : Nat
  tag   : Nat
  more  : Nat
  deriving DecidableEq, Repr

/-- A response beat of the target port (Table 15.1): its code, its data, and its check bits where the spec gives them. -/
structure RespBeat where
  resp : Nat
  data : List Byte
  ecc  : Option (List Byte)
  deriving DecidableEq, Repr

/-- The timebase beyond its registers (R318, R321 to R323): the count, the compares that are armed or eligible, the
pending step with the TCLK edges since its write, and the counts of the TB_PPS edges sampled and not yet captured. -/
structure TbSys where
  now   : DWord
  armed : List Nat
  step  : Option (Nat × Nat)
  pps   : List Nat
  deriving DecidableEq, Repr

/-- The line-phase tracker (R324 to R328): the accumulator A, the frequency state, a count of TCLK edges, that count at
the last accepted crossing and at the entry to HOLD, consecutive rejections, the place of the last accepted crossing in
ACQUIRE (1 for E1), the crossings sampled and not yet delivered (edge count and accumulator at the sampling edge), and
the carries whose wrap pulse is due. -/
structure LptSys where
  acc      : Nat
  freq     : Int
  edges    : Nat
  last     : Option Nat
  holdFrom : Nat
  rejects  : Nat
  place    : Nat
  arrivals : List (Nat × Nat)
  wraps    : Nat
  deriving DecidableEq, Repr

/-- What a pad's driver does (Table 9.7). -/
inductive Drive where
  | zero
  | one
  | highZ
  /-- the signal of another block: the debug UART, an Ethernet MAC, or test control in FACTORY -/
  | block
  deriving DecidableEq, Repr

/-- The pads beyond their registers, keyed by 32 × tile + index: the level the receiver sees (R283) and what the outside
drives; what a pad latch or a hold of Table 9.7 keeps, by the mode that closed it (STOP or STANDBY, DOZE, DEEP-SLEEP).
The comparators: the voltage at each input in microvolts, and those whose output is undefined after a write, each with the
TCLK edges left (R292). -/
structure PadSys where
  level  : Store Bool
  ext    : Store PinLevel
  stop   : Store Drive
  doze   : Store Drive
  deep   : Store Drive
  cmpIn  : Store Nat
  cmpDue : List (Nat × Nat)
  deriving DecidableEq, Repr

/-- A data-class or control-class frame waiting for a Beyram transmit lane: its bytes up to the padded payload; the start
of a local frame still fills in TXTIME, and every start the CRC (R372, R373). `cut` marks a forwarded copy that ends in
TERM_BAD (R375). A local frame whose ring B copy differs in more than RING holds that in `ringB` (R394), and `more` says that
the next frame of its burst follows it (R354). A frame that waits among the forwarded ones may be the device's `own` LINK (R371), or the
`stub` of one that found both places full and takes none of them (R377). -/
structure OutFrame where
  control : Bool
  bytes   : List Byte
  cut     : Bool
  ringB   : Option (List Byte)
  more    : Bool
  own     : Bool
  stub    : Bool
  deriving DecidableEq, Repr

/-- What a transmit lane of the Beyram link or the Safety Net carries (Table 12.2): a frame, from its START_C (`control`) or
START_D to its TERM or TERM_BAD (`bad`), and the blocks between which a control-class frame is inserted into a data-class one
(R377, R413). -/
inductive LaneItem where
  | frame (control : Bool) (bytes : List Byte) (bad : Bool)
  | suspend
  | resume
  deriving DecidableEq, Repr

/-- An RTTP on its way round the ring (R384): when it was sent, its stamps on rings A and B, and the round trips measured. -/
structure RttProbe where
  sent   : Nat
  stampA : Nat
  stampB : Nat
  gotA   : Option Nat
  gotB   : Option Nat
  deriving DecidableEq, Repr

/-- A fault report (R400): the reporting device, its port and whether that is DOWN, when it came, and for a LINK frame the ring
it came by and the hops it had made. -/
structure PortReport where
  addr  : Nat
  port  : Nat
  down  : Bool
  since : Nat
  path  : Option (Nat × Nat)
  deriving DecidableEq, Repr

/-- A copy of a SYNC as its ring brought it (R381): its ORIGIN, hops and offset, and whether its SYNC has been used. -/
structure SyncCopy where
  origin : Nat
  hops   : Nat
  offset : Int
  done   : Bool
  deriving DecidableEq, Repr

/-- An outcome of a round (Table 12.7). -/
inductive SgOutcome where
  | unknown
  | commit
  | abort
  | uncertain
  deriving DecidableEq, Repr

/-- A sync group slot beyond its registers (R396 to R403), as a member and as its coordinator. -/
structure SgState where
  /-- a round has been prepared here: its number, V and VD, the coordinator's address, and when its PREPARE arrived -/
  known    : Bool
  round    : Nat
  v        : Nat
  vd       : Nat
  coord    : Nat
  since    : Nat
  /-- the round has no outcome here yet -/
  undecided : Bool
  /-- this device's vote: whether it has been given, and its REASON (0 for YES) -/
  voted    : Bool
  no       : Nat
  /-- manifests that the vote covers, each with the index of its first guard that failed -/
  joined   : List (Nat × Option Nat)
  /-- outcomes here of the round, and of the round before it -/
  outcome  : SgOutcome
  last     : SgOutcome
  unsure   : List Nat
  /-- the coordinator was found isolated at the round's TD, so the next round is never prepared (R403) -/
  isolated : Bool
  /-- coordinator: RTT of the round, the YES voters and the NO votes collected, the decision and its REASON -/
  rtt      : Nat
  votes    : List Nat
  noes     : List (Nat × Nat)
  decided  : SgOutcome
  reason   : Nat
  /-- this device coordinates although COORD names another (R403) -/
  alternate : Bool
  /-- V of the latest round whose commit instant the producer has pulsed (Table 12.8) -/
  pulsed    : Option Nat
  deriving DecidableEq, Repr

/-- The Beyram link beyond its registers (chapter 12). `lane` holds, by transmit lane (0 ring A, 1 ring B), the frames
its latest transmission put there. -/
structure BeySys where
  locked   : List Nat
  /-- by port: consecutive valid HELLOs, and whether one returned the own address -/
  hellos   : Store (Nat × Bool)
  /-- by port: the instants of the CRC errors of the last 1 ms (R371) -/
  errors   : Store (List Nat)
  /-- frames of the device's own, and whether a burst of a commit has begun and not ended (R354) -/
  ownQueue : List OutFrame
  mid      : Bool
  forward  : Store (List OutFrame)
  lane     : Store (List LaneItem)
  /-- by lane: when the data-class frame in progress ends (R377) -/
  dataEnd  : Store Nat
  /-- XEV blocks each lane has been given in its latest transmission: code, source, hops -/
  xev      : Store (List (Nat × Nat × Nat))
  dreqAt   : Store Nat
  delays   : Store (List Int)
  /-- election: the highest epoch seen, the master followed (TMPRIO, ADDR), the own ELECT in progress, its
  instant and epoch, and the TMPRIO that each candidate's ELECT has shown -/
  epoch    : Nat
  best     : Option (Nat × Nat)
  electing : Bool
  electAt  : Nat
  electNo  : Nat
  prios    : Store (Option Nat)
  /-- the latest SYNC: its instant here, and the latest copy of each ring while a master is followed; the sum of the offsets
  that the time loop has acted on -/
  syncAt   : Nat
  copies   : Store (Option SyncCopy)
  sum      : Int
  good     : Nat
  late     : Nat
  probes   : List RttProbe
  sources  : Store (Option (Nat × Nat))
  sent     : List Nat
  /-- fault reports (R400), and by 2 × address + ring the hops that a device's group frames had made (R401) -/
  reports  : List PortReport
  places   : Store (Option Nat)
  groups   : Store SgState
  /-- receive buffers whose swap a latch defers, and those with a swap due (R391) -/
  deferred : List Nat
  due      : List Nat
  /-- receive buffers whose BEY_RXLSEQn software has written (R395) -/
  freshSeq : List Nat
  deriving DecidableEq, Repr

/-- A gate list that runs (R407): the entry in force, the ends of its interval and of the cycle, and the intervals of the cycle in force,
each with its open gates. -/
structure GateRun where
  entry    : Nat
  until_   : Nat
  cycleEnd : Nat
  list     : List (Nat × Nat)
  deriving DecidableEq, Repr

/-- The Ethernet MACs beyond their registers, by MAC: the bursts queued, each frame with its queue, and the MACs whose first
burst has begun (R354); the latest frame sent; the gate list that runs; the end of a received pause; and the buffers whose
swap a latch defers, and those with a swap due. -/
structure MacSys where
  queue    : Store (List (List (Nat × List Byte)))
  mid      : List Nat
  out      : Store (List Byte)
  gates    : Store (Option GateRun)
  pause    : Store Nat
  deferred : List Nat
  due      : List Nat
  deriving DecidableEq, Repr

/-- What a device last heard of its Safety Net partner (Table 13.4). -/
structure Partner where
  role    : Nat
  mode    : Nat
  flags   : Nat
  ccyc    : Nat
  applied : Nat
  devid   : Nat
  epoch   : Nat
  deriving DecidableEq, Repr

/-- The log of a mirror cycle (R418 to R422): its number, its line records in order, C, EDIT and PROGID; whether it has
been sent, and sent again; and the half of the mirror log area that holds it. -/
structure CycleLog where
  k      : Nat
  lines  : List (Nat × List Byte)
  c      : Nat
  edit   : Bool
  progid : Nat
  sent   : Bool
  again  : Bool
  half   : Nat
  deriving DecidableEq, Repr

/-- A cycle being staged by the standby (R422): NLINES, C, the records staged, and the payload of its COMMITREC once that
has arrived. -/
structure Staging where
  k      : Nat
  nlines : Nat
  c      : Nat
  recs   : List (Nat × List Byte)
  commit : Option (List Byte)
  deriving DecidableEq, Repr

/-- The Safety Net beyond its registers (chapter 13). `lane` holds the frames of the latest transmission, `dataEnd` when the
data-class frames in progress on it end. -/
structure SnSys where
  locked    : Bool
  hbs       : Nat
  lastHb    : Option Nat
  missed    : Nat
  hbDue     : Bool
  /-- the device has unpaired and sends no heartbeat until it asks to pair again (R416) -/
  silent    : Bool
  partner   : Partner
  /-- the role asked for by NET_SNCTL (0 ACTIVE, 1 STANDBY) -/
  asked     : Nat
  partnerId : Nat
  handedOver : Bool
  /-- an online edit has committed since the last mirror cycle closed (R419) -/
  edited    : Bool
  lane      : List LaneItem
  dataEnd   : Nat
  /-- active: the standby's state is not valid (R421, R423, R426), and the held logs, oldest first -/
  invalid   : Bool
  logs      : List CycleLog
  /-- the cycle of the latest NAK, received or sent (R422, R423) -/
  lastNak   : Option Nat
  /-- a return to LOCKED has been asked for and awaits a lag of 0 (R427) -/
  relock    : Bool
  /-- standby: the half that the cycle applied last occupies, the cycle being staged, the complete cycle waiting, and whether
  that is being applied -/
  half      : Nat
  staged    : Option Staging
  whole     : Option CycleLog
  applying  : Bool
  /-- resynchronisation: the lines still to send, the count sent, the cycle to which the frame of the last line sent or received
  belongs, and whether RSDONE went out or came in; a self-request that met MAINT_BUSY is due again -/
  rsLines   : List Nat
  rsSent    : Nat
  rsRead    : Nat
  rsDone    : Bool
  rsDue     : Bool
  /-- the switchover trigger met: its cause and instant (R429) -/
  trigger   : Option (Nat × Nat)
  /-- EPOCH and AGE of the pairing record (Table 13.6) -/
  takeovers : Nat
  age       : Nat
  deriving DecidableEq, Repr

/-- Quayside beyond its registers (chapter 15): outstanding requests of the initiator port, the latest response of the target port (its
identifier and its beats), whether qs_hrst_n is low, the image load in progress (true for a LOAD command, and the image's address) with the
bytes that its reads have returned, whether the boot ROM still has to begin (R468), and the ENTRY of the image loaded successfully since the
reset (R472). `msi` holds the MSI writes that wait for a tag (R466). -/
structure QspSys where
  requests : List InitReq
  msi      : List InitReq
  response : Nat × List RespBeat
  held     : Bool
  load     : Option (Bool × Nat)
  got      : List Byte
  boot     : Bool
  entry    : Option Nat
  deriving DecidableEq, Repr

/-- A trace packet in the queue of R500: its TS, its TYPE and SRC as one key (TYPE × 1,024 + SRC), and its bytes. -/
structure TracePacket where
  ts    : Nat
  key   : Nat
  bytes : List Byte
  deriving DecidableEq, Repr

/-- The trace unit beyond its registers (R498 to R503): the queue of packets, the units of its first packet that the buffer has
accepted, packets lost since the last one recorded, 8-byte units written since the last SYNC, whether the last packet ended at the end of
the buffer with WRAP clear, the SLEEP packet's instant, and packets not written during a sleep. -/
structure TraceSys where
  queue   : List TracePacket
  taken   : Nat
  pending : Nat
  units   : Nat
  atEnd   : Bool
  sleptAt : Nat
  missed  : Nat
  deriving DecidableEq, Repr

/-- A Ndouc request whose response is still to come (R480, R487): its CODE and TAG, the berth of a STEP, and for a READ the
addresses still to be read, the bytes read so far and W64. -/
structure NdoucWait where
  code  : Nat
  tag   : Byte
  berth : Nat
  left  : List Nat
  got   : List Byte
  wide  : Bool
  deriving DecidableEq, Repr

/-- The debug logic beyond its registers (chapter 16): the virtual terminal's queues, the unconsumed challenge and the
number drawn, the requested resumes (cores, instant of each request), those that an XEV asked for (R495), the steps in progress (berth,
instant, whether its instruction has issued), the berths of halted cores that issue once more (R488), the berth of a fed instruction that
has not completed, the instruction itself where it cannot execute yet and the wait of a fed MCOMMIT (R493), DBG_FREEZE as the entry to
HALT took it (R496), whether a halt has gone out as XEV, and the Ndouc link: the previous request with its response, the response being
sent, whether the exchange of the request executing has been abandoned (R477), that request, and the bytes of the UART receiver. -/
structure DbgSys where
  vtx       : List Byte
  vrx       : List Byte
  chal      : Option Nat
  drawn     : Nat
  resume    : List (Nat × Nat)
  remote    : List (Nat × Nat)
  steps     : List (Nat × Nat × Bool)
  extra     : List Nat
  fed       : Option Nat
  fedHeld   : Option Nat
  fedWait   : Wait
  freeze    : Nat
  xout      : Bool
  lastReq   : List Byte
  lastRsp   : List Byte
  sending   : List Byte
  mute      : Bool
  executing : Option NdoucWait
  uart      : List Byte
  trace     : TraceSys
  deriving DecidableEq, Repr

/-- The Carousel's twin pairs beyond CAR_TWIN, by 2 × tile + pair: those whose state is being copied (R55), the berths whose
unpark waits for that copy, and the pairs whose two cores' copies have come to differ, so that the next request they send
out mismatches (R57); and the free berths that wait for an entry of their core's pool, of the load queue and of the store
buffer (R45). -/
structure CarSys where
  copying : List Nat
  unparks : List Nat
  differ  : List Nat
  needLoad  : List Nat
  needStore : List Nat
  deriving DecidableEq, Repr

/-- A VDDIO bank (R506). -/
inductive Bank where
  | down
  /-- above 1.60 V and not yet classified -/
  | rising
  | low18
  | high33
  /-- neither class at the end of its window; it must come down first -/
  | refused
  deriving DecidableEq, Repr

/-- A reference re-lock in progress (R512 to R515): the instant of its request, the reference named and the one before,
the timebase values of the switch, of the PLL's reset and of the start of the present lock, whether the PLL has locked since its reset, and
whether the device falls back to the previous reference. -/
structure Relock where
  asked    : Nat
  target   : Nat
  previous : Nat
  switched : Option Nat
  pllReset : Option Nat
  locked   : Option Nat
  first    : Bool
  fallback : Bool
  deriving DecidableEq, Repr

/-- Supplies, clocks, reset and modes beyond their registers (chapter 17): the two core supplies and the banks; a power-on reset in
progress; RESET_N low; the writes of the CCLK divider that still wait for their edge (instant and selection); the re-lock; the clocks' stay
on BOSC after one that failed (R515); a loss of lock or reference since the latest lock; the sensors' readings in 0.25 °C by 8 × tile +
sensor; readings below 125 °C in a row since a reset that found a hot sensor; whether THM_PEAK holds a reading; the TCLK edge of a thermal
trip whose tiles are still powered; a DEEP-SLEEP wake under way (its cause); and what the internal sensor last saw of VDD (0 inside its
range, 1 low, 2 high); and whether the mode has changed since the conditions that still hold last acted (R26). -/
structure PwrSys where
  vdda   : Bool
  vdd    : Bool
  banks  : Store Bank
  por    : Bool
  rstLow : Bool
  divs   : List (Nat × Nat)
  relock : Option Relock
  noLock : Bool
  lost   : Bool
  temps  : Store Int
  cool   : Option Nat
  peakSet : Bool
  tripAt : Option Nat
  wake   : Option Nat
  vmon   : Nat
  again  : Bool
  deriving DecidableEq, Repr

/-- Everything in the block but the queue of commands. `draws` counts the free values taken. -/
structure Device where
  cfg    : Straps
  mode   : Mode
  prev   : Mode
  regs   : Store Word
  berths : Store Berth
  car    : CarSys
  mem    : MemSys
  bol    : BolSys
  eng    : EngSys
  pad    : PadSys
  evf    : EvfSys
  tb     : TbSys
  lpt    : LptSys
  scn    : ScanSys
  rms    : RmsSys
  lhs    : LhsSys
  bey    : BeySys
  mac    : MacSys
  sn     : SnSys
  qsp    : QspSys
  dbg    : DbgSys
  pwr    : PwrSys
  draws  : Nat
  deriving DecidableEq, Repr

/-- The device at the release of a power-on reset into SERVICE, before the boot ROM's first step: every register at its
reset value, no memory listed, every queue empty (R19, R103, R468, R517). DESIGN CHOICE (notes/assumptions/65.md): the outside drives no
pad, and every comparator's input lies at 0 µV (R291). -/
def Device.cold (c : Straps) : Device where
  cfg := c
  mode := .service
  prev := .off
  regs := []
  berths := []
  car := ⟨[], [], [], [], []⟩
  mem := ⟨[], [], [], [], []⟩
  bol := ⟨[], 0, 0, 0, 0, 0⟩
  eng := ⟨[], [], []⟩
  pad := ⟨[], [], [], [], [], [], []⟩
  evf := ⟨[], [], [], [], []⟩
  tb := ⟨0, [], none, []⟩
  lpt := ⟨0, 0, 0, none, 0, 0, 0, [], 0⟩
  scn := ⟨[], [], [], none, [], none, []⟩
  rms := ⟨[], [], 0, false, 0, none, [], false, 0, 0⟩
  lhs := ⟨[], [], [], 0, 0⟩
  bey := {
    locked := [], hellos := [], errors := [], ownQueue := [], mid := false, forward := [], lane := [], dataEnd := [], xev := []
    dreqAt := [], delays := [], epoch := 0, best := none, electing := false, electAt := 0, electNo := 0, prios := []
    syncAt := 0, copies := [], sum := 0, good := 0, late := 0, probes := [], sources := [], sent := []
    reports := [], places := [], groups := [], deferred := [], due := [], freshSeq := [] }
  mac := ⟨[], [], [], [], [], [], []⟩
  sn := {
    locked := false, hbs := 0, lastHb := none, missed := 0, hbDue := false, silent := false, partner := ⟨0, 0, 0, 0, 0, 0, 0⟩, asked := 0
    partnerId := 0, handedOver := false, edited := false, lane := [], dataEnd := 0, invalid := false, logs := []
    lastNak := none, relock := false, half := 0, staged := none, whole := none, applying := false
    rsLines := [], rsSent := 0, rsRead := 0, rsDone := false, rsDue := false, trigger := none, takeovers := 0, age := 0 }
  qsp := ⟨[], [], (0, []), false, none, [], true, none⟩
  dbg := {
    vtx := [], vrx := [], chal := none, drawn := 0, resume := [], remote := [], steps := [], extra := [], fed := none,
    fedHeld := none, fedWait := .none, freeze := 0, xout := false
    lastReq := [], lastRsp := [], sending := [], mute := false, executing := none, uart := [], trace := ⟨[], 0, 0, 0, false, 0, 0⟩ }
  pwr := {
    vdda := true, vdd := true, banks := [], por := false, rstLow := false, divs := [], relock := none, noLock := false
    lost := false, temps := [], cool := none, peakSet := false, tripAt := none, wake := none, vmon := 0, again := false }
  draws := 0

/-- The inputs that the surrounding chip holds constant, as State.reset takes them: a QS-8 with the boot load disabled, no
debug pin or fuse selected and no FACTORY request. DESIGN CHOICE (notes/assumptions/1.md). -/
def Straps.initial : Straps := ⟨.qs8, 0, false, 0, 0, 0, 0, false, false⟩

/-- The reasons for which the block stops. It never does: no rule of the spec stops it, and every error that the spec
names is an effect of the command on the state. SAFE in the guide's sense: no run ends here. -/
inductive Fault where
  deriving DecidableEq, Repr

/-- The reasons for which a command is refused: none is left, since every command has its meaning. -/
inductive Refusal where
  /-- A command whose meaning is not written: raised by no meaning. SAFE: a run stops where the block goes on. -/
  | notModelled (mnemonic : String)
  deriving DecidableEq, Repr

/-- The block: the commands that wait, first in, first out, and everything else. -/
structure State where
  pending : List Instr
  dev     : Device
  deriving DecidableEq, Repr

/-- The device released: CLK_STAT.LOCK and REFOK read 1 (Table 17.7), host source 2 is pending and an HB due for the change of
mode (R414, R466). -/
def Device.fresh (c : Straps) : Device :=
  { Device.cold c with
    regs := [(Reg.CLK_STAT, 0x28), (Reg.QSP_HPEND, 4)], sn := { (Device.cold c).sn with hbDue := true } }

/-- The machine right after reset: released from a power-on reset into SERVICE, with no command waiting. -/
def State.reset : State := ⟨[], Device.fresh Straps.initial⟩

/-- The device of a state changed by a command, its configuration constant. -/
def State.upd (s : State) (f : Device → Device) : Host.Outcome State Fault Refusal :=
  .next { s with dev := { f s.dev with cfg := s.dev.cfg } }

end Sys2Proof.Machine
end

