-- ==== Sys2Proof/Machine/RegFile.lean ====
section
/-! DEFINITION. The register file of the control window as plain storage: reset values (R19), reading and writing
whole registers and fields, and which reset restores which bits (Table 0.6). What a write or a read does beyond
storage is the registers' own rules (Machine/Window.lean). -/

namespace Sys2Proof.Machine

/-- A Ringmaster source exists (Table 14.1). -/
def rmsExists (n : Nat) : Bool :=
  n ≤ 0x06 || (0x08 ≤ n && n ≤ 0x2D && !(n = 0x07)) || (0x30 ≤ n && n ≤ 0x48) || (0xF0 ≤ n && n ≤ 0xFF)

/-- Default of a source (Table 14.1): base class, escalated class (0 INFO to 3 FATAL), base and escalated
reaction, N, window value and unit. -/
def rmsDefault (n : Nat) : Nat × Nat × Nat × Nat × Nat × Nat × Nat :=
  let flat (c r : Nat) := (c, c, r, r, 1, 1, 2)
  if !rmsExists n then (0, 0, 0, 0, 0, 0, 0)
  else if n = 0x04 then (0, 1, 0, 1, 16, 1, 1)
  else if n = 0x05 then flat 0 0
  else if 0x08 ≤ n ∧ n ≤ 0x0F then (0, 1, 0, 1, 100, 1, 2)
  else if 0x10 ≤ n ∧ n ≤ 0x17 then flat 2 3
  else if n = 0x20 ∨ n = 0x22 then flat 2 1
  else if n = 0x21 then (0, 1, 0, 1, 32, 1, 2)
  else if n = 0x25 then (0, 1, 0, 1, 3, 100, 1)
  else if n = 0x28 then (1, 2, 1, 1, 2, 1, 2)
  else if n = 0x2B then (1, 2, 1, 1, 10, 1, 2)
  else if n = 0x2A ∨ n = 0x2D ∨ n = 0x34 ∨ n = 0x36 ∨ n = 0x39 then flat 2 1
  else if n = 0x38 then flat 0 0
  else if n = 0x3A then flat 3 3
  else if n = 0x3B then flat 2 3
  else if n = 0x3C ∨ n = 0x3D then flat 3 3
  else if n = 0x3E then flat 3 4
  else if n = 0x3F then (0, 1, 0, 1, 4, 1, 1)
  else if 0x40 ≤ n ∧ n ≤ 0x47 then flat 2 3
  else flat 1 1

/-- Reset value of RMS_CFGn (Tables 14.1, 14.5): LOGI and EN are 1. -/
def rmsCfgDefault (n : Nat) : Nat :=
  if rmsExists n then
    let (b, e, rb, re, c, _, _) := rmsDefault n
    b + 4 * e + 16 * rb + 256 * re + 0x1800 + 0x10000 * c
  else 0

/-- Reset value of RMS_WINn (Tables 14.1, 14.5). -/
def rmsWinDefault (n : Nat) : Nat :=
  let (_, _, _, _, _, v, u) := rmsDefault n
  v + 0x1000 * u

/-- A control-window offset whose tile, core, engine or berth the configuration has (R7). -/
def regPresent (c : Straps) (off : Nat) : Bool :=
  if 0x100000 ≤ off ∧ off < 0x120000 then (off - 0x100000) / 0x1000 < c.cores
  else if 0x120000 ≤ off ∧ off < 0x120800 then (off - 0x120000) / 0x100 < c.tiles
  else if 0x80000 ≤ off ∧ off < 0x88000 then
    (off - 0x80000) / 0x1000 < c.tiles
  else if 0x40000 ≤ off ∧ off < 0x80000 then (off - 0x40000) / 0x1000 < c.engines
  else if 0x11000 ≤ off ∧ off < 0x11800 then (off - 0x11000) / 4 < c.berths
  else if 0x12000 ≤ off ∧ off < 0x13000 then (off - 0x12000) / 8 < c.berths
  else if 0x18000 ≤ off ∧ off < 0x1C000 then (off - 0x18000) / 16 < c.bollards
  else if 0xA1000 ≤ off ∧ off < 0xA1800 then (off - 0xA1000) / 4 < c.berths
  else if 0xE8000 ≤ off ∧ off < 0xE8100 then (off - 0xE8000) / 0x20 < c.tiles
  else if 0xF0200 ≤ off ∧ off < 0xF0220 then (off - 0xF0200) / 4 < c.tiles
  else if 0x90400 ≤ off ∧ off < 0x90500 then (off - 0x90400) / 8 < c.cores
  else if 0x210 ≤ off ∧ off < 0x230 then (off - 0x210) / 4 < c.tiles
  else if 0x300100 ≤ off ∧ off < 0x300180 then (off - 0x300100) / 4 < c.cores
  else if 0x301000 ≤ off ∧ off < 0x302000 then (off - 0x301000) / 8 < c.berths
  else true

/-- The reset value of the register word at an offset (R19); the rows of Table 14.1 and the registers whose reset
value depends on their index come first. -/
def regDefault (c : Straps) (off : Nat) : Word :=
  if 0xE2000 ≤ off ∧ off < 0xE2400 then 0
  else if 0xE1000 ≤ off ∧ off < 0xE1800 then
    let n := (off - 0xE1000) / 8
    BitVec.ofNat 32 (if off % 8 = 0 then rmsCfgDefault n else rmsWinDefault n)
  else if 0x90000 ≤ off ∧ off < 0x90200 then
    let n := (off - 0x90000) / 4
    BitVec.ofNat 32 (if 96 ≤ n ∧ n < 112 then 0x31 + (n - 96) else 0)
  else if 0x11000 ≤ off ∧ off < 0x11800 then 0x00989680
  else if off = Reg.CAR_PARKREQ 0 ∨ off = Reg.CAR_PARKED 0 then 0xFFFE
  else if 0xA0100 ≤ off ∧ off < 0xA0500 ∧ (off - 0xA0100) % 0x40 = 0 then
    BitVec.ofNat 32 (256 * (96 + (off - 0xA0100) / 0x40))
  else if off = Reg.PWR_STAT then BitVec.ofNat 32 (0x3 + 0x10000 * (2 ^ c.tiles - 1))
  else match regFind off with
    | none => 0
    | some (r, p) => BitVec.ofNat 32 (r.rst / 2 ^ (8 * p))

/-- The bits of the register word at an offset that a device reset restores (code SYS of Table 0.6): all but its
POR and DBG bits. -/
def regSysMask (off : Nat) : Nat :=
  match regFind off with
  | none => 0xFFFFFFFF
  | some (r, p) => 0xFFFFFFFF - ((r.por / 2 ^ (8 * p) ||| r.dbg / 2 ^ (8 * p)) % 2 ^ 32)

/-- The bits of the register word at an offset that a debug-domain reset restores (code DBG of Table 0.6). -/
def regDbgMask (off : Nat) : Nat :=
  match regFind off with
  | none => 0
  | some (r, p) => r.dbg / 2 ^ (8 * p) % 2 ^ 32

/-- The stored word of a register. -/
def Device.reg (d : Device) (off : Nat) : Word := d.regs.get (regDefault d.cfg) off

/-- The stored word of a register as a number. -/
def Device.rd (d : Device) (off : Nat) : Nat := (d.reg off).toNat

/-- Stores a register word. -/
def Device.wr (d : Device) (off v : Nat) : Device :=
  { d with regs := d.regs.put (regDefault d.cfg) off (BitVec.ofNat 32 v) }

/-- A field of a register. -/
def Device.fld (d : Device) (off lo w : Nat) : Nat := bitsOf (d.rd off) lo w

/-- A one-bit field of a register. -/
def Device.flag (d : Device) (off i : Nat) : Bool := bitOf (d.rd off) i

/-- Replaces a field of a register. -/
def Device.setFld (d : Device) (off lo w x : Nat) : Device := d.wr off (setBits (d.rd off) lo w x)

/-- Sets or clears a one-bit field of a register. -/
def Device.setFlag (d : Device) (off i : Nat) (b : Bool) : Device := d.setFld off i 1 (bit01 b)

/-- A 64-bit register (R12): the low word at its offset, the high word above it. -/
def Device.rd64 (d : Device) (off : Nat) : Nat := d.rd off + 2 ^ 32 * d.rd (off + 4)

/-- Stores a 64-bit register. -/
def Device.wr64 (d : Device) (off v : Nat) : Device := (d.wr off (v % 2 ^ 32)).wr (off + 4) (v / 2 ^ 32)

/-- Adds 1 to a counter field that saturates at its width. -/
def Device.bump (d : Device) (off lo w : Nat) : Device :=
  d.setFld off lo w (satInc (d.fld off lo w) (2 ^ w - 1))

/-- Adds 1 to a counter field that wraps. -/
def Device.wrapInc (d : Device) (off lo w : Nat) : Device := d.setFld off lo w (d.fld off lo w + 1)

/-- The register file after a reset that restores the bits a mask function names. -/
def resetRegs (c : Straps) (mask : Nat → Nat) (rs : Store Word) : Store Word :=
  rs.foldl (fun acc e =>
    let m := mask e.1
    let keep := e.2.toNat &&& (0xFFFFFFFF - m)
    let rst := (regDefault c e.1).toNat &&& m
    acc.put (regDefault c) e.1 (BitVec.ofNat 32 (keep ||| rst))) []

/-- Every field of some registers (named by a predicate on their offset) back at its reset value. -/
def Device.clearRegs (d : Device) (p : Nat → Bool) : Device :=
  { d with regs := d.regs.filter fun e => !p e.1 }

end Sys2Proof.Machine
end

