-- ==== Sys2Proof/Machine/Bytes.lean ====
section
/-! DEFINITION. Memory as bytes (R10), the state of its SECDED words, and the records of the retained store (R166 to
R168): storage alone; what an access does beyond it stands in Machine/Memory.lean. -/

namespace Sys2Proof.Machine

/-- Bases of the regions of Table 5.1 and of the trace buffer (chapter 16), as 50-bit global addresses. -/
def sramBase (t : Nat) : Nat := 0x100000000 + t * 0x1000000
def imageBase : Nat := 0x200000000
def bitBase : Nat := 0x300000000
def retainedBase : Nat := 0x400000000
def windowBase : Nat := 0x7F0000000
def traceBase : Nat := 0x7F0340000

/-! ### Bytes -/

/-- A byte of memory; an unlisted byte reads as zero. -/
def Device.byte (d : Device) (a : Nat) : Byte := Store.get d.mem.bytes (fun _ => 0) a

/-- The `n` bytes from an address. -/
def Device.bytesAt (d : Device) (a n : Nat) : List Byte := (List.range n).map fun i => d.byte (a + i)

/-- The little-endian value of the `n` bytes from an address (R10). -/
def Device.value (d : Device) (a n : Nat) : Nat := leValue (d.bytesAt a n)

/-- Stores bytes without any check. -/
def pokeBytes (m : List Host.Cell) (a : Nat) : List Byte → List Host.Cell
  | [] => m
  | b :: r => pokeBytes (Store.put m (fun _ => 0) a b) (a + 1) r

/-- Stores bytes without any check. -/
def Device.poke (d : Device) (a : Nat) (bs : List Byte) : Device :=
  { d with mem := { d.mem with bytes := pokeBytes d.mem.bytes a bs } }

/-! ### SECDED words -/

def eccDefault (_ : Nat) : Ecc := .clean

/-- The state of the 8-byte word that holds an address. -/
def Device.eccAt (d : Device) (a : Nat) : Ecc := d.mem.ecc.get eccDefault (a / 8)

def Device.setEcc (d : Device) (a : Nat) (e : Ecc) : Device :=
  { d with mem := { d.mem with ecc := d.mem.ecc.put eccDefault (a / 8) e } }

/-- Replaces whole 8-byte words: their check bits are written with them (R169). -/
def Device.pokeFresh (d : Device) (a : Nat) (bs : List Byte) : Device :=
  { d.poke a bs with mem := { (d.poke a bs).mem with
      ecc := (d.poke a bs).mem.ecc.filter fun e => !(decide (a / 8 ≤ e.1) && decide (e.1 < (a + bs.length + 7) / 8)) } }

/-! ### Records of the retained store -/

/-- `n` rounded up to a multiple of 8. -/
def pad8 (n : Nat) : Nat := (n + 7) / 8 * 8

/-- Bytes padded with zeros to a multiple of 8. -/
def padBytes (bs : List Byte) : List Byte := bs ++ List.replicate (pad8 bs.length - bs.length) 0

/-- A record of Table 5.6. -/
def recordBytes (type seq stamp : Nat) (payload : List Byte) : List Byte :=
  let p := padBytes payload
  let h := leBytes 4 0x52455444 ++ leBytes 2 type ++ leBytes 2 1 ++ leBytes 4 payload.length ++ leBytes 4 seq ++
    leBytes 8 stamp ++ leBytes 4 (40 + p.length) ++ leBytes 4 0
  h ++ p ++ leBytes 4 (crc32c (h ++ p)) ++ leBytes 4 0

/-- A record as read: its SEQ and payload. -/
structure RecordRead where
  seq     : Nat
  payload : List Byte
  deriving DecidableEq, Repr

/-- Some word of a range is uncorrectable. -/
def Device.anyUe (d : Device) (a n : Nat) : Bool :=
  d.mem.ecc.any fun e => decide (a / 8 ≤ e.1) && decide (e.1 < (a + n + 7) / 8) && e.2 == .uncorrectable

/-- The valid record at a retained offset, inside an area of `room` bytes (R167). -/
def Device.readRecord (d : Device) (off room type : Nat) : Option RecordRead :=
  let a := retainedBase + off
  let len := d.value (a + 8) 4
  let total := d.value (a + 0x18) 4
  if d.value a 4 = 0x52455444 ∧ d.value (a + 4) 2 = type ∧ d.value (a + 6) 2 = 1 ∧ total = 40 + pad8 len ∧
      total ≤ room ∧ d.anyUe a total = false ∧
      d.value (a + 32 + pad8 len) 4 = crc32c (d.bytesAt a (32 + pad8 len)) then
    some ⟨d.value (a + 12) 4, d.bytesAt (a + 32) len⟩
  else none

/-- The bytes that a reader reads of a record: its TOTAL where the header names one inside its area, else the header (R167). -/
def Device.recordSpan (d : Device) (off room : Nat) : Nat :=
  let total := d.value (retainedBase + off + 0x18) 4
  if d.value (retainedBase + off) 4 = 0x52455444 ∧ total ≤ room then max total 32 else 32

/-- SEQ x is newer than SEQ y (R168). -/
def seqNewer (x y : Nat) : Bool :=
  let k := (x + 2 ^ 32 - y) % 2 ^ 32
  decide (1 ≤ k) && decide (k ≤ 0x7FFFFFFF)

/-- The newer valid record of two slots, with its slot: false the one at the lower offset (R168). DESIGN CHOICE
(notes/assumptions/59.md): of two valid slots of which R168 makes neither newer (equal SEQ, or SEQ 2^31 apart), the one at the
lower offset stands. -/
def Device.newestRecord (d : Device) (lo hi room type : Nat) : Option (Bool × RecordRead) :=
  match d.readRecord lo room type, d.readRecord hi room type with
  | some x, some y => if seqNewer y.seq x.seq then some (true, y) else some (false, x)
  | some x, none => some (false, x)
  | none, some y => some (true, y)
  | none, none => none

/-- Writes a record of two slots to the slot that does not hold the newer one, with SEQ one more (R168). -/
def Device.writeRecord (d : Device) (lo hi room type : Nat) (payload : List Byte) : Device :=
  let now := d.tb.now.toNat
  match d.newestRecord lo hi room type with
  | none => d.pokeFresh (retainedBase + lo) (recordBytes type 1 now payload)
  | some (top, r) =>
    d.pokeFresh (retainedBase + if top then lo else hi) (recordBytes type ((r.seq + 1) % 2 ^ 32) now payload)

end Sys2Proof.Machine
end

