-- ==== Sys2Proof/Machine/Trace.lean ====
section
/-! DEFINITION. The trace unit (R498 to R503): packets, the buffer with its wrap and its loss, and the packets of a sleep
and its wake. -/

namespace Sys2Proof.Machine

/-- A code of PWR_STAT.MODE (Table 1.4). -/
def Mode.code : Mode → Nat
  | .off => 0
  | .ramp => 1
  | .reset => 2
  | .service => 3
  | .stop => 4
  | .run => 5
  | .standby => 6
  | .halt => 7
  | .doze => 8
  | .deepSleep => 9
  | .safe => 10
  | .factory => 11

/-- Bytes of the trace buffer (R498). -/
def traceSize : Nat := 0x40000

/-- A packet (Tables 16.8 and 16.9). -/
def Device.packet (d : Device) (type flags src : Nat) (payload : List Byte) : List Byte :=
  leBytes 1 type ++ leBytes 1 (1 + payload.length / 8 + 8 * flags) ++ leBytes 2 src ++ leBytes 4 d.tb.now.toNat ++ payload

def Device.setTrace (d : Device) (t : TraceSys) : Device := { d with dbg := { d.dbg with trace := t } }

/-- Writes a packet at DBG_TWP, and whether that wrapped; none where it does not fit, which sets FULL (R498). -/
def Device.traceRaw (d : Device) (p : List Byte) : Option (Bool × Device) :=
  let t := d.dbg.trace
  let o := if t.atEnd then traceSize else d.rd Reg.DBG_TWP
  let fin := o + p.length
  let wrap := d.flag Reg.DBG_TCTL 1
  if traceSize < fin ∧ wrap = false then none
  else
    let room := traceSize - o
    let d1 := (d.poke (traceBase + o) (p.take room)).poke traceBase (p.drop room)
    let d2 := d1.wr Reg.DBG_TWP (fin % traceSize)
    let excess := wrap && decide (traceSize ≤ fin)
    let d3 := if excess then d2.setFlag Reg.DBG_TSTAT 25 true else d2
    some (excess, d3.setTrace { t with atEnd := !wrap && decide (fin = traceSize), units := t.units + p.length / 8 })

/-- A packet is lost (R500). -/
def Device.traceLose (d : Device) : Device :=
  let d1 := d.bump Reg.DBG_TSTAT 0 24
  d1.setTrace { d1.dbg.trace with pending := d1.dbg.trace.pending + 1 }

/-! ### The queue (R500) -/

/-- Units of the queue that the buffer has not accepted. -/
def TraceSys.load (t : TraceSys) : Nat := (t.queue.map fun p => p.bytes.length / 8).sum - t.taken

/-- Packets of one instant take their place in the queue: ascending TYPE, then ascending SRC. -/
def insertPackets (q : List TracePacket) (ts key : Nat) (new : List (List Byte)) : List TracePacket :=
  let first (p : TracePacket) : Bool := !(p.ts == ts && decide (key < p.key))
  q.takeWhile first ++ new.map (fun b => ⟨ts, key, b⟩) ++ q.dropWhile first

/-- The queue with new packets: none goes ahead of one that the buffer has begun to accept. -/
def TraceSys.insert (t : TraceSys) (ts key : Nat) (new : List (List Byte)) : List TracePacket :=
  match t.taken, t.queue with
  | 0, q => insertPackets q ts key new
  | _, h :: r => h :: insertPackets r ts key new
  | _, [] => insertPackets [] ts key new

/-- A packet enters the queue with its place among those of its instant, behind a LOST packet where some are pending; one that finds the
queue of 64 units full, or recording stopped, is lost. -/
def Device.traceEnter (d : Device) (key : Nat) (p : List Byte) : Device :=
  let t := d.dbg.trace
  let lost := if t.pending = 0 then [] else [d.packet 0x09 0 0x3FF (leBytes 8 t.pending)]
  let new := lost ++ [p]
  if d.flag Reg.DBG_TSTAT 24 ∨ 64 < t.load + (new.map fun b => b.length / 8).sum then d.traceLose
  else d.setTrace { t with queue := t.insert d.tb.now.toNat key new, pending := 0 }

/-- A packet of a recorded event enters the queue. -/
def Device.tracePut (d : Device) (type flags src : Nat) (payload : List Byte) : Device :=
  d.traceEnter (1024 * type + src) (d.packet type flags src payload)

/-- A SYNC packet (R498, Table 16.9) enters the queue behind everything in it: it follows what it is written after, a WAKE of the same
instant too (Example 16.1). -/
def Device.traceSync (d : Device) : Device :=
  let p := d.packet 0x01 0 0x3FF (leBytes 8 d.tb.now.toNat ++ leBytes 4 (d.rd Reg.DBG_TCTL) ++
    leBytes 4 (d.fld Reg.DBG_TSTAT 0 24))
  d.traceEnter ((d.dbg.trace.queue.filter fun q => q.ts == d.tb.now.toNat).foldl (fun m q => max m q.key) (1024 + 0x3FF)) p

/-- A packet of the queue does not reach the buffer: it is lost, and a LOST packet's count is pending again. -/
def Device.traceFail (d : Device) (p : List Byte) : Device :=
  if p.head? = some 9 then d.setTrace { d.dbg.trace with pending := d.dbg.trace.pending + leValue ((p.drop 8).take 4) } else d.traceLose

/-- A packet of the queue goes into the buffer, with a SYNC after a wrap and after every 4 KiB, a SYNC's own among them; recording stops at
the first that does not fit (R498). -/
def Device.traceWrite (d : Device) (p : List Byte) : Device :=
  if d.flag Reg.DBG_TSTAT 24 then d.traceFail p
  else match d.traceRaw p with
    | some (excess, e) =>
      if excess || decide (512 ≤ e.dbg.trace.units) then (e.setTrace { e.dbg.trace with units := 0 }).traceSync else e
    | none => (d.setFlag Reg.DBG_TSTAT 24 true).traceFail p

/-- The buffer takes packets from the queue's head as far as the units that it has accepted cover them, at most so many. -/
def Device.traceTake (d : Device) : Nat → Device
  | 0 => d
  | k + 1 =>
    let t := d.dbg.trace
    match t.queue with
    | [] => d.setTrace { t with taken := 0 }
    | p :: r =>
      if t.taken < p.bytes.length / 8 then d
      else ((d.setTrace { t with queue := r, taken := t.taken - p.bytes.length / 8 }).traceWrite p.bytes).traceTake k

/-- The buffer accepts n units, one per MCLK. -/
def Device.traceDrain (d : Device) (n : Nat) : Device :=
  let t := d.dbg.trace
  (d.setTrace { t with taken := t.taken + n }).traceTake (t.taken + n + 1)

/-- The device is in DOZE or DEEP-SLEEP, not emulated: no packet is written (R502, R503). -/
def Device.traceAsleep (d : Device) : Bool :=
  (d.mode == .doze || d.mode == .deepSleep) && !d.flag Reg.DBG_STAT 1

/-- The debug domain stays powered through a sleep (OCX_FEAT7.DBGDOM; R502, R503). -/
def Device.dbgDomain (d : Device) : Bool := d.cfg.qs == .qs8

/-- An event that the trace unit records while DBG_TCTL.EN is 1. -/
def Device.record (d : Device) (type flags src : Nat) (payload : List Byte) : Device :=
  if d.flag Reg.DBG_TCTL 0 = false then d
  else if d.traceAsleep then
    (if d.dbgDomain then d.setTrace { d.dbg.trace with missed := d.dbg.trace.missed + 1 } else d)
  else d.tracePut type flags src payload

/-- The sleep's FLAGS: 2 DOZE, 3 DEEP-SLEEP. -/
def sleepFlags (m : Mode) : Nat := if m = .doze then 2 else 3

/-- The trace packets of a change of mode, and the start and end of an emulated sleep (R501 to R503, Table 16.9), with the
mode itself. -/
def Device.traceMode (d : Device) (m : Mode) : Device :=
  let sleepy (x : Mode) : Bool := x == .doze || x == .deepSleep
  let on := d.flag Reg.DBG_TCTL 0
  if sleepy m && !sleepy d.mode then
    let emul := !d.dbgDomain && d.flag Reg.DBG_CTRL 0
    let d1 := d.setTrace { d.dbg.trace with sleptAt := d.tb.now.toNat, missed := 0 }
    let d2 := d1.record (if emul then 0x07 else 0x06) (sleepFlags m) 0x3FF (leBytes 8 d.tb.now.toNat)
    { (d2.traceDrain 128).setFlag Reg.DBG_STAT 1 emul with mode := m }
  else if sleepy d.mode && !sleepy m then
    let emul := d.flag Reg.DBG_STAT 1
    let back := m == d.prev
    let d1 := { d.setFlag Reg.DBG_STAT 1 false with mode := m }
    let d2 :=
      if emul || !on then d1
      else if d.dbgDomain then
        let t := d1.dbg.trace
        let lost := min (d1.fld Reg.DBG_TSTAT 0 24 + t.missed) (2 ^ 24 - 1)
        let d3 := d1.record 0x08 (sleepFlags d.mode) 0x3FF
          (leBytes 8 (d.tb.now.toNat - t.sleptAt) ++ leBytes 4 t.missed ++ leBytes 4 0)
        ((d3.setTrace { d3.dbg.trace with missed := 0 }).setFld Reg.DBG_TSTAT 0 24 lost).traceSync
      else d1.traceSync
    if emul || !back then d2.record 0x0C m.code 0x3FF [] else d2
  else { d with mode := m }.record 0x0C m.code 0x3FF []

end Sys2Proof.Machine
end

