-- ==== Sys2Proof/Machine/Ops.lean ====
section
/-! DEFINITION. The named operations every family uses: a berth's registers through its window (R69 to R73), its
special registers as stored, its presence (R34), interrupt lines and the wake of a waiting berth (R53, R139 to R141,
R315), and the producers of the event fabric (R305, R306). -/

namespace Sys2Proof.Machine

/-! ### Special registers (Table 3.5), by number -/

/-- The boot ROM's entry (R103). -/
def bootRomBase : Nat := 0x7F0F00000

/-- Reset value of a special register (Table 3.5, Tables 3.6 and 3.7). -/
def srDefault (n : Nat) : Word :=
  if n = 0 then 2
  else if n = 4 then 0x10
  else if n = 6 then 0xFFFFFFFF
  else if n = 46 ∨ n = 62 then BitVec.ofNat 32 bootRomBase
  else if n = 47 ∨ n = 63 then BitVec.ofNat 32 (bootRomBase / 2 ^ 32)
  else 0

/-- A berth after a device reset (R103): every register zero but those of Table 3.5, at the boot ROM's entry. -/
def Berth.reset : Berth where
  gpr := []
  sr := []
  pc := BitVec.ofNat 50 bootRomBase
  wait := .none
  shadow := none
  loads := []
  stores := []
  seq := 0
  armed := false
  faults := []
  reads := []
  writes := []
  beats := []
  badBeat := none
  woke := none

/-- Every berth reads as reset until something changes it. -/
def berthDefault (_ : Nat) : Berth := Berth.reset

/-- A berth of the device. -/
def Device.berth (d : Device) (b : Nat) : Berth := d.berths.get berthDefault b

/-- Replaces a berth. -/
def Device.setBerth (d : Device) (b : Nat) (x : Berth) : Device :=
  { d with berths := d.berths.put berthDefault b x }

/-- A special register as stored. -/
def Berth.srN (x : Berth) (n : Nat) : Nat := (x.sr.get srDefault n).toNat

/-- Stores a special register. -/
def Berth.setSr (x : Berth) (n v : Nat) : Berth := { x with sr := x.sr.put srDefault n (BitVec.ofNat 32 v) }

/-- Two special registers read as one value (R88). -/
def Berth.srPair (x : Berth) (n : Nat) : Nat := x.srN n + 2 ^ 32 * x.srN (n + 1)

/-- Privilege level, PSR.PL (Table 3.6). -/
def Berth.pl (x : Berth) : Nat := bitsOf (x.srN 0) 0 2

/-- Window state (Table 3.7). -/
def Berth.cwp (x : Berth) : Nat := bitsOf (x.srN 4) 0 3
def Berth.nres (x : Berth) : Nat := bitsOf (x.srN 4) 4 3

/-- The physical register that a register number of Table 4.1 names in the current window (R71). -/
def physReg (cwp r : Nat) : Nat :=
  if r < 8 then r
  else if r < 24 then 8 + 16 * cwp + (r - 8)
  else 8 + 16 * ((cwp + 1) % 6) + (r - 24)

/-- A physical register's value; g0 reads as zero (R69). -/
def Berth.phys (x : Berth) (p : Nat) : Word := if p = 0 then 0 else x.gpr.get (fun _ => 0) p

/-- Writes a physical register; a write to g0 is discarded (R69). -/
def Berth.setPhys (x : Berth) (p : Nat) (v : Word) : Berth :=
  if p = 0 then x else { x with gpr := x.gpr.put (fun _ => 0) p v }

/-- A register of the current window. -/
def Berth.reg (x : Berth) (r : Nat) : Word := x.phys (physReg x.cwp r)

/-- Writes a register of the current window. A load in flight to the same register no longer delivers to it: the later
write in program order stands (R69). -/
def Berth.setReg (x : Berth) (r : Nat) (v : Word) : Berth :=
  let p := physReg x.cwp r
  { x.setPhys p v with
    loads := x.loads.map fun e => if e.dest = some p then { e with dest := none } else e }

/-- The value an instruction reads: in the load-delay position, the old value of the load's destination (R49). -/
def Berth.operand (x : Berth) (r : Nat) : Word :=
  let p := physReg x.cwp r
  match x.shadow with
  | some (q, old) => if q = p then (if p = 0 then 0 else old) else x.phys p
  | none => x.phys p

/-! ### Presence, parking and the twin pairs -/

/-- Core and tile of a berth (R21). -/
def coreOf (b : Nat) : Nat := b / 16
def tileOf (b : Nat) : Nat := b / 64

/-- The core runs as the higher core of an active twin pair (R55, Table 2.13). -/
def Device.twinHigh (d : Device) (c : Nat) : Bool :=
  (c % 4 = 1 && d.flag (Reg.CAR_TWIN (c / 4)) 8) || (c % 4 = 3 && d.flag (Reg.CAR_TWIN (c / 4)) 9)

/-- The core runs as the lower core of an active twin pair. -/
def Device.twinLow (d : Device) (c : Nat) : Bool :=
  (c % 4 = 0 && d.flag (Reg.CAR_TWIN (c / 4)) 8) || (c % 4 = 2 && d.flag (Reg.CAR_TWIN (c / 4)) 9)

/-- The berth exists in the configuration (R7) and does not belong to the higher core of an active pair (R34). -/
def Device.present (d : Device) (b : Nat) : Bool := decide (b < d.cfg.berths) && !d.twinHigh (coreOf b)

/-- An operation that names an absent berth is counted by the core that would hold it (R34). -/
def Device.countAbsent (d : Device) (b : Nat) : Device :=
  if b < d.cfg.berths then d.bump (Reg.CAR_STAT (coreOf b)) 16 16 else d

/-- CAR_PARKED and CAR_PARKREQ of a berth (R31). -/
def Device.parked (d : Device) (b : Nat) : Bool := d.flag (Reg.CAR_PARKED (coreOf b)) (b % 16)
def Device.parkAsked (d : Device) (b : Nat) : Bool := d.flag (Reg.CAR_PARKREQ (coreOf b)) (b % 16)
def Device.setParked (d : Device) (b : Nat) (v : Bool) : Device := d.setFlag (Reg.CAR_PARKED (coreOf b)) (b % 16) v
def Device.setParkAsk (d : Device) (b : Nat) (v : Bool) : Device := d.setFlag (Reg.CAR_PARKREQ (coreOf b)) (b % 16) v

/-- The berth is TIMED (Table 2.10). -/
def Device.timed (d : Device) (b : Nat) : Bool := d.flag (Reg.CAR_BCFG (coreOf b) (b % 16)) 0

/-! ### Interrupt lines and waking -/

/-- The wait set M of a wait (R139): IMASK, with line 0 for WAITT. -/
def Wait.mask (w : Wait) (imask : Nat) : Nat :=
  match w with
  | .waitt _ _ => imask ||| 1
  | _ => imask

/-- The wait set M of a berth. -/
def Berth.waitMask (x : Berth) : Nat := x.wait.mask (x.srN 19)

/-- Ends a WAITT, WAITE or SLEEP with the lines given, consuming them where C asks for it (R140, R141). DESIGN CHOICE
(notes/assumptions/58.md): where rd is g0, which keeps no lines, C = 1 consumes those that the wait reports. -/
def Berth.endWait (x : Berth) (rd : Nat) (consume : Bool) (lines : Nat) : Berth :=
  let y := { x with wait := .none }.setReg rd (BitVec.ofNat 32 lines)
  if consume then y.setSr 20 (y.srN 20 - (y.srN 20 &&& lines)) else y

/-- The wake-cause register and C of a wait (R140, R141). -/
def Wait.cause (w : Wait) : Option (Nat × Bool) :=
  match w with
  | .waitt rd c => some (rd, c)
  | .waite rd c => some (rd, c)
  | .sleep rd c => some (rd, c)
  | _ => Option.none

/-- BERTH_WAKE: a waiting berth whose wait set is no longer empty returns its wake cause (R53, R54, R140, R141). -/
def Berth.wake (x : Berth) : Berth :=
  let m := x.srN 20 &&& x.waitMask
  if m = 0 then x else
  match x.wait.cause with
  | some (rd, c) => x.endWait rd c m
  | none => x

/-- Interrupt lines assert at the berth: their IPEND bits are set (R93). -/
def Berth.lines (x : Berth) (m : Nat) : Berth := x.setSr 20 (x.srN 20 ||| m)

/-- A berth that is awake again keeps, until it issues, what a line that makes it ready in the same cycle would still report in
(R54). -/
def Berth.noteWake (x y : Berth) (key : Nat) : Berth :=
  if x.wait.cause.isSome ∧ y.wait.cause.isNone then { y with woke := some (x.wait, key) } else y

/-- The timebase value by which lines meet in one ready cycle (R53, R54): a compare (line 0) makes its berth ready 2 CCLK after its
edge, an event 3 CCLK after its own cycle, so an event meets the compare of the TCLK edge that follows it, and events meet within
one TCLK cycle. -/
def wakeKey (m now : Nat) : Nat := if bitOf m 0 then now else now + 1

/-- Lines of the cycle in which the berth left a wait join its wake cause (R54). -/
def Berth.joinWake (x : Berth) (w : Wait) (m : Nat) : Berth :=
  match w.cause with
  | some (rd, c) => { x.endWait rd c ((x.reg rd).toNat ||| m) with wait := x.wait }
  | none => x

/-- A berth waits in SLEEP. -/
def Berth.asleep (x : Berth) : Bool :=
  match x.wait with
  | .sleep _ _ => true
  | _ => false

/-! ### Producers of the event fabric -/

/-- SRC, INV, EDGE, GRP and GEN of a channel (Table 10.7). -/
def Device.chSrc (d : Device) (n : Nat) : Nat := d.fld (Reg.EVF_CHCFG n) 0 8
def Device.chInv (d : Device) (n : Nat) : Bool := d.flag (Reg.EVF_CHCFG n) 8
def Device.chEdge (d : Device) (n : Nat) : Bool := d.flag (Reg.EVF_CHCFG n) 9

/-- A producer code of a tile that is absent, and the engine outputs of one that is powered off, produce 0 (R305). A comparator runs on
VDDA, whatever its tile's power (Table 1.2, R288). -/
def Device.producerAlive (d : Device) (code : Nat) : Bool :=
  if 0x11 ≤ code ∧ code ≤ 0x20 then decide (code - 0x11 < d.cfg.comparators)
  else if 0x80 ≤ code then d.flag Reg.PWR_STAT (16 + (code - 0x80) / 16)
  else true

/-- A level producer of Table 10.1. -/
def levelCode (code : Nat) : Bool :=
  (1 ≤ code && code ≤ 0x20) || code == 0x51 || code == 0x53 || code == 0x69

/-- The level a channel takes from a level producer, inverted when INV is 1 and shaped by EDGE (R305). DESIGN CHOICE
(notes/assumptions/65.md): the 0 of a comparator of an absent tile is the channel's level, which INV does not invert. -/
def Device.producerLevel (d : Device) (n : Nat) : Bool :=
  let c := d.chSrc n
  if levelCode c && !d.chEdge n && d.producerAlive c then d.evf.high.contains c != d.chInv n else false

/-- The pre-gate level of a channel (R306); a channel in its hold after a configuration write is 0 (R308). -/
def Device.preGate (d : Device) (n : Nat) : Bool :=
  !d.evf.held.contains n && (d.producerLevel n || d.evf.pulses.contains n)

/-- The group of a channel is enabled, or the channel belongs to none (R309). -/
def Device.gateOpen (d : Device) (n : Nat) : Bool :=
  !d.flag (Reg.EVF_CHCFG n) 16 || d.flag (Reg.EVF_GRP (d.fld (Reg.EVF_CHCFG n) 12 4)) 16

/-- The output of a channel after group gating (R309, R313). -/
def Device.chLevel (d : Device) (n : Nat) : Bool := d.preGate n && d.gateOpen n

/-- A pulse reaches the pre-gate level of a channel: fresh, or merged into a high level (R306). -/
def Device.chPulse (d : Device) (n : Nat) : Device :=
  if d.evf.held.contains n then d
  else if d.preGate n then d.wr (Reg.EVF_MERGE (n / 32)) (d.rd (Reg.EVF_MERGE (n / 32)) ||| 2 ^ (n % 32))
  else { d with evf := { d.evf with pulses := d.evf.pulses ++ [n] } }

/-- Channels that carry a producer. -/
def Device.channelsOf (d : Device) (code : Nat) : List Nat := (List.range 128).filter fun n => d.chSrc n == code

/-- A pulse producer fires: every channel that carries it receives the pulse (R305, R306). -/
def Device.pulse (d : Device) (code : Nat) : Device :=
  if d.producerAlive code then (d.channelsOf code).foldl (fun e n => e.chPulse n) d else d

/-- The channel's output has risen and its assertion has still to reach the consumers. -/
def Device.chComing (d : Device) (n : Nat) : Bool := d.chLevel n && !d.evf.asserted.contains n

/-- Channels whose output has fallen may assert again (R304); a set whose control channel has fallen overlaps no more. -/
def Device.evfFall (d : Device) : Device :=
  { d with evf := { d.evf with
      asserted := d.evf.asserted.filter fun n => d.chLevel n
      offWins := d.evf.offWins.filter fun g => d.chLevel (d.fld (Reg.EVF_GRP g) 0 7) } }

/-- A level producer takes a level: with EDGE set, a rising edge of the channel's level is a pulse (R305). -/
def Device.setLevel (d : Device) (code : Nat) (v : Bool) : Device :=
  if d.evf.high.contains code = v then d else
  let d1 := { d with evf := { d.evf with high := if v then d.evf.high ++ [code] else d.evf.high.filter (· != code) } }
  let d2 := (d1.channelsOf code).foldl
    (fun e n => if e.chEdge n && (v != e.chInv n) && e.producerAlive code then e.chPulse n else e) d1
  d2.evfFall

/-- A fresh free value: the counter that indexes the free values advances. -/
def Device.draw (d : Device) : Device := { d with draws := d.draws + 1 }

/-! ### Host sources and the mode -/

/-- A host feature is accepted (R467). -/
def Device.hostFeature (d : Device) (i : Nat) : Bool :=
  d.flag Reg.QSP_FEAT_DONE 0 && d.flag Reg.QSP_FEAT_ACCEPT2 i && decide (i < 6)

/-- A request may leave on the initiator port: one of its 512 tags is free (R463) and the host side is not in reset (R462). -/
def Device.portFree (d : Device) : Bool := decide (d.qsp.requests.length < 512) && !d.qsp.held

/-- A request of one beat, whose tag is still to be given. -/
def InitReq.single (owner : InitOwner) (addr size : Nat) (write : Bool) (data attr : Nat) : InitReq :=
  ⟨owner, addr, size, write, data, attr, 0, 0⟩

/-- The byte enables of a request's next beat (Table 15.1). -/
def InitReq.strb (r : InitReq) : Nat := (2 ^ r.size - 1) * 2 ^ (r.addr % 32) % 2 ^ 32

/-- The write data of a request's beat. -/
def InitReq.beat (r : InitReq) : Nat := if r.write then r.data * 2 ^ (8 * (r.addr % 32)) % 2 ^ 256 else 0

/-- The check bits that go with it: those of each of its four words. -/
def InitReq.ecc (r : InitReq) : List Byte := (List.range 4).map fun k => Config.checkBits (BitVec.ofNat 64 (bitsOf r.beat (64 * k) 64))

/-- A tag that no outstanding request holds (R463); which one is free. FREE VALUE. -/
def Device.newTag (d : Device) : Nat :=
  let t := (Config.freeValue d.draws).toNat % 512
  (((List.range 512).map fun k => (t + k) % 512).find? fun u => !(d.qsp.requests.any fun r => r.tag == u)).getD t

/-- A request leaves with a tag of its own. -/
def Device.sendRequest (d : Device) (r : InitReq) : Device :=
  { d.draw with qsp := { d.qsp with requests := d.qsp.requests ++ [{ r with tag := d.newTag }] } }

/-- MSI writes leave in order, as far as tags are free (R463, R466). -/
def Device.sendMsi (d : Device) : Device :=
  d.qsp.msi.foldl (fun e r =>
    if e.portFree then e.sendRequest r else { e with qsp := { e.qsp with msi := e.qsp.msi ++ [r] } })
    { d with qsp := { d.qsp with msi := [] } }

/-- HOST_IRQ: source s becomes pending, and one routed to MSI sends its write (R466). -/
def Device.hostSource (d : Device) (s : Nat) : Device :=
  let was := d.flag Reg.QSP_HPEND s
  let d1 := d.setFlag Reg.QSP_HPEND s true
  if was = false ∧ d.fld Reg.QSP_HROUTE (4 * s) 3 = 5 ∧ d.hostFeature 0 = true then
    let r := InitReq.single .msi (d.rd64 Reg.QSP_MSIADDR) 4 true ((d.rd Reg.QSP_MSIDATA + s) % 2 ^ 32) 3
    { d1 with qsp := { d1.qsp with msi := d1.qsp.msi ++ [r] } }.sendMsi
  else d1

/-- Class of a Ringmaster source (RMS_STATn.CLASS: 0 NONE to 4 FATAL). -/
def Device.rmsClass (d : Device) (n : Nat) : Nat := d.fld (Reg.RMS_STATN n) 0 3

/-- FAULT_N is low: some source stands at MINOR or above, or the device is in SAFE (R442). -/
def Device.faultLow (d : Device) : Bool :=
  d.mode == .safe || (List.range 256).any fun n => decide (2 ≤ d.rmsClass n)

/-- NET_SNSTAT.ROLE. -/
def Device.snRole (d : Device) : Nat := d.fld Reg.NET_SNSTAT 0 3

/-- SN_POE (R411): 1 only with role ACTIVE or SOLO in RUN, or in DOZE entered from RUN. -/
def Device.snPoe (d : Device) : Bool :=
  (d.snRole == 2 || d.snRole == 4) && (d.mode == Mode.run || (d.mode == Mode.doze && d.prev == Mode.run))

/-- The fault-level producer 0x51 follows the pin (R442). -/
def Device.followFault (d : Device) : Device := d.setLevel 0x51 d.faultLow

/-- Every Lighthouse starts again from 0 (R449, Table 16.7). -/
def Device.lhsRestart (d : Device) : Device :=
  let now := (List.range 9).foldl (fun m x => Store.put m (fun _ => 0) x d.lpt.edges) d.lhs.started
  { d with lhs := { d.lhs with counts := [], started := now } }

/-- The device takes a mode: its trace packets, host source 2 becomes pending (R466), an HB is due (R414), and the producers of SAFE and of
the fault level follow (Table 10.1); conditions that still hold are due to act again (R26). On leaving HALT, Lighthouses that the freeze
stopped restart from 0 (Table 16.7). -/
def Device.setMode (d : Device) (m : Mode) : Device :=
  if d.mode = m then d
  else
    let d1 := { d.traceMode m with sn := { d.sn with hbDue := true }, pwr := { d.pwr with again := true } }
    let d2 := if d.mode = .halt ∧ bitOf d.dbg.freeze 4 then d1.lhsRestart else d1
    ((d2.hostSource 2).setLevel 0x53 (decide (m = Mode.safe))).followFault

/-- The device takes a mode and records the one it leaves in PWR_STAT.PREV (R519). -/
def Device.enterFrom (d : Device) (m : Mode) : Device := { d with prev := d.mode }.setMode m

/-- The maintenance gate is held for an activity (R366, Table 11.13). -/
def Device.gateIs (d : Device) (act : Nat) : Bool :=
  match d.scn.gate with
  | some g => g.activity == act
  | none => false

/-! ### Interrupt lines -/

/-- DOZE_EXIT: a berth that is awake again, not parked, ungates its core, and the device leaves DOZE for the mode it held
(R25, R519). -/
def Device.dozeExit (d : Device) (b : Nat) : Device :=
  if d.mode = .doze ∧ (d.berth b).asleep = false ∧ d.parked b = false then d.setMode d.prev else d

/-- The core is halted by the debugger (R488). -/
def Device.coreHalted (d : Device) (c : Nat) : Bool := d.flag Reg.DBG_HALTED c

/-- Interrupt lines (a mask) of berth b assert in one cycle: their IPEND bits are set and a waiting berth wakes (R93, R315), at the resume
where its core is halted (R489). A line that meets the wake (wakeKey) joins its wake cause (R54) where it makes the berth ready in the very
same CCLK cycle, which no command tells within a TCLK cycle: that is a free choice. -/
def Device.assertLines (d : Device) (b m : Nat) : Device :=
  let x := d.berth b
  let y := x.lines m
  if d.coreHalted (coreOf b) then d.setBerth b y
  else match x.woke with
    | some (w, t) =>
      let hit := m &&& w.mask (x.srN 19)
      if t = wakeKey m d.tb.now.toNat ∧ hit ≠ 0 then
        (d.setBerth b (if Config.freeLevel d.draws then y.joinWake w hit else y)).draw
      else d.setBerth b y
    | none => (d.setBerth b (x.noteWake y.wake (wakeKey m d.tb.now.toNat))).dozeExit b

/-- Interrupt line k of berth b asserts; an absent berth has no lines, and its wake is counted (R34). -/
def Device.setLine (d : Device) (b k : Nat) : Device :=
  if d.present b then d.assertLines b (2 ^ k) else d.countAbsent b

end Sys2Proof.Machine
end

