-- ==== Sys2Proof/Machine/Frames.lean ====
section
/-! DEFINITION. The frames of the Safety Net (Tables 13.2 to 13.5) and of the Beyram link (Tables 12.3 to 12.7) as
bytes: how one is built, and how one that arrives is checked and read (R373, R413). -/

namespace Sys2Proof.Machine

/-- A frame as it arrives at a receive lane: the bytes between its START and its end, and how it ended. -/
abbrev FrameIn := List Byte × FrameEnd

/-- A field of a frame. -/
def fieldAt (bs : List Byte) (off n : Nat) : Nat := leValue ((bs.drop off).take n)

/-- Every byte of a range is zero. -/
def zeroAt (bs : List Byte) (off n : Nat) : Bool := ((bs.drop off).take n).all (· == 0)

/-! ### Transmit lanes -/

/-- Timebase units that a frame takes on a lane, START and TERM included: 6.6 ns a block (R370). -/
def frameUnits (bytes : List Byte) : Nat := ((bytes.length / 8 + 2) * 165 + 99) / 100

/-- What a lane carries when frames of one class start on it, and when its data-class frame then ends: control-class frames
that become ready within a data-class frame go between SUSPEND and RESUME (R377, R413). -/
def laneOut (now dataEnd : Nat) (control : Bool) (fs : List (List Byte × Bool)) : List LaneItem × Nat :=
  let items := fs.map fun f => LaneItem.frame control f.1 f.2
  let time := (fs.map fun f => frameUnits f.1).foldl (· + ·) 0
  if control = false then (items, now + time)
  else if now < dataEnd then ([.suspend] ++ items ++ [.resume], dataEnd + time + 4)
  else (items, dataEnd)

/-! ### Safety Net -/

/-- A Safety Net frame (Table 13.2). -/
def snFrame (type cycle : Nat) (payload : List Byte) : List Byte :=
  let b := leBytes 1 type ++ [0] ++ leBytes 2 payload.length ++ leBytes 4 cycle ++ leBytes 8 0 ++ padBytes payload
  b ++ leBytes 4 (crc32c b) ++ leBytes 4 0

/-- A Safety Net frame as read: type, cycle and payload. -/
structure SnFrame where
  type    : Nat
  cycle   : Nat
  payload : List Byte
  deriving DecidableEq, Repr

/-- A frame that passes R413. -/
def snRead (f : FrameIn) : Option SnFrame :=
  let b := f.1
  let len := fieldAt b 2 2
  let n := 16 + pad8 len
  if f.2 = .term ∧ len ≤ 1440 ∧ b.length = n + 8 ∧ zeroAt b 1 1 = true ∧ zeroAt b 8 8 = true ∧
      zeroAt b (16 + len) (pad8 len - len) = true ∧ zeroAt b (n + 4) 4 = true ∧
      fieldAt b n 4 = crc32c (b.take n) then
    some ⟨fieldAt b 0 1, fieldAt b 4 4, (b.drop 16).take len⟩
  else none

/-- A Safety Net frame is of the control class (Table 13.3). -/
def snControl (f : List Byte) : Bool :=
  let t := fieldAt f 0 1
  t == 0x40 || (decide (0x44 ≤ t) && decide (t ≤ 0x47))

/-- The transmit lane carries these frames, all of one class. -/
def Device.snSend (d : Device) (fs : List (List Byte)) : Device :=
  let r := laneOut d.tb.now.toNat d.sn.dataEnd (fs.all snControl) (fs.map fun f => (f, false))
  { d with sn := { d.sn with lane := r.1, dataEnd := r.2 } }

/-! ### Beyram -/

/-- A Beyram frame up to its padded payload (Table 12.3). -/
def beyBody (type flags msgid src dst gen hops txtime : Nat) (payload : List Byte) : List Byte :=
  leBytes 1 type ++ leBytes 1 flags ++ leBytes 2 msgid ++ leBytes 4 (src + dst * 2 ^ 10 + gen * 2 ^ 20) ++
  leBytes 2 payload.length ++ leBytes 2 hops ++ leBytes 4 txtime ++ padBytes payload

/-- The frame is of the data class (Table 12.4). -/
def beyData (b : List Byte) : Bool := fieldAt b 0 1 == 0x01

/-- The bytes of a frame with HOPS taken as zero. -/
def beyZeroHops (b : List Byte) : List Byte := b.take 10 ++ [0, 0] ++ b.drop 12

/-- The CRC of a frame: end to end for the data class, with HOPS for the control class (R373). -/
def beyCrc (b : List Byte) : Nat := crc32c (if beyData b then beyZeroHops b else b)

/-- A whole frame. -/
def beyFrame (b : List Byte) : List Byte := b ++ leBytes 4 (beyCrc b) ++ leBytes 4 0

/-- A frame as read (Table 12.3). -/
structure BeyFrame where
  type    : Nat
  ringB   : Bool
  safe    : Bool
  msgid   : Nat
  src     : Nat
  dst     : Nat
  gen     : Nat
  hops    : Nat
  txtime  : Nat
  payload : List Byte
  body    : List Byte
  deriving DecidableEq, Repr

/-- What a check of a received frame finds (R373). -/
inductive BeyCheck where
  | good (f : BeyFrame)
  | badCrc
  | discard
  deriving DecidableEq, Repr

/-- The zero fields of a control-class payload (Tables 12.4, 12.5 and 12.7). -/
def beyReserved (type : Nat) (p : List Byte) : Bool :=
  if type = 0x21 ∨ type = 0x26 then zeroAt p 0 p.length
  else if type = 0x23 then decide (fieldAt p 24 1 < 2) && zeroAt p 25 7
  else if type = 0x10 ∨ type = 0x11 ∨ type = 0x12 then zeroAt p 1 3 && zeroAt p 28 4
  else true

/-- A frame that passes R373. -/
def beyRead (f : FrameIn) : BeyCheck :=
  let b := f.1
  let len := fieldAt b 8 2
  let n := 16 + pad8 len
  let body := b.take n
  if f.2 ≠ .term ∨ b.length ≠ n + 8 ∨ 1500 < len then .discard
  else if fieldAt b n 4 ≠ beyCrc body then .badCrc
  else if fieldAt b 1 1 / 4 ≠ 0 ∨ fieldAt b 4 4 / 2 ^ 24 ≠ 0 ∨ fieldAt b 10 2 / 2 ^ 10 ≠ 0 ∨
      zeroAt b (16 + len) (pad8 len - len) = false ∨ zeroAt b (n + 4) 4 = false ∨
      beyReserved (fieldAt b 0 1) ((b.drop 16).take len) = false then .discard
  else
    let addr := fieldAt b 4 4
    .good ⟨fieldAt b 0 1, bitOf (fieldAt b 1 1) 0, bitOf (fieldAt b 1 1) 1, fieldAt b 2 2, bitsOf addr 0 10,
      bitsOf addr 10 10, bitsOf addr 20 4, fieldAt b 10 2, fieldAt b 12 4, (b.drop 16).take len, body⟩

end Sys2Proof.Machine
end

