-- ==== Sys2Proof/Machine/EngineOps.lean ====
section
/-! DEFINITION. The pin engines as storage and the operations on them that are not instructions: registers, pad runs,
FIFOs, start, stop and restart, the divider, the counter, pattern match and event outputs (chapter 7). -/

namespace Sys2Proof.Machine

/-- Engine register numbers (R255). -/
abbrev peStat : Nat := 3
abbrev peClkdiv : Nat := 4
abbrev pePins : Nat := 5
abbrev peShift : Nat := 6
abbrev peWrap : Nat := 7
abbrev peX : Nat := 8
abbrev peY : Nat := 9
abbrev peTsh : Nat := 10
abbrev peRsh : Nat := 11
abbrev peScnt : Nat := 12
abbrev pePat : Nat := 13
abbrev peMask : Nat := 14
abbrev peCnt : Nat := 15
abbrev peCntcmp : Nat := 16
abbrev peCntcfg : Nat := 17
abbrev pePhcmp : Nat := 18
abbrev peImgin : Nat := 20
abbrev peImgout : Nat := 21
abbrev peEvcfg : Nat := 22
abbrev peEvout : Nat := 23
abbrev pePdir : Nat := 24
abbrev peStall : Nat := 25
abbrev peStallcyc : Nat := 26

/-- Reset value of an engine register (Tables 7.9 to 7.17). -/
def peDefault (r : Nat) : Word :=
  if r = peClkdiv then 0x00010000
  else if r = peWrap then 0x0000BF00
  else if r = peCntcmp then 0x00FFFFFF
  else 0

/-- An engine after a device reset (R254). DESIGN CHOICE (notes/assumptions/65.md): its divider, whose accumulator and remaining gap no
table gives, has accumulator 0 and its next edge as a tick. -/
def Engine.reset : Engine where
  regs := []
  prog := []
  tx := []
  rx := []
  pc := 0
  run := false
  wait := .none
  acc := 0
  passed := 0
  now := 1
  lead := 0
  out := 0
  seen := 0
  past := []
  coming := []
  frozen := false

def engineDefault (_ : Nat) : Engine := Engine.reset

/-- An engine of the device, by number (R21). -/
def Device.engine (d : Device) (e : Nat) : Engine := d.eng.engines.get engineDefault e

/-- Replaces an engine. -/
def Device.setEngine (d : Device) (e : Nat) (x : Engine) : Device :=
  { d with eng := { d.eng with engines := d.eng.engines.put engineDefault e x } }

/-- An engine register as stored. -/
def Engine.rg (x : Engine) (r : Nat) : Nat := (x.regs.get peDefault r).toNat

/-- Stores an engine register. -/
def Engine.setRg (x : Engine) (r v : Nat) : Engine := { x with regs := x.regs.put peDefault r (BitVec.ofNat 32 v) }

/-- A field of an engine register. -/
def Engine.fld (x : Engine) (r lo w : Nat) : Nat := bitsOf (x.rg r) lo w
def Engine.flag (x : Engine) (r i : Nat) : Bool := bitOf (x.rg r) i
def Engine.setFld (x : Engine) (r lo w v : Nat) : Engine := x.setRg r (setBits (x.rg r) lo w v)
def Engine.setFlag (x : Engine) (r i : Nat) (b : Bool) : Engine := x.setFld r i 1 (bit01 b)

/-- A program word (R253). -/
def Engine.word (x : Engine) (w : Nat) : Nat := x.prog.get (fun _ => 0) w

/-- The instruction the engine is at. -/
def Engine.current (x : Engine) : Nat := x.word x.pc

/-- A tile register (numbers 47 to 63) as stored. -/
def Device.tileReg (d : Device) (t r : Nat) : Nat := (d.eng.tile.get (fun _ => 0) (64 * t + r)).toNat

/-- Stores a tile register. -/
def Device.setTileReg (d : Device) (t r v : Nat) : Device :=
  { d with eng := { d.eng with tile := d.eng.tile.put (fun _ => 0) (64 * t + r) (BitVec.ofNat 32 v) } }

/-- PE_TSTAT.DENY and PE_TSTAT.IGN count (R236, R243, R252, R253). -/
def Device.engDeny (d : Device) (t : Nat) : Device :=
  d.setTileReg t 47 (setBits (d.tileReg t 47) 0 16 (satInc (bitsOf (d.tileReg t 47) 0 16) 0xFFFF))
def Device.engIgnore (d : Device) (t : Nat) : Device :=
  d.setTileReg t 47 (setBits (d.tileReg t 47) 16 16 (satInc (bitsOf (d.tileReg t 47) 16 16) 0xFFFF))

/-- A tile is powered (PWR_STAT.TILEON). -/
def Device.tileOn (d : Device) (t : Nat) : Bool := decide (t < d.cfg.tiles) && d.flag Reg.PWR_STAT (16 + t)

/-- The engine exists in the configuration (R7) and its tile is powered. -/
def Device.engPresent (d : Device) (e : Nat) : Bool := decide (e < d.cfg.engines) && d.tileOn (e / 8)

/-! ### Migration in progress (R248 to R252) -/

def Device.migPhase (d : Device) (t : Nat) : Nat := bitsOf (d.tileReg t 54) 4 2

/-- The migration in progress in a tile. -/
def Device.migOf (d : Device) (t : Nat) : Option Migration := d.eng.mig.get (fun _ => none) t

/-- Replaces the migration of a tile. -/
def Device.setMigration (d : Device) (t : Nat) (m : Option Migration) : Device :=
  { d with eng := { d.eng with mig := d.eng.mig.put (fun _ => none) t m } }

def Device.migSrc (d : Device) (t : Nat) : Nat := match d.migOf t with
  | some m => m.src
  | none => 0
def Device.migDst (d : Device) (t : Nat) : Nat := match d.migOf t with
  | some m => m.dst
  | none => 0
def Device.migHandle (d : Device) (t : Nat) : Nat := match d.migOf t with
  | some m => m.handle
  | none => 0

/-- The engine is the source or the destination of a migration in progress. -/
def Device.migrating (d : Device) (e : Nat) : Bool :=
  let t := e / 8
  d.migPhase t != 0 && (d.migSrc t == e % 8 || d.migDst t == e % 8)

/-- The engine is the source of a migration that awaits its fence (R249). -/
def Device.awaitsFence (d : Device) (e : Nat) : Bool := d.migPhase (e / 8) == 1 && d.migSrc (e / 8) == e % 8

/-! ### Pad runs (R213 to R215) -/

/-- The pad (0 to 31 of the tile) that a run offset names, if it names one. -/
def Engine.padOf (x : Engine) (off : Nat) : Option Nat :=
  let p := x.fld pePins 0 5 + off
  if off < x.fld pePins 8 6 ∧ p < 32 then some p else none

/-- The pads of the engine's run. -/
def Engine.run32 (x : Engine) : List Nat := (List.range 32).filterMap x.padOf

/-- Some lower-numbered engine of the tile has the pad in its run, and drives it (R214). -/
def Device.lowerOwns (d : Device) (e p : Nat) : Bool :=
  (List.range (e % 8)).any fun k => (d.engine (8 * (e / 8) + k)).run32.contains p

/-- PE_STAT.PADCONF (R214). -/
def Device.padConflict (d : Device) (e : Nat) : Bool := (d.engine e).run32.any fun p => d.lowerOwns e p

/-- The pads are isolated (R295). -/
def Device.isolated (d : Device) : Bool :=
  match d.mode with
  | .off | .ramp | .reset => true
  | _ => false

/-- The synchronised read-back of a pad, by tile and index; 0 while the pads are isolated (R215, R283). -/
def Device.padIn (d : Device) (t i : Nat) : Bool := !d.isolated && d.pad.level.get (fun _ => false) (32 * t + i)

/-- A transition among those placed, in time order; of two for one instant the later placed comes last (R220). -/
def insertComing (a : Nat × Nat × Bool) : List (Nat × Nat × Bool) → List (Nat × Nat × Bool)
  | [] => [a]
  | b :: r => if b.1 ≤ a.1 then b :: insertComing a r else a :: b :: r

/-- The engine places a transition on the pad of a run offset, `t8` eighths of an ECLK cycle into its own time; the pad of a
lower-numbered engine takes none (R213, R214, R219, R220). -/
def Device.placePin (d : Device) (e off : Nat) (v : Bool) (t8 : Nat) : Device :=
  let x := d.engine e
  match x.padOf off with
  | none => d
  | some p => if d.lowerOwns e p then d else d.setEngine e { x with coming := insertComing (t8, p, v) x.coming }

/-- Levels and enables after some transitions, in their order. -/
def afterTransitions (m : Nat) (as : List (Nat × Nat × Bool)) : Nat :=
  as.foldl (fun m a => setBits m a.2.1 1 (bit01 a.2.2)) m

/-- The transitions that `due` picks reach the pads, in time order (R220). -/
def Engine.take (x : Engine) (due : Nat → Bool) : Engine :=
  { x with
    out := afterTransitions x.out (x.coming.filter fun a => due a.1)
    past := x.past ++ x.coming.filter fun a => due a.1
    coming := x.coming.filter fun a => !due a.1 }

/-- The latest TCLK edge in the engine's own time. -/
def Engine.tclkAt (x : Engine) : Nat := x.passed - x.lead

/-- Levels and enables as the read-back shows them `r` ECLK edges after the latest TCLK edge: as they were two ECLK cycles before
(R215, R224). -/
def Engine.outAt (x : Engine) (r : Nat) : Nat :=
  afterTransitions x.seen ((x.past ++ x.coming).filter fun a => decide (a.1 + 16 < 8 * (x.tclkAt + r)))

/-- PE_PDIR takes a value; the output enables that change do so at the next ECLK edge (R219, R237). -/
def Engine.pdirSet (x : Engine) (v : Nat) : Engine :=
  let changed := (List.range 32).filter fun i => bitOf v i != x.flag pePdir i
  { x.setRg pePdir v with
    coming := changed.foldl (fun c i => insertComing (8 * (x.passed + 1), 32 + i, bitOf v i) c) x.coming }

/-- The transitions placed up to the present edge of the engine's own time reach the pads. -/
def Engine.settle (x : Engine) : Engine := x.take fun t8 => decide (t8 ≤ 8 * x.passed)

/-! ### Event outputs, pattern match and counter -/

/-- Event outputs whose selection is `sel` assert (R246, Table 7.16). -/
def Device.engEvent (d : Device) (e sel : Nat) : Device :=
  let x := d.engine e
  let d1 := if x.fld peEvout 0 4 = sel then d.pulse (0x80 + 2 * e) else d
  if x.fld peEvout 4 4 = sel then d1.pulse (0x80 + 2 * e + 1) else d1

/-- MATCH (R233). -/
def Engine.matched (x : Engine) : Bool := ((x.rg peRsh ^^^ x.rg pePat) &&& x.rg peMask) == 0

/-- CMATCH and ERR of PE_STAT (R229, R232). -/
def Engine.cmatch (x : Engine) : Bool := x.flag peStat 21
def Engine.err (x : Engine) : Nat := x.fld peStat 22 2

/-- COUNTER_MATCH: the `n` increments of one ECLK edge. Where CNTCMP is among the values that CNT passes through, CMATCH becomes 1, and
with RLD CNT holds the increments beyond the match (R229). -/
def Engine.addCount (n : Nat) (x : Engine) : Engine :=
  let c := x.rg peCnt
  match (List.range' 1 n).find? fun j => (c + j) % 2 ^ 24 == bitsOf (x.rg peCntcmp) 0 24 with
  | some j => (x.setRg peCnt (if x.flag peCntcfg 4 then n - j else (c + n) % 2 ^ 24)).setFlag peStat 21 true
  | none => if n = 0 then x else x.setRg peCnt ((c + n) % 2 ^ 24)

/-- One increment of the counter. -/
def Engine.countOne (x : Engine) : Engine := x.addCount 1

/-- The engine changes to `y`: rising MATCH and CMATCH reach its event outputs (R233, R246). -/
def Device.engUpdate (d : Device) (e : Nat) (y : Engine) : Device :=
  let x := d.engine e
  let d1 := d.setEngine e y
  let d2 := if !x.matched && y.matched then d1.engEvent e 1 else d1
  if !x.cmatch && y.cmatch then d2.engEvent e 2 else d2

/-! ### The divider (R216, R217) -/

/-- Cycles to the next tick, and the accumulator after this one. -/
def Engine.gap (x : Engine) : Nat × Nat :=
  let s := x.acc + x.fld peClkdiv 8 8
  let i := if x.fld peClkdiv 16 16 = 0 then 65536 else x.fld peClkdiv 16 16
  (if s ≥ 256 then i + 1 else i, s % 256)

/-- The divider goes on to the next tick (R216). -/
def Engine.pass (x : Engine) : Engine := { x with acc := x.gap.2, now := x.now + x.gap.1 }

/-- A divider restart: the next edge is a tick with the accumulator at 0 (R216). -/
def Engine.divRestart (x : Engine) : Engine := { x with acc := 0, now := x.passed + 1 }

/-- The engine is stalled in a PULL or PUSH (R238). -/
def Engine.stalled (x : Engine) : Bool :=
  match x.wait with
  | .pull => true
  | .push _ => true
  | _ => false

/-- The next tick executes an instruction, whose command lets it pass. -/
def Engine.held (x : Engine) : Bool :=
  match x.wait with
  | .none => true
  | .shifted => true
  | .delay 0 => true
  | _ => false

/-- The increments that the counter's source gives at this edge: source 1 at a tick, source 5 at every edge (R229). They come before the
instruction of the tick (notes/assumptions/28.md). -/
def Engine.counts (x : Engine) (tick : Bool) : Nat :=
  bit01 ((x.fld peCntcfg 0 3 == 1 && tick) || x.fld peCntcfg 0 3 == 5)

/-- One ECLK edge of a running engine: the increments of its counter, with `more` from CNT INC, and PE_STALLCYC in a stall (R229,
R238). -/
def Engine.clock (more : Nat) (x : Engine) : Engine :=
  let y := { x with passed := x.passed + 1, lead := x.lead + 1 }.addCount (x.counts (x.passed + 1 == x.now) + more)
  if x.stalled then y.setRg peStallcyc (min (y.rg peStallcyc + 1) (2 ^ 32 - 1)) else y

/-- One ECLK edge without a CNT INC. -/
def Engine.eclk (x : Engine) : Engine := x.clock 0

/-- A tick of an engine that waits, stalls or delays: the divider goes on, and a DLY has one tick less to go (R217, R231). -/
def Engine.waitTick (x : Engine) : Engine :=
  match x.wait with
  | .delay (n + 1) => { x.pass with wait := .delay n }
  | _ => x.pass

/-- One ECLK edge of an engine whose next tick executes nothing. -/
def Engine.waitEdge (x : Engine) : Engine := if x.eclk.passed = x.now then x.eclk.waitTick else x.eclk

/-- `n` ECLK edges of a running engine pass; one whose next tick executes an instruction stops before that tick. -/
def Engine.edges : Nat → Engine → Engine
  | 0, x => x
  | n + 1, x => if x.held && decide (x.now ≤ x.passed + 1) then x else Engine.edges n x.waitEdge

/-- The edges up to the next tick pass, and the edge of the tick itself, whose instruction counts `more` (R218, R229). -/
def Engine.toTickWith (more : Nat) (x : Engine) : Engine := (x.edges (x.now - x.passed - 1)).clock more

/-- The edges up to the next tick pass, and the edge of the tick itself (R218). -/
def Engine.toTick (x : Engine) : Engine := x.toTickWith 0

/-- `n` ticks pass that execute nothing. -/
def Engine.waitTicks : Nat → Engine → Engine
  | 0, x => x
  | n + 1, x => Engine.waitTicks n x.toTick.waitTick

/-- The `n` ECLK edges of the TCLK cycle that ends pass in an engine: in one that runs, with what they bring; in one that does not, whose
divider is frozen, only the placed transitions go on (R217, R220). -/
def Engine.idle (n : Nat) (x : Engine) : Engine :=
  let k := n - x.lead
  let y := if x.run then x.edges k else { x with passed := x.passed + k, now := x.now + k }
  { y.settle with lead := x.lead - n }

/-- One TCLK cycle of `n` ECLK edges of every engine. -/
def Device.engIdle (d : Device) (n : Nat) : Device :=
  d.eng.engines.foldl (fun f p => f.engUpdate p.1 ((f.engine p.1).idle n)) d

/-- The ECLK and MCLK edges of a TCLK cycle: three (R244, R505); on BOSC, whose edges are 4.75 ns to 5.25 ns apart, none or one, which
is free (R513, R514). -/
def Device.eclkEdges (d : Device) : Nat := if d.flag Reg.CLK_STAT 2 then bit01 (Config.freeLevel d.draws) else 3

/-! ### FIFOs (R234, R235) -/

/-- JOIN of an even engine. -/
def Device.joined (d : Device) (e : Nat) : Bool := (d.engine (e - e % 2)).flag peShift 14

/-- Entries a FIFO of the engine holds: 8, 16 when joined, none in the odd engine of a joined pair (R234). -/
def Device.fifoDepth (d : Device) (e : Nat) : Nat := if d.joined e then (if e % 2 = 0 then 16 else 0) else 8

/-- A berth's write of PE_TXF, or of a queue handle bound to the engine (R235, R247). -/
def Device.fifoPush (d : Device) (e : Nat) (v : Word) : Device :=
  let x := d.engine e
  if d.fifoDepth e = 0 then d
  else if x.tx.length < d.fifoDepth e then d.setEngine e { x with tx := x.tx ++ [v] }
  else d.setEngine e (x.setFlag peStat 24 true)

/-- A berth's read of PE_RXF, or of a queue handle: the next entry, or 0 with RXUNF set (R235). -/
def Device.fifoPop (d : Device) (e : Nat) : Word × Device :=
  let x := d.engine e
  if d.fifoDepth e = 0 then (0, d)
  else match x.rx with
    | v :: r => (v, d.setEngine e { x with rx := r })
    | [] => (0, d.setEngine e (x.setFlag peStat 25 true))

/-! ### Start, stop and restart (R239 to R243) -/

/-- RESTART (R239). -/
def Engine.restart (x : Engine) : Engine :=
  let y := ((((x.setRg peRsh 0).setRg peTsh 0).setRg peScnt 0).setFlag peStat 21 false).setFld peStat 22 2 0
  { y with pc := 0 }

/-- A stop: what was in progress is abandoned with PC left at that instruction; pads keep their values (R239, R243). -/
def Engine.stop (x : Engine) : Engine := { x with run := false, wait := .none, frozen := false }

/-- An explicit start of an engine, with restart and divider restart as asked (R239, R243). A start of an engine that
CLK_TCRIT names has no effect during a re-lock and is counted (R512). -/
def Device.engStart (d : Device) (e : Nat) (restart clkr : Bool) : Device :=
  if !d.engPresent e then d
  else if d.migrating e || (d.pwr.relock.isSome && bitOf (d.rd64 Reg.CLK_TCRIT) e) then d.engIgnore (e / 8)
  else
    let x := d.engine e
    if x.run then (if clkr then d.setEngine e x.divRestart else d)
    else if x.err ≠ 0 ∧ restart = false then d.engIgnore (e / 8)
    else
      let y := if restart then x.restart else x
      let z := if clkr then y.divRestart else y
      d.engUpdate e { z with run := true, wait := .none, frozen := false }

/-- An explicit stop (R239, R243). -/
def Device.engStop (d : Device) (e : Nat) : Device :=
  if !d.engPresent e then d
  else if d.migrating e then d.engIgnore (e / 8)
  else d.setEngine e (d.engine e).stop

/-- Every engine stops, whatever is in progress (R517, R520, R522). -/
def Device.enginesStop (d : Device) (keep : Nat → Bool) : Device :=
  (List.range d.cfg.engines).foldl (fun e k => if keep k then e else e.setEngine k (e.engine k).stop) d

/-- Engines of tile t named in a mask. -/
def maskedEngines (t mask : Nat) : List Nat := ((List.range 8).filter (bitOf mask)).map fun k => 8 * t + k

/-- A group start (R240). -/
def Device.groupStart (d : Device) (t mask : Nat) (clkr restart : Bool) : Device :=
  (maskedEngines t mask).foldl (fun e k =>
    let f := if clkr && e.engPresent k && !e.migrating k then e.setEngine k (e.engine k).divRestart else e
    f.engStart k restart false) d

/-- A group stop (R240). -/
def Device.groupStop (d : Device) (t mask : Nat) : Device :=
  (maskedEngines t mask).foldl (fun e k => e.engStop k) d

end Sys2Proof.Machine
end

