-- ==== Sys2Proof/Machine/PadView.lean ====
section
/-! DEFINITION. The pads as they stand (chapter 9): who may write them, which function each has, and what each drives in
every mode. -/

namespace Sys2Proof.Machine

/-! ### Writers -/

/-- The number of a requester (R366, Table 11.12): a berth's own, 1,022 the Gangway, 1,023 the target port. -/
def Writer.who : Writer → Nat
  | .berth b => b
  | .gangway => 1022
  | .host _ => 1023
  | .hostUser => 1023

/-- The agent of Table 5.11 for whom a writer's request reads memory. -/
def Writer.agent : Writer → Nat
  | .berth _ => 0
  | .gangway => 4
  | .host _ => 3
  | .hostUser => 3

/-- The identity of a writer (Table 9.4). -/
def Device.identity (d : Device) (w : Writer) : Identity :=
  match w with
  | .berth b => if (d.berth b).pl = 2 then .secure else .core (coreOf b)
  | .host s => if s then .secure else .nonsecure
  | .hostUser => .nonsecure
  | .gangway => .secure

/-- The writer reaches a register that SUPERVISOR and MONITOR may access: a present berth above USER, the target port with an attribute
where QSP_TACL.NSCW does not deny it (R459), the Gangway at FULL authorisation (R484). -/
def Device.mayWrite (d : Device) (w : Writer) : Bool :=
  match w with
  | .berth b => d.present b && decide (1 ≤ (d.berth b).pl)
  | .host s => s || !d.flag Reg.QSP_TACL 10
  | .hostUser => false
  | .gangway => decide (d.fld Reg.DBG_AUTH 0 2 = 2)

/-- A write is permitted on a pad (R279). -/
def Device.padPermit (d : Device) (who : Identity) (t i : Nat) : Bool :=
  let k := d.fld (Reg.PAD_OWN t i) 0 2
  match who with
  | .secure => true
  | .core c => k == 0 || (k == 2 && d.fld (Reg.PAD_OWN t i) 2 5 == c)
  | .nonsecure => k == 0

/-- PAD_STAT.DENY counts one refused write or instruction (R279). -/
def Device.padDeny (d : Device) (t : Nat) : Device := d.bump (Reg.PAD_STAT t) 0 16

/-! ### Function and output -/

/-- The debug UART is selected (R474). -/
def Device.uart (d : Device) : Bool := d.flag Reg.DBG_STAT 0

/-- A pad's function code (Table 9.1, Table 9.2). -/
def Device.padFunction (d : Device) (t i : Nat) : Nat :=
  if t = 0 ∧ (i = 10 ∨ i = 11) ∧ d.uart = true then 5
  else if t = 1 ∧ (i = 10 ∨ i = 11) ∧ d.flag Reg.NET_SNCFG 0 = true then 4
  else if t < 2 ∧ 16 ≤ i ∧ i ≤ 29 ∧
      ((d.flag (Reg.NET_CFG t) 0 = true ∧ d.flag (Reg.NET_CFG t) 1 = false) ∨
       (28 ≤ i ∧ (d.flag (Reg.NET_CFG t) 4 = true ∨ d.flag (Reg.NET_CFG t) 0 = true))) then 3
  else if d.flag (Reg.PAD_CFG t i) 6 then 2
  else if 30 ≤ i ∧ d.flag (Reg.PAD_CFG t i) 7 = true then 1
  else 0

/-- The live buffer of a tile's image word, as its 32 low bits (R284). -/
def Device.imageWord (d : Device) (t : Nat) : Nat :=
  let w := d.fld (Reg.PAD_IMGB t) 4 17 * 16 + 8
  d.value (imageBase + 2 * d.cfg.imageS + w) 4

/-- The GPIO output value of a pad: its live bit in image mode, its PAD_DOUT bit in direct mode (R284). -/
def Device.gpioValue (d : Device) (t i : Nat) : Bool :=
  if d.flag (Reg.PAD_CFG t i) 4 then bitOf (d.imageWord t) i else d.flag (Reg.PAD_DOUT t) i

/-- A level as a driven output. -/
def Drive.ofBool (b : Bool) : Drive := if b then .one else .zero

/-- SFVAL of a pad (Table 9.8). -/
def Device.safeValue (d : Device) (t i : Nat) : Drive :=
  match d.fld (Reg.PAD_CFG t i) 11 2 with
  | 0 => .zero
  | 1 => .one
  | _ => .highZ

/-- The engine that drives a pad: the lowest-numbered engine of the tile whose run holds it (R214). -/
def Device.padEngine (d : Device) (t i : Nat) : Option Nat :=
  (List.range 8).find? fun k => (d.engine (8 * t + k)).run32.contains i

/-- What the engines drive on a pad (R213, R214), given the levels and enables of an engine: the owner's output where its direction bit
is in force. -/
def Device.engineDrive (d : Device) (f : Engine → Nat) (t i : Nat) : Drive :=
  match d.padEngine t i with
  | some k =>
    let x := d.engine (8 * t + k)
    if bitOf (f x) (32 + (i - x.fld pePins 0 5)) then Drive.ofBool (bitOf (f x) i) else .highZ
  | none => .highZ

/-- A GPIO pad's output in RUN (R284). -/
def Device.gpioDrive (d : Device) (t i : Nat) : Drive :=
  if d.flag (Reg.PAD_CFG t i) 5 then Drive.ofBool (d.gpioValue t i) else .highZ

/-- The mode whose row of Table 9.7 the pads show: in HALT that of the mode it was entered from, which the freeze-on-halt bits
leave as it is (DEDUCED, notes/assumptions/60.md). -/
def Device.padMode (d : Device) : Mode := if d.mode = .halt then d.prev else d.mode

/-- The output of a pad's function, before safe-force (Table 9.7), given the levels and enables of an engine. A pad whose signal another
block gives (the debug UART in a frame, an Ethernet output) reads as `.block`; between frames DBG_UTX drives 1 (R478). -/
def Device.functionDrive (d : Device) (g : Engine → Nat) (t i : Nat) : Drive :=
  let f := d.padFunction t i
  if d.mode = .factory then .block
  else if f = 5 then (if i ≠ 10 then .highZ else if d.dbg.sending.isEmpty then .one else .block)
  else if d.padMode = .service then .highZ
  else if f = 4 then (if i = 10 then Drive.ofBool d.snPoe else .highZ)
  else if f = 3 then (if i ≤ 21 ∨ 28 ≤ i then .block else .highZ)
  else if f = 2 then d.engineDrive g t i
  else if f = 1 then .highZ
  else match d.padMode with
    | .stop | .standby => d.pad.stop.get (fun _ => .highZ) (32 * t + i)
    | .doze => d.pad.doze.get (fun _ => .highZ) (32 * t + i)
    | _ => d.gpioDrive t i

/-- The SAFE pad state holds: in SAFE (R290), and while the stop of CCLK stands in CLK_MON.CTRIP, in every mode (R453). -/
def Device.safePads (d : Device) : Bool := d.mode == .safe || d.flag Reg.CLK_MON 0

/-- What a pad drives (R288, R290, R294, R295, Table 9.7), given the levels and enables of an engine. -/
def Device.padDriveBy (d : Device) (g : Engine → Nat) (t i : Nat) : Drive :=
  if d.isolated then .highZ
  else if d.flag (Reg.PAD_SFST t) i then d.safeValue t i
  else if d.safePads ∧ d.padFunction t i ≠ 5 then d.safeValue t i
  else if d.flag (Reg.PAD_LATCH t) 0 then d.pad.deep.get (fun _ => .highZ) (32 * t + i)
  else d.functionDrive g t i

/-- What a pad drives now. -/
def Device.padDrive (d : Device) (t i : Nat) : Drive := d.padDriveBy Engine.out t i

/-- A bank that nothing has happened to is a good 1.8 V bank: the class that the reset value of PAD_STAT.BANKV names
(Table 9.11); the class each board gives it is not the spec's (notes/assumptions/1.md). -/
def bankDefault (_ : Nat) : Bank := .low18

def Device.bank (d : Device) (t : Nat) : Bank := d.pwr.banks.get bankDefault t

/-- The receiver's reading of the voltage at a comparator's pad, in microvolts (R276, Table 9.5): 0.65 × VDDIO and above reads 1 and 0.35 ×
VDDIO and below 0, at every VDDIO of the bank's range; the spec leaves the rest undefined. -/
def receiverLevel (high33 : Bool) (u : Nat) : Option Bool :=
  let top := if high33 then 3465000 else 1890000
  let bottom := if high33 then 3135000 else 1710000
  if 65 * top ≤ 100 * u then some true else if 100 * u ≤ 35 * bottom then some false else none

/-- The level that a pad's voltage has at the receiver (R276, R281, R283), given the levels and enables of an engine: the device's own, the
outside's, that of a comparator's input, or that of the pull or keeper where nothing drives it; none where the spec leaves it undefined,
as where nothing fixes it or two drivers oppose each other. -/
def Device.padLevelBy (d : Device) (g : Engine → Nat) (t i : Nat) : Option Bool :=
  let ext := d.pad.ext.get (fun _ => .released) (32 * t + i)
  match d.padDriveBy g t i, ext with
  | .zero, .low | .zero, .released | .highZ, .low | .block, .low => some false
  | .one, .high | .one, .released | .highZ, .high | .block, .high => some true
  | .zero, _ | .one, _ | _, .between => none
  | .block, _ => some (d.padIn t i)
  | .highZ, _ =>
    if d.padFunction t i = 1 then
      receiverLevel (d.bank t == .high33) (d.pad.cmpIn.get (fun _ => 0) (2 * t + (i - 30)))
    else match d.fld (Reg.PAD_CFG t i) 0 2 with
      | 1 => some true
      | 2 => some false
      | 3 => some (d.padIn t i)
      | _ => none

/-- The level that the read-back takes: what drives the pad as the read-back sees it, two ECLK cycles late (R215). -/
def Device.padLevel (d : Device) (t i : Nat) : Option Bool := d.padLevelBy Engine.seen t i

/-- The read-back of a pad `r` ECLK edges after the latest TCLK edge (R215): a pad that an engine drives follows that engine's transitions,
any other the TCLK edge. -/
def Device.pinSeen (d : Device) (t i r : Nat) : Bool :=
  match d.padEngine t i with
  | some k =>
    let x := d.engine (8 * t + k)
    if x.past.isEmpty && x.coming.isEmpty || d.padFunction t i != 2 || d.isolated then d.padIn t i
    else (d.padLevelBy (fun y => y.outAt r) t i).getD (d.padIn t i)
  | none => d.padIn t i

/-- What an engine reads at a run offset: 0 where the offset names no pad (R213, R215). -/
def Device.enginePin (d : Device) (e off : Nat) : Bool :=
  match (d.engine e).padOf off with
  | some p => d.pinSeen (e / 8) p (d.engine e).lead
  | none => false

/-- A transition of the pad at a run offset to a level has become visible to the engine after an edge of its own time (R224): one that an
engine of its tile has made since the latest TCLK edge settled the read-back. -/
def Device.sawEdge (d : Device) (e off since : Nat) (pol : Bool) : Bool :=
  let x := d.engine e
  match x.padOf off with
  | some p => match d.padEngine (e / 8) p with
    | some k =>
      let y := d.engine (8 * (e / 8) + k)
      d.padFunction (e / 8) p == 2 && (y.past ++ y.coming).any fun a =>
        a.2.1 == p && a.2.2 == pol && decide (y.tclkAt + since < a.1 / 8 + 3 + x.tclkAt) &&
          decide (a.1 / 8 + 3 ≤ y.tclkAt + x.lead)
    | none => false
  | none => false

def driveDefault (_ : Nat) : Drive := .highZ

/-- Every pad of the configuration, as 32 × tile + index. -/
def Device.allPads (d : Device) : List Nat := List.range (32 * d.cfg.tiles)

/-- What every pad drives now, as a store. -/
def Device.drives (d : Device) (f : Nat → Nat → Drive) : Store Drive :=
  (d.allPads.map fun p => (p, f (p / 32) (p % 32))).filter fun e => e.2 ≠ .highZ

/-- Entry to STOP or STANDBY: STOPV is applied to each GPIO pad; hold keeps what the pad drove (Table 9.7). -/
def Device.stopPads (d : Device) : Device :=
  let f (t i : Nat) : Drive := match d.fld (Reg.PAD_CFG t i) 8 2 with
    | 0 => if d.safePads then d.safeValue t i else d.functionDrive Engine.out t i
    | 1 => .zero
    | 2 => .one
    | _ => .highZ
  { d with pad := { d.pad with stop := d.drives f } }

/-- Entry to DOZE latches every GPIO pad (R293). -/
def Device.dozePads (d : Device) : Device := { d with pad := { d.pad with doze := d.drives d.padDrive } }

/-- Entry to DEEP-SLEEP closes every pad latch (R294). -/
def Device.latchPads (d : Device) : Device :=
  let d1 := { d with pad := { d.pad with deep := d.drives d.padDrive } }
  (List.range d.cfg.tiles).foldl (fun e t => e.setFlag (Reg.PAD_LATCH t) 0 true) d1

/-- Entry to STOP: what was running stops as Table 17.5 gives it for the mode left. -/
def Device.enterStop (d : Device) : Device := d.stopPads.setMode .stop

end Sys2Proof.Machine
end

