-- ==== Sys2Proof/Machine/Raise.lean ====
section
/-! DEFINITION. Parking by the device, the entry to SAFE (R522), and FAULT_CLASSIFY: what every event of a Ringmaster
source does (R437 to R443, R445). -/

namespace Sys2Proof.Machine

/-- Nothing of the berth is in flight and no bollard or commit wait holds it (R31, R348). -/
def Berth.idle (x : Berth) : Bool :=
  x.loads.isEmpty && x.stores.isEmpty && x.writes.isEmpty && (x.reads.all fun r => !r.sent || r.value.isSome) &&
  match x.wait with
  | .bollard _ _ _ _ _ _ => false
  | .commit _ _ => false
  | .status _ _ => false
  | .entering _ _ _ => false
  | .record _ => false
  | _ => true

/-- The stall of a timing breach ends once the berth's operations have (R50). -/
def Berth.unstall (x : Berth) : Berth :=
  if x.wait = .breach ∧ x.loads.isEmpty ∧ x.stores.isEmpty then { x with wait := .none } else x

/-- A berth asked to park leaves WAITT, WAITE or SLEEP at once, with a wake cause of zero (R31). -/
def Berth.leaveWait (x : Berth) : Berth :=
  match x.wait with
  | .waitt rd _ => x.endWait rd false 0
  | .waite rd _ => x.endWait rd false 0
  | .sleep rd _ => x.endWait rd false 0
  | _ => x

/-- After an operation of a berth has ended: the stall of a breach may end with it (R50), and a berth asked to park is shown as
parked once its entries are empty (R31). -/
def Device.settlePark (d : Device) (b : Nat) : Device :=
  let d1 := d.setBerth b (d.berth b).unstall
  if d1.parkAsked b && (d1.berth b).idle then (d1.setBerth b { d1.berth b with reads := [] }).setParked b true else d1

/-- A berth no longer waits for an entry of a pool (R45). -/
def Device.dropNeed (d : Device) (b : Nat) : Device :=
  { d with car := { d.car with
      needLoad := d.car.needLoad.filter (· != b), needStore := d.car.needStore.filter (· != b) } }

/-- A park request of one berth (R31). -/
def Device.parkBerth (d : Device) (b : Nat) : Device :=
  let d1 := ((d.dropNeed b).setParkAsk b true).setBerth b (d.berth b).leaveWait
  d1.settlePark b

/-- Every present berth but those kept is parked (R519, R522). A berth that nothing has touched is idle. -/
def Device.parkAll (d : Device) (keep : Nat → Bool) : Device :=
  let d1 := (d.berths.map Prod.fst).foldl (fun e b =>
    if keep b || !e.present b then e else e.setBerth b (e.berth b).leaveWait) d
  (List.range d.cfg.cores).foldl (fun e c =>
    if e.twinHigh c then e else
    let asked := (List.range 16).foldl (fun m i => if keep (16 * c + i) then m else m + 2 ^ i) 0
    let idle := (List.range 16).foldl (fun m i =>
      if !keep (16 * c + i) && (e.berth (16 * c + i)).idle then m + 2 ^ i else m) 0
    (e.wr (Reg.CAR_PARKREQ c) (e.rd (Reg.CAR_PARKREQ c) ||| asked)).wr (Reg.CAR_PARKED c)
      (e.rd (Reg.CAR_PARKED c) ||| idle)) d1

/-! ### Commits that fail -/

def manifestDefault (_ : Nat) : Option Manifest := none

/-- A manifest, by handle or 16 + class. -/
def Device.manifest (d : Device) (h : Nat) : Option Manifest := d.scn.manifests.get manifestDefault h

def Device.setManifest (d : Device) (h : Nat) (m : Option Manifest) : Device :=
  { d with scn := { d.scn with manifests := d.scn.manifests.put manifestDefault h m } }

/-- A fed MCOMMIT that waits for manifest h has its status (R493). -/
def Device.fedStatus (d : Device) (h status : Nat) : Device :=
  match d.dbg.fedWait with
  | .commit rd m => if m = h then { d with dbg := { d.dbg with fedWait := .status rd status } } else d
  | _ => d

/-- A berth that waits for manifest h receives its status and leaves the wait (R135, R348), at the resume where its core
is halted (R489); so does a fed MCOMMIT. -/
def Device.commitStatus (d : Device) (h status : Nat) : Device :=
  (d.berths.map Prod.fst).foldl (fun e b =>
    let x := e.berth b
    match x.wait with
    | .commit rd m =>
      if m ≠ h then e
      else if e.coreHalted (coreOf b) then e.setBerth b { x with wait := .status rd status }
      else (e.setBerth b ({ x with wait := .none }.setReg rd (BitVec.ofNat 32 status))).settlePark b
    | _ => e) (d.fedStatus h status)

/-- A slot that no round has reached. -/
def sgDefault (_ : Nat) : SgState where
  known := false
  round := 0
  v := 0
  vd := 0
  coord := 0
  since := 0
  undecided := false
  voted := false
  no := 0
  joined := []
  outcome := .unknown
  last := .unknown
  unsure := []
  isolated := false
  rtt := 0
  votes := []
  noes := []
  decided := .unknown
  reason := 0
  alternate := false
  pulsed := none

def Device.sg (d : Device) (j : Nat) : SgState := d.bey.groups.get sgDefault j

def Device.setSg (d : Device) (j : Nat) (x : SgState) : Device :=
  { d with bey := { d.bey with groups := d.bey.groups.put sgDefault j x } }

/-- A manifest leaves the rounds whose votes cover it. -/
def Device.leaveRounds (d : Device) (h : Nat) : Device :=
  (List.range 16).foldl (fun e j =>
    if (e.sg j).joined.any fun p => p.1 == h then
      e.setSg j { e.sg j with joined := (e.sg j).joined.filter fun p => p.1 != h }
    else e) d

/-- Closes a manifest with a status to its waiters (R346, R356). -/
def Device.closeManifest (d : Device) (h status : Nat) : Device := ((d.setManifest h none).leaveRounds h).commitStatus h status

/-- A failure status word (R349). -/
def mftFail (code : Nat) : Nat := 2 ^ 31 + code

/-- Commits that have not begun fail with their status (R522): LATE for a scheduled one, ABORTED for one of a sync group;
for any other the spec names no code, so its code is a free value. A class commit fails when the unit comes to it. -/
def Device.failCommits (d : Device) : Device :=
  let d1 := (List.range 16).foldl (fun e h =>
    match e.manifest h with
    | some m =>
      if m.committed = false then e
      else if m.sync then e.closeManifest h (mftFail 0x13)
      else if m.instant.isSome then e.closeManifest h (mftFail 0x11)
      else (e.closeManifest h (mftFail (bitsOf (Config.freeValue e.draws).toNat 0 8))).draw
    | none => e) d
  let classes := (List.range 16).filter fun c => (d1.manifest (16 + c)).isSome
  { d1 with scn := { d1.scn with queue := classes.map Commit.failed } }

/-! ### SAFE and the switchover -/

/-- A mode from which the device enters SAFE: SERVICE to DEEP-SLEEP (Table 17.5), and FACTORY, where only the hardware actions of
R451 and R525 do it (R441; notes/assumptions/32.md). -/
def Mode.safeFrom : Mode → Bool
  | .service | .stop | .run | .standby | .halt | .doze | .deepSleep | .factory => true
  | _ => false

/-- A wake from DEEP-SLEEP is under way for a cause of PWR_STAT.WAKE (R521): 1 a fabric channel, 2 Ringmaster. -/
def Device.wakeFor (d : Device) (cause : Nat) : Device :=
  if d.mode = .deepSleep ∧ d.pwr.wake.isNone then { d with pwr := { d.pwr with wake := some cause } } else d

/-- A reaction that ends DEEP-SLEEP is performed at the wake it causes (R443). -/
def Device.deferReaction (d : Device) (n reaction : Nat) : Device :=
  { d.wakeFor 2 with rms := { d.rms with deferred := d.rms.deferred ++ [(n, reaction)] } }

/-- SAFE_ENTRY (R522): engines stop, commits that have not begun fail, every berth but PWR_RECOV.BERTH is parked. In
DEEP-SLEEP the entry waits for the wake it causes (R443). -/
def Device.enterSafe (d : Device) : Device :=
  if d.mode.safeFrom = false then d
  else if d.mode = .deepSleep then d.deferReaction 256 3
  else
    let recov := d.fld Reg.PWR_RECOV 0 9
    (((d.enginesStop fun _ => false).failCommits).parkAll (· == recov)).enterFrom .safe

/-- A Safety Net flag is set, or ROLE or READY changes: line 30 of NET_SNNB.BERTH (R434). -/
def Device.snNotice (d : Device) : Device := d.setLine (d.fld Reg.NET_SNNB 0 9) 30

/-- A flag of NET_SNSTAT takes a value; one that is set gives notice (R434). -/
def Device.snFlag (d : Device) (bit : Nat) (v : Bool) : Device :=
  if d.flag Reg.NET_SNSTAT bit = v then d
  else if v then (d.setFlag Reg.NET_SNSTAT bit true).snNotice else d.setFlag Reg.NET_SNSTAT bit false

/-- SN_POE has come to 1 since a state that stood, while ROLE did not change: NET_SNSTAT.POE is set, and notice is given (R434). -/
def Device.poeNotice (d was : Device) : Device := if d.snPoe && !was.snPoe then d.snNotice else d

/-- ROLE or READY has changed: an HB is due, and notice is given (R414, R434). -/
def Device.snChange (d : Device) : Device := { d with sn := { d.sn with hbDue := true } }.snNotice

/-- ROLE takes a value (R434). -/
def Device.setRole (d : Device) (r : Nat) : Device :=
  if d.snRole = r then d else (d.setFld Reg.NET_SNSTAT 0 3 r).snChange

/-- READY takes a value (R434). -/
def Device.setReady (d : Device) (v : Bool) : Device :=
  if d.flag Reg.NET_SNSTAT 3 = v then d else (d.setFlag Reg.NET_SNSTAT 3 v).snChange

/-- The pairing record is written (R433, Tables 5.14 and 13.6): CYCLE is APPLIED of a device that paired as standby, CCYC of
one that paired as active. -/
def Device.writePairing (d : Device) (role cause : Nat) : Device :=
  let cyc := if d.sn.asked = 1 then d.rd Reg.NET_SNACK else d.rd Reg.NET_SNCYC
  let p := leBytes 4 (d.rd Reg.NET_SNID) ++ leBytes 1 role ++ leBytes 1 cause ++ leBytes 2 0 ++
    leBytes 8 d.sn.partnerId ++ leBytes 4 d.sn.takeovers ++ leBytes 4 cyc ++ leBytes 4 d.sn.age ++ leBytes 4 0 ++
    leBytes 8 d.tb.now.toNat
  d.writeRecord 0x100 0x180 128 3 p

/-- Resynchronisation is over on this device: the gate it holds for activity 2 is released (R432). -/
def Device.resyncEnd (d : Device) : Device :=
  if d.flag Reg.NET_SNSTAT 5 then
    let d1 := d.snFlag 5 false
    let gate := match d1.scn.gate with
      | some g => if g.activity = 2 then none else some g
      | none => none
    { d1 with
      sn := { d1.sn with rsLines := [], rsSent := 0, rsDone := false }
      scn := { d1.scn with gate := gate } }
  else d

/-- What an active held for its partner is dropped; it pairs again only as standby (R430). -/
def Device.leavePair (d : Device) : Device :=
  { d with sn := { d.sn with handedOver := true, logs := [], rsDue := false, relock := false, invalid := false } }

/-- SWITCHOVER_REACTION (R430): an active sends FAULT, releases its role, ends a resynchronisation with the gate it holds and, unless SAFE
prevails (R26), moves from RUN to STOP; a standby is no longer ready. Either writes its pairing record (R433). -/
def Device.switchover (d : Device) (src : Nat) (safe : Bool) : Device :=
  if d.snRole = 2 then
    let d1 := (((d.snSend [snFrame 0x46 0 (leBytes 8 src)]).setReady false).setRole 0).resyncEnd
    let d2 := d1.leavePair.writePairing 0 3
    if d2.mode = .run ∧ safe = false then
      let keep := d2.rd64 Reg.PWR_STOPRUN
      ((d2.enginesStop (bitOf keep)).parkAll fun _ => false).enterStop
    else d2
  else if d.snRole = 3 then (d.setReady false).writePairing 3 3
  else d

/-! ### Classification -/

/-- The timebase value (R318). -/
def Device.tbNow (d : Device) : Nat := d.tb.now.toNat

/-- The window W of a source in timebase units, within 1 µs and 60 s (R437). -/
def Device.rmsWindow (d : Device) (n : Nat) : Nat :=
  let v := d.fld (Reg.RMS_WIN n) 0 10
  let u := d.fld (Reg.RMS_WIN n) 12 2
  let w := (if v = 0 then 1 else v) * (if u = 0 then 250 else if u = 1 then 250000 else 250000000)
  min (max w 250) 15000000000

/-- Entries are being written to the retained store: after the search of R444, and outside DEEP-SLEEP (R443). -/
def Device.logRuns (d : Device) : Bool := d.rms.ready && d.mode != Mode.deepSleep && !d.isolated

/-- The head of the queue begins to be written, unless it is being written: its STAMP, and for an entry the pending count it carries
(R445). -/
def Device.logBegin (d : Device) : Device :=
  match d.logRuns && !d.rms.writing, d.rms.queue with
  | true, .entry .. :: _ => { d with rms := { d.rms with writing := true, began := d.tbNow, gap := d.rms.lost, lost := 0 } }
  | true, .count :: _ => { d with rms := { d.rms with writing := true, began := d.tbNow, gap := 0 } }
  | _, _ => d

/-- An item goes into the queue ahead of every entry but the one in progress. -/
def Device.logAhead (d : Device) (it : LogItem) : List LogItem :=
  match d.rms.writing, d.rms.queue with
  | true, h :: r => h :: it :: r
  | _, q => it :: q

/-- Queues a fault-log entry (R445): one that carries RESET goes ahead of every queued entry but the one being written;
an event that finds the queue full is counted. -/
def Device.logEntry (d : Device) (it : LogItem) (first : Bool) : Device :=
  let room := (d.rms.queue.filter fun i => i != LogItem.count).length
  if 32 ≤ room then
    { d with rms := { d.rms with lost := d.rms.lost + 1 } }.bump Reg.RMS_LOG 16 16
  else
    let was := d.rms.queue
    let q := if first then d.logAhead it else was ++ [it]
    let d1 := { d with rms := { d.rms with queue := q } }
    if was.isEmpty then d1.logBegin else d1

/-- The changes of mode of Table 14.2 for the reactions of one cycle, by source (R438, R441): where any of them is SAFE or RESET, SAFE
alone changes the mode (R26). In FACTORY none is performed; source 256 is a hardware action, which every mode performs. -/
def Device.reactAll (d : Device) (rs : List (Nat × Nat)) : Device :=
  let paired := d.snRole == 2 || d.snRole == 3
  let own := if d.mode = .factory then rs.filter fun r => r.1 == 256 else rs
  let safe := own.any fun r => decide (3 ≤ r.2) || (r.2 == 2 && !paired)
  let d1 := own.foldl (fun e r => if paired ∧ 2 ≤ r.2 ∧ r.1 < 256 then e.switchover r.1 safe else e) d
  let d2 := if safe then d1.enterSafe else d1
  let d3 := { d2 with pwr := { d2.pwr with again := d.pwr.again } }
  if own.any fun r => decide (4 ≤ r.2) then { d3 with rms := { d3.rms with resetDue := some .ringmaster } } else d3

/-- The change of mode of one reaction. -/
def Device.reactMode (d : Device) (n reaction : Nat) : Device := d.reactAll [(n, reaction)]

/-- The effects of IRQ, which every reaction but LOG includes (Table 14.2). -/
def Device.reactIrq (d : Device) (n reaction : Nat) : Device :=
  if reaction = 0 ∨ 256 ≤ n then d else ((d.setLine (d.fld Reg.RMS_NB 0 9) 26).hostSource 0).pulse 0x52

/-- The reaction ends DEEP-SLEEP, and waits for the wake: SAFE, RESET, or a SWITCHOVER that acts as SAFE (R441, R443). -/
def Device.endsSleep (d : Device) (reaction : Nat) : Bool :=
  d.mode == .deepSleep && (decide (3 ≤ reaction) || (reaction == 2 && d.snRole != 2 && d.snRole != 3))

/-- Reactions of Table 14.2 from IRQ upward (R441). -/
def Device.react (d : Device) (n reaction : Nat) : Device :=
  if d.endsSleep reaction then d.deferReaction n reaction else (d.reactIrq n reaction).reactMode n reaction

/-- Class and reaction of source n at a count c, and whether it has escalated: an event of class FATAL acts as SAFE at least, and
of a source whose base class is fixed an ESC below BASE acts as BASE; of a fixed source N changes nothing (R436, R437, R441). -/
def Device.verdict (d : Device) (n c : Nat) : Nat × Nat × Bool :=
  let cfg := d.rd (Reg.RMS_CFG n)
  let lim := if bitsOf cfg 16 8 = 0 then 1 else bitsOf cfg 16 8
  let esc := decide (lim ≤ c) || n == 0x3A || n == 0x3E
  let base := bitsOf cfg 0 2
  let cls := if esc then (if n = 0x39 ∨ n = 0x3C then max (bitsOf cfg 2 2) base else bitsOf cfg 2 2) else base
  let r0 := min (if esc then bitsOf cfg 8 3 else bitsOf cfg 4 3) 4
  (cls, if cls = 3 then max r0 3 else r0, esc)

/-- The count of an event in the window of its source, one that the event opens where the last has ended (R437). -/
def Device.countEvent (d : Device) (n : Nat) : Nat × Device :=
  let t := d.tbNow
  let c := d.fld (Reg.RMS_STATN n) 8 8
  if c = 0 ∨ t ≥ d.rms.windows.get (fun _ => 0) n + d.rmsWindow n then
    (1, { d with rms := { d.rms with windows := d.rms.windows.put (fun _ => 0) n t } })
  else (min (c + 1) 255, d)

/-- What an event of source n does to its state word and the fault log at a count c (R438 to R441). -/
def Device.noteEvent (d : Device) (n c detail : Nat) (inj : Bool) : Device :=
  let (cls, react, esc) := d.verdict n c
  let st := max (d.rmsClass n) (cls + 1)
  let d1 := d.wr (Reg.RMS_STATN n) (setBits (setBits (d.rd (Reg.RMS_STATN n)) 0 3 st) 8 8 c)
  let flags := bit01 esc + 4 * bit01 inj
  if cls = 0 ∧ d.flag (Reg.RMS_CFG n) 11 = false then d1
  else d1.logEntry (.entry n (cls + 1) react flags c d1.mode.code detail d.tbNow) (react == 4)

/-- What an event of source n does at a count c: its state word, its entry of the fault log, its reaction and the FAULT level
(R438 to R441). -/
def Device.classifyAt (d : Device) (n c detail : Nat) (inj : Bool) : Device :=
  ((d.noteEvent n c detail inj).react n (d.verdict n c).2.1).followFault

/-- An event that TOTAL has counted: where its source is enabled it is classified at its count (R437). -/
def Device.classifyCounted (d : Device) (n detail : Nat) (inj : Bool) : Device :=
  if d.flag (Reg.RMS_CFG n) 12 then (d.countEvent n).2.classifyAt n (d.countEvent n).1 detail inj else d

/-- FAULT_CLASSIFY: an event of source n with its DETAIL (R437 to R441). `inj` marks an injected event (R446). -/
def Device.classify (d : Device) (n detail : Nat) (inj : Bool) : Device :=
  if rmsExists n then (d.bump (Reg.RMS_STATN n) 16 16).classifyCounted n detail inj else d

/-- A source of a tile that the configuration lacks never raises (R436). -/
def Device.rmsHere (d : Device) (n : Nat) : Bool :=
  if (0x08 ≤ n ∧ n < 0x20) ∨ (0x40 ≤ n ∧ n < 0x48) then decide (n % 8 < d.cfg.tiles) else true

/-- An event of a Ringmaster source. -/
def Device.raise (d : Device) (n detail : Nat) : Device :=
  if d.rmsHere n then d.classify n (detail % 2 ^ 24) false else d

/-- Events of several sources in one cycle, each with its DETAIL (R438): classified in ascending order, each logged and with its own
IRQ effects; their changes of mode are those that R26 lets act. -/
def Device.raiseAll (d : Device) (evs : List (Nat × Nat)) : Device :=
  if evs.isEmpty then d else
  let r := evs.foldl (fun (r : Device × List (Nat × Nat)) ev =>
    let n := ev.1
    if r.1.rmsHere n = false ∨ rmsExists n = false then r
    else
      let e := r.1.bump (Reg.RMS_STATN n) 16 16
      if e.flag (Reg.RMS_CFG n) 12 = false then (e, r.2)
      else
        let c := (e.countEvent n).1
        let f := (e.countEvent n).2.noteEvent n c (ev.2 % 2 ^ 24) false
        let k := ((e.countEvent n).2.verdict n c).2.1
        if f.endsSleep k then (f.deferReaction n k, r.2) else (f.reactIrq n k, r.2 ++ [(n, k)])) (d, [])
  (r.1.reactAll r.2).followFault

/-- CONSUMER_OVERRUN: a flag of EVF_OVR is set, which raises EVF_OVERRUN with the register's bits (R312, Table 10.2). -/
def Device.evfOverrun (d : Device) (bit : Nat) : Device :=
  let d1 := d.setFlag Reg.EVF_OVR bit true
  d1.raise 0x04 (d1.fld Reg.EVF_OVR 0 5)

/-- A level source's condition becomes true or false: COND follows, and a rise raises one event (R435). -/
def Device.raiseLevel (d : Device) (n detail : Nat) (v : Bool) : Device :=
  let was := d.flag (Reg.RMS_STATN n) 3
  let d1 := d.setFlag (Reg.RMS_STATN n) 3 v
  if v && !was then d1.raise n detail else d1

/-- Conditions of several level sources in one cycle, each with its DETAIL (R435, R438). -/
def Device.raiseLevels (d : Device) (ls : List (Nat × Nat × Bool)) : Device :=
  let rises := ls.filter fun l => l.2.2 && !d.flag (Reg.RMS_STATN l.1) 3
  (ls.foldl (fun e l => e.setFlag (Reg.RMS_STATN l.1) 3 l.2.2) d).raiseAll (rises.map fun l => (l.1, l.2.1))

/-- The level sources of Table 14.1. -/
def levelSources : List Nat := [0x2A, 0x38, 0x39, 0x3A, 0x3B, 0x3C]

/-- The level sources whose condition still holds, each with the reaction that its count gives, where that is to change the mode: a
SWITCHOVER of a standby changes none. -/
def Device.holding (d : Device) : List (Nat × Nat) :=
  (levelSources.filter fun n => d.flag (Reg.RMS_STATN n) 3 && d.flag (Reg.RMS_CFG n) 12).map
    (fun n => (n, (d.verdict n (d.fld (Reg.RMS_STATN n) 8 8)).2.1)) |>.filter fun r =>
      decide (3 ≤ r.2) || (r.2 == 2 && d.snRole != 3)

/-- Conditions that still hold act again from the new mode (R26). -/
def Device.standing (d : Device) : Device :=
  let e := d.reactAll d.holding
  { e with pwr := { e.pwr with again := false } }

/-- The mode has changed: what still holds acts again (R26). In DEEP-SLEEP it acts at the wake. -/
def Device.actAgain (d : Device) : Device := if d.pwr.again && d.mode != .deepSleep then d.standing else d

end Sys2Proof.Machine
end

