-- ==== Sys2Proof/Machine/Memory.lean ====
section
/-! DEFINITION. The memories (chapter 5): where an address lies (Table 5.1), SECDED on every read and write (R169,
R170, R179), dirty lines (R163), and the check of every write against the bollard tracking table (R185). -/

namespace Sys2Proof.Machine

/-! ### Where an address lies -/

/-- What an address names (Table 5.1). -/
inductive Place where
  | sram (tile off : Nat)
  | image (off : Nat)
  | imageBit (bit : Nat)
  | retained (off : Nat)
  | window (off : Nat)
  | external (addr : Nat)
  deriving DecidableEq, Repr

/-- The place of an address; the own-tile alias exists for a berth only (R148 to R151). -/
def placeOf (c : Straps) (own : Option Nat) (a : Nat) : Option Place :=
  if a < 0x200000 then own.map fun t => .sram t a
  else if 0x100000000 ≤ a ∧ a < 0x108000000 then
    let t := (a - 0x100000000) / 0x1000000
    let o := (a - 0x100000000) % 0x1000000
    if t < c.tiles ∧ o < 0x200000 then some (.sram t o) else none
  else if imageBase ≤ a ∧ a < imageBase + c.imageSize then some (.image (a - imageBase))
  else if bitBase ≤ a ∧ a < bitBase + 32 * c.imageSize then some (.imageBit ((a - bitBase) / 4))
  else if retainedBase ≤ a ∧ a < retainedBase + 0x200000 then some (.retained (a - retainedBase))
  else if windowBase ≤ a ∧ a < windowBase + 0x1000000 then some (.window (a - windowBase))
  else if 2 ^ 49 ≤ a ∧ a < 2 ^ 49 + 2 ^ 48 then some (.external (a - 2 ^ 49))
  else none

/-- The global address of a place in one of the memories (R181: a bollard is named by its global address). -/
def Place.global : Place → Option Nat
  | .sram t o => some (sramBase t + o)
  | .image o => some (imageBase + o)
  | .retained o => some (retainedBase + o)
  | _ => none

/-- The memory an address belongs to for the orderings of R173: 0 to 7 the tile SRAMs, 8 the Image Store, 9 the
retained store, 10 the control window, 11 the external region. -/
def Place.memory : Place → Nat
  | .sram t _ => t
  | .image _ => 8
  | .imageBit _ => 8
  | .retained _ => 9
  | .window _ => 10
  | .external _ => 11

/-! ### SECDED -/

/-- A correctable error is counted, logged and raised (R170, R179); class 1 DATA, 2 CHECK. -/
def Device.countCe (d : Device) (agent a cls : Nat) : Device :=
  ((d.bump Reg.MEM_ECCSTAT 0 16).wr64 Reg.MEM_CELOG (a / 8 * 8 + 2 ^ 50 * cls + 2 ^ 52 * agent + 2 ^ 63)).raise 0x21 agent

/-- An uncorrectable error is counted, logged unless a record stands, and raised (R170, R179). -/
def Device.countUe (d : Device) (agent a : Nat) : Device :=
  let d1 := d.bump Reg.MEM_ECCSTAT 16 16
  let d2 := if d1.flag (Reg.MEM_UELOG + 4) 31 then d1
    else d1.wr64 Reg.MEM_UELOG (a / 8 * 8 + 2 ^ 50 * 3 + 2 ^ 52 * agent + 2 ^ 63)
  d2.raise 0x22 agent

/-- A read of the word at an address checks its syndrome (Table 5.8): false where nothing is delivered. -/
def Device.checkRead (d : Device) (agent a : Nat) : Bool × Device :=
  match d.eccAt a with
  | .clean => (true, d)
  | .data => (true, d.countCe agent a 1)
  | .check => (true, d.countCe agent a 2)
  | .uncorrectable => (false, d.countUe agent a)

/-- A read of at most 8 bytes inside one word, with its check. -/
def Device.memRead (d : Device) (agent a n : Nat) : Option Nat × Device :=
  match d.checkRead agent a with
  | (true, d1) => (some (d.value a n), d1)
  | (false, d1) => (none, d1)

/-- Words in error among those that hold `n` bytes from an address, lowest first. -/
def Device.badWords (d : Device) (a n : Nat) : List Nat :=
  (d.mem.ecc.map Prod.fst).filter fun w => decide (a < 8 * w + 8) && decide (8 * w < a + n)

/-- Every word of `n` bytes from an address is read and checked (R169): false where one of them delivers nothing. -/
def Device.checkSpan (d : Device) (agent a n : Nat) : Bool × Device :=
  (d.badWords a n).foldl (fun r w => let q := r.2.checkRead agent (8 * w); (r.1 && q.1, q.2)) (true, d)

/-- A read of any number of bytes; none where some word is uncorrectable. -/
def Device.readSpan (d : Device) (agent a n : Nat) : Option (List Byte) × Device :=
  let r := d.checkSpan agent a n
  (if r.1 then some (d.bytesAt a n) else none, r.2)

/-- A record of the retained store is read (R167, R169). -/
def Device.checkRecord (d : Device) (agent off room : Nat) : Device :=
  (d.checkSpan agent (retainedBase + off) (d.recordSpan off room)).2

/-! ### Writes -/

/-- The tracking entry that holds a word's address (R182), with its number. -/
def Device.tracked (d : Device) (a : Nat) : Option (Nat × BolEntry) :=
  d.bol.entries.findSome? fun e =>
    match e.2 with
    | some x => if x.addr = a then some (e.1, x) else none
    | none => none

def bolDefault (_ : Nat) : Option BolEntry := none

def Device.setEntry (d : Device) (n : Nat) (e : Option BolEntry) : Device :=
  { d with bol := { d.bol with entries := d.bol.entries.put bolDefault n e } }

/-- CLOBBER (R185): what a write by another path did to a tracked word, given the word's value before. -/
def Device.clobberCheck (d : Device) (path w before : Nat) : Device :=
  match d.tracked w with
  | none => d
  | some (n, e) =>
    let after := d.value w 4
    if after / 2 ^ 15 = before / 2 ^ 15 then d.setEntry n (some { e with user := after % 2 ^ 15 })
    else (d.bump Reg.BOL_CNT 24 4).raise 0x24 path

/-- The line of an address has a dirty bit: a tile SRAM's or the working image's (R163). -/
def lineTracked (c : Straps) (a : Nat) : Bool :=
  (decide (0x100000000 ≤ a) && decide (a < 0x108000000)) ||
  (decide (imageBase ≤ a) && decide (a < imageBase + 2 * c.imageS))

def Device.markDirty (d : Device) (a : Nat) : Device :=
  if lineTracked d.cfg a then
    { d with mem := { d.mem with dirty := d.mem.dirty.put (fun _ => false) (a / 64) true } }
  else d

/-- A write of bytes inside one word of a memory, of the whole word or of a part of it. A write narrower than an
uncorrectable word is discarded and counted (R170); one narrower than a correctable word reads and corrects it; a whole
word is written afresh. A write by a berth, a port or a commit marks its line (R163), and every write is checked against
the tracking table. -/
def Device.wordWrite (d : Device) (agent path a : Nat) (whole : Bool) (bs : List Byte) : Device :=
  let e := d.eccAt a
  if e = .uncorrectable ∧ whole = false then d.countUe agent a
  else
    let d1 := if whole then d else (d.checkRead agent a).2
    let w0 := a / 4 * 4
    let old0 := d.value w0 4
    let old1 := d.value (w0 + 4) 4
    let d2 := (d1.setEcc a .clean).poke a bs
    let d2 := if path = 6 ∨ path = 8 then d2 else d2.markDirty a
    let d3 := d2.clobberCheck path w0 old0
    if a % 4 + bs.length > 4 then d3.clobberCheck path (w0 + 4) old1 else d3

/-- A write of at most 8 contiguous bytes inside one word of a memory. -/
def Device.memWrite (d : Device) (agent path a : Nat) (bs : List Byte) : Device :=
  d.wordWrite agent path a (decide (bs.length = 8)) bs

/-- A write of any number of bytes, byte group by word. -/
def Device.writeSpan (d : Device) (agent path a : Nat) (bs : List Byte) : Device :=
  let rec go (fuel : Nat) (d : Device) (a : Nat) (bs : List Byte) : Device :=
    match fuel with
    | 0 => d
    | f + 1 =>
      if bs.isEmpty then d else
      let n := 8 - a % 8
      go f (d.memWrite agent path a (bs.take n)) (a + n) (bs.drop n)
  go (bs.length + 1) d a bs

/-- The Image Store may be written there by berths, ports and commits: its working image (Table 5.7). -/
def imageWritable (c : Straps) (off : Nat) : Bool := decide (off < 2 * c.imageS)

/-- A bit of the Image Store as an address and a bit place (R82). -/
def bitAddr (bit : Nat) : Nat := imageBase + bit / 8

/-- Image bit `b` as stored. -/
def Device.imageBit (d : Device) (bit : Nat) : Bool := bitOf (d.byte (bitAddr bit)).toNat (bit % 8)

/-- One indivisible write of an image bit (R132, R161): the byte's other bits stand. -/
def Device.setImageBit (d : Device) (agent bit : Nat) (v : Bool) : Device :=
  let a := bitAddr bit
  let b := setBits (d.byte a).toNat (bit % 8) 1 (bit01 v)
  d.memWrite agent 7 a [BitVec.ofNat 8 b]

end Sys2Proof.Machine
end

