-- ==== Sys2Proof/Machine/Bollard.lean ====
section
/-! DEFINITION. The atomic units and the tracking table (chapter 6): the lock word, every transition of Table 6.3,
waiting, granting, inheritance, deadlock, abandonment, force and hand-over. -/

namespace Sys2Proof.Machine

/-- The OWNER value of a holder (Table 6.1). -/
def Holder.owner : Holder → Nat
  | .berth n => n
  | .host => 1023
  | .gangway => 1023

/-- AGENT of a holder (Table 6.9). -/
def Holder.agent : Holder → Nat
  | .berth _ => 0
  | .host => 1
  | .gangway => 2

/-- A lock word from its fields (Table 6.1). -/
def lockWord (state : Nat) (inh : Bool) (epoch owner user : Nat) : Nat :=
  state % 4 * 2 ^ 30 + bit01 inh * 2 ^ 29 + epoch % 16 * 2 ^ 25 + owner % 1024 * 2 ^ 15 + user % 2 ^ 15

/-- The word a HELD entry shows (R183). -/
def BolEntry.word (e : BolEntry) : Nat := lockWord 1 e.inh e.epoch e.holder.owner e.user

/-- A status word (R187): code, the word's EPOCH, and bit 31 unless it acquired or released. -/
def bolStatus (code epoch : Nat) : Nat := code + epoch % 16 * 256 + (if code < 0x10 then 0 else 2 ^ 31)

/-- The agent of Table 5.11 for whom the unit reads a word of a holder's. -/
def Holder.reader : Holder → Nat
  | .berth _ => 0
  | .host => 3
  | .gangway => 4

/-- The atomic unit's own write of a lock word it has read without an uncorrectable error: part of its 8-byte word, so a
correctable error there is corrected; the tracking table is not consulted (R183). -/
def Device.unitWrite (d : Device) (a v : Nat) : Device := ((d.setEcc a .clean).poke a (leBytes 4 v)).markDirty a

/-- A read-modify-write of a lock word that no operation on it has read: to an uncorrectable word it is discarded (R170). -/
def Device.unitUpdate (d : Device) (agent a v : Nat) : Device :=
  let r := d.checkRead agent a
  if r.1 then r.2.unitWrite a v else r.2

/-- The status of an operation on an uncorrectable lock word by a requester that takes no exception: Table 6.2 gives none, so its
code and EPOCH are free, and bit 31 is 1 since nothing was acquired or released (notes/assumptions/59.md). -/
def Device.freeStatus (d : Device) : Nat := 2 ^ 31 + (Config.freeValue d.draws).toNat % 2 ^ 12

/-- Entries in use, and the peak (Table 6.5). -/
def Device.bolUsed (d : Device) : Nat := (d.bol.entries.filter fun e => e.2.isSome).length

def Device.bolPeak (d : Device) : Device :=
  if d.fld Reg.BOL_STAT 16 11 < d.bolUsed then d.setFld Reg.BOL_STAT 16 11 d.bolUsed else d

/-- The lowest free entry of the table (R182). -/
def Device.freeEntry (d : Device) : Option Nat :=
  (List.range d.cfg.bollards).find? fun n => (d.bol.entries.get bolDefault n).isNone

/-! ### Waiters and priority -/

/-- The wait of a berth on a bollard: address, arrival, status register, INH and USER of its request. -/
def Berth.bolWait (x : Berth) : Option (Nat × Nat × Nat × Bool × Nat) :=
  match x.wait with
  | .bollard rd a arr _ inh user => some (a, arr, rd, inh, user)
  | _ => none

/-- Berths that wait on a word. -/
def Device.waiters (d : Device) (a : Nat) : List Nat :=
  (d.berths.filter fun e => match e.2.bolWait with
    | some (w, _) => w == a
    | none => false).map Prod.fst

/-- A berth's own Midway priority (R40). -/
def Device.prio (d : Device) (b : Nat) : Nat := d.fld (Reg.CAR_BCFG (coreOf b) (b % 16)) 4 3

/-- PRIORITY_INHERIT: effective priority, with what the waiters on the INH words a berth holds pass on, along the
chain (R198, R199). A timed holder inherits nothing. -/
def Device.eprioOf (d : Device) : Nat → Nat → Nat
  | 0, b => d.prio b
  | f + 1, b =>
    if d.timed b then d.prio b else
    d.bol.entries.foldl (fun m e => match e.2 with
      | some x => if x.holder = .berth b ∧ x.inh = true then
          (d.waiters x.addr).foldl (fun k w => max k (Device.eprioOf d f w)) m
        else m
      | none => m) (d.prio b)

/-- Effective priority of a berth (R40). -/
def Device.eprio (d : Device) (b : Nat) : Nat := d.eprioOf (d.bolUsed + 1) b

/-- Arrival of a waiter (R194). -/
def Device.arrivalOf (d : Device) (b : Nat) : Nat :=
  match (d.berth b).bolWait with
  | some (_, arr, _) => arr
  | none => 0

/-- Waiter x stands before waiter y: higher effective priority, then earlier arrival, then lower berth (R194). -/
def Device.before (d : Device) (x y : Nat) : Bool :=
  let p := d.eprio x
  let q := d.eprio y
  decide (q < p) || (p == q && (decide (d.arrivalOf x < d.arrivalOf y) ||
    (d.arrivalOf x == d.arrivalOf y && decide (x < y))))

/-- The first waiter on a word (R194). -/
def Device.firstWaiter (d : Device) (a : Nat) : Option Nat :=
  (d.waiters a).foldl (fun m b => match m with
    | none => some b
    | some c => if d.before b c then some b else some c) none

/-- A waiting BACQ returns a status (R193, R196). -/
def Device.endBolWait (d : Device) (b status : Nat) : Device :=
  match (d.berth b).wait with
  | .bollard rd _ _ _ _ _ =>
    (d.setBerth b ({ d.berth b with wait := .none }.setReg rd (BitVec.ofNat 32 status))).settlePark b
  | _ => d

/-! ### Acquire and release -/

/-- Records an acquire of an untracked word: a free entry is taken and the word written HELD (R188, R190, R191). The
status, or TABLE_FULL where no entry is free. DESIGN CHOICE (notes/assumptions/65.md): BOL_FULL's DETAIL of a TRY of the Gangway carries its
OWNER number, 1,023, where R366 numbers it 1,022. -/
def Device.acquireNew (d : Device) (who : Holder) (a : Nat) (inh : Bool) (user : Nat) : Nat × Device :=
  let w := d.value a 4
  let st := bitsOf w 30 2
  let epoch := bitsOf w 25 4
  match d.freeEntry with
  | none => (bolStatus 0x13 epoch, (d.bump Reg.BOL_CNT 16 8).raise 0x23 who.owner)
  | some n =>
    let ep := if st = 1 then (epoch + 1) % 16 else epoch
    let code := if st = 0 then 0x00 else if st = 3 then 0x02 else 0x01
    let e : BolEntry := ⟨a, who, inh, ep, user % 2 ^ 15⟩
    (bolStatus code ep, (((d.setEntry n (some e)).unitWrite a e.word)).bolPeak)

/-- BTRY and the host's TRY (R190). -/
def Device.bolTry (d : Device) (who : Holder) (a : Nat) (inh : Bool) (user : Nat) : Nat × Device :=
  match d.tracked a with
  | none => d.acquireNew who a inh user
  | some (_, e) => (bolStatus (if e.holder = who then 0x14 else 0x10) e.epoch, d)

/-- BREL and the host's REL; BOLLARD_GRANT hands the word to the first waiter (R189, R194). DESIGN CHOICE (notes/assumptions/65.md): after a
forced release without waiters the former holder's BREL finds the word FORCED, and returns NOTHELD as Table 6.3 has it, where the last
sentence of R204 says NOTOWNER. -/
def Device.bolRelease (d : Device) (who : Holder) (a : Nat) : Nat × Device :=
  match d.tracked a with
  | none => (bolStatus 0x16 (bitsOf (d.value a 4) 25 4), d)
  | some (n, e) =>
    if e.holder ≠ who then (bolStatus 0x15 e.epoch, d)
    else match d.firstWaiter a with
      | none => (bolStatus 0x03 e.epoch, (d.setEntry n none).unitWrite a (lockWord 0 false e.epoch 0 e.user))
      | some b =>
        match (d.berth b).bolWait with
        | some (_, _, _, inh, user) =>
          let f : BolEntry := ⟨a, .berth b, inh, e.epoch, user⟩
          (bolStatus 0x03 e.epoch,
            ((d.setEntry n (some f)).unitWrite a f.word).endBolWait b (bolStatus 0x00 e.epoch))
        | none => (bolStatus 0x03 e.epoch, d)

/-- The berth at the other end of a wait: the holder of the word a berth waits on. -/
def Device.waitsFor (d : Device) (b : Nat) : Option Holder :=
  match (d.berth b).bolWait with
  | some (a, _) => (d.tracked a).map fun p => p.2.holder
  | none => none

/-- DEADLOCK_CHECK (R200): the wait-for chain from a holder, at most `n` links, comes back to the requester. -/
def Device.closes (d : Device) (b : Nat) : Nat → Holder → Bool
  | 0, _ => false
  | n + 1, h =>
    if h = .berth b then true else
    match h with
    | .berth c => (match d.waitsFor c with
      | some g => Device.closes d b n g
      | none => false)
    | _ => false

/-- BACQ (R190, R193, R197, R200): a status at once, or none while the berth waits. DESIGN CHOICE (notes/assumptions/59.md): a
write of BOL_TMOb during a wait does not move its end. -/
def Device.bolAcquire (d : Device) (b a : Nat) (inh : Bool) (user rd : Nat) : Option Nat × Device :=
  match d.tracked a with
  | none => let r := d.acquireNew (.berth b) a inh user; (some r.1, r.2)
  | some (_, e) =>
    if e.holder = .berth b then (some (bolStatus 0x14 e.epoch), d)
    else
      let tmo := d.rd (Reg.BOL_TMO b)
      if tmo = 0 then (some (bolStatus 0x11 e.epoch), d.bump Reg.BOL_CNT 8 8)
      else if d.closes b 8 e.holder then (some (bolStatus 0x12 e.epoch), d.bump Reg.BOL_CNT 0 8)
      else
        let w : Wait := .bollard rd a d.bol.arrival (d.tbNow + tmo) inh user
        let d1 := d.setBerth b { d.berth b with wait := w }
        (none, { d1 with bol := { d1.bol with arrival := d1.bol.arrival + 1 } })

/-! ### Timeout, abandonment, force -/

/-- The wait of berth b ends with TIMEOUT once the timebase has reached its limit (R197). -/
def Device.bolTimeout (d : Device) (b : Nat) : Device :=
  match (d.berth b).wait with
  | .bollard _ a _ limit _ _ =>
    if limit ≤ d.tbNow then
      let ep := match d.tracked a with
        | some (_, e) => e.epoch
        | none => bitsOf (d.value a 4) 25 4
      (d.endBolWait b (bolStatus 0x11 ep)).bump Reg.BOL_CNT 8 8
    else d
  | _ => d

/-- ABANDON: every bollard that a master holds is abandoned, and its waiters return ABANDONED (R202). -/
def Device.abandon (d : Device) (holds : Holder → Bool) : Device :=
  d.bol.entries.foldl (fun g p => match p.2 with
    | some e =>
      if holds e.holder then
        let ep := (e.epoch + 1) % 16
        let g1 := ((g.setEntry p.1 none).unitUpdate e.holder.reader e.addr (lockWord 2 e.inh ep e.holder.owner e.user)).bump
          Reg.BOL_CNT 28 4
        (g1.waiters e.addr).foldl (fun h b => h.endBolWait b (bolStatus 0x17 ep)) g1
      else g
    | none => g) d

/-- A global address in a tile SRAM or the Image Store, word aligned (R204, R205: BADADDR otherwise). DESIGN CHOICE
(notes/assumptions/59.md): an Image Store word outside the working image, and a word of an unpowered tile, is such an address. -/
def bolAddrOk (c : Straps) (a : Nat) : Bool :=
  a % 4 == 0 && match placeOf c none a with
    | some (.sram _ _) => true
    | some (.image _) => true
    | _ => false

/-- The entry of a HELD word, allocated first where the word is untracked (R204). -/
def Device.heldEntry (d : Device) (a : Nat) : Option (Nat × BolEntry) :=
  match d.tracked a with
  | some p => some p
  | none => d.freeEntry.map fun n =>
      let w := d.value a 4
      let o := bitsOf w 15 10
      (n, ⟨a, if o = 1023 then .host else .berth o, bitOf w 29, bitsOf w 25 4, bitsOf w 0 15⟩)

/-- BOL_FORCE (R204) on a word that has been read: MODE 0 a forced release, MODE 1 (some berth) a hand-over. DESIGN CHOICE
(notes/assumptions/59.md): an entry that a forced release allocates and frees at once does not count in BOL_STAT.PEAK. -/
def Device.bolForceWord (d : Device) (a : Nat) (dest : Option Nat) : Nat × Device :=
    let ep0 := match d.tracked a with
      | some p => p.2.epoch
      | none => bitsOf (d.value a 4) 25 4
    let gone := match dest with
      | some b => !d.present b
      | none => false
    if gone then (bolStatus 0x18 ep0, match dest with
      | some b => d.countAbsent b
      | none => d)
    else if (d.tracked a).isNone ∧ bitsOf (d.value a 4) 30 2 ≠ 1 then (bolStatus 0x16 ep0, d)
    else match d.heldEntry a with
      | none => (bolStatus 0x13 ep0, d.bump Reg.BOL_CNT 16 8)
      | some (n, e) =>
        let ep := (e.epoch + 1) % 16
        match dest with
        | some b =>
          let req := match (d.berth b).bolWait with
            | some (w, _, _, inh, user) => if w = a then some (inh, user) else none
            | none => none
          let f : BolEntry := ⟨a, .berth b, (req.map Prod.fst).getD e.inh, ep, (req.map Prod.snd).getD e.user⟩
          let d1 := ((d.setEntry n (some f)).unitWrite a f.word).bolPeak
          (bolStatus 0x00 ep, if req.isSome then d1.endBolWait b (bolStatus 0x02 ep) else d1)
        | none =>
          match d.firstWaiter a with
          | some b =>
            (match (d.berth b).bolWait with
            | some (_, _, _, inh, user) =>
              let f : BolEntry := ⟨a, .berth b, inh, ep, user⟩
              (bolStatus 0x00 ep,
                ((d.setEntry n (some f)).unitWrite a f.word).endBolWait b (bolStatus 0x02 ep))
            | none => (bolStatus 0x00 ep, d))
          | none =>
            (bolStatus 0x00 ep, (d.setEntry n none).unitWrite a (lockWord 3 e.inh ep e.holder.owner e.user))

/-- BOL_FORCE (R204): the outcome for BOL_FST, for a writer of an agent of Table 5.11. DESIGN CHOICE (notes/assumptions/59.md):
EPOCH of BADADDR, where there is no lock word, is 0. -/
def Device.bolForce (d : Device) (agent a : Nat) (dest : Option Nat) : Nat × Device :=
  if bolAddrOk d.cfg a = false then (bolStatus 0x19 0, d)
  else
    let r := d.checkRead agent a
    if r.1 then r.2.bolForceWord a dest else (r.2.freeStatus, r.2.draw)

/-- The host's and the Gangway's operation (R205): OP 1 TRY, 2 REL; 0 and 3 have no effect. The outcome, if any; on an
uncorrectable word the operation has no effect (R170, R187). -/
def Device.hostBol (d : Device) (who : Holder) (a op : Nat) (inh : Bool) (user : Nat) : Option Nat × Device :=
  if op = 0 ∨ 3 ≤ op then (none, d)
  else if bolAddrOk d.cfg a = false then (some (bolStatus 0x19 0), d)
  else
    let q := d.checkRead who.reader a
    if q.1 = false then (some q.2.freeStatus, q.2.draw)
    else
      let r := if op = 1 then q.2.bolTry who a inh user else q.2.bolRelease who a
      (some r.1, r.2)

end Sys2Proof.Machine
end

