-- ==== Sys2Proof/Machine/Pads.lean ====
section
/-! DEFINITION. The pads (chapter 9): the routed inputs and the comparators, safe-force, and what each write of a
pad register and each change at a pad does. -/

namespace Sys2Proof.Machine

/-! ### Read-back and routed inputs -/

/-- PAD_IN (R283). -/
def Device.padInWord (d : Device) (t : Nat) : Nat :=
  (List.range 32).foldl (fun m i => if d.padIn t i then m + 2 ^ i else m) 0

/-- PAD_FSELj (R301). -/
def Device.padFsel (d : Device) (t j : Nat) : Nat :=
  (List.range 8).foldl (fun m n => m + d.padFunction t (8 * j + n) * 2 ^ (4 * n)) 0

/-- Pads that name a routed input (R277). -/
def Device.routedPads (d : Device) (n : Nat) : List Nat :=
  d.allPads.filter fun p => d.fld (Reg.PAD_CFG (p / 32) (p % 32)) 20 5 == n

/-- The level of a routed input: its one pad's, else the default 0 (R277, Table 9.3). -/
def Device.routedLevel (d : Device) (n : Nat) : Bool :=
  match d.routedPads n with
  | [p] => d.padIn (p / 32) (p % 32)
  | _ => false

/-- A routed input takes a level: PADEV0 to PADEV15 are producers 0x01 to 0x10; a rising edge of LPT_ZC or TB_PPS is
sampled at the next TCLK edge (R323, R325, R529). -/
def Device.routeTo (d : Device) (n : Nat) (was now : Bool) : Device :=
  if 3 ≤ n then d.setLevel (n - 2) now
  else if was = true ∨ now = false then d
  else if n = 2 then (if d.flag Reg.TB_CTRL 1 then { d with tb := { d.tb with pps := d.tb.pps ++ [d.tbNow + 1] } } else d)
  else if d.fld Reg.LPT_CFG 0 2 = 1 then
    { d with lpt := { d.lpt with arrivals := d.lpt.arrivals ++
        [(d.lpt.edges + 1, (d.lpt.acc + d.rd Reg.LPT_INC) % 2 ^ 48)] } }
  else d

/-- The routed inputs follow a change of pads or of configuration from an earlier state `b`; a new conflict raises
PAD_CONFLICT (R277). -/
def Device.followRoutes (d b : Device) : Device :=
  (List.range' 1 18).foldl (fun e n =>
    let c := decide (2 ≤ (d.routedPads n).length)
    let e1 := e.setFlag Reg.PAD_INCONF n c
    let e2 := if c && !b.flag Reg.PAD_INCONF n then e1.raise 0x06 n else e1
    e2.routeTo n (b.routedLevel n) (d.routedLevel n)) d

/-! ### Comparators -/

/-- Comparator c runs: its pad has the comparator function (R291). -/
def Device.cmpRuns (d : Device) (c : Nat) : Bool :=
  decide (c < d.cfg.comparators) && d.padFunction (c / 2) (30 + c % 2) == 1 && !d.isolated

/-- A comparator's output takes a level (R292). -/
def Device.cmpLevel (d : Device) (c : Nat) (v : Bool) : Device :=
  (d.setFlag (Reg.PAD_CMP (c / 2) (c % 2)) 16 v).setLevel (0x11 + c) v

/-- HYST in millivolts (R291). -/
def hystMv (h : Nat) : Nat := match h with
  | 0 => 0
  | 1 => 10
  | 2 => 20
  | _ => 40

/-- The output of a comparator with an input of `u` microvolts, from the output it had (R291): compared with the threshold, or
with the threshold less the hysteresis on the way back; none within the 4 LSB to which the threshold is accurate. Voltages
are compared in units of 1/1,024 µV, of which an LSB has 1,800,000. -/
def cmpOutput (thr hyst : Nat) (below was : Bool) (u : Nat) : Option Bool :=
  let at_ : Int := 1800000 * thr
  let back : Int := if was then 1024000 * hystMv hyst else 0
  let point := if below then at_ + back else at_ - back
  let v : Int := 1024 * u
  if point + 4 * 1800000 < v then some (!below)
  else if v < point - 4 * 1800000 then some below
  else none

/-- A comparator's input is compared again: an output left open by the threshold's accuracy, or by a write less than 200 ns ago, is
a free level (R291, R292). DESIGN CHOICE (notes/assumptions/65.md): before its first COMPARATOR_TRIP an input lies at 0 µV. -/
def Device.cmpEval (d : Device) (c : Nat) : Device :=
  let r := Reg.PAD_CMP (c / 2) (c % 2)
  let open_ := d.pad.cmpDue.any fun p => p.1 == c
  match cmpOutput (d.fld r 0 10) (d.fld r 10 2) (d.flag r 12) (d.flag r 16) (d.pad.cmpIn.get (fun _ => 0) c), open_ with
  | some v, false => d.cmpLevel c v
  | _, _ => (d.cmpLevel c (Config.freeLevel d.draws)).draw

/-- The input of comparator c reaches a voltage; the output of a running comparator follows (R291). -/
def Device.cmpTrip (d : Device) (c u : Nat) : Device :=
  let d1 := { d with pad := { d.pad with cmpIn := d.pad.cmpIn.put (fun _ => 0) c u } }
  if d1.cmpRuns c then d1.cmpEval c else d1

/-- The comparators follow a change of the pads' functions: one that begins to run compares its input, and one that does not
run has output 0 (R291, R292). -/
def Device.followCmps (d b : Device) : Device :=
  (List.range d.cfg.comparators).foldl (fun e c =>
    if e.cmpRuns c = false then e.cmpLevel c false
    else if b.cmpRuns c then e
    else e.cmpEval c) d

/-- A TCLK edge of the comparators: 200 ns after a write of PAD_CMPk the output is defined again (R292). -/
def Device.cmpTick (d : Device) : Device :=
  let due := d.pad.cmpDue.filter fun p => p.2 ≤ 1
  let left := (d.pad.cmpDue.filter fun p => 1 < p.2).map fun p => (p.1, p.2 - 1)
  due.foldl (fun e p => if e.cmpRuns p.1 then e.cmpEval p.1 else e) { d with pad := { d.pad with cmpDue := left } }

/-! ### Writes -/

/-- A write of PAD_CFGi (R274, R276, R277, R279, R287). -/
def Device.padCfgWrite (d : Device) (who : Identity) (t i v : Nat) : Device :=
  let old := d.rd (Reg.PAD_CFG t i)
  let keep := v % 2 ^ 25
  let new := if i < 30 then setBits keep 7 1 0 else keep
  if new = old then d
  else if d.padPermit who t i = false then d.padDeny t
  else
    let d1 := if bitOf old 4 ∧ bitOf new 4 = false then d.setFlag (Reg.PAD_DOUT t) i (bitOf (d.imageWord t) i) else d
    (((d1.wr (Reg.PAD_CFG t i) new).followRoutes d).followCmps d)

/-- A write of PAD_DOUT, bit by bit (R279, R286). -/
def Device.padDoutWrite (d : Device) (who : Identity) (t v : Nat) : Device :=
  let old := d.rd (Reg.PAD_DOUT t)
  let new := (List.range 32).foldl (fun m i =>
    m + bit01 (if d.padPermit who t i then bitOf v i else bitOf old i) * 2 ^ i) 0
  let d1 := d.wr (Reg.PAD_DOUT t) new
  if new = v % 2 ^ 32 then d1 else d1.padDeny t

/-- The channel of a pad's safe-force is asserted (R288, R289). -/
def Device.forceHeld (d : Device) (t i : Nat) : Bool :=
  d.flag (Reg.PAD_CFG t i) 10 && d.chLevel (d.fld (Reg.PAD_CFG t i) 13 7)

/-- A write of PAD_SFST: a permitted 1 releases a pad whose channel is no longer asserted (R279, R289). -/
def Device.padSfstWrite (d : Device) (who : Identity) (t v : Nat) : Device :=
  let old := d.rd (Reg.PAD_SFST t)
  let new := (List.range 32).foldl (fun m i =>
    m + bit01 (bitOf old i && !(bitOf v i && d.padPermit who t i && !d.forceHeld t i)) * 2 ^ i) 0
  let refused := (List.range 32).any fun i => bitOf v i && bitOf old i && !d.padPermit who t i
  let d1 := d.wr (Reg.PAD_SFST t) new
  if refused then d1.padDeny t else d1

/-- SAFE_FORCE: an assertion of channel n sets PAD_SFST of every pad that watches it (R288). -/
def Device.safeForce (d : Device) (n : Nat) : Device :=
  (List.range d.cfg.tiles).foldl (fun e t =>
    let hit := (List.range 32).foldl (fun m i =>
      if e.flag (Reg.PAD_CFG t i) 10 && e.fld (Reg.PAD_CFG t i) 13 7 == n then m + 2 ^ i else m) 0
    if hit = 0 then e else e.wr (Reg.PAD_SFST t) (e.rd (Reg.PAD_SFST t) ||| hit)) d

/-- PAD_OWNi, PAD_LOCK, PAD_CMPk and PAD_IMGB accept SECURE writers only (R279). -/
def Device.secureWrite (d : Device) (who : Identity) (t : Nat) (f : Device → Device) : Device :=
  if who = .secure then f d else d.padDeny t

/-- A write of PAD_OWNi (R278, R280, R300). -/
def Device.padOwnWrite (d : Device) (who : Identity) (t i v : Nat) : Device :=
  d.secureWrite who t fun e => if e.flag (Reg.PAD_LOCK t) 0 then e else e.wr (Reg.PAD_OWN t i) (v % 2 ^ 7)

/-- A write of PAD_LOCK (R280): once set, LOCK stays set. -/
def Device.padLockWrite (d : Device) (who : Identity) (t v : Nat) : Device :=
  d.secureWrite who t fun e => e.setFlag (Reg.PAD_LOCK t) 0 (bitOf v 0 || e.flag (Reg.PAD_LOCK t) 0)

/-- A write of PAD_IMGB (R284, R301): bits at or above the working-image size read as 0. -/
def Device.padImgbWrite (d : Device) (who : Identity) (t v : Nat) : Device :=
  d.secureWrite who t fun e => e.setFld (Reg.PAD_IMGB t) 4 17 (v % (2 * e.cfg.imageS) / 16)

/-- A write of PAD_CMPk (R292, R303): for 200 ns, 50 TCLK edges, the output of the comparator is undefined while it runs: a free
level. -/
def Device.padCmpWrite (d : Device) (who : Identity) (t k v : Nat) : Device :=
  d.secureWrite who t fun e =>
    let c := 2 * t + k
    let e1 := e.setFld (Reg.PAD_CMP t k) 0 13 v
    if e.fld (Reg.PAD_CMP t k) 0 13 = v % 2 ^ 13 then e1
    else
      let e2 := { e1 with pad := { e1.pad with cmpDue := e1.pad.cmpDue.filter (fun (p : Nat × Nat) => p.1 != c) ++ [(c, 50)] } }
      if e2.cmpRuns c then e2.cmpEval c else e2

/-- PAD_LATCH.REL opens the tile's latches (R294). -/
def Device.latchRelease (d : Device) (t v : Nat) : Device :=
  if bitOf v 8 then
    let d1 := d.setFlag (Reg.PAD_LATCH t) 0 false
    { d1 with pad := { d1.pad with deep := d1.pad.deep.filter fun e => e.1 / 32 != t } }
  else d

/-- PAD_STAT.CLR clears DENY (R302). -/
def Device.denyClear (d : Device) (t v : Nat) : Device := if bitOf v 31 then d.setFld (Reg.PAD_STAT t) 0 16 0 else d

/-- Pads of a mask that a data write reaches: GPIO function in direct mode (R136, R285). -/
def Device.padDirect (d : Device) (t i : Nat) : Bool := d.padFunction t i == 0 && !d.flag (Reg.PAD_CFG t i) 4

/-- OUTP, OUTPM and MPIN kind 0: the pads of a mask that qualify take their bits; every other pad of the mask is
unchanged, and DENY counts the instruction or action once (R136, R279, R285). -/
def Device.padMaskWrite (d : Device) (who : Identity) (t mask values : Nat) : Device :=
  let ok (i : Nat) : Bool := d.padDirect t i && d.padPermit who t i
  let old := d.rd (Reg.PAD_DOUT t)
  let new := (List.range 32).foldl (fun m i =>
    m + bit01 (if bitOf mask i && ok i then bitOf values i else bitOf old i) * 2 ^ i) 0
  let refused := (List.range 32).any fun i => bitOf mask i && !ok i
  let d1 := d.wr (Reg.PAD_DOUT t) new
  if refused then d1.padDeny t else d1

end Sys2Proof.Machine
end

