-- ==== Sys2Proof/Machine/Engine.lean ====
section
/-! DEFINITION. The engine instructions (R221 to R232): the 16-bit word as Table 7.2 gives it, which command a word
belongs to, and what each executes at its tick; and the completion of what waits, stalls or delays. -/

namespace Sys2Proof.Machine

/-- An engine instruction as Table 7.2 spells it, or the error code of Table 7.7 that stops the engine. -/
inductive PeInstr where
  | nop
  | stop
  | jmp (cond target : Nat)
  | wait (pol : Bool) (kind index : Nat)
  | shiftIn (src n : Nat)
  | shiftOut (dst n : Nat)
  | push (hold due : Bool)
  | pull (hold due : Bool)
  | mov (dst op src : Nat)
  | set (dst data : Nat)
  | edge (pin : Nat) (v : Bool) (ph : Nat) (a : Bool)
  | cnt (op : Nat)
  | flag (v w line : Bool) (index : Nat)
  | dly (n : Nat)
  | error (code : Nat)
  deriving DecidableEq, Repr

/-- A shift count: 0 means 32 (Table 7.2). -/
def shiftN (n : Nat) : Nat := if n = 0 then 32 else n

/-- A WAIT of Table 7.4, or OPERAND. -/
def peWait (pol : Bool) (kind index : Nat) : PeInstr :=
  let ok := match kind with
    | 0 => decide (index < 32)
    | 1 => decide (index < 32)
    | 2 => decide (index < 8)
    | 3 => decide (index < 128) || (index == 0x80 && pol)
    | 4 => decide (index < 16)
    | 7 => index == 0 && pol
    | _ => index == 0
  if ok then .wait pol kind index else .error 3

/-- The instruction that a program word is (Table 7.2, Table 7.7). -/
def peDecode (w : Nat) : PeInstr :=
  let f := bitsOf w
  let zero (c : Bool) (i : PeInstr) : PeInstr := if c then i else .error 1
  match f 12 4 with
  | 0x0 => zero (f 0 8 == 0) (if f 8 4 = 0 then .nop else if f 8 4 = 1 then .stop else .error 1)
  | 0x1 => zero (f 6 2 == 0 && decide (f 8 4 ≤ 11)) (.jmp (f 8 4) (f 0 6))
  | 0x2 => peWait (bitOf w 11) (f 8 3) (f 0 8)
  | 0x3 => zero (!bitOf w 11 && f 5 3 == 0 && f 8 3 != 7) (.shiftIn (f 8 3) (shiftN (f 0 5)))
  | 0x4 => zero (!bitOf w 11 && f 5 3 == 0 && f 8 3 != 7) (.shiftOut (f 8 3) (shiftN (f 0 5)))
  | 0x5 => zero (f 0 9 == 0)
      (if bitOf w 11 then .pull (bitOf w 10) (bitOf w 9) else .push (bitOf w 10) (bitOf w 9))
  | 0x6 => zero (f 4 2 == 0 && decide (f 8 4 ≤ 12) && decide (f 0 4 ≤ 8))
      (if f 6 2 = 3 ∧ ¬ (f 8 4 = 2 ∨ f 8 4 = 3 ∨ (7 ≤ f 8 4 ∧ f 8 4 ≤ 9)) then .error 3
       else .mov (f 8 4) (f 6 2) (f 0 4))
  | 0x7 => zero (!bitOf w 11 && f 5 3 == 0 && decide (f 8 3 ≤ 3)) (.set (f 8 3) (f 0 5))
  | 0x8 => zero (f 0 2 == 0) (.edge (f 7 5) (bitOf w 6) (f 3 3) (bitOf w 2))
  | 0x9 => zero (f 0 10 == 0 && decide (f 10 2 ≤ 2)) (.cnt (f 10 2))
  | 0xA => zero (f 4 4 == 0 && decide (f 8 2 ≤ 1))
      (if (f 8 2 = 0 ∧ 8 ≤ f 0 4) ∨ (bitOf w 10 = true ∧ bitOf w 11 = false) then .error 3
       else .flag (bitOf w 11) (bitOf w 10) (f 8 2 == 1) (f 0 4))
  | 0xB => .dly (f 0 12)
  | _ => .error 1

/-- The commands of the table that execute engine instructions. -/
inductive PeRow where
  | nop | stop | jmp | wait | shiftIn | shiftOut | push | pull | mov | set | edge | cntClr | cntInc | cntArm
  | flag | dly | undefined
  deriving DecidableEq, Repr

/-- The command that a program word belongs to, by its opcode (Table 7.2). -/
def peRow (w : Nat) : PeRow :=
  match bitsOf w 12 4 with
  | 0x0 => if bitsOf w 8 4 = 1 then .stop else .nop
  | 0x1 => .jmp
  | 0x2 => .wait
  | 0x3 => .shiftIn
  | 0x4 => .shiftOut
  | 0x5 => if bitOf w 11 then .pull else .push
  | 0x6 => .mov
  | 0x7 => .set
  | 0x8 => .edge
  | 0x9 => if bitsOf w 10 2 = 1 then .cntInc else if bitsOf w 10 2 = 2 then .cntArm else .cntClr
  | 0xA => .flag
  | 0xB => .dly
  | _ => .undefined

/-! ### Program counter, errors and completion -/

/-- PC after an instruction that does not transfer control (R222). -/
def Engine.nextPc (x : Engine) : Nat :=
  if x.flag peWrap 15 ∧ x.pc = x.fld peWrap 8 6 then x.fld peWrap 0 6 else (x.pc + 1) % 64

/-- The engine goes on to the next instruction, with its wait over. -/
def Engine.advance (x : Engine) : Engine := { x with pc := x.nextPc, wait := .none }

/-- Replaces the engine by its image under a function that advances it, and the divider goes on. -/
def Device.engStep (d : Device) (e : Nat) (f : Engine → Engine) : Device := d.engUpdate e (f (d.engine e)).pass

/-- ENGINE_ERROR (R232): the engine stops at the instruction with ERR set. -/
def Device.engError (d : Device) (e code : Nat) : Device :=
  let x := { ((d.engine e).setFld peStat 22 2 code).pass with run := false, wait := .none }
  ((d.setEngine e x).raise (0x18 + e / 8) (e + 256 * code)).engEvent e 6

/-! ### Sources and destinations -/

/-- The value read at each offset of the engine's run. -/
def Device.enginePins (d : Device) (e : Nat) : Nat :=
  (List.range 32).foldl (fun m i => if d.enginePin e i then m + 2 ^ i else m) 0

/-- The line-phase shadow PH (R244): the tracker's phase as of the latest TCLK edge, and at the two ECLK edges that follow it
one third and two thirds of the increment on; on BOSC it follows the phase word alone (R514). -/
def Device.enginePh (d : Device) (e : Nat) : Nat :=
  let thirds := if d.flag Reg.CLK_STAT 2 then 0 else min (d.engine e).lead 3 - 1
  bitsOf (d.lpt.acc + thirds * d.rd Reg.LPT_INC / 3) 16 32

/-- A source of Table 7.5. -/
def Device.inSource (d : Device) (e src : Nat) : Nat :=
  let x := d.engine e
  match src with
  | 0 => d.enginePins e
  | 1 => x.rg peX
  | 2 => x.rg peY
  | 4 => x.rg peTsh
  | 5 => x.rg peCnt
  | 6 => d.enginePh e
  | _ => 0

/-- A source of Table 7.6. -/
def Device.movSource (d : Device) (e src : Nat) : Nat :=
  let x := d.engine e
  match src with
  | 0 => d.enginePins e
  | 1 => x.rg peX
  | 2 => x.rg peY
  | 3 => x.rg peRsh
  | 4 => x.rg peTsh
  | 5 => x.rg peCnt
  | 6 => d.enginePh e
  | 7 => x.rg peImgout
  | _ => 0

/-- Writes the low `n` bits of a value to the pads at offsets 0 to n − 1, at the next ECLK edge (R219). -/
def Device.pinsWrite (d : Device) (e n v : Nat) : Device :=
  (List.range n).foldl (fun g i => g.placePin e i (bitOf v i) (8 * ((g.engine e).passed + 1))) d

/-- Writes the low `n` bits of a value to PE_PDIR, at the offsets that name a pad (R213, R219). -/
def Engine.pdirWrite (x : Engine) (n v : Nat) : Engine :=
  x.pdirSet ((List.range 32).foldl (fun m i =>
    m + bit01 (if i < n ∧ (x.padOf i).isSome then bitOf v i else x.flag pePdir i) * 2 ^ i) 0)

/-- RXLEN and TXLEN; 0 stands for 32. -/
def Engine.rxlen (x : Engine) : Nat := shiftN (x.fld peShift 4 5)
def Engine.txlen (x : Engine) : Nat := shiftN (x.fld peShift 9 5)
def Engine.tleft (x : Engine) : Nat := x.fld peScnt 0 6
def Engine.rfil (x : Engine) : Nat := x.fld peScnt 8 6

/-- RSH appended to the RX FIFO (R226). -/
def Engine.pushed (x : Engine) : Engine :=
  { (x.setRg peRsh 0).setFld peScnt 8 6 0 with rx := x.rx ++ [BitVec.ofNat 32 (x.rg peRsh)] }

/-- TSH loaded from the TX FIFO (R226). -/
def Engine.pulled (x : Engine) : Engine :=
  match x.tx with
  | v :: r => { (x.setRg peTsh v.toNat).setFld peScnt 0 6 x.txlen with tx := r }
  | [] => x

/-- The engine enters a stall (R238). -/
def Device.engStall (d : Device) (e : Nat) (w : EngWait) : Device :=
  let x := d.engine e
  (d.engUpdate e { (x.setFld peStall 0 16 (satInc (x.fld peStall 0 16) 0xFFFF)).pass with wait := w }).engEvent e 5

/-! ### Instructions -/

/-- A JMP condition (Table 7.3), with the engine after the decrement of XLOOP and YLOOP. -/
def Device.jmpCond (d : Device) (e cond : Nat) : Bool × Engine :=
  let x := d.engine e
  let dec (r : Nat) : Engine := x.setRg r ((x.rg r + 2 ^ 32 - 1) % 2 ^ 32)
  match cond with
  | 0 => (true, x)
  | 1 => (x.rg peX == 0, x)
  | 2 => ((dec peX).rg peX != 0, dec peX)
  | 3 => (x.rg peY == 0, x)
  | 4 => ((dec peY).rg peY != 0, dec peY)
  | 5 => (x.rg peX != x.rg peY, x)
  | 6 => (d.enginePin e (x.fld peShift 16 5), x)
  | 7 => (x.tleft != 0, x)
  | 8 => (x.matched, x)
  | 9 => (x.cmatch, x)
  | 10 => (!x.tx.isEmpty, x)
  | _ => (decide (x.rx.length < d.fifoDepth e), x)

/-- The condition of a WAIT holds as a level (Table 7.4); of an edge condition, that its transition has been seen. -/
def Device.waitHolds (d : Device) (e : Nat) (pol : Bool) (kind index : Nat) (seen : Bool) : Bool :=
  let x := d.engine e
  let flags := d.tileReg (e / 8) 48
  match kind with
  | 0 => d.enginePin e index == pol
  | 1 => seen || (match x.wait with
    | .cond _ since => d.sawEdge e index since pol
    | _ => false)
  | 2 => bitOf flags index == pol
  | 3 => if index = 0x80 then x.flag peStat 28 else if pol then seen else !d.chLevel index
  | 4 => bitOf flags (8 + index) == pol
  | 5 => x.matched == pol
  | 6 => x.cmatch == pol
  | _ => decide ((d.enginePh e + 2 ^ 32 - x.rg pePhcmp) % 2 ^ 32 < 2 ^ 31)

/-- A WAIT completes at the present edge: the trigger latch is cleared, and under WSYNC the divider restarts (R224). -/
def Device.waitDone (d : Device) (e kind index : Nat) : Device :=
  let x := d.engine e
  let y := if kind = 3 ∧ index = 0x80 then x.setFlag peStat 28 false else x
  let sync := x.flag peClkdiv 0 && (kind == 0 || kind == 1 || kind == 3)
  (d.engUpdate e (if sync then y.advance.divRestart else y.advance)).engEvent e 7

/-- A tile interrupt line rises: lines 1 to 16 of every berth of the tile (R245, R315). -/
def Device.tileLine (d : Device) (t i : Nat) : Device :=
  (((List.range 64).map (64 * t + ·)).filter d.present).foldl (fun g b => g.setLine b (i + 1)) d

/-- Sets tile flags and lines; a line that rises asserts (R245). -/
def Device.tileSet (d : Device) (t mask : Nat) : Device :=
  let old := d.tileReg t 48
  let d1 := d.setTileReg t 48 (old ||| mask % 2 ^ 24)
  (List.range 16).foldl (fun g i => if bitOf mask (8 + i) && !bitOf old (8 + i) then g.tileLine t i else g) d1

/-- Clears tile flags and lines (R245). -/
def Device.tileClear (d : Device) (t mask : Nat) : Device :=
  let old := d.tileReg t 48
  d.setTileReg t 48 (old - (old &&& mask % 2 ^ 24))

/-- Reverses 32 bits. -/
def reverse32 (v : Nat) : Nat := (List.range 32).foldl (fun m i => m + bit01 (bitOf v (31 - i)) * 2 ^ i) 0

/-- f(src) of MOV OP 0 to 2 (R227). -/
def movOp (op v : Nat) : Nat :=
  match op with
  | 1 => 2 ^ 32 - 1 - v % 2 ^ 32
  | 2 => reverse32 v
  | _ => v

/-- The register that a MOV destination names (Table 7.6). -/
def movReg (dst : Nat) : Nat :=
  match dst with
  | 2 => peX
  | 3 => peY
  | 4 => peRsh
  | 5 => peTsh
  | 7 => peCnt
  | 8 => peCntcmp
  | 9 => pePhcmp
  | 10 => peImgin
  | 11 => pePat
  | _ => peMask

/-- MOV (R227). -/
def Device.peMov (d : Device) (e dst op src : Nat) : Device :=
  let x := d.engine e
  let s := d.movSource e src
  let v := if op = 3 then (x.rg (movReg dst) + s) % 2 ^ 32 else movOp op s
  match dst with
  | 0 => (d.pinsWrite e 32 v).engStep e Engine.advance
  | 1 => d.engStep e fun y => (y.pdirWrite 32 v).advance
  | 6 => d.engStep e fun y => { y with pc := v % 64 }
  | _ =>
    d.engStep e fun y =>
      let z := y.setRg (movReg dst) (if dst = 7 ∨ dst = 8 then v % 2 ^ 24 else v)
      (if dst = 4 then z.setFld peScnt 8 6 0 else if dst = 5 then z.setFld peScnt 0 6 z.txlen else z).advance

/-- The shifted RSH of an IN (R225). -/
def shiftInto (right : Bool) (rsh data n : Nat) : Nat :=
  let x := data % 2 ^ n
  if right then rsh / 2 ^ n + x * 2 ^ (32 - n) else (rsh * 2 ^ n + x) % 2 ^ 32

/-- The automatic PUSH of an IN whose data has been shifted (R226). -/
def Device.pushShifted (d : Device) (e : Nat) : Device :=
  let x := { d.engine e with wait := .none }
  if d.fifoDepth e = 0 then d.engError e 2
  else if x.rx.length < d.fifoDepth e then (d.engUpdate e x.pushed.advance.pass).engEvent e 3
  else d.engStall e (.push true)

/-- IN and its automatic PUSH (R225, R226). DESIGN CHOICE (notes/assumptions/65.md): where the PUSH succeeds in the same tick, MATCH and its
event output show only the RSH that the PUSH leaves. -/
def Device.peIn (d : Device) (e src n : Nat) : Device :=
  let x := d.engine e
  let fil := min (x.rfil + n) 32
  let auto := x.flag peShift 2 && decide (x.rxlen ≤ fil)
  if auto && d.fifoDepth e == 0 then d.engError e 2
  else
    let y := (x.setRg peRsh (shiftInto (x.flag peShift 0) (x.rg peRsh) (d.inSource e src) n)).setFld peScnt 8 6 fil
    if auto = false then d.engUpdate e y.advance.pass
    else if y.rx.length < d.fifoDepth e then (d.engUpdate e y.pushed.advance.pass).engEvent e 3
    else (d.engUpdate e y).engStall e (.push true)

/-- The shift of an OUT, once a word is there (R225). -/
def Device.peShiftOut (d : Device) (e dst n : Nat) : Device :=
  let x := d.engine e
  let t := x.rg peTsh
  let right := x.flag peShift 1
  let data := if right then t % 2 ^ n else t / 2 ^ (32 - n)
  let y := (x.setRg peTsh (if right then t / 2 ^ n else t * 2 ^ n % 2 ^ 32)).setFld peScnt 0 6 (x.tleft - n)
  let d1 := d.engUpdate e y
  match dst with
  | 0 => (d1.pinsWrite e n data).engStep e Engine.advance
  | 1 => d1.engStep e fun z => (z.pdirWrite n data).advance
  | 2 => d1.engStep e fun z => (z.setRg peX data).advance
  | 3 => d1.engStep e fun z => (z.setRg peY data).advance
  | 5 => d1.engStep e fun z => { z with pc := data % 64 }
  | 6 => d1.engStep e fun z => ((z.setRg peRsh data).setFld peScnt 8 6 n).advance
  | _ => d1.engStep e Engine.advance

/-- OUT and its automatic PULL (R225, R226). -/
def Device.peOut (d : Device) (e dst n : Nat) : Device :=
  let x := d.engine e
  let auto := x.flag peShift 3 && x.tleft == 0
  if auto = false then d.peShiftOut e dst n
  else if d.fifoDepth e = 0 then d.engError e 2
  else if x.tx.isEmpty then d.engStall e .pull
  else ((d.engUpdate e x.pulled).engEvent e 4).peShiftOut e dst n

/-- PUSH (R226). -/
def Device.pePush (d : Device) (e : Nat) (hold due : Bool) : Device :=
  let x := d.engine e
  if d.fifoDepth e = 0 then d.engError e 2
  else if due && decide (x.rfil < x.rxlen) then d.engStep e Engine.advance
  else if x.rx.length < d.fifoDepth e then (d.engUpdate e x.pushed.advance.pass).engEvent e 3
  else if hold then d.engStall e (.push false)
  else d.engStep e Engine.advance

/-- PULL (R226). -/
def Device.pePull (d : Device) (e : Nat) (hold due : Bool) : Device :=
  let x := d.engine e
  if d.fifoDepth e = 0 then d.engError e 2
  else if due && x.tleft != 0 then d.engStep e Engine.advance
  else if x.tx.isEmpty = false then (d.engUpdate e x.pulled.advance.pass).engEvent e 4
  else if hold then d.engStall e .pull
  else d.engStep e Engine.advance

/-- FLAG (R230). -/
def Device.peFlag (d : Device) (e : Nat) (v w line : Bool) (index : Nat) : Device :=
  let m := 2 ^ (if line then 8 + index else index)
  let d1 := if v then (d.tileSet (e / 8) m).engEvent e 8 else d.tileClear (e / 8) m
  if w then d1.setEngine e { (d1.engine e).pass with wait := .flag } else d1.engStep e Engine.advance

/-- The increments of CNT that an instruction makes at its tick, with those of the counter's source (R229). -/
def PeInstr.increments : PeInstr → Nat
  | .cnt 1 => 1
  | _ => 0

/-- The instruction whose tick falls now (R218), by the word at PC; a CNT INC has counted at the edge of the tick. -/
def Device.peExec (d : Device) (e : Nat) (i : PeInstr) : Device :=
  match i with
  | .nop => d.engStep e Engine.advance
  | .stop => (d.engStep e fun x => { x.advance with run := false }).engEvent e 6
  | .jmp cond target =>
    let r := d.jmpCond e cond
    d.engUpdate e (if r.1 then { r.2 with pc := target } else r.2.advance).pass
  | .wait pol kind index =>
    if kind ≠ 1 ∧ ¬ (kind = 3 ∧ pol = true ∧ index ≠ 0x80) ∧ d.waitHolds e pol kind index false = true then
      (d.setEngine e (d.engine e).pass).waitDone e kind index
    else d.setEngine e { (d.engine e).pass with wait := .cond false (d.engine e).passed }
  | .shiftIn src n => d.peIn e src n
  | .shiftOut dst n => d.peOut e dst n
  | .push hold due => d.pePush e hold due
  | .pull hold due => d.pePull e hold due
  | .mov dst op src => d.peMov e dst op src
  | .set dst data =>
    (match dst with
    | 0 => (d.pinsWrite e 5 data).engStep e Engine.advance
    | 1 => d.engStep e fun x => (x.pdirWrite 5 data).advance
    | 2 => d.engStep e fun x => (x.setRg peX data).advance
    | _ => d.engStep e fun x => (x.setRg peY data).advance)
  | .edge pin v ph a =>
    let x := d.engine e
    let p := ph + (if a then bitsOf x.acc 5 3 else 0)
    (d.placePin e pin v (8 * (x.passed + 1) + p)).engStep e Engine.advance
  | .cnt op =>
    d.engStep e fun x =>
      (if op = 0 then (x.setRg peCnt 0).setFlag peStat 21 false
       else if op = 1 then x
       else x.setFlag peStat 21 false).advance
  | .flag v w line index => d.peFlag e v w line index
  | .dly n => if n = 0 then d.engStep e Engine.advance else d.setEngine e { (d.engine e).pass with wait := .delay n }
  | .error code => d.engError e code

/-- The instruction about to execute is a fence: a PULL or PUSH, or an IN or OUT that would perform an automatic one
(R249). -/
def Device.fenced (d : Device) (e : Nat) : Bool :=
  let x := d.engine e
  match peDecode x.current with
  | .push _ _ => true
  | .pull _ _ => true
  | .shiftIn _ n => x.flag peShift 2 && decide (x.rxlen ≤ min (x.rfil + n) 32)
  | .shiftOut _ _ => x.flag peShift 3 && x.tleft == 0
  | _ => false

/-- The engine executes at its tick: it exists, runs and waits for nothing, its word belongs to the row, and no migration
fence stops it (R218, R249). -/
def Device.peReady (d : Device) (e : Nat) (row : PeRow) : Bool :=
  let x := d.engine e
  d.engPresent e && x.run && (x.wait == .none || x.wait == .shifted) && peRow x.current == row &&
    !(d.awaitsFence e && d.fenced e)

/-- Transitions that the engine's own time has reached are on the pads (R220). -/
def Device.engSettle (d : Device) (e : Nat) : Device := d.setEngine e (d.engine e).settle

/-- One engine command: the engine's own time passes to its tick, whose instruction executes where its word belongs to this
row, or nothing happens (R218). -/
def Device.peCommand (d : Device) (e : Nat) (row : PeRow) : Device :=
  if d.peReady e row then
    let x := d.engine e
    let d1 := (d.engUpdate e (x.toTickWith (peDecode x.current).increments)).engSettle e
    if x.wait = .shifted then d1.pushShifted e else d1.peExec e (peDecode x.current)
  else d

/-! ### What completes later -/

/-- WAIT_COMPLETE (R224): at the `n`th ECLK edge on, the first at least, the condition holds. -/
def Device.waitComplete (d : Device) (e n : Nat) : Device :=
  let x := d.engine e
  match x.wait, peDecode x.current with
  | .cond seen _, .wait pol kind index =>
    let d1 := (d.engUpdate e (x.edges (max n 1))).engSettle e
    if d.engPresent e && x.run && d1.waitHolds e pol kind index seen then d1.waitDone e kind index else d
  | _, _ => d

/-- The engine at the `n`th tick on, the first at least, with those before it passed. -/
def Engine.atTick (x : Engine) (n : Nat) : Engine := (x.waitTicks (n - 1)).toTick.settle

/-- STALL_END (R238): at the `n`th tick the FIFO can serve the stalled operation, which completes. -/
def Device.stallEnd (d : Device) (e n : Nat) : Device :=
  let x := d.engine e
  if !(d.engPresent e && x.run) then d else
  match x.wait with
  | .pull =>
    if x.tx.isEmpty then d
    else
      let d1 := (d.engUpdate e { (x.atTick n).pulled with wait := .none }).engEvent e 4
      (match peDecode x.current with
      | .shiftOut dst k => d1.peShiftOut e dst k
      | _ => d1.engStep e Engine.advance)
  | .push _ =>
    if x.rx.length < d.fifoDepth e then (d.engUpdate e (x.atTick n).pushed.advance.pass).engEvent e 3 else d
  | _ => d

/-- FLAG_WAIT_COMPLETE (R230): the flag or line reads 0 again at the `n`th tick. -/
def Device.flagWaitComplete (d : Device) (e n : Nat) : Device :=
  let x := d.engine e
  match x.wait, peDecode x.current with
  | .flag, .flag _ _ line index =>
    if d.engPresent e && x.run && !bitOf (d.tileReg (e / 8) 48) (if line then 8 + index else index) then
      d.engUpdate e (x.atTick n).advance.pass
    else d
  | _, _ => d

/-- DLY_COMPLETE (R231): the ticks left pass, and the next instruction is due N + 1 ticks after the DLY's own. -/
def Device.dlyComplete (d : Device) (e : Nat) : Device :=
  let x := d.engine e
  match x.wait, peDecode x.current with
  | .delay left, .dly _ => if d.engPresent e && x.run then d.engUpdate e (x.waitTicks left).settle.advance else d
  | _, _ => d

/-! ### What an engine sees of a pad and of a channel -/

/-- A pad's read-back changes: edges are counted, and a WAIT of kind 1 sees its transition (R224, R229). -/
def Device.engPad (d : Device) (t i : Nat) (v : Bool) : Device :=
  (List.range 8).foldl (fun g k =>
    let e := 8 * t + k
    let x := g.engine e
    if !g.engPresent e then g else
    let src := x.fld peCntcfg 0 3
    let counts := x.padOf (x.fld peCntcfg 8 5) == some i &&
      ((src == 2 && v) || (src == 3 && !v) || src == 4)
    let g1 := if counts then g.engUpdate e x.countOne else g
    match x.wait, peDecode x.current with
    | .cond _ since, .wait pol 1 index =>
      if x.padOf index = some i ∧ pol = v then g1.setEngine e { g1.engine e with wait := .cond true since } else g1
    | _, _ => g1) d

/-- EVENT_START, EVENT_STOP, TRIGGER_LATCH and WAIT kind 3 at an assertion of channel n (R241, R243, R246). A stop
prevails over a start. -/
def Device.engChannel (d : Device) (n : Nat) : Device :=
  (List.range d.cfg.engines).foldl (fun g e =>
    if !g.engPresent e then g else
    let cfg := (g.engine e).rg peEvcfg
    let named (lo : Nat) : Bool := bitsOf cfg lo 7 == n && bitOf cfg (lo + 7)
    let g1 := if named 8 then g.engStop e
      else if named 0 then g.engStart e false (bitOf cfg 24) else g
    let g2 := if named 16 then
        (if (g1.engine e).flag peStat 28 then
          (g1.setEngine e ((g1.engine e).setFlag peStat 29 true)).evfOverrun 0
        else g1.setEngine e ((g1.engine e).setFlag peStat 28 true))
      else g1
    let x := g2.engine e
    match x.wait, peDecode x.current with
    | .cond _ since, .wait true 3 index => if index = n then g2.setEngine e { x with wait := .cond true since } else g2
    | _, _ => g2) d

end Sys2Proof.Machine
end

