-- ==== Sys2Proof/Machine/EngineRegs.lean ====
section
/-! DEFINITION. The engine and tile registers as berths and the control window reach them (R234 to R237, R239, R240,
R245, R247, R253, R255), and the migration of a program from one engine to another (R248 to R252). -/

namespace Sys2Proof.Machine

/-- The path of an engine register access: the private port of the tile (a berth's PEWR or PERD), or the control
window, the target port and the Gangway (R236). -/
inductive EnginePath where
  | port
  | window
  deriving DecidableEq, Repr

/-! ### Migration -/

/-- PE_QHBIND: the engine of the tile a handle is bound to (R247). -/
def Device.handleEngine (d : Device) (t n : Nat) : Option Nat :=
  let b := bitsOf (d.tileReg t 55) (4 * n) 4
  if 8 ≤ b then some (b % 8) else none

/-- PE_MIGST with an outcome, a phase and the request (Table 7.19). -/
def migSt (code phase src dst qh : Nat) : Nat := code + 16 * phase + 256 * src + 4096 * dst + 65536 * qh

/-- Replaces CODE and PHASE of PE_MIGST. -/
def Device.setMig (d : Device) (t code phase : Nat) : Device :=
  d.setTileReg t 54 (setBits (setBits (d.tileReg t 54) 0 4 code) 4 2 phase)

/-- Outcome of the checks of Table 7.8, in their order. -/
def Device.migCheck (d : Device) (t src dst qh : Nat) (pads : Bool) : Nat :=
  let y := d.engine (8 * t + dst)
  let odd := d.joined (8 * t + dst) && dst % 2 == 1
  let other := (List.range 8).any fun n => n != qh && d.handleEngine t n == some dst
  if d.migPhase t ≠ 0 then 1
  else if src = dst then 2
  else if y.run ∨ y.err ≠ 0 ∨ (pads = false ∧ y.fld pePins 8 6 ≠ 0) then 3
  else if d.handleEngine t qh ≠ some src ∨ other = true then 4
  else if d.fifoDepth (8 * t + dst) ≠ d.fifoDepth (8 * t + src) ∨ odd = true then 5
  else if d.mode = .run ∧ d.gateIs 4 = false then 6
  else 9

/-- The source of a migration stops at its fence (R249). -/
def Device.fenceAt (d : Device) (t e : Nat) (x : Engine) : Device := (d.setEngine e x.stop).setMig t 9 2

/-- A write of PE_MIG: a request, or a cancel before the fence (R248, R249). PE_MIGST shows the latest request, the refused
ones too; where SRC is stopped or stalled the fence is the request's own edge. -/
def Device.migWrite (d : Device) (t v : Nat) : Device :=
  if bitOf v 15 then (if d.migPhase t = 1 then (d.setMig t 7 0).setMigration t none else d)
  else
    let src := bitsOf v 0 3
    let dst := bitsOf v 4 3
    let qh := bitsOf v 8 3
    let pads := bitOf v 12
    let code := d.migCheck t src dst qh pads
    let d1 := d.setTileReg t 54 (migSt code (if code = 1 then d.migPhase t else if code = 9 then 1 else 0) src dst qh)
    if code ≠ 9 then d1
    else
      let e := 8 * t + src
      let x := d.engine e
      let d2 := d1.setMigration t (some ⟨src, dst, qh, pads, x.wait == .push true || x.wait == .shifted⟩)
      if x.run = false ∨ x.stalled = true then d2.fenceAt t e x else d2

/-- The engine at its fence: the edge of its tick has come, and nothing executes there (R249). -/
def Engine.atFence (x : Engine) : Engine :=
  let y := x.edges (x.now - x.passed - 1)
  { y with passed := y.now }.pass.settle

/-- MIGRATION_FENCE (R249): the source is at the tick of a fence instruction; it stops there. -/
def Device.migFence (d : Device) (t : Nat) : Device :=
  let e := 8 * t + d.migSrc t
  let x := d.engine e
  if d.migPhase t = 1 ∧ x.run = true ∧ x.wait = .none ∧ d.fenced e = true then
    (d.engUpdate e x.atFence).fenceAt t e x.atFence
  else d

/-- The registers that move from SRC to DST (R250). -/
def migRegs : List Nat :=
  [peClkdiv, peWrap, pePat, peMask, peCntcfg, peCntcmp, pePhcmp, peEvcfg, peEvout, peImgin, peX, peY, peTsh, peRsh,
   peScnt, peCnt, pePdir]

/-- The divider goes on to the first tick at or after an edge; `fuel` bounds the ticks lost (R250). -/
def Engine.gridFrom : Nat → Nat → Engine → Engine
  | 0, _, x => x
  | f + 1, l, x => if x.now < l then Engine.gridFrom f l x.pass else x

/-- MIGRATION_COPY (R250): DST takes SRC's program, registers, shifters, counter, divider and TX entries, and starts at
the fenced instruction, at the first tick of SRC's grid 8 ECLK or more after the fence. With PADS = 0 the run and the
pads' driven values move too. DESIGN CHOICE (notes/assumptions/65.md): entries that DST's TX FIFO already holds, which the rule takes to be
empty and no check tests, stay in front. -/
def Device.migCopy (d : Device) (t : Nat) : Device :=
  match d.migOf t with
  | none => d
  | some m =>
    if d.migPhase t ≠ 2 then d else
    let es := 8 * t + m.src
    let ed := 8 * t + m.dst
    let x := (d.engine es).take fun _ => true
    let y := (d.engine ed).take fun _ => true
    let g := x.gridFrom 8 (x.passed + 8)
    let y1 := migRegs.foldl (fun z r => z.setRg r (x.rg r)) y
    let y2 := y1.setRg peShift (setBits (x.rg peShift) 14 1 (bitsOf (y.rg peShift) 14 1))
    let y3 := y2.setFlag peStat 21 (x.flag peStat 21)
    let y4 : Engine :=
      { y3 with
        prog := x.prog, pc := x.pc, acc := g.acc, passed := y.passed + 7, now := y.passed + (g.now - x.passed)
        tx := y.tx ++ x.tx, wait := if m.shifted then .shifted else .none, run := true }
    let out := if m.pads then y.out % 2 ^ 32 + x.out / 2 ^ 32 * 2 ^ 32 else x.out
    let y5 := { (if m.pads then y4 else y4.setRg pePins (x.rg pePins)) with out := out, seen := out, past := [] }
    let x1 := { (if m.pads then x else x.setFld pePins 8 6 0) with tx := [] }
    ((d.setEngine es x1).engUpdate ed y5).setMig t 9 3

/-- MIGRATION_DONE (R251): SRC's RX FIFO is empty. -/
def Device.migDone (d : Device) (t : Nat) : Device :=
  let es := 8 * t + d.migSrc t
  if d.migPhase t = 3 ∧ (d.engine es).rx = [] then
    let d1 := d.setTileReg t 55 (setBits (d.tileReg t 55) (4 * d.migHandle t) 3 (d.migDst t))
    ((d1.setEngine es ((d1.engine es).setFlag peStat 27 true)).setMig t 0 0).setMigration t none
  else d

/-- The engine that a push through a handle reaches: DST once the copy is made (R250). -/
def Device.pushTarget (d : Device) (t n : Nat) : Option Nat :=
  if d.migPhase t = 3 ∧ d.migHandle t = n then some (8 * t + d.migDst t)
  else (d.handleEngine t n).map fun k => 8 * t + k

/-- The engine that a pop through a handle reaches: what SRC holds first, then DST (R251). -/
def Device.popTarget (d : Device) (t n : Nat) : Option Nat :=
  if d.migPhase t = 3 ∧ d.migHandle t = n ∧ (d.engine (8 * t + d.migSrc t)).rx = [] then some (8 * t + d.migDst t)
  else (d.handleEngine t n).map fun k => 8 * t + k

/-- From F to F + 8 a PEWR of PE_TXF of SRC or DST has no effect (R250). -/
def Device.txHeld (d : Device) (e : Nat) : Bool := d.migPhase (e / 8) == 2 && d.migrating e

/-! ### Writes -/

/-- TXCLR, RXCLR, only while stopped, and SCLR of a PE_CTRL write (Table 7.9). -/
def Engine.clears (x : Engine) (v : Nat) : Engine :=
  let a := if bitOf v 3 ∧ x.run = false then { x with tx := [] } else x
  let b := if bitOf v 4 ∧ x.run = false then { a with rx := [] } else a
  if bitOf v 5 then (b.setRg peStall 0).setRg peStallcyc 0 else b

/-- A write of PE_CTRL (R239, R243). DESIGN CHOICE (notes/assumptions/65.md): TXCLR and RXCLR act on an engine that is stopped before the
write, not on one that the same write stops. -/
def Device.ctrlWrite (d : Device) (e v : Nat) : Device :=
  let d1 := d.setEngine e ((d.engine e).clears v)
  if bitOf v 0 then d1.engStart e (bitOf v 1) (bitOf v 2)
  else
    let d2 := if bitOf v 2 ∧ d1.migrating e = false then d1.setEngine e (d1.engine e).divRestart else d1
    d2.engStop e

/-- A write of PE_SHIFT: JOIN changes only in an even engine while both engines are stopped, and then empties all four
FIFOs (R234). -/
def Device.shiftWrite (d : Device) (e v : Nat) : Device :=
  let x := d.engine e
  let jold := x.flag peShift 14
  let y := d.engine (e + 1)
  let free := e % 2 = 0 ∧ x.run = false ∧ y.run = false
  let jnew := if free then bitOf v 14 else jold
  let w := setBits (setBits (v % 2 ^ 21) 15 1 0) 14 1 (bit01 jnew)
  if jnew = jold then d.setEngine e (x.setRg peShift w)
  else (d.setEngine e { x.setRg peShift w with tx := [], rx := [] }).setEngine (e + 1) { y with tx := [], rx := [] }

/-- The bits that a plain engine register holds (Tables 7.11 to 7.16); none for a register that software cannot write. -/
def peMask? (r : Nat) : Option Nat :=
  if r = peClkdiv then some 0xFFFFFF01
  else if r = peWrap then some 0xBF3F
  else if r = peX ∨ r = peY ∨ r = peTsh ∨ r = peRsh ∨ r = pePat ∨ r = peMask ∨ r = pePhcmp ∨ r = pePdir then
    some 0xFFFFFFFF
  else if r = peScnt then some 0x3F3F
  else if r = peCnt ∨ r = peCntcmp then some 0xFFFFFF
  else if r = peCntcfg then some 0x1F17
  else if r = peEvcfg then some 0x1FFFFFF
  else if r = peEvout then some 0xFF
  else none

/-- The configuration registers that a migration holds (R252). DESIGN CHOICE (notes/assumptions/65.md): the spec lists none; these are the
registers that set the engine up, and X, Y, TSH, RSH, SCNT and CNT, which its program works on, stay writable. -/
def peConfig (r : Nat) : Bool :=
  r == peClkdiv || r == pePins || r == peShift || r == peWrap || r == pePat || r == peMask || r == peCntcfg ||
  r == peCntcmp || r == pePhcmp || r == peEvcfg || r == peEvout || r == pePdir

/-- A write of one engine's register (R234, R235, R239, R252, R255). -/
def Device.engRegWrite (d : Device) (path : EnginePath) (e r v : Nat) : Device :=
  let x := d.engine e
  if r = 0 then
    (if path = .window ∨ d.txHeld e = true then d else d.fifoPush e (BitVec.ofNat 32 v))
  else if r = 2 then d.ctrlWrite e v
  else if r = 3 then
    let clr := v &&& 0x2B000000
    d.setEngine e (x.setRg peStat (x.rg peStat - (x.rg peStat &&& clr)))
  else if peConfig r ∧ d.migrating e then d.engDeny (e / 8)
  else if r = pePins then
    d.setEngine e (x.setRg pePins (bitsOf v 0 5 + 256 * min (bitsOf v 8 6) 32))
  else if r = peShift then d.shiftWrite e v
  else if r = pePdir then d.setEngine e (x.pdirSet v)
  else match peMask? r with
    | some m => d.engUpdate e (x.setRg r (v &&& m))
    | none => d

/-- A write of PE_QHBIND: one that changes the handle of a migration in progress is refused (R252). -/
def Device.bindWrite (d : Device) (t v : Nat) : Device :=
  let h := 4 * d.migHandle t
  if d.migPhase t ≠ 0 ∧ bitsOf v h 4 ≠ bitsOf (d.tileReg t 55) h 4 then d.engDeny t
  else d.setTileReg t 55 v

/-- A write of a tile register (R240, R245, R247, R248). -/
def Device.tileRegWrite (d : Device) (path : EnginePath) (t r v : Nat) : Device :=
  if r = 49 then d.tileSet t v
  else if r = 50 then
    let d1 := d.tileClear t v
    if bitOf v 31 then d1.setTileReg t 47 0 else d1
  else if r = 51 then d.groupStart t (v % 256) (bitOf v 8) (bitOf v 9)
  else if r = 52 then d.groupStop t (v % 256)
  else if r = 53 then d.migWrite t v
  else if r = 55 then d.bindWrite t v
  else if 56 ≤ r ∧ r ≤ 63 ∧ path = .port then
    match d.pushTarget t (r - 56) with
    | some e => d.fifoPush e (BitVec.ofNat 32 v)
    | none => d
  else d

/-- A write of engine register number r of engine e. -/
def Device.engWrite (d : Device) (path : EnginePath) (e r v : Nat) : Device :=
  if d.engPresent e = false then d
  else if 47 ≤ r then d.tileRegWrite path (e / 8) r v
  else d.engRegWrite path e r v

/-- The registers a USER berth may write by PEWR (R236). -/
def userPewr (r : Nat) : Bool := r == 0 || r == peX || r == peY || r == 49 || r == 50 || (decide (56 ≤ r) && decide (r ≤ 63))

/-- A write of PE_PROGw (R253). -/
def Device.progWrite (d : Device) (e w v : Nat) : Device :=
  if d.engPresent e = false then d
  else
    let x := d.engine e
    if x.run ∨ d.migrating e ∨ (d.mode = .run ∧ d.gateIs 4 = false) then d.engDeny (e / 8)
    else d.setEngine e { x with prog := x.prog.put (fun _ => 0) w (v % 2 ^ 16) }

/-! ### Reads -/

/-- PE_STAT (Table 7.10). -/
def Device.engStat (d : Device) (e : Nat) : Nat :=
  let x := d.engine e
  let stall := match x.wait with
    | .pull => 1
    | .push _ => 2
    | _ => 0
  let waiting := match x.wait with
    | .cond _ _ => true
    | .delay _ => true
    | .flag => true
    | _ => false
  x.pc + 64 * bit01 x.run + 128 * stall + 512 * bit01 waiting + 1024 * x.tx.length + 32768 * x.rx.length +
    2 ^ 20 * bit01 x.matched + (x.rg peStat &&& 0x3BE00000) + 2 ^ 26 * bit01 (d.padConflict e)

/-- A read of an engine or tile register that changes nothing: every one but PE_RXF and PE_QHn. -/
def Device.engPeek (d : Device) (e r : Nat) : Nat :=
  let x := d.engine e
  if d.engPresent e = false then 0
  else if r = 0 ∨ r = 1 then 0
  else if r = 2 then bit01 x.run
  else if r = 3 then d.engStat e
  else if r = 19 then d.enginePh e
  else if r ≤ 26 then x.rg r
  else if r = 47 ∨ r = 48 ∨ r = 54 ∨ r = 55 then d.tileReg (e / 8) r
  else 0

/-- PERD: a read by the private port, popping the RX FIFO or a handle (R235, R247). -/
def Device.engRead (d : Device) (e r : Nat) : Word × Device :=
  if d.engPresent e = false then (0, d)
  else if r = 1 then d.fifoPop e
  else if 56 ≤ r ∧ r ≤ 63 then
    match d.popTarget (e / 8) (r - 56) with
    | some k => d.fifoPop k
    | none => (0, d)
  else (BitVec.ofNat 32 (d.engPeek e r), d)

/-! ### Loss of power -/

/-- The engines of a tile, and its tile registers, as after a device reset (R254). -/
def Device.engReset (d : Device) (tiles : Nat → Bool) : Device :=
  { d with eng := { d.eng with
      engines := d.eng.engines.filter fun p => !tiles (p.1 / 8)
      tile := d.eng.tile.filter fun p => !tiles (p.1 / 64)
      mig := d.eng.mig.filter fun p => !tiles p.1 } }

end Sys2Proof.Machine
end

