-- ==== Sys2Proof/Machine/Timebase.lean ====
section
/-! DEFINITION. The timebase (R318 to R323, R529) and the line-phase tracker (R324 to R330). -/

namespace Sys2Proof.Machine

/-! ### The timebase -/

/-- TB_STAT.DENY counts a software write while the Beyram link drives the discipline (R320). -/
def Device.tbDeny (d : Device) : Device := d.bump Reg.TB_STAT 8 8

/-- A write of TB_STEP (R320, R321). -/
def Device.tbStepWrite (d : Device) (v : Nat) : Device :=
  let d1 := if d.flag Reg.TB_CTRL 0 then d.tbDeny else d
  if d1.mode = .run then d1.setFlag Reg.TB_STAT 1 true
  else if d.flag Reg.TB_CTRL 0 then d1
  else { d1.setFlag Reg.TB_STAT 0 true with tb := { d1.tb with step := some (v % 2 ^ 32, 0) } }

/-- A step that the Beyram time loop asks for (R382): not a software write. -/
def Device.tbStepBy (d : Device) (delta8 : Int) : Device :=
  { d.setFlag Reg.TB_STAT 0 true with tb := { d.tb with step := some (patternOf 32 delta8, 0) } }

/-- The pending step meets its edge: at least 2 TCLK after the write, the count a multiple of 8 (R321). -/
def Device.stepDue (d : Device) : Option Nat :=
  match d.tb.step with
  | some (v, age) => if 2 ≤ age ∧ d.tbNow % 8 = 0 then some v else none
  | none => none

/-- The count the pending step leads to; none where the result leaves the range of the count (R321). -/
def stepTarget (now v : Nat) : Option Nat :=
  let r : Int := (now : Int) + 8 * signedOf 32 v
  if 0 ≤ r ∧ r < (2 ^ 64 : Nat) then some r.toNat else none

/-- TIMEBASE_STEP (R321). -/
def Device.tbStep (d : Device) : Device :=
  match d.stepDue with
  | none => d
  | some v =>
    let d1 := { d.setFlag Reg.TB_STAT 0 false with tb := { d.tb with step := none } }
    match stepTarget d.tbNow v with
    | some n => { d1 with tb := { d1.tb with now := BitVec.ofNat 64 n } }
    | none => d1.setFlag Reg.TB_STAT 1 true

/-- A write of TB_CMPn arms the compare (R322). -/
def Device.tbCmpWrite (d : Device) (n v : Nat) : Device :=
  let d1 := d.wr64 (Reg.TB_CMP n) v
  { d1 with tb := { d1.tb with armed := d1.tb.armed.filter (· != n) ++ [n] } }

/-- A write of TB_CMPPERn arms the compare where it changes EN from 0 to 1 (R322). -/
def Device.tbPerWrite (d : Device) (n v : Nat) : Device :=
  let was := d.flag (Reg.TB_CMPPER n) 31
  let d1 := d.wr (Reg.TB_CMPPER n) v
  if was = false ∧ bitOf v 31 = true then
    { d1 with tb := { d1.tb with armed := d1.tb.armed.filter (· != n) ++ [n] } }
  else d1

/-- Compare n fires: enabled, armed or eligible, and reached (R322). -/
def Device.tbDue (d : Device) (n : Nat) : Bool :=
  d.flag (Reg.TB_CMPPER n) 31 && d.tb.armed.contains n && decide (d.rd64 (Reg.TB_CMP n) ≤ d.tbNow)

/-- TIMEBASE_COMPARE (R322): the producer pulses; PER reloads, or the compare stays fired. -/
def Device.tbCompare (d : Device) (n : Nat) : Device :=
  if d.tbDue n = false then d
  else
    let per := d.fld (Reg.TB_CMPPER n) 0 31
    let d1 := if per = 0 then { d with tb := { d.tb with armed := d.tb.armed.filter (· != n) } }
      else d.wr64 (Reg.TB_CMP n) ((d.rd64 (Reg.TB_CMP n) + per) % 2 ^ 64)
    d1.pulse (0x21 + n)

/-- A write of TB_CTRL: with PPSEN 0 no edge of TB_PPS is captured, one that has been sampled included (R323). -/
def Device.tbCtrlWrite (d : Device) (v : Nat) : Device :=
  let d1 := d.setFld Reg.TB_CTRL 0 2 v
  if bitOf v 1 then d1 else { d1 with tb := { d1.tb with pps := [] } }

/-- PPS_CAPTURE (R323): the oldest sampled edge of TB_PPS is captured, while PPSEN is 1. -/
def Device.ppsCapture (d : Device) : Device :=
  match d.tb.pps with
  | [] => d
  | c :: r =>
    let d1 := { d with tb := { d.tb with pps := r } }
    if d.flag Reg.TB_CTRL 1 then (d1.wr64 Reg.TB_PPSTS c).wrapInc Reg.TB_STAT 16 16 else d1

/-- CAPTURE (R323): every enabled capture unit on the channel loads the count of the sampling edge (R529); a unit that
holds an unread capture overruns (Table 10.2). -/
def Device.captures (d : Device) (ch : Nat) : Device :=
  (List.range 4).foldl (fun e k =>
    if e.fld Reg.TB_CAPCFG (8 * k) 7 = ch ∧ e.flag Reg.TB_CAPCFG (8 * k + 7) = true then
      if e.flag Reg.TB_STAT (4 + k) then e.evfOverrun 4
      else (e.wr64 (Reg.TB_CAP k) (e.tbNow + 1)).setFlag Reg.TB_STAT (4 + k) true
    else e) d

/-! ### The line-phase tracker -/

/-- States of Table 10.6. -/
def Device.lptState (d : Device) : Nat := d.fld Reg.LPT_STAT 0 2

/-- NOMINC and period of nominal k (1 16.7 Hz, 2 50 Hz, 3 60 Hz; Table 10.5). -/
def nomInc (k : Nat) : Nat := if k = 1 then 18802528 else if k = 2 then 56294995 else if k = 3 then 67553994 else 0
def nomPeriod (k : Nat) : Nat := if k = 1 then 14970060 else if k = 2 then 5000000 else if k = 3 then 4166667 else 0

/-- Nominals that LPT_CFG.NOMEN enables, lowest first. -/
def Device.nominals (d : Device) : List Nat := [1, 2, 3].filter fun k => d.flag Reg.LPT_CFG (k + 1)

/-- A crossing source is selected: SRC 3 acts as 0 (Table 10.10). -/
def Device.lptSrc (d : Device) : Nat := if d.fld Reg.LPT_CFG 0 2 = 3 then 0 else d.fld Reg.LPT_CFG 0 2

/-- The tracker is off (R326). -/
def Device.lptOff (d : Device) : Bool := d.nominals.isEmpty || d.lptSrc == 0

/-- The tracker takes a state; LOCKED is producer 0x69, and every departure from it raises LPT_UNLOCK (R328, R330). -/
def Device.lptEnter (d : Device) (s : Nat) : Device :=
  let was := d.lptState
  let d1 := (d.setFld Reg.LPT_STAT 0 2 s).setLevel 0x69 (s == 2)
  if was = 2 ∧ s ≠ 2 then d1.raise 0x05 s else d1

/-- INC := clamp(v), between 0 and twice NOMINC of the nominal in force (R327). -/
def Device.lptClamp (d : Device) (v : Int) : Device :=
  let top : Int := 2 * nomInc (d.fld Reg.LPT_STAT 2 2)
  d.wr Reg.LPT_INC (min (max v 0) top).toNat

/-- The period of the nominal in force. -/
def Device.lptPeriod (d : Device) : Nat := nomPeriod (d.fld Reg.LPT_STAT 2 2)

/-- The period of the reference nominal: later crossings are ignored for half of it (R325). -/
def Device.lptReference (d : Device) : Nat :=
  if 2 ≤ d.lptState then d.lptPeriod else nomPeriod (d.nominals.foldl max 0)

/-- Enabled nominals for which a period is valid: within 10 per cent (R326). -/
def Device.lptValid (d : Device) (n : Nat) : List Nat :=
  d.nominals.filter fun k => decide (9 * nomPeriod k ≤ 10 * n ∧ 10 * n ≤ 11 * nomPeriod k)

/-- An accepted crossing becomes E1 (Table 10.6). -/
def Device.lptFirst (d : Device) (at_ : Nat) : Device :=
  let d1 := d.lptEnter 1
  { d1 with lpt := { d1.lpt with last := some at_, place := 1, rejects := 0 } }

/-- The acquire rule (R327). -/
def Device.lptAcquire (d : Device) (n : Nat) (e : Int) : Device :=
  let c := Int.tdiv (e * 65536) n
  let f : Int := ((2 ^ 48 / n : Nat) : Int)
  { d.lptClamp (f - c) with lpt := { d.lpt with freq := f } }

/-- The locked rule (R327); the shifts are arithmetic. -/
def Device.lptLocked (d : Device) (n : Nat) (e : Int) : Device :=
  let c := Int.tdiv (e * 65536) n
  let f := d.lpt.freq - Int.shiftRight c (d.fld Reg.LPT_GAIN 4 4)
  { d.lptClamp (f - Int.shiftRight c (d.fld Reg.LPT_GAIN 0 4)) with lpt := { d.lpt with freq := f } }

/-- An accepted crossing in ACQUIRE (Table 10.6), `n` edges after the one before. Where a period is valid for two enabled
nominals, R326 does not say which becomes the nominal in force: a free value chooses. -/
def Device.lptAcquiring (d : Device) (at_ n : Nat) (e : Int) : Device :=
  match d.lptValid n with
  | [] => d.lptFirst at_
  | k :: r =>
    let nom := match r with
      | [] => k
      | m :: _ => if Config.freeLevel d.draws then k else m
    let d0 := (if r.isEmpty then d else d.draw).setFld Reg.LPT_STAT 2 2 nom
    let d1 : Device := { d0 with lpt := { d0.lpt with last := some at_, place := d0.lpt.place + 1 } }
    if 4 ≤ d1.lpt.place ∧ e.natAbs ≤ d1.fld Reg.LPT_GAIN 16 16 * 65536 then
      (d1.bump Reg.LPT_STAT 16 8).lptEnter 2
    else d1.lptAcquire n e

/-- LINE_CROSSING (R325 to R328): the oldest sampled crossing is delivered. -/
def Device.lptCrossing (d : Device) : Device :=
  match d.lpt.arrivals with
  | [] => d
  | (at_, acc) :: r =>
    let d0 := { d with lpt := { d.lpt with arrivals := r } }
    if d0.lptOff then d0 else
    let n := match d0.lpt.last with
      | some l => at_ - l
      | none => 0
    if d0.lpt.last.isSome ∧ 2 * n < d0.lptReference then d0.bump Reg.LPT_STAT 8 8
    else
      let e := signedOf 32 (acc / 2 ^ 16 + 2 ^ 32 - d0.rd Reg.LPT_OFS)
      let d1 := d0.wr Reg.LPT_ERR (patternOf 32 e)
      if d1.lptState = 0 then (d1.lptFirst at_).wr Reg.LPT_INC 0
      else if d1.lptState = 3 ∨ d1.lpt.place = 0 then d1.lptFirst at_
      else if d1.lptState = 1 then d1.lptAcquiring at_ n e
      else if e.natAbs < 2 ^ 30 then
        let d2 := d1.lptLocked n e
        { d2 with lpt := { d2.lpt with last := some at_, rejects := 0 } }
      else
        let d2 := d1.bump Reg.LPT_STAT 8 8
        if 2 ≤ d2.lpt.rejects then d2.lptFirst at_
        else { d2 with lpt := { d2.lpt with rejects := d2.lpt.rejects + 1 } }

/-- TCLK edges since the last accepted crossing, or since a write of LPT_CFG set the tracker going. DESIGN CHOICE
(notes/assumptions/65.md): with no crossing since that write, the timeout of ACQUIRE counts from it. -/
def Device.lptSince (d : Device) : Nat :=
  match d.lpt.last with
  | some l => if d.lpt.place = 0 then d.lpt.edges - d.lpt.holdFrom else d.lpt.edges - l
  | none => d.lpt.edges - d.lpt.holdFrom

/-- The tracker goes to HOLD (Table 10.6). -/
def Device.lptHold (d : Device) : Device :=
  let d1 := d.lptEnter 3
  { d1 with lpt := { d1.lpt with holdFrom := d1.lpt.edges } }

/-- TRACKER_TIMEOUT (R328): 1.5 periods without an accepted crossing. -/
def Device.lptTimeout (d : Device) : Device :=
  if d.lptState = 1 ∧ 3 * nomPeriod (d.nominals.headD 0) ≤ 2 * d.lptSince then
    if d.fld Reg.LPT_STAT 2 2 = 0 then d.lptEnter 0 else d.lptHold
  else if d.lptState = 2 ∧ 3 * d.lptPeriod ≤ 2 * d.lptSince then (d.lptClamp d.lpt.freq).lptHold
  else d

/-- TRACKER_HOLD_EXPIRY (R328): HOLD periods of the nominal in force since entry. -/
def Device.lptHoldExpiry (d : Device) : Device :=
  let h := if d.fld Reg.LPT_CFG 16 4 = 0 then 16 else d.fld Reg.LPT_CFG 16 4
  if d.lptState = 3 ∧ h * d.lptPeriod ≤ d.lpt.edges - d.lpt.holdFrom then
    ((d.lptEnter 0).wr Reg.LPT_INC 0).setFld Reg.LPT_STAT 2 2 0
  else d

/-- A write of LPT_CFG (R328): one that changes SRC, NOMEN or CH moves the tracker to ACQUIRE, or to NONE under R326. The
blanking after the last accepted crossing goes on (R325). -/
def Device.lptCfgWrite (d : Device) (v : Nat) : Device :=
  let old := d.rd Reg.LPT_CFG
  let d1 := d.wr Reg.LPT_CFG (v &&& 0xF7F1F)
  let moved := decide (bitsOf old 0 5 ≠ bitsOf v 0 5 ∨ bitsOf old 8 7 ≠ bitsOf v 8 7)
  if moved = false then d1
  else if d1.lptOff then ((d1.lptEnter 0).wr Reg.LPT_INC 0).setFld Reg.LPT_STAT 2 2 0
  else
    let d2 := d1.lptEnter 1
    { d2 with lpt := { d2.lpt with holdFrom := d2.lpt.edges, place := 0, rejects := 0 } }

/-- A write of LPT_STAT: CLR clears REJ and ACQ (R330). -/
def Device.lptStatWrite (d : Device) (v : Nat) : Device :=
  if bitOf v 31 then d.setFld Reg.LPT_STAT 8 16 0 else d

/-- LINE_PHASE_WRAP (R330): a carry out of bit 47 pulses its producer. -/
def Device.lptWrap (d : Device) : Device :=
  if d.lpt.wraps = 0 then d
  else { d with lpt := { d.lpt with wraps := d.lpt.wraps - 1 } }.pulse 0x68

/-- A channel assertion that the tracker takes as a crossing (R325, Table 10.2). -/
def Device.lptChannel (d : Device) (ch : Nat) : Device :=
  if d.lptSrc = 2 ∧ d.fld Reg.LPT_CFG 8 7 = ch then
    { d with lpt := { d.lpt with arrivals := d.lpt.arrivals ++
        [(d.lpt.edges + 1, (d.lpt.acc + d.rd Reg.LPT_INC) % 2 ^ 48)] } }
  else d

/-- LPT_PH: the phase word (R324). -/
def Device.phaseWord (d : Device) : Nat := bitsOf d.lpt.acc 16 32

/-! ### One TCLK edge -/

/-- One TCLK edge: the count advances (R318), APPLIED moves one unit towards TARGET (R319), a pending step ages (R321),
and the phase accumulator adds INC (R324). -/
def Device.tclk (d : Device) : Device :=
  let applied := signedOf 16 (d.fld Reg.TB_CORR 16 16)
  let target := signedOf 16 (d.fld Reg.TB_CORR 0 16)
  let next := if applied < target then applied + 1 else if target < applied then applied - 1 else applied
  let a := d.lpt.acc + d.rd Reg.LPT_INC
  let d1 := if next = applied then d else d.setFld Reg.TB_CORR 16 16 (patternOf 16 next)
  { d1 with
    tb := { d1.tb with now := d1.tb.now + 1, step := d1.tb.step.map fun p => (p.1, p.2 + 1) }
    lpt := { d1.lpt with acc := a % 2 ^ 48, edges := d1.lpt.edges + 1, wraps := d1.lpt.wraps + a / 2 ^ 48 } }

end Sys2Proof.Machine
end

