-- ==== Sys2Proof/Machine/Receive.lean ====
section
/-! DEFINITION. The receive buffers of the Beyram link and the MACs (R390 to R392, R408): two halves or a queue of slots
in a tile SRAM, how a frame is written to one, and what a latch reads of it. -/

namespace Sys2Proof.Machine

/-- A receive buffer as its registers give it: its status register, area, payload capacity in bytes, mode and slots. -/
structure RxBuffer where
  status : Nat
  area   : Nat
  room   : Nat
  queue  : Bool
  slots  : Nat
  deriving DecidableEq, Repr

/-- Receive buffer n of the Beyram link (Table 12.13). -/
def Device.beyBuffer (d : Device) (n : Nat) : RxBuffer :=
  let size := d.fld (Reg.BEY_RXSIZE n) 0 8
  ⟨Reg.BEY_RXS n, bitsOf (d.rd64 (Reg.BEY_RXA n)) 0 50, (if size = 0 then 188 else size) * 8,
    d.flag (Reg.BEY_RXB n) 14, d.fld (Reg.BEY_RXB n) 29 3 + 1⟩

/-- MAC receive buffer n (Table 12.17); R390 makes a SIZE of 0 count as 188. -/
def Device.macBuffer (d : Device) (n : Nat) : RxBuffer :=
  let size := d.fld (Reg.NET_RXS n) 16 11
  ⟨Reg.NET_RXS n, bitsOf (d.rd64 (Reg.NET_RXA n)) 0 50, (if size = 0 then 188 else size) * 8,
    d.flag (Reg.NET_RXB n) 29, d.fld (Reg.NET_RXS n) 27 3 + 1⟩

/-- Bytes of one half or slot (R390). -/
def RxBuffer.half (b : RxBuffer) : Nat := 16 + b.room

/-- The area lies in a tile SRAM: a buffer placed elsewhere is written nowhere (R390). -/
def Device.rxPlaced (d : Device) (a n : Nat) : Bool :=
  match placeOf d.cfg none a, placeOf d.cfg none (a + n - 1) with
  | some (.sram t _), some (.sram u _) => t == u
  | _, _ => false

/-- What became of a frame: written (a latch buffer's swap then follows), or one that would overwrite. -/
inductive RxOutcome where
  | written
  | full
  deriving DecidableEq, Repr

/-- Writes a slot header and a payload to the back half of a latch buffer, or to the write slot of a queue (R390,
R392). -/
def Device.rxStore (d : Device) (b : RxBuffer) (header payload : List Byte) : RxOutcome × Device :=
  if b.room < payload.length then (.full, d)
  else
    let w := d.fld b.status 1 3
    let next := (w + 1) % b.slots
    if b.queue && next == d.fld b.status 4 3 then (.full, d)
    else
      let slot := if b.queue then w else 1 - d.fld b.status 0 1
      let a := b.area + slot * b.half
      let bytes := header ++ padBytes payload
      let d1 := if d.rxPlaced a bytes.length then d.writeSpan 6 8 a bytes else d
      (.written, if b.queue then d1.setFld b.status 1 3 next else d1)

/-- The swap of a latch buffer's halves (R390). -/
def Device.rxSwap (d : Device) (b : RxBuffer) : Device := d.setFld b.status 0 1 (1 - d.fld b.status 0 1)

/-- Payload word `sub` of the front half, as the sequencer reads it; a word at or beyond the front frame's length reads as zero
(R391). `lenOff` is where the slot header holds the length. None where a word that it needs cannot be read. -/
def Device.rxWord (d : Device) (b : RxBuffer) (lenOff sub : Nat) : Option Nat × Device :=
  let a := b.area + d.fld b.status 0 1 * b.half
  if d.rxPlaced a b.half = false then (some 0, d)
  else match d.memRead 6 (a + lenOff) 2 with
    | (none, e) => (none, e)
    | (some len, e) => if 4 * sub < len ∧ 4 * sub + 4 ≤ b.room then e.memRead 6 (a + 16 + 4 * sub) 4 else (some 0, e)

end Sys2Proof.Machine
end

