-- ==== Sys2Proof/Machine/Beyram.lean ====
section
/-! DEFINITION. The Beyram link (R368 to R395): ports, forwarding, transmission, time and election, DATA frames with
their generations and the safety layer. -/

namespace Sys2Proof.Machine

/-! ### Ports and lanes -/

/-- Address of the device, and BEY_CFG.EN (Table 12.11). -/
def Device.beyAddr (d : Device) : Nat := d.fld Reg.BEY_CFG 0 10
def Device.beyEnabled (d : Device) : Bool := d.flag Reg.BEY_CFG 18

/-- State of a port: 0 DOWN, 1 TRAIN, 2 UP (R371). -/
def Device.portState (d : Device) (p : Nat) : Nat := d.fld (Reg.BEY_PORT p) 0 2

/-- The link's logic runs: from the release of reset on, outside DEEP-SLEEP (R520). -/
def Device.beyRuns (d : Device) : Bool := !d.isolated && d.mode != Mode.deepSleep

/-- TLOCK and MASTER (Table 12.11). -/
def Device.tlock (d : Device) : Bool := d.flag Reg.BEY_STAT 0
def Device.timeMaster (d : Device) : Bool := d.flag Reg.BEY_STAT 1

/-- A duplicate of the own address has been seen: the device originates no further frame (R386). -/
def Device.dupAddr (d : Device) : Bool := d.flag Reg.BEY_STAT 3

/-- The device originates frames other than port maintenance (R374, R386). -/
def Device.originates (d : Device) : Bool := d.beyEnabled && !d.dupAddr

/-- An address names this device: only addresses 0 to 999 name devices (R374). -/
def Device.isMe (d : Device) (a : Nat) : Bool := a == d.beyAddr && decide (a < 1000)

/-- Beyram origination of DATA frames and votes is frozen: in SAFE (R522), and in HALT while DBG_FREEZE.BEY is 1
(Table 16.7). -/
def Device.beyFrozen (d : Device) : Bool := d.mode == Mode.safe || (d.mode == Mode.halt && bitOf d.dbg.freeze 3)

/-- The device may originate DATA frames (R386). -/
def Device.sendsData (d : Device) : Bool := d.originates && !d.beyFrozen && (d.tlock || d.timeMaster)

/-- The enabled slot of a group (R396). -/
def Device.sgSlot (d : Device) (g : Nat) : Option Nat :=
  (List.range 16).find? fun j => d.flag (Reg.BEY_SGCFG j) 8 && d.fld (Reg.BEY_SGCFG j) 0 8 == g

/-- The group drives a producer of Table 10.1 where its EVEN is 1 (Table 12.15). -/
def Device.sgPulse (d : Device) (g code : Nat) : Device :=
  match d.sgSlot g with
  | some j => if d.flag (Reg.BEY_SGCFG j) 9 then d.pulse code else d
  | none => d

/-- Interrupt line 29 of BEY_CFG.NBERTH. -/
def Device.beyNote (d : Device) : Device := d.setLine (d.fld Reg.BEY_CFG 19 9) 29

/-- A transmit lane carries frames of one class now, each with whether it ends in TERM_BAD (R372, R377). -/
def Device.laneSend (d : Device) (r : Nat) (control : Bool) (fs : List (List Byte × Bool)) : Device :=
  let o := laneOut d.tbNow (d.bey.dataEnd.get (fun _ => 0) r) control fs
  { d with bey := { d.bey with
      lane := d.bey.lane.put (fun _ => []) r o.1
      dataEnd := d.bey.dataEnd.put (fun _ => 0) r o.2 } }

/-- A transmit lane carries a frame of port maintenance or of time now. -/
def Device.laneControl (d : Device) (r : Nat) (f : List Byte) : Device := d.laneSend r true [(f, false)]

/-- Frames waiting for lane r besides the device's own (R377). -/
def Device.waiting (d : Device) (r : Nat) : List OutFrame := d.bey.forward.get (fun _ => []) r

def Device.setWaiting (d : Device) (r : Nat) (q : List OutFrame) : Device :=
  { d with bey := { d.bey with forward := d.bey.forward.put (fun _ => []) r q } }

/-- A frame of the device's own, for both rings (R376). -/
def Device.originate (d : Device) (f : OutFrame) : Device :=
  { d with bey := { d.bey with ownQueue := d.bey.ownQueue ++ [f] } }

/-- A control frame of the device's own (R374). -/
def Device.ownControl (d : Device) (type msgid dst gen : Nat) (payload : List Byte) : Device :=
  d.originate ⟨true, beyBody type 0 msgid d.beyAddr dst gen 0 0 payload, false, none, false, false, false⟩

/-- A fault report joins those received; the latest of a port stands (R400). -/
def Device.report (d : Device) (addr port : Nat) (down : Bool) (path : Option (Nat × Nat)) : Device :=
  let rest := d.bey.reports.filter fun r => !(r.addr == addr && r.port == port)
  { d with bey := { d.bey with reports := rest ++ [⟨addr, port, down, d.tbNow, path⟩] } }

/-- A LINK frame with a port's state, on the other port (R371, R386). -/
def Device.linkFrame (d : Device) (p : Nat) (up : Bool) : Device :=
  let pay := leBytes 8 (d.beyAddr + p * 2 ^ 10 + bit01 up * 2 ^ 11)
  let f : OutFrame := ⟨true, beyBody 0x25 0 0 d.beyAddr 1023 0 0 0 pay, false, none, false, true, false⟩
  (if d.dupAddr then d else d.setWaiting (1 - p) (d.waiting (1 - p) ++ [f])).report d.beyAddr p (!up) none

/-- A port goes DOWN (R371). -/
def Device.portDown (d : Device) (p : Nat) : Device :=
  let was := d.portState p
  let d1 : Device := { d.setFld (Reg.BEY_PORT p) 0 2 0 with
    bey := { d.bey with hellos := d.bey.hellos.put (fun _ => (0, false)) p (0, false) } }
  if was = 2 then (((d1.bump (Reg.BEY_PORT p) 16 16).pulse 0x5C).linkFrame p false).raise 0x28 p else d1

/-- BLOCK_LOCK on a Beyram port (R370, R371). -/
def Device.beyLock (d : Device) (p : Nat) : Device :=
  let d1 := { d with bey := { d.bey with locked := d.bey.locked.filter (· != p) ++ [p] } }
  if d1.portState p = 0 then d1.setFld (Reg.BEY_PORT p) 0 2 1 else d1

/-- BLOCK_LOCK_LOSS on a Beyram port (R370, R371). -/
def Device.beyUnlock (d : Device) (p : Nat) : Device :=
  { d with bey := { d.bey with locked := d.bey.locked.filter (· != p) } }.portDown p

/-- A CRC error: counted, the HELLOs begin anew, and the eighth within 1 ms takes the port DOWN (R371,
R373). -/
def Device.crcError (d : Device) (p : Nat) : Device :=
  let d0 := d.bump Reg.BEY_CNT0 0 8
  let es := (d0.bey.errors.get (fun _ => []) p).filter (fun t => decide (d0.tbNow < t + 250000)) ++ [d0.tbNow]
  let put (l : List Nat) : Device := { d0 with bey := { d0.bey with
    errors := d0.bey.errors.put (fun _ => []) p l
    hellos := d0.bey.hellos.put (fun _ => (0, false)) p (0, false) } }
  if 8 ≤ es.length then (put []).portDown p else put es

/-! ### Forwarding and transmission -/

/-- A frame with HOPS replaced. -/
def setHops (b : List Byte) (h : Nat) : List Byte := b.take 10 ++ leBytes 2 h ++ b.drop 12

/-- The frame goes on, on the ring it came by: received at port p, out of port 1 − p (R375, R377). Of a data-class frame that
finds both places full the copy begun, which is its first two blocks, ends in TERM_BAD. -/
def Device.forwardFrame (d : Device) (p : Nat) (body : List Byte) (cut : Bool) : Device :=
  let addr := fieldAt body 4 4
  let hops := bitsOf (fieldAt body 10 2) 0 10
  if bitsOf addr 0 10 = d.beyAddr ∨ d.isMe (bitsOf addr 10 10) ∨ body.length < 16 then d
  else if 999 ≤ hops then d.bump Reg.BEY_CNT1 16 8
  else if d.portState (1 - p) ≠ 2 then d
  else
    let q := d.waiting (1 - p)
    let data := beyData body
    let on := setHops body (hops + 1)
    if data && decide (2 ≤ (q.filter fun f => !f.control && !f.stub).length) then
      (d.bump Reg.BEY_CNT1 24 8).setWaiting (1 - p) (q ++ [⟨false, on.take 16, true, none, false, false, true⟩])
    else d.setWaiting (1 - p) (q ++ [⟨!data, on, cut, none, false, false, false⟩])

/-- A frame type that goes to the neighbour only (R373). -/
def neighbourOnly (type : Nat) : Bool := type == 0x20 || type == 0x21 || type == 0x22

/-- A frame of the command's type arrives at port p. One that fails its checks is dropped whole: a bad CRC is counted, as is a
control block of an unknown type that ends it (R370), and the copy already being forwarded ends in TERM_BAD (R373, R375). Without a byte
of a frame, such a block stands between frames and is counted alone. -/
def Device.beyReceive (d : Device) (p type : Nat) (f : FrameIn) (k : BeyFrame → Device → Device) : Device :=
  if d.beyRuns ∧ d.portState p ≠ 0 ∧ f = ([], .unknown) then d.bump Reg.BEY_CNT2 0 8
  else if d.beyRuns = false ∨ d.portState p = 0 ∨ fieldAt f.1 0 1 ≠ type then d
  else
    let d0 := if f.2 = .unknown then d.bump Reg.BEY_CNT2 0 8 else d
    let pass (e : Device) : Device :=
      if neighbourOnly type then e else e.forwardFrame p (f.1.take (16 + pad8 (fieldAt f.1 8 2))) true
    match beyRead f with
    | .good g => k g d0
    | .badCrc => pass (d0.crcError p)
    | .discard => pass d0

/-- A frame delivered here goes on unless its rules end it (R375). -/
def Device.passOn (d : Device) (p : Nat) (g : BeyFrame) : Device := d.forwardFrame p g.body false

/-- The frame is delivered locally (R375). -/
def Device.deliveredHere (d : Device) (g : BeyFrame) : Bool := d.isMe g.dst || g.dst == 1023

/-- The bytes of a local frame as lane r starts it: RING, TXTIME and CRC (R372, R373). -/
def startLocal (r now : Nat) (b : List Byte) : List Byte :=
  let flags := setBits (fieldAt b 1 1) 0 1 r
  beyFrame (b.take 1 ++ leBytes 1 flags ++ (b.drop 2).take 10 ++ leBytes 4 (now % 2 ^ 32) ++ b.drop 16)

/-- The first element that a predicate names, with the rest of the list. -/
def takeFirst {α : Type} (p : α → Bool) : List α → Option (α × List α)
  | [] => none
  | x :: r => if p x then some (x, r) else (takeFirst p r).map fun y => (y.1, x :: y.2)

/-- A local frame starts on both rings at the same block boundary (R376); a DATA frame's TXTIME is remembered (R386), and whether
its burst goes on (R354). -/
def Device.startOwn (d : Device) (f : OutFrame) (rest : List OutFrame) : Device :=
  let now := d.tbNow
  let d1 := { d with bey := { d.bey with
    ownQueue := rest
    mid := if f.control then d.bey.mid else f.more
    sent := if f.control then d.bey.sent else d.bey.sent ++ [now % 2 ^ 32] } }
  [0, 1].foldl (fun e r =>
    if e.portState r = 2 then
      e.laneSend r f.control [(startLocal r now (if r = 1 then f.ringB.getD f.bytes else f.bytes), false)]
    else e) d1

/-- A forwarded frame or the device's own LINK starts on lane r; a frame cut short ends in TERM_BAD and carries no CRC. -/
def Device.startForward (d : Device) (r : Nat) (f : OutFrame) (rest : List OutFrame) : Device :=
  (d.setWaiting r rest).laneSend r f.control
    [(if f.own then startLocal r d.tbNow f.bytes else if f.cut then f.bytes else beyFrame f.bytes, f.cut)]

/-- A frame of the device's own may start (R374, R386). -/
def Device.startsOwn (d : Device) (f : OutFrame) : Bool := if f.control then d.originates else d.sendsData

/-- FRAME_TRANSMIT (R377): control frames, then forwarded data frames, then local data frames, which start on both lanes and so
come behind what either still forwards. -/
def Device.frameTransmit (d : Device) (r : Nat) : Device :=
  if d.beyRuns = false ∨ d.portState r ≠ 2 then d
  else match takeFirst (·.control) (d.waiting r) with
    | some (f, rest) => d.startForward r f rest
    | none => match takeFirst (fun f => f.control && d.startsOwn f) d.bey.ownQueue with
      | some (f, rest) => d.startOwn f rest
      | none => match d.waiting r with
        | f :: rest => d.startForward r f rest
        | [] =>
          let busy := d.portState (1 - r) == 2 && !(d.waiting (1 - r)).isEmpty
          match takeFirst (fun f => !f.control) d.bey.ownQueue with
          | some (f, rest) => if busy || !d.startsOwn f then d else d.startOwn f rest
          | none => d

/-! ### Port maintenance -/

/-- The own candidacy for time master (R385). -/
def Device.candidate (d : Device) : Bool := decide (d.fld Reg.BEY_CFG 10 8 < 255) && d.originates

/-- (TMPRIO, ADDR) x is a better candidate than y (R385). -/
def betterThan (x y : Nat × Nat) : Bool := decide (x.1 < y.1) || (x.1 == y.1 && decide (x.2 < y.2))

/-- The device broadcasts ELECT with the epoch one above the highest seen (R385). -/
def Device.elect (d : Device) : Device :=
  let e := (d.bey.epoch + 1) % 2 ^ 16
  let prio := d.fld Reg.BEY_CFG 10 8
  let d1 := { d with bey := { d.bey with
    epoch := e, electing := true, electAt := d.tbNow, electNo := e, best := some (prio, d.beyAddr) } }
  d1.ownControl 0x24 0 1023 0 (leBytes 8 (prio + e * 256))

/-- The latest copy of a SYNC on ring r. -/
def Device.copy (d : Device) (r : Nat) : Option SyncCopy := d.bey.copies.get (fun _ => none) r

/-- The device follows a master: it has taken a SYNC, and none since has been missing for three intervals (R385). -/
def Device.hasMaster (d : Device) : Bool := d.timeMaster || [0, 1].any fun r => (d.copy r).isSome

/-- No master is followed any longer. -/
def Device.dropMaster (d : Device) : Device := { d with bey := { d.bey with copies := [] } }

/-- A port comes UP (R371): LINK on the other port, and a candidate without a master broadcasts ELECT (R385). -/
def Device.portUp (d : Device) (p : Nat) : Device :=
  let d1 := (d.setFld (Reg.BEY_PORT p) 0 2 2).linkFrame p true
  if d1.candidate ∧ d1.hasMaster = false then d1.elect else d1

/-- HELLO_INTERVAL (R371): a TRAIN or UP port sends HELLO; a port that 8 CRC errors took DOWN and whose lane is still locked is
in TRAIN again. -/
def Device.helloInterval (d : Device) (p : Nat) : Device :=
  let d0 := if d.portState p = 0 ∧ d.bey.locked.contains p = true then d.setFld (Reg.BEY_PORT p) 0 2 1 else d
  if d.beyRuns = false then d
  else if d0.portState p = 0 ∨ d.dupAddr = true then d0
  else
    let pay := leBytes 8 (d.beyAddr + d.fld (Reg.BEY_PORT p) 2 10 * 2 ^ 16)
    d0.laneControl p (startLocal p d.tbNow (beyBody 0x20 0 0 d.beyAddr 1023 0 0 0 pay))

/-- HELLO (R371): the third consecutive one brings the port UP, once the own address has been seen returned. -/
def Device.hello (d : Device) (p : Nat) (f : FrameIn) : Device :=
  d.beyReceive p 0x20 f fun g e =>
    let (n, seen) := e.bey.hellos.get (fun _ => (0, false)) p
    let seen' := seen || fieldAt g.payload 2 2 % 2 ^ 10 == e.beyAddr
    let e0 := e.setFld (Reg.BEY_PORT p) 2 10 (fieldAt g.payload 0 2)
    let e1 : Device := { e0 with
      bey := { e0.bey with hellos := e0.bey.hellos.put (fun _ => (0, false)) p (n + 1, seen') } }
    if e1.portState p = 1 ∧ 3 ≤ n + 1 ∧ seen' = true then e1.portUp p else e1

/-- A stamp (R379): TB_NOW × 16 plus the SerDes phase. -/
def Device.stampNow (d : Device) (ph : Nat) : Nat := d.tbNow * 16 + ph % 16

/-- DREQ_INTERVAL (R380). -/
def Device.dreqInterval (d : Device) (p ph : Nat) : Device :=
  if d.beyRuns = false ∨ d.portState p ≠ 2 ∨ d.dupAddr = true then d
  else
    let d1 := { d with bey := { d.bey with dreqAt := d.bey.dreqAt.put (fun _ => 0) p (d.stampNow ph) } }
    d1.laneControl p (startLocal p d.tbNow (beyBody 0x21 0 0 d.beyAddr 1023 0 0 0 (leBytes 8 0)))

/-- DREQ (R380): answered with DRSP, whose first block is sent `res` stamp units after the receive stamp: TXTIME and t3 are of then. -/
def Device.dreq (d : Device) (p : Nat) (f : FrameIn) (ph res : Nat) : Device :=
  d.beyReceive p 0x21 f fun _ e =>
    let t2 := e.stampNow ph
    if e.dupAddr then e
    else e.laneControl p (startLocal p ((t2 + res) / 16) (beyBody 0x22 0 0 e.beyAddr 1023 0 0 0 (leBytes 8 t2 ++ leBytes 8 (t2 + res))))

/-- The mean of some link delays; its rounding is toward minus infinity. -/
def meanDelay (xs : List Int) : Int := if xs.isEmpty then 0 else (xs.foldl (· + ·) 0) / xs.length

/-- DRSP (R380): the link delay of the port; BEY_PDLYp shows the mean of the last eight. -/
def Device.drsp (d : Device) (p : Nat) (f : FrameIn) (ph : Nat) : Device :=
  d.beyReceive p 0x22 f fun g e =>
    let t1 : Int := e.bey.dreqAt.get (fun _ => 0) p
    let t2 : Int := fieldAt g.payload 0 8
    let t3 : Int := fieldAt g.payload 8 8
    let t4 : Int := e.stampNow ph
    let v := ((t4 - t1) - (t3 - t2)) / 2
    let vs := (v :: e.bey.delays.get (fun _ => []) p).take 8
    { e.wr (Reg.BEY_PDLY p) (patternOf 32 (meanDelay vs)) with
      bey := { e.bey with delays := e.bey.delays.put (fun _ => []) p vs } }

/-! ### Time -/

/-- TLOCK falls and raises BEY_TIME (R382). -/
def Device.loseLock (d : Device) : Device :=
  let d1 := { d with bey := { d.bey with good := 0 } }
  if d1.tlock then (d1.setFlag Reg.BEY_STAT 0 false).raise 0x29 2 else d1

/-- o / 128 rounded to the nearest integer, halves away from zero (R382). -/
def roundStep (o : Int) : Int := if 0 ≤ o then (o + 64) / 128 else -((-o + 64) / 128)

/-- An integer held between two bounds. -/
def clampInt (lo hi x : Int) : Int := if x < lo then lo else if hi < x then hi else x

/-- TB_CORR.TARGET from the proportional-integral law with shifts KP and KI, clamped to the range of R319 (R382). The law is named
and not written out: what it makes of the shifts, the offset and the sum of the offsets is a free function of Config. -/
def Device.servo (d : Device) (o : Int) : Device :=
  let sum := d.bey.sum + o
  let t := clampInt (-32768) 32767 (Config.servo (d.fld Reg.BEY_TSYNC 20 4) (d.fld Reg.BEY_TSYNC 24 4) o sum)
  { d.setFld Reg.TB_CORR 0 16 (patternOf 16 t) with bey := { d.bey with sum := sum } }

/-- The device disciplines its timebase from an offset (R382); the residue of a step is slewed by the same law (DEDUCED,
notes/assumptions/51.md). -/
def Device.discipline (d : Device) (o : Int) : Device :=
  if d.flag Reg.TB_CTRL 0 = false then d
  else if d.rd Reg.BEY_STEPTHR < o.natAbs then
    if d.mode = .run then
      ((d.setFlag Reg.BEY_STAT 4 true).setFld Reg.TB_CORR 0 16 (if 0 < o then 0x8000 else 0x7FFF)).raise 0x29 1
    else (d.tbStepBy (-(roundStep o))).servo (o - 128 * roundStep o)
  else d.servo o

/-- Eight consecutive SYNCs within 16 stamp units set TLOCK; three consecutive ones above clear it (R382). -/
def Device.countSync (d : Device) (o : Int) : Device :=
  if o.natAbs ≤ 16 then
    let d1 := { d with bey := { d.bey with good := d.bey.good + 1, late := 0 } }
    if 8 ≤ d1.bey.good then d1.setFlag Reg.BEY_STAT 0 true else d1
  else
    let d1 := { d with bey := { d.bey with good := 0, late := d.bey.late + 1 } }
    if 3 ≤ d1.bey.late then d1.loseLock else d1

/-- SYNC_INTERVAL (R379, R381, R384): the time master sends SYNC, of the epoch whose election it won (R385), and RTTP behind it
on both rings, each frame stamped at its own lane. -/
def Device.syncInterval (d : Device) (x : SyncTimes) : Device :=
  if d.beyRuns = false ∨ d.timeMaster = false ∨ d.originates = false then d
  else
    let ta := d.stampNow x.phaseA.toNat
    let tb := d.stampNow x.phaseB.toNat
    let la := x.lagA.toNat
    let lb := x.lagB.toNat
    let pay (t : Nat) : List Byte := leBytes 8 t ++ leBytes 8 0 ++ leBytes 2 d.beyAddr ++ leBytes 2 d.bey.electNo ++
      leBytes 4 (d.rd Reg.BEY_RTT) ++ leBytes 1 (bit01 (d.flag Reg.BEY_STAT 5)) ++ leBytes 7 0
    let probe : RttProbe := ⟨d.tbNow, ta + la, tb + lb, none, none⟩
    let d1 := { d with bey := { d.bey with probes := d.bey.probes ++ [probe] } }
    [(0, ta, la), (1, tb, lb)].foldl (fun e q =>
      let start (type t : Nat) (p : List Byte) : List Byte × Bool :=
        (startLocal q.1 (t / 16) (beyBody type 0 0 e.beyAddr 1023 0 0 0 p), false)
      if e.portState q.1 = 2 then
        e.laneSend q.1 true [start 0x23 q.2.1 (pay q.2.1), start 0x26 (q.2.1 + q.2.2) (leBytes 8 0)]
      else e) d1

/-- A candidate as its ELECT has shown it; one whose ELECT has not been seen counts as the best there can be (DESIGN CHOICE,
notes/assumptions/51.md). -/
def Device.candidateAt (d : Device) (a : Nat) : Nat × Nat := ((d.bey.prios.get (fun _ => none) a).getD 0, a)

/-- The device follows a SYNC: of the highest epoch it has seen, from that epoch's best candidate (R385). -/
def Device.follows (d : Device) (epoch master : Nat) : Bool :=
  decide (d.bey.epoch < epoch) || (epoch == d.bey.epoch && match d.bey.best with
    | some b => b.2 == master || betterThan (d.candidateAt master) b
    | none => true)

/-- A 64-bit correction as a signed number, and a number as one (R381). -/
def corrOf (p : List Byte) : Int := signedOf 64 (fieldAt p 8 8)

/-- A SYNC forwarded: CORR gains the link delay of the receiving port, which may be negative, and the residence time (R381). -/
def addCorr (body : List Byte) (x : Int) : List Byte :=
  body.take 24 ++ leBytes 8 (patternOf 64 (signedOf 64 (fieldAt body 24 8) + x)) ++ body.drop 32

/-- Of two copies of a SYNC, by ring and hops, the first is the one to use (R381). -/
def preferredCopy (r hops r' hops' : Nat) : Bool := decide (hops < hops') || (hops == hops' && decide (r < r'))

/-- The offset of the copy in use disciplines the timebase, counts for TLOCK and shows in BEY_OFS (R381, R382). -/
def Device.useSync (d : Device) (o : Int) : Device := ((d.wr Reg.BEY_OFS (patternOf 32 o)).countSync o).discipline o

def Device.setCopy (d : Device) (r : Nat) (c : SyncCopy) : Device :=
  { d with bey := { d.bey with copies := d.bey.copies.put (fun _ => none) r (some c) } }

/-- Two copies are of one SYNC: the master stamps each on its own lane, less than half an interval apart (R376, R381). -/
def Device.sameSync (d : Device) (x y : SyncCopy) : Bool :=
  decide (((x.origin : Int) - y.origin).natAbs < max 16 (8 * d.fld Reg.BEY_TSYNC 0 20))

/-- A copy that was held for its sibling is used after all, where none has come (R381). -/
def Device.useHeld (d : Device) : Device :=
  [0, 1].foldl (fun e r => match e.copy r with
    | some c => if c.done then e else (e.setCopy r { c with done := true }).useSync c.offset
    | none => e) d

/-- The first copy of a SYNC, on ring r, is held until its sibling comes: the other ring can bring one, has not missed the SYNC before,
and its copy would be the better, as far as is known (R381). -/
def Device.awaits (d : Device) (r : Nat) (c : SyncCopy) : Bool :=
  d.portState r == 2 && match d.copy (1 - r), d.copy r with
    | some x, some b => (d.sameSync x b || decide (b.origin ≤ x.origin)) && !preferredCopy r c.hops (1 - r) x.hops
    | some x, none => !preferredCopy r c.hops (1 - r) x.hops
    | none, some _ => false
    | none, none => true

/-- A copy of a followed SYNC on ring r (R381): two copies more than 32 units apart set ASYM. Of the two that with fewer hops is used,
of as many that of ring A, and the SYNC is used once: the first copy is held where a better one is awaited, and where that does not come
before the next SYNC the held one is used; a better one that comes unawaited only shows its offset (DEDUCED, notes/assumptions/51.md). -/
def Device.syncCopy (d : Device) (r : Nat) (c : SyncCopy) : Device :=
  match (d.copy (1 - r)).filter (d.sameSync c) with
  | some x =>
    let d1 := if 32 < (c.offset - x.offset).natAbs then d.setFlag Reg.BEY_STAT 2 true else d
    let d2 := (d1.setCopy (1 - r) { x with done := true }).setCopy r { c with done := true }
    let better := preferredCopy r c.hops (1 - r) x.hops
    if x.done then (if better then d2.wr Reg.BEY_OFS (patternOf 32 c.offset) else d2)
    else if better then d2.useSync c.offset
    else d2.useSync x.offset
  | none =>
    let d1 := d.useHeld
    let o := c.offset + 16 * ((d1.tbNow : Int) - d.tbNow)
    if d.awaits r c then d1.setCopy r { c with offset := o } else (d1.setCopy r { c with offset := o, done := true }).useSync o

/-- A SYNC that is followed (R381, R382, R385): its master, RTT and RTTSTALE show; one from a better candidate ends the own
election. -/
def Device.takeSync (d : Device) (g : BeyFrame) (p ph : Nat) : Device :=
  let origin := fieldAt g.payload 0 8
  let master := fieldAt g.payload 16 2 % 2 ^ 10
  let epoch := fieldAt g.payload 18 2
  let o : Int := (d.stampNow ph : Int) - ((origin : Int) + corrOf g.payload + signedOf 32 (d.rd (Reg.BEY_PDLY p)))
  let beaten := decide (d.bey.electNo ≤ epoch) &&
    betterThan (d.candidateAt master) (d.fld Reg.BEY_CFG 10 8, d.beyAddr)
  let d1 := { d with bey := { d.bey with
    epoch := epoch, best := some (d.candidateAt master), electing := d.bey.electing && !beaten, syncAt := d.tbNow } }
  let d2 := (d1.setFld Reg.BEY_STAT 16 10 master).wr Reg.BEY_RTT (fieldAt g.payload 20 4)
  let d3 := (d2.setFlag Reg.BEY_STAT 5 (bitOf (fieldAt g.payload 24 1) 0)).setFlag Reg.BEY_STAT 1 false
  (if d.fld Reg.BEY_STAT 16 10 = master then d3 else d3.dropMaster).syncCopy (1 - p) ⟨origin, g.hops, o, false⟩

/-- SYNC (R381, R382, R385). -/
def Device.sync (d : Device) (p : Nat) (f : FrameIn) (ph res : Nat) : Device :=
  d.beyReceive p 0x23 f fun g e =>
    let pdly := signedOf 32 (e.rd (Reg.BEY_PDLY p))
    let e1 := if g.src = e.beyAddr then e else e.forwardFrame p (addCorr g.body (pdly + (res : Int))) false
    if g.src ≠ e.beyAddr ∧ e.deliveredHere g = true ∧
        e1.follows (fieldAt g.payload 18 2) (fieldAt g.payload 16 2 % 2 ^ 10) = true then e1.takeSync g p ph
    else e1

/-- BEY_TSYNC.INTV. -/
def Device.intv (d : Device) : Nat := d.fld Reg.BEY_TSYNC 0 20

/-- SYNC_TIMEOUT (R382, R385): three intervals without a SYNC. -/
def Device.syncTimeout (d : Device) : Device :=
  if d.beyRuns = false ∨ d.timeMaster ∨ d.tbNow < d.bey.syncAt + 3 * d.intv then d
  else
    let d1 := d.useHeld.dropMaster.loseLock
    let d2 := { d1 with bey := { d1.bey with syncAt := d1.tbNow, best := none } }
    if d2.candidate then d2.elect else d2

/-- ELECT (R385): a better candidate of the same or a higher epoch ends the own election, and its mastership of a lower
one. -/
def Device.electFrame (d : Device) (p : Nat) (f : FrameIn) : Device :=
  d.beyReceive p 0x24 f fun g e0 =>
    let e := e0.passOn p g
    if g.src = e.beyAddr ∨ e.deliveredHere g = false then e else
    let who := (fieldAt g.payload 0 1, g.src)
    let epoch := fieldAt g.payload 1 2
    let own := (e.fld Reg.BEY_CFG 10 8, e.beyAddr)
    let best := if e.bey.epoch < epoch then some who
      else if epoch = e.bey.epoch then (match e.bey.best with
        | some b => if betterThan who b then some who else some b
        | none => some who)
      else e.bey.best
    let beaten := e.bey.electing && decide (e.bey.electNo ≤ epoch) && betterThan who own
    let e1 := { e with bey := { e.bey with
      epoch := max e.bey.epoch epoch, best := best, electing := e.bey.electing && !beaten
      prios := e.bey.prios.put (fun _ => none) g.src (some who.1) } }
    if e1.timeMaster ∧ (e.bey.epoch < epoch ∨ (epoch = e.bey.epoch ∧ betterThan who own = true)) then
      e1.setFlag Reg.BEY_STAT 1 false
    else e1

/-- ELECTION_TIMEOUT (R385): no better candidate within two intervals of the own ELECT. -/
def Device.electionTimeout (d : Device) : Device :=
  if d.beyRuns ∧ d.bey.electing ∧ d.originates ∧ d.bey.electAt + 2 * d.intv ≤ d.tbNow then
    let d1 := (d.setFlag Reg.BEY_STAT 1 true).setFld Reg.BEY_STAT 16 10 d.beyAddr
    { d1.dropMaster with bey := { d1.dropMaster.bey with electing := false } }
  else d

/-- The round trip of a probe on ring r, in timebase units rounded up (R384). -/
def RttProbe.trip (x : RttProbe) (r stamp : Nat) : Nat := (stamp - (if r = 0 then x.stampA else x.stampB) + 15) / 16

/-- A probe with its return on ring r. -/
def RttProbe.back (x : RttProbe) (r stamp : Nat) : RttProbe :=
  if r = 0 then { x with gotA := some (x.trip 0 stamp) } else { x with gotB := some (x.trip 1 stamp) }

/-- An RTTP of this probe is out on ring r, with that TXTIME. -/
def RttProbe.out (x : RttProbe) (r txtime : Nat) : Bool :=
  (if r = 0 then x.gotA else x.gotB).isNone && (if r = 0 then x.stampA else x.stampB) / 16 % 2 ^ 32 == txtime

/-- The own RTTP is back on ring r: where both of its rings have returned it, the larger value is RTT (R384). -/
def Device.rttReturn (d : Device) (r txtime stamp : Nat) : Device :=
  match takeFirst (fun x => x.out r txtime) d.bey.probes with
  | none => d
  | some (x, rest) =>
    let y := x.back r stamp
    match y.gotA, y.gotB with
    | some a, some b =>
      ({ d with bey := { d.bey with probes := rest } }.wr Reg.BEY_RTT (max a b)).setFlag Reg.BEY_STAT 5 false
    | _, _ => { d with bey := { d.bey with probes := d.bey.probes.map fun z => if z = x then y else z } }

/-- RTTP (R384): the master strips its own and measures the ring; every other device passes it on. -/
def Device.rttpFrame (d : Device) (p : Nat) (f : FrameIn) (ph : Nat) : Device :=
  d.beyReceive p 0x26 f fun g e =>
    if g.src ≠ e.beyAddr then e.passOn p g else e.rttReturn (1 - p) g.txtime (e.stampNow ph)

/-- RTT_TIMEOUT (R384): an RTTP has not returned within 2 ms. -/
def Device.rttTimeout (d : Device) : Device :=
  let late (x : RttProbe) : Bool := decide (x.sent + 500000 ≤ d.tbNow)
  if d.bey.probes.any late then
    { d.setFlag Reg.BEY_STAT 5 true with bey := { d.bey with probes := d.bey.probes.filter (!late ·) } }
  else d

/-- LINK (R400): recorded as a fault report, and passed on. -/
def Device.linkReceive (d : Device) (p : Nat) (f : FrameIn) : Device :=
  d.beyReceive p 0x25 f fun g e =>
    let v := fieldAt g.payload 0 8
    let e1 := e.passOn p g
    if g.src = e.beyAddr ∨ e.deliveredHere g = false then e1
    else e1.report (bitsOf v 0 10) (bitsOf v 10 1) (!bitOf v 11) (some (1 - p, g.hops))

/-! ### The safety layer -/

/-- A key slot's 16 bytes (Table 12.14). -/
def Device.safeKey (d : Device) (k : Nat) : List Byte :=
  (List.range 4).flatMap fun w => leBytes 4 (d.rd (Reg.BEY_SKEY k w))

/-- SCODE of a frame (R394): the header with HOPS and TXTIME zero, the payload before the trailer, SEQ and STIME. -/
def Device.safetyCode (d : Device) (cat sid key : Nat) (body covered : List Byte) : Nat :=
  let m := body.take 10 ++ leBytes 2 0 ++ leBytes 4 0 ++ covered
  if cat = 3 then leValue (((cmac (d.safeKey key) m).take 8).map fun x => BitVec.ofNat 8 x)
  else crc32 sid m

/-- TB_NOW[39:8] (Table 12.6). -/
def Device.safeTime (d : Device) : Nat := bitsOf d.tbNow 8 32

/-- SAFETY_CHECK (R395): which check of buffer n a frame fails first (1 CODE, 2 SEQ, 3 AGE), 0 where it passes; and the
state with BEY_RXLSEQn as the check leaves it. -/
def Device.safetyCheck (d : Device) (n : Nat) (g : BeyFrame) : Nat × Device :=
  let b := d.rd (Reg.BEY_RXB n)
  let len := g.payload.length
  let tr := g.payload.drop (len - 16)
  let seq := fieldAt tr 0 4
  let code := d.safetyCode (bitsOf b 18 2) (d.rd (Reg.BEY_RXSID n)) (bitsOf b 20 4) g.body (g.payload.take (len - 8))
  let age := signedOf 32 (d.safeTime + 2 ^ 32 - fieldAt tr 4 4)
  let old := decide (age < -1 ∨ (d.fld (Reg.BEY_RXID n) 16 16 : Int) < age)
  let win := if bitsOf b 25 4 = 0 then 1 else bitsOf b 25 4
  let step := (seq + 2 ^ 32 - d.rd (Reg.BEY_RXLSEQ n)) % 2 ^ 32
  if len < 16 ∨ fieldAt tr 8 8 ≠ code then (1, d)
  else if d.bey.freshSeq.contains n then
    if old then (3, d)
    else (0, { d.wr (Reg.BEY_RXLSEQ n) seq with bey := { d.bey with freshSeq := d.bey.freshSeq.filter (· != n) } })
  else if step = 0 ∨ win < step then (2, d)
  else (if old then 3 else 0, d.wr (Reg.BEY_RXLSEQ n) seq)

/-! ### DATA -/

/-- Counts OVW of BEY_CNT1. -/
def Device.beyOvw (d : Device) : Device := d.bump Reg.BEY_CNT1 8 8

/-- A frame is written to Beyram buffer n (R390 to R392). -/
def Device.beyWrite (d : Device) (n : Nat) (g : BeyFrame) : Device :=
  let b := d.beyBuffer n
  match d.rxStore b (beyZeroHops (g.body.take 16)) g.payload with
  | (.full, d1) => d1.beyOvw
  | (.written, d1) =>
    let d2 := if b.queue then d1
      else if d1.bey.deferred.contains n then
        (if d1.bey.due.contains n then d1.beyOvw else { d1 with bey := { d1.bey with due := d1.bey.due ++ [n] } })
      else d1.rxSwap b
    if d2.flag (Reg.BEY_RXB n) 24 then d2.beyNote else d2

/-- The lowest-numbered enabled buffer that a frame matches (R388). -/
def Device.beyMatch (d : Device) (g : BeyFrame) : Option Nat :=
  (List.range 64).find? fun n =>
    let b := d.rd (Reg.BEY_RXB n)
    bitOf b 15 && d.fld (Reg.BEY_RXID n) 0 16 == g.msgid && (bitsOf b 0 10 == g.src || bitsOf b 0 10 == 1023)

/-- A frame that matches buffer n: generation, safety layer, write (R389, R390, R395). -/
def Device.beyAccept (d : Device) (n : Nat) (g : BeyFrame) : Device :=
  let b := d.rd (Reg.BEY_RXB n)
  let k := (g.gen + 16 - bitsOf b 10 4) % 16
  if 8 ≤ k then d.bump Reg.BEY_CNT0 16 8
  else if k ≠ 0 ∧ bitOf b 16 = false then d.bump Reg.BEY_CNT1 0 8
  else
    let d1 := if k = 0 then d else d.setFld (Reg.BEY_RXB n) 10 4 g.gen
    if bitOf b 17 = false then d1.beyWrite n g
    else if g.safe = false then d1
    else match d1.safetyCheck n g with
      | (0, d2) => d2.beyWrite n g
      | (c, d2) => (d2.bump (Reg.BEY_RXS n) (8 * c) 8).raise 0x2B (n + 256 * c)

/-- The frame is later than the source's last (R387). -/
def Device.freshData (d : Device) (g : BeyFrame) : Bool :=
  match d.bey.sources.get (fun _ => none) g.src with
  | some (kept, _) =>
    let x := (g.txtime + 2 ^ 32 - kept) % 2 ^ 32
    decide (1 ≤ x) && decide (x < 2 ^ 31)
  | none => true

/-- DATA (R375, R386 to R395). -/
def Device.dataFrame (d : Device) (p : Nat) (f : FrameIn) : Device :=
  d.beyReceive p 0x01 f fun g e =>
    let e1 := e.passOn p g
    if g.src = e1.beyAddr ∧ e1.bey.sent.contains g.txtime = false then (e1.setFlag Reg.BEY_STAT 3 true).raiseLevel 0x2A 0 true
    else if e1.deliveredHere g = false then e1
    else if e1.freshData g = false then e1.bump Reg.BEY_CNT0 8 8
    else
      let e2 := { e1 with bey := { e1.bey with
        sources := e1.bey.sources.put (fun _ => none) g.src (some (g.txtime, e1.tbNow)) } }
      match e2.beyMatch g with
      | some n => e2.beyAccept n g
      | none => e2.bump Reg.BEY_CNT0 24 8

/-- DUP_EXPIRY (R387): 4 s without an accepted frame of the source. -/
def Device.dupExpiry (d : Device) (src : Nat) : Device :=
  match d.bey.sources.get (fun _ => none) src with
  | some (_, t) =>
    if t + 1000000000 ≤ d.tbNow then
      { d with bey := { d.bey with sources := d.bey.sources.put (fun _ => none) src none } }
    else d
  | none => d

/-! ### Sends -/

/-- The enabled entry of BEY_TXSAFEk that names a message identifier (R393). -/
def Device.txSafe (d : Device) (msgid : Nat) : Option Nat :=
  (List.range 64).find? fun k => d.flag (Reg.BEY_TXSAFE k) 22 && d.fld (Reg.BEY_TXSAFE k) 0 16 == msgid

/-- A send on the Beyram link, framed at the pin edge (R393, R394). The safety code covers FLAGS, so the copy of ring B, whose RING
is 1, has its own. -/
def Device.beySend (d : Device) (arg : Nat) (payload : List Byte) : Device :=
  if d.sendsData = false then d.bump Reg.BEY_CNT2 8 8
  else
    let msgid := bitsOf arg 0 16
    let body (flags : Nat) (p : List Byte) : List Byte :=
      beyBody 0x01 flags msgid d.beyAddr (bitsOf arg 16 10) (bitsOf arg 26 4) 0 0 p
    if bitOf arg 30 = false then d.originate ⟨false, body 0 payload, false, none, true, false, false⟩
    else match d.txSafe msgid with
      | none => d
      | some k =>
        let seq := d.rd (Reg.BEY_TXSEQ k)
        let covered := payload ++ leBytes 4 seq ++ leBytes 4 d.safeTime
        let e := d.rd (Reg.BEY_TXSAFE k)
        let safe (flags : Nat) : List Byte :=
          let code := d.safetyCode (bitsOf e 20 2) (d.rd (Reg.BEY_TXSID k)) (bitsOf e 16 4) (body flags (covered ++ leBytes 8 0)) covered
          body flags (covered ++ leBytes 8 code)
        (d.wr (Reg.BEY_TXSEQ k) (seq + 1)).originate ⟨false, safe 2, false, some (safe 3), true, false, false⟩

/-! ### Register writes and cross-device halt -/

/-- A write of BEY_CFG: ADDR and TMPRIO only while EN is 0 (R409). -/
def Device.beyCfgWrite (d : Device) (v : Nat) : Device :=
  let w := v % 2 ^ 28
  if d.beyEnabled then d.wr Reg.BEY_CFG (setBits w 0 18 (d.rd Reg.BEY_CFG)) else d.wr Reg.BEY_CFG w

/-- A write of BEY_RXLSEQn: the next frame is accepted at any SEQ (R395). -/
def Device.rxSeqWrite (d : Device) (n v : Nat) : Device :=
  let d1 := d.wr (Reg.BEY_RXLSEQ n) v
  { d1 with bey := { d1.bey with freshSeq := d1.bey.freshSeq.filter (· != n) ++ [n] } }

/-- An XEV block on a transmit lane. -/
def Device.xevSend (d : Device) (r code src hops : Nat) : Device :=
  { d with bey := { d.bey with xev := d.bey.xev.put (fun _ => []) r [(code, src, hops)] } }

/-- A halt or a resume of the device goes out as XEV (R374, R404). -/
def Device.xevOriginate (d : Device) (code : Nat) : Device :=
  if d.flag Reg.BEY_XEV 0 ∧ d.beyEnabled then (d.xevSend 0 code d.beyAddr 0).xevSend 1 code d.beyAddr 0 else d

/-- An XEV block at port p goes on, whatever EN holds, unless it has come home or made 999 hops (R404). -/
def Device.xevForward (d : Device) (p code src hops : Nat) : Device :=
  if src = d.beyAddr ∨ 999 ≤ hops then d else d.xevSend (1 - p) code src (hops + 1)

end Sys2Proof.Machine
end

