-- ==== Sys2Proof/Machine/Mac.lean ====
section
/-! DEFINITION. The Ethernet MACs (R405 to R408): the gate list, transmission with its timestamp, and reception into a
buffer; and the sends of a commit (R354). -/

namespace Sys2Proof.Machine

/-! ### Gates -/

/-- The gate list in the registers of MAC m: open gates and interval of each entry (Table 12.16). -/
def Device.gateEntries (d : Device) (m : Nat) : List (Nat × Nat) :=
  (List.range (min (d.fld (Reg.NET_GCTL m) 8 7) 64)).map fun e =>
    (d.fld (Reg.NET_GCL m e) 0 8, d.fld (Reg.NET_GCL m e) 8 24)

/-- The gate list of MAC m as it runs. -/
def Device.gateRun (d : Device) (m : Nat) : Option GateRun := d.mac.gates.get (fun _ => none) m

def Device.setGateRun (d : Device) (m : Nat) (g : Option GateRun) : Device :=
  { d with mac := { d.mac with gates := d.mac.gates.put (fun _ => none) m g } }

/-- The intervals of a list's cycle, each with its open gates: a cycle shorter than their sum truncates the list, and in a longer
one the last entry's gates stand to its end; without an entry every gate is open (R407). -/
def cycleParts : List (Nat × Nat) → Nat → List (Nat × Nat)
  | [], left => [(0xFF, left)]
  | [e], left => [(e.1, left)]
  | e :: r, left => if left ≤ e.2 then [(e.1, left)] else e :: cycleParts r (left - e.2)

/-- The entry that an instant of a cycle falls in, and when its interval ends, from entry e that begins at `start`. -/
def entryAt : List (Nat × Nat) → Nat → Nat → Nat → Nat × Nat
  | [], e, start, _ => (e, start)
  | p :: r, e, start, now => if now < start + p.2 ∨ r.isEmpty then (e, start + p.2) else entryAt r (e + 1) (start + p.2) now

/-- The gate list in the registers runs from the cycle that an instant falls in: the list runs from GCBASE + k × GCCYC (R407). It
does not run before GCBASE. -/
def Device.gateCycle (d : Device) (m at_ : Nat) : Device :=
  let base := d.rd64 (Reg.NET_GCBASE m)
  let cyc := d.rd (Reg.NET_GCCYC m)
  if at_ < base then d.setGateRun m none
  else
    let start := if cyc = 0 then at_ else base + (at_ - base) / cyc * cyc
    let l := cycleParts (d.gateEntries m) cyc
    let e := entryAt l 0 start at_
    d.setGateRun m (some ⟨e.1, e.2, start + cyc, l⟩)

/-- GATE_INTERVAL (R407): the interval in force ends, and the next entry's gates apply; at the end of the cycle, and at the base
time, the list in the registers comes into force. -/
def Device.gateInterval (d : Device) (m : Nat) : Device :=
  if d.flag (Reg.NET_GCTL m) 0 = false then d.setGateRun m none
  else match d.gateRun m with
    | none => d.gateCycle m d.tbNow
    | some g =>
      if d.tbNow < g.until_ then d
      else if g.cycleEnd ≤ g.until_ then d.gateCycle m g.cycleEnd
      else
        match g.list[g.entry + 1]? with
        | some (_, iv) => d.setGateRun m (some { g with entry := g.entry + 1, until_ := min g.cycleEnd (g.until_ + iv) })
        | none => d.setGateRun m (some { g with until_ := g.cycleEnd })

/-- The gates that stand from an instant on, to the end of the run's cycle. -/
def GateRun.rest (g : GateRun) (now : Nat) : List (Nat × Nat) :=
  let gates (e : Nat) : Nat := (g.list[e]?.map Prod.fst).getD 0xFF
  (gates g.entry, g.until_ - now) ::
    (if g.cycleEnd ≤ g.until_ then [] else g.list.drop (g.entry + 1))

/-- The gate of a queue stays open through some intervals for a time. -/
def staysOpen (q : Nat) : List (Nat × Nat) → Nat → Bool
  | [], need => need == 0
  | p :: r, need => if need = 0 then true else bitOf p.1 q && staysOpen q r (need - p.2)

/-- The gate of queue q is open now, and stays open for a time, in the run's cycle and those that follow it with the list in the
registers. -/
def Device.macGateOpen (d : Device) (m : Nat) (g : GateRun) (q need : Nat) : Bool :=
  let cyc := d.rd (Reg.NET_GCCYC m)
  let more := if cyc = 0 then [] else
    (List.replicate (need / cyc + 1) (cycleParts (d.gateEntries m) cyc)).flatMap fun l => l
  staysOpen q (g.rest d.tbNow ++ more) need

/-- Timebase units of one byte at the MAC's speed (Table 12.16); which speed SGMII auto-negotiation has found is a free
value. -/
def Device.byteTime (d : Device) (m : Nat) : Nat :=
  let speed := d.fld (Reg.NET_CFG m) 2 2
  match if speed = 3 then (Config.freeValue d.draws).toNat % 3 else speed with
  | 0 => 200
  | 1 => 20
  | _ => 2

/-- A queue may start a frame of so many bytes now: its gate is open, and the frame ends before the gate closes. -/
def Device.macGate (d : Device) (m q len : Nat) : Bool :=
  if d.flag (Reg.NET_GCTL m) 0 = false then true
  else match d.gateRun m with
    | some g => d.macGateOpen m g q (len * d.byteTime m + 1)
    | none => true

/-! ### Transmission -/

/-- The frame as the MAC sends it: padded to 60 bytes, with its FCS (R406). -/
def macFrame (p : List Byte) : List Byte :=
  let b := p ++ List.replicate (60 - p.length) 0
  b ++ leBytes 4 (crc32 0xFFFFFFFF b)

/-- The MAC is enabled and its logic runs, which DEEP-SLEEP stops (R520). -/
def Device.macRuns (d : Device) (m : Nat) : Bool := !d.isolated && d.mode != Mode.deepSleep && d.flag (Reg.NET_CFG m) 0

/-- Bursts queued on MAC m: the sends of one commit each (R354). -/
def Device.macQueue (d : Device) (m : Nat) : List (List (Nat × List Byte)) := d.mac.queue.get (fun _ => []) m

def Device.setMacQueue (d : Device) (m : Nat) (q : List (List (Nat × List Byte))) : Device :=
  { d with mac := { d.mac with queue := d.mac.queue.put (fun _ => []) m q } }

/-- The first burst of MAC m has begun and has frames left. -/
def Device.macMid (d : Device) (m : Nat) : Bool := d.mac.mid.contains m

/-- A frame may start on MAC m now. -/
def Device.macAdmits (d : Device) (m : Nat) (f : Nat × List Byte) : Bool := d.macGate m f.1 (macFrame f.2).length

/-- A burst may start on MAC m: its first frame may. -/
def Device.burstAdmits (d : Device) (m : Nat) (b : List (Nat × List Byte)) : Bool :=
  match b with
  | f :: _ => d.macAdmits m f
  | [] => false

/-- The first frame of a burst starts on MAC m and is timestamped; the rest of the burst stays at the head of the queue. -/
def Device.macStart (d : Device) (m : Nat) (b : List (Nat × List Byte)) (rest : List (List (Nat × List Byte))) : Device :=
  match b with
  | [] => d.setMacQueue m rest
  | f :: more =>
    let d1 := d.setMacQueue m (if more.isEmpty then rest else more :: rest)
    let mid := d.mac.mid.filter (· != m)
    { d1.wr64 (Reg.NET_TSTX m) (d.tbNow % 2 ^ 61 + f.1 * 2 ^ 61) with
      mac := { d1.mac with
        mid := if more.isEmpty then mid else mid ++ [m]
        out := d1.mac.out.put (fun _ => []) m (macFrame f.2) } }

/-- MAC_TRANSMIT (R354, R406, R407): the next frame of the burst that has begun, where its gate admits it; otherwise the first
burst whose first frame's gate does starts. -/
def Device.macTransmit (d : Device) (m : Nat) : Device :=
  if d.macRuns m = false ∨ d.tbNow < d.mac.pause.get (fun _ => 0) m then d
  else match d.macQueue m with
    | [] => d
    | b :: rest =>
      if d.macMid m then (if d.burstAdmits m b then d.macStart m b rest else d)
      else match takeFirst (d.burstAdmits m) (b :: rest) with
        | none => d
        | some (c, others) => d.macStart m c others

/-! ### Reception -/

/-- A big-endian field of a frame on the wire. -/
def wireField (bs : List Byte) (off n : Nat) : Nat := beValue ((bs.drop off).take n)

/-- The MAC takes the frame's destination: its station address, broadcast, or a multicast while MCAST is 1. -/
def Device.macTakes (d : Device) (m : Nat) (f : List Byte) : Bool :=
  let dst := wireField f 0 6
  dst == bitsOf (d.rd64 (Reg.NET_ADDR m)) 0 48 || dst == 2 ^ 48 - 1 ||
    (d.flag (Reg.NET_CFG m) 5 && bitOf (fieldAt f 0 1) 0)

/-- A pause frame of IEEE 802.3: its quanta (Table 12.10). -/
def pauseQuanta (f : List Byte) : Option Nat :=
  if wireField f 12 2 = 0x8808 ∧ wireField f 14 2 = 1 then some (wireField f 16 2) else none

/-- The lowest-numbered enabled buffer that a frame matches (R408). -/
def Device.macMatch (d : Device) (m : Nat) (f : List Byte) : Option Nat :=
  (List.range 32).find? fun n =>
    let b := d.rd (Reg.NET_RXB n)
    bitOf b 30 && bitsOf b 28 1 == m && bitsOf b 0 16 == wireField f 12 2 &&
      (!bitOf b 27 || (decide (18 + bitsOf b 16 11 ≤ f.length) && fieldAt f (14 + bitsOf b 16 11) 4 == d.rd (Reg.NET_RXK n)))

/-- A frame is written to MAC buffer n (R408). -/
def Device.macWrite (d : Device) (m n : Nat) (f : List Byte) : Device :=
  let b := d.macBuffer n
  match d.rxStore b (leBytes 8 f.length ++ leBytes 8 d.tbNow) f with
  | (.full, d1) => d1.bump (Reg.NET_STAT m) 24 8
  | (.written, d1) =>
    let d2 := if b.queue then d1
      else if d1.mac.deferred.contains n then
        (if d1.mac.due.contains n then d1.bump (Reg.NET_STAT m) 24 8
         else { d1 with mac := { d1.mac with due := d1.mac.due ++ [n] } })
      else d1.rxSwap b
    if d2.flag (Reg.NET_RXB n) 31 then d2.beyNote else d2

/-- MAC_FRAME_RECEIVE (R408): the frame from its destination address to its FCS. -/
def Device.macReceive (d : Device) (m : Nat) (bytes : List Byte) : Device :=
  let f := bytes.take (bytes.length - 4)
  if d.macRuns m = false ∨ bytes.length < 64 ∨ 1522 < bytes.length then d
  else if fieldAt bytes f.length 4 ≠ crc32 0xFFFFFFFF f then d.bump (Reg.NET_STAT m) 8 8
  else match pauseQuanta f with
    | some q =>
      { d with mac := { d.mac with pause := d.mac.pause.put (fun _ => 0) m (d.tbNow + q * 64 * d.byteTime m) } }
    | none =>
      if d.macTakes m f = false then d
      else match d.macMatch m f with
        | some n => d.macWrite m n f
        | none => d.bump (Reg.NET_STAT m) 16 8

/-! ### The sends of a commit -/

/-- A burst of own Beyram frames: every frame but the last is followed by another of it (R354). -/
def markBurst : List OutFrame → List OutFrame
  | [] => []
  | [f] => [{ f with more := false }]
  | f :: r => f :: markBurst r

/-- The frames that still belong to the burst that has begun, control frames among them. -/
def burstRest : List OutFrame → List OutFrame
  | [] => []
  | f :: r => if f.control || f.more then f :: burstRest r else [f]

/-- The sends of one commit enter the heads of their links' transmit queues in manifest order, as one burst, behind a burst that
has begun (R354, R393, R406). -/
def Device.sendBurst (d : Device) (sends : List (Nat × Nat × List Byte)) : Device :=
  let begun := if d.bey.mid then burstRest d.bey.ownQueue else []
  let old := d.bey.ownQueue.drop begun.length
  let d0 := { d with bey := { d.bey with ownQueue := [] } }
  let d1 := sends.foldl (fun e s => if s.1 = 1 then e.beySend s.2.1 s.2.2 else e) d0
  let d2 := { d1 with bey := { d1.bey with ownQueue := begun ++ markBurst d1.bey.ownQueue ++ old } }
  [0, 1].foldl (fun e m =>
    let burst := (sends.filter fun s => s.1 == m + 2).map fun s => (bitsOf s.2.1 0 3, s.2.2)
    let keep := if e.macMid m then 1 else 0
    let q := e.macQueue m
    if burst.isEmpty then e else e.setMacQueue m (q.take keep ++ [burst] ++ q.drop keep)) d2

end Sys2Proof.Machine
end

