-- ==== Sys2Proof/Machine/Mirror.lean ====
section
/-! DEFINITION. The maintenance gate (R366), and the active side of the Safety Net's mirror: the mirrored area (R417), the
close of a mirror cycle (R418 to R421, R426, R427), and the start of a full resynchronisation (R431). -/

namespace Sys2Proof.Machine

/-! ### The maintenance gate -/

/-- A requester's outcome in its own SCN_MNTST (Table 11.14). -/
def Device.gateResult (d : Device) (who r : Nat) : Device :=
  { d with scn := { d.scn with results := d.scn.results.put (fun _ => 0) who r } }

/-- A request of the gate for an activity from 1 to 5: 0 granted, 1 MAINT_BUSY (R366). -/
def Device.gateRequest (d : Device) (who act : Nat) : Nat × Device :=
  match d.scn.gate with
  | none => (0, { d with scn := { d.scn with gate := some ⟨act, who⟩ } })
  | some _ => (1, d)

/-- A release of the gate by its holder: 0 released, 2 NOTHOLDER (R366). -/
def Device.gateRelease (d : Device) (who : Nat) : Nat × Device :=
  match d.scn.gate with
  | some g => if g.holder = who then (0, { d with scn := { d.scn with gate := none } }) else (2, d)
  | none => (2, d)

/-- A write of SCN_MNT with ACT 1 to 5; ACT 6 and 7 return BADACT (R366, Table 11.14). -/
def Device.maintRequest (d : Device) (who act : Nat) : Device :=
  if act = 0 then d
  else if 6 ≤ act then d.gateResult who 3
  else let r := d.gateRequest who act; r.2.gateResult who r.1

/-- A write of SCN_MNT with ACT 0. -/
def Device.maintRelease (d : Device) (who : Nat) : Device :=
  let r := d.gateRelease who; r.2.gateResult who r.1

/-- A requester holds the gate for an activity. -/
def Device.gateHeld (d : Device) (who act : Nat) : Bool := d.scn.gate == some ⟨act, who⟩

/-- A reset of the holder releases the gate (R366). -/
def Device.gateDrop (d : Device) (who : Nat) : Device := (d.gateRelease who).2

/-! ### The mirrored area -/

/-- Line number (address / 64) of a region's start, and its length in lines; none where it is not enabled (R417). -/
def Device.mirrorRegion (d : Device) (k : Nat) : Option (Nat × Nat) :=
  if d.flag (Reg.NET_SNRLEN k) 31 then
    some (bitsOf (d.rd64 (Reg.NET_SNREG k)) 0 50 / 64, d.fld (Reg.NET_SNRLEN k) 0 18)
  else none

/-- The enabled regions. -/
def Device.mirrorRegions (d : Device) : List (Nat × Nat) := (List.range 16).filterMap d.mirrorRegion

/-- A line lies in the mirrored area. -/
def Device.mirrored (d : Device) (line : Nat) : Bool :=
  d.mirrorRegions.any fun r => decide (r.1 ≤ line) && decide (line < r.1 + r.2)

/-- A region's lines join those of the regions below it, each line once. -/
def addRegion (acc : List Nat) (r : Nat × Nat) : List Nat :=
  let top := match acc.getLast? with
    | some l => l + 1
    | none => 0
  acc ++ ((List.range r.2).map (r.1 + ·)).filter fun l => top ≤ l

/-- Every line of the mirrored area in ascending address order. -/
def Device.mirrorLines (d : Device) : List Nat :=
  (d.mirrorRegions.mergeSort fun x y => decide (x.1 ≤ y.1)).foldl addRegion []

/-- A region is refused that reaches into the second buffers, the mirror log, the retained store or an absent tile, or
out of the memories (R417). -/
def mirrorAllowed (c : Straps) (addr lines : Nat) : Bool :=
  if lines = 0 then true
  else match placeOf c none addr, placeOf c none (addr + lines * 64 - 1) with
    | some (.sram t _), some (.sram u _) => t == u
    | some (.image _), some (.image o) => decide (o < 2 * c.imageS)
    | _, _ => false

/-- A write of NET_SNREGk, or of NET_SNRLENk with its length and EN, while ROLE is UNPAIRED (R417, R434). -/
def Device.regionWrite (d : Device) (k addr len : Nat) (en : Bool) : Device :=
  if d.snRole ≠ 0 then d
  else
    let a := bitsOf addr 6 44 * 64
    let ok := mirrorAllowed d.cfg a (len % 2 ^ 18)
    let d1 := (d.wr64 (Reg.NET_SNREG k) a).wr (Reg.NET_SNRLEN k) (len % 2 ^ 18 + 2 ^ 31 * bit01 (en && ok))
    if en && !ok then d1.snFlag 11 true else d1

/-- PROGID of the anchor at SCN_PUDT (Table 11.9), as an agent reads it; none where it cannot be read. -/
def Device.progRead (d : Device) (agent : Nat) : Option Nat × Device :=
  match d.readSpan agent (bitsOf (d.rd64 Reg.SCN_PUDT) 0 50 + 8) 8 with
  | (some bs, e) => (some (leValue bs), e)
  | (none, e) => (none, e)

/-- A line as the Safety Net reads it (R169); the spec does not say what stands for one that cannot be read, so its bytes are
free values. -/
def Device.lineRead (d : Device) (l : Nat) : List Byte × Device :=
  match d.readSpan 7 (64 * l) 64 with
  | (some bs, e) => (bs, e)
  | (none, e) => ((List.range 64).map (Config.lineByte e.draws), e.draw)

/-- Lines read in order, each as a record's address and bytes. -/
def Device.linesRead (d : Device) (ls : List Nat) : List (Nat × List Byte) × Device :=
  ls.foldl (fun r l => let q := r.2.lineRead l; (r.1 ++ [(64 * l, q.1)], q.2)) ([], d)

/-- A line record (Table 13.3). -/
def lineRecord (r : Nat × List Byte) : List Byte := leBytes 8 r.1 ++ r.2

/-- Line records go into a half of the mirror log area, at Image Store offset 4S or 4S + 1 MiB, one behind the other (R421,
R422). -/
def Device.logStore (d : Device) (half first : Nat) (rs : List (Nat × List Byte)) : Device :=
  d.pokeFresh (imageBase + 4 * d.cfg.imageS + half * 0x100000 + 72 * first) (rs.flatMap lineRecord)

/-! ### Mirror cycles -/

/-- Cycle number x comes after y; the numbers wrap. -/
def cycleAfter (x y : Nat) : Bool := seqNewer x y

/-- The active's lag (R426), and the age of a standby's state (R428): CCYC less APPLIED. A standby whose APPLIED is ahead of the CCYC that
the last HB reported is not behind (DEDUCED, notes/assumptions/66.md). -/
def Device.snLag (d : Device) : Nat :=
  if cycleAfter (d.rd Reg.NET_SNACK) (d.rd Reg.NET_SNCYC) then 0
  else (d.rd Reg.NET_SNCYC + 2 ^ 32 - d.rd Reg.NET_SNACK) % 2 ^ 32

/-- The mode in which an active device closes mirror cycles (R418). -/
def Device.mirrorMode (d : Device) : Bool := d.mode == Mode.run || (d.mode == Mode.doze && d.prev == Mode.run)

/-- The class commit of class c closes a mirror cycle (R418). -/
def Device.mirrorClass (d : Device) (c : Nat) : Bool :=
  d.snRole == 2 && d.fld Reg.NET_SNCFG 4 4 == c && d.mirrorMode

/-- The trigger of the mirror class's commit waits for the ACK of the cycle before (R427). -/
def Device.lockedWait (d : Device) (c : Nat) : Bool :=
  d.mirrorClass c && d.flag Reg.NET_SNSTAT 4 && decide (0 < d.snLag)

/-- A full resynchronisation starts on the active (R431, R432). -/
def Device.resyncStart (d : Device) : Device :=
  let d1 := d.snFlag 5 true
  { d1 with sn := { d1.sn with rsLines := d1.mirrorLines, rsSent := 0, rsRead := d1.rd Reg.NET_SNCYC, rsDone := false } }

/-- The active asks for a full resynchronisation itself, as holder 1,021, while AUTORS is 1; a refusal is counted, and the
request is made again at each commit of the mirror class until it is granted (R431). -/
def Device.resyncSelf (d : Device) : Device :=
  if d.flag Reg.NET_SNCFG 8 = false ∨ d.snRole ≠ 2 then d
  else match d.gateRequest 1021 2 with
    | (0, d1) => { d1 with sn := { d1.sn with rsDue := false } }.resyncStart
    | (_, d1) => { d1 with sn := { d1.sn with rsDue := true } }.bump Reg.NET_SNCNT2 0 8

/-- The standby becomes READY 0, and a full resynchronisation is required (R415, R421, R423, R426). NET_SNSTAT.READY of the
active tells the standby in the HB that the change makes due. -/
def Device.resyncNeeded (d : Device) : Device :=
  ({ d with sn := { d.sn with invalid := true } }.setReady false).resyncSelf

/-- The dirty lines of the mirrored area, in ascending order. -/
def Device.dirtyLines (d : Device) : List Nat := (d.mem.dirty.map Prod.fst).filter d.mirrored

/-- The dirty bits of some lines are cleared (R418). -/
def Device.clearDirty (d : Device) (ls : List Nat) : Device :=
  { d with mem := { d.mem with dirty := d.mem.dirty.filter fun e => !ls.contains e.1 } }

/-- MAXLAG in force (R426). -/
def Device.maxLag (d : Device) : Nat := if d.fld Reg.NET_SNCFG 2 2 = 1 then 1 else 2

/-- The half of the mirror log area that no held log occupies (R421). -/
def Device.freeHalf (d : Device) : Nat := if d.sn.logs.any (·.half == 0) then 1 else 0

/-- The log of cycle k is built in a free half, from the lines as they stand (R418, R420, R421). -/
def Device.logBuild (d : Device) (k : Nat) (ls : List Nat) (edit : Bool) : Device :=
  let (id, d1) := d.progRead 7
  let (rs, d2) := d1.linesRead ls
  let h := d2.freeHalf
  let log : CycleLog := ⟨k, rs, d2.tbNow, edit, id.getD (Config.freeValue d2.draws).toNat, false, false, h⟩
  let d3 := (if id.isNone then d2.draw else d2).logStore h 0 rs
  { d3 with sn := { d3.sn with logs := d3.sn.logs ++ [log] } }

/-- MIRROR_CYCLE_CLOSE (R418 to R421, R426): the lines dirty before the commit's own writes, with the values they hold at
C, become the cycle's log; a write in the commit's own MCLK cycle keeps its line dirty for the next cycle. -/
def Device.mirrorClose (d : Device) (ls : List Nat) : Device :=
  let d0 := if d.sn.relock ∧ d.snLag = 0 then
      { d.snFlag 4 true with sn := { (d.snFlag 4 true).sn with relock := false } } else d
  let k := (d0.rd Reg.NET_SNCYC + 1) % 2 ^ 32
  let edit := d0.sn.edited
  let d1 := d0.wr Reg.NET_SNCYC k
  let d2 := { d1 with sn := { d1.sn with edited := false } }
  let beyond := d2.flag Reg.NET_SNSTAT 4 = false ∧ d2.maxLag < d2.snLag
  let d3 := if 14336 < ls.length then (d2.raise 0x33 (min ls.length (2 ^ 24 - 1))).resyncNeeded
    else if beyond then (d2.raise 0x31 k).resyncNeeded
    else d2.logBuild k ls edit
  if d0.sn.rsDue ∧ ls.length ≤ 14336 ∧ ¬beyond then d3.resyncSelf else d3

end Sys2Proof.Machine
end

