-- ==== Sys2Proof/Machine/Scan.lean ====
section
/-! DEFINITION. The scan sequencer (R331 to R345, R469): classes and their ticks, the latch map, the transfer, the release
and the expected set, the output map, and the end of a cycle. -/

namespace Sys2Proof.Machine

/-! ### Classes -/

def classDefault (_ : Nat) : ScanClass := ⟨false, false, [], [], [], none, false, [], ⟨[], [], 0, 0⟩, false, 0⟩

/-- A scan class. -/
def Device.cls (d : Device) (c : Nat) : ScanClass := d.scn.classes.get classDefault c

def Device.setCls (d : Device) (c : Nat) (k : ScanClass) : Device :=
  { d with scn := { d.scn with classes := d.scn.classes.put classDefault c k } }

/-- EN, RSRC and PRIO of SCN_CLSc. -/
def Device.clsOn (d : Device) (c : Nat) : Bool := d.flag (Reg.SCN_CLS c) 0
def Device.clsByChannel (d : Device) (c : Nat) : Bool := d.flag (Reg.SCN_CLS c) 1

/-- The classes in the order the sequencer serves them (R335). -/
def Device.byPrio (d : Device) : List Nat :=
  (List.range 8).reverse.flatMap fun p => (List.range 16).filter fun c => d.fld (Reg.SCN_CLS c) 4 3 == p

/-- The scan sequencer is frozen in HALT (Table 16.7). -/
def Device.scanFrozen (d : Device) : Bool := d.mode == .halt && bitOf d.dbg.freeze 1

/-- Class ticks exist in the mode (Table 11.1). -/
def Device.scanTicks (d : Device) : Bool :=
  match d.mode with
  | .stop | .standby | .safe | .run | .halt | .doze => true
  | _ => false

/-- Classes release in the mode (Table 11.1). -/
def Device.scanReleases (d : Device) : Bool :=
  match d.mode with
  | .run | .doze => true
  | .halt => !d.scanFrozen
  | _ => false

/-- Class commits are made in the mode (Table 11.1, R489). -/
def Device.scanCommits (d : Device) : Bool :=
  match d.mode with
  | .run | .halt | .doze => true
  | _ => false

/-- A write of SCN_CLSc (R331 to R333): an enable with PER out of range is refused; the tick series starts at the first
instant at least 2 TCLK after the write. A disable leaves the running cycle to its berths, with the output map of its
release (R332). -/
def Device.clsWrite (d : Device) (c v : Nat) : Device :=
  let old := d.rd (Reg.SCN_CLS c)
  let per := d.rd (Reg.SCN_PER c)
  let start := d.rd64 (Reg.SCN_START c)
  let d1 := d.wr (Reg.SCN_CLS c) v
  let fresh := decide (old % 4 ≠ v % 4)
  if bitOf v 0 = false then (if (d1.cls c).running then d1.setCls c { d1.cls c with kept := true } else d1)
  else if bitOf old 0 = false ∧ (per < 15625 ∨ 2500000000 < per) then
    (d1.setFlag (Reg.SCN_CLS c) 0 false).setFlag Reg.SCN_STAT 4 true
  else if fresh ∧ bitOf v 1 = false then
    let low := d.tbNow + 2
    let k := if low ≤ start then 0 else (low - start + per - 1) / per
    d1.wr64 (Reg.SCN_NEXT c) ((start + k * per) % 2 ^ 64)
  else d1

/-- A write of SCN_PERc or SCN_STARTc has no effect while EN is 1 (R331). -/
def Device.clsFixed (d : Device) (c : Nat) (f : Device → Device) : Device := if d.clsOn c then d else f d

/-! ### Maps -/

/-- An entry of a map as read (R338). -/
inductive MapEntry where
  | word (v : Nat)
  | bad
  | ue
  deriving DecidableEq, Repr

/-- Reads one map entry: a map lies 8-byte aligned in a tile SRAM or the Image Store (R338). -/
def Device.mapEntry (d : Device) (a : Nat) : MapEntry × Device :=
  let read : MapEntry × Device := match d.memRead 6 a 8 with
    | (some v, e) => (.word v, e)
    | (none, e) => (.ue, e)
  if a % 8 ≠ 0 then (.bad, d)
  else match placeOf d.cfg none a with
    | some (.sram _ _) => read
    | some (.image _) => read
    | _ => (.bad, d)

/-- Address and entries of a map register (Table 11.16). -/
def Device.mapAddr (d : Device) (reg : Nat) : Nat := bitsOf (d.rd64 reg) 0 50
def Device.mapCount (d : Device) (reg : Nat) : Nat := min (bitsOf (d.rd64 reg) 53 11) 1024

/-- A skipped entry (R338). -/
def Device.mapErr (d : Device) (c : Nat) : Device := (d.setFlag Reg.SCN_STAT 2 true).raise 0x27 c
def Device.mapUe (d : Device) : Device := d.setFlag Reg.SCN_STAT 3 true

/-- Every entry of a map in map order. -/
def Device.eachEntry (d : Device) (c reg : Nat) (f : Nat → Device → Device) : Device :=
  (List.range (d.mapCount reg)).foldl (fun e i =>
    match e.mapEntry (d.mapAddr reg + 8 * i) with
    | (.word v, e1) => f v e1
    | (.bad, e1) => e1.mapErr c
    | (.ue, e1) => e1.mapUe) d

/-! ### The latch -/

/-- What the source of a latch entry gives at the tick. -/
inductive LatchValue where
  | word (v : Nat)
  | bad
  | ue
  deriving DecidableEq, Repr

/-- A word that a latch reads of a receive buffer. -/
def readLatch (r : Option Nat × Device) : LatchValue × Device :=
  match r with
  | (some v, e) => (.word v, e)
  | (none, e) => (.ue, e)

/-- The value of a latch entry's source at the tick; an entry that breaks Table 11.2 is bad (R338, R339). -/
def Device.latchSource (d : Device) (kind index sub : Nat) : LatchValue × Device :=
  if kind = 1 then (if sub ≠ 0 then .bad else .word (if d.tileOn index then d.padInWord index else 0), d)
  else if kind = 2 then (if sub ≠ 0 then .bad else .word (if d.engPresent index then (d.engine index).rg peImgin else 0), d)
  else if kind = 3 ∧ index < 32 then readLatch (d.rxWord (d.macBuffer index) 0 sub)
  else if kind = 4 ∧ index < 64 then readLatch (d.rxWord (d.beyBuffer index) 8 sub)
  else (.bad, d)

/-- An element joins a list that does not hold it. -/
def joinNat (l : List Nat) (n : Nat) : List Nat := if l.contains n then l else l ++ [n]

/-- One latch entry: its source goes into its latch buffer in the second-buffer area (R338, R339). A receive word that cannot be
read skips the entry, as an entry that cannot be read is skipped (DEDUCED, notes/assumptions/40.md). -/
def Device.latchEntry (d : Device) (c v : Nat) : Device :=
  let dst := bitsOf v 0 24
  let kind := bitsOf v 32 4
  let index := bitsOf v 40 8
  let shape := bitsOf v 24 8 = 0 ∧ bitsOf v 36 4 = 0 ∧ dst % 4 = 0 ∧ bitOf dst 3 = false ∧ dst + 4 ≤ 2 * d.cfg.imageS
  if ¬shape then d.mapErr c
  else match d.latchSource kind index (bitsOf v 48 16) with
    | (.bad, e) => e.mapErr c
    | (.ue, e) => e.mapUe
    | (.word x, e) =>
      let d1 := e.memWrite 6 3 (imageBase + 2 * d.cfg.imageS + dst) (leBytes 4 x)
      let k := d1.cls c
      let buf := if kind = 3 then [index] else if kind = 4 then [32 + index] else []
      d1.setCls c { k with
        assembled := joinNat k.assembled (dst - dst % 8), frozen := buf.foldl joinNat k.frozen }

/-- The swaps of the buffers that assembling classes name are deferred (R391). -/
def Device.freezeBuffers (d : Device) : Device :=
  let all := (List.range 16).foldl (fun l c => if (d.cls c).latching then (d.cls c).frozen.foldl joinNat l else l) []
  { d with
    bey := { d.bey with deferred := (all.filter (32 ≤ ·)).map (· - 32) }
    mac := { d.mac with deferred := all.filter (· < 32) } }

/-- The sources are sampled and the latch buffers assembled (R339, R341). -/
def Device.latchSample (d : Device) (c stamp : Nat) : Device :=
  let d0 := (d.wr64 (Reg.SCN_STAMP c) stamp).setCls c { d.cls c with
    assembled := [], stampWord := none, frozen := [], latching := true }
  let d1 := d0.eachEntry c (Reg.SCN_LMAP c) fun v e => e.latchEntry c v
  let off := d1.fld (Reg.SCN_STW c) 4 17 * 16
  let d2 := if d1.flag (Reg.SCN_STW c) 0 = false then d1
    else if off + 8 ≤ 2 * d1.cfg.imageS then d1.setCls c { d1.cls c with stampWord := some (off, stamp) }
    else d1.mapErr c
  d2.freezeBuffers

/-! ### Ticks -/

/-- The next tick of a masked class closes the edit window (R361). -/
def Device.closeWindow (d : Device) (c : Nat) : Device :=
  if d.flag Reg.SCN_STAT 0 && d.flag Reg.SCN_EDIT c then d.setFlag Reg.SCN_STAT 0 false else d

/-- CLASS_OVERRUN (R343). -/
def Device.classOverrun (d : Device) (c : Nat) (channel : Bool) : Device :=
  let d1 := ((d.bump (Reg.SCN_OVR c) 0 16).pulse (0x41 + c)).raise 0x25 c
  if channel then d1.evfOverrun 3 else d1

/-- A tick of class c (R333, R337, R339, R341, R343). -/
def Device.classTick (d : Device) (c stamp : Nat) (channel : Bool) : Device :=
  if d.scanTicks = false then d
  else
    let d1 := (d.pulse (0x31 + c)).closeWindow c
    if d1.scanFrozen then d1
    else if d1.scanReleases then
      if (d1.cls c).running then d1.classOverrun c channel
      else (d1.setCls c { d1.cls c with running := true, release := true, kept := false }).latchSample c stamp
    else d1.latchSample c stamp

/-- CLASS_TICK (R333): the timebase has reached the next instant of a class that ticks by itself. -/
def Device.ownTick (d : Device) (c : Nat) : Device :=
  let next := d.rd64 (Reg.SCN_NEXT c)
  if d.clsOn c = false ∨ d.clsByChannel c = true ∨ d.tbNow < next then d
  else
    let per := d.rd (Reg.SCN_PER c)
    let start := d.rd64 (Reg.SCN_START c)
    (d.wr64 (Reg.SCN_NEXT c) ((start + ((d.tbNow - start) / per + 1) * per) % 2 ^ 64)).classTick c d.tbNow false

/-- CHANNEL_TICK (R334): the tick instant is the sampling edge, 2 TCLK before the synchroniser delivers it (R529). -/
def Device.channelTick (d : Device) (ch : Nat) : Device :=
  d.byPrio.foldl (fun e c =>
    if e.clsOn c && e.clsByChannel c && e.fld (Reg.SCN_CLS c) 8 7 == ch then e.classTick c (e.tbNow + 1) true else e) d

/-! ### Release and the class commit's trigger -/

/-- Applied commits are counted (Table 11.19). -/
def Device.commitCount (d : Device) : Device := d.bump Reg.MFT_CNT 0 16

/-- The bound berths of a class that are present and not parked (R336). -/
def Device.expectedSet (d : Device) (c : Nat) : List Nat :=
  (List.range d.cfg.berths).filter fun b =>
    d.fld (Reg.SCN_BIND b) 0 5 == 16 + c && d.present b && !d.parked b

/-- One output-map entry (R340, Table 11.3): what it names, or nothing where it breaks the table. -/
def outEntry (s2 v : Nat) (m : OutMap) : OutMap :=
  let ofs := bitsOf v 0 24
  let kind := bitsOf v 32 4
  let index := bitsOf v 40 8
  let n := bitsOf v 48 16
  if bitsOf v 24 8 ≠ 0 ∨ bitsOf v 36 4 ≠ 0 then { m with bad := m.bad + 1 }
  else if kind = 1 then
    if ofs % 16 ≠ 8 ∨ index ≠ 0 ∨ n = 0 ∨ 4096 < n ∨ s2 < ofs + 16 * n - 8 then { m with bad := m.bad + 1 }
    else
      let room := 4096 - m.copies.length
      let words := (List.range n).map fun j => ofs + 16 * j
      { m with copies := m.copies ++ words.take room, bad := if room < n then m.bad + 1 else m.bad }
  else if kind = 2 then
    if ofs % 4 ≠ 0 ∨ bitOf ofs 3 = false ∨ n ≠ 0 ∨ s2 < ofs + 4 then { m with bad := m.bad + 1 }
    else { m with loads := m.loads ++ [(index, ofs)] }
  else { m with bad := m.bad + 1 }

/-- The output map of class c as memory holds it now. -/
def Device.outMap (d : Device) (c : Nat) : OutMap :=
  (List.range (d.mapCount (Reg.SCN_OMAP c))).foldl (fun m i =>
    match (d.mapEntry (d.mapAddr (Reg.SCN_OMAP c) + 8 * i)).1 with
    | .word v => outEntry (2 * d.cfg.imageS) v m
    | .bad => { m with bad := m.bad + 1 }
    | .ue => { m with ue := m.ue + 1 }) ⟨[], [], 0, 0⟩

/-- A queued commit joined at V − LEAD, and in the running TCLK cycle (R358). -/
def Device.joinedNow (d : Device) (q : Commit) : Bool :=
  match q with
  | .berth h => match d.manifest h with
    | some m => match m.instant with
      | some v =>
        let at_ := 3 * d.tbNow + d.fld Reg.MFT_LEAD 0 12
        !m.sync && !m.passed && decide (3 * v ≤ at_) && decide (at_ < 3 * v + 3)
      | none => false
    | none => false
  | _ => false

/-- A commit enters the queue in front of the first entry of a kind, and otherwise at its end. -/
def Device.commitBefore (d : Device) (q : Commit) (p : Commit → Bool) : Device :=
  let was := d.scn.queue
  { d with scn := { d.scn with queue := was.takeWhile (!p ·) ++ [q] ++ was.dropWhile (!p ·) } }

/-- The class commit is triggered (R342), in front of the scheduled commits that have joined in the same cycle (R357). -/
def Device.clsTrigger (d : Device) (c : Nat) : Device :=
  match d.manifest (16 + c) with
  | some m =>
    if m.committed then d
    else
      let d1 := (d.setManifest (16 + c) (some { m with committed := true })).setCls c { d.cls c with doneAt := d.tbNow }
      d1.commitBefore (.cls c) d1.joinedNow
  | none => d

/-- The last done triggers the class commit (R342). -/
def Device.clsCheck (d : Device) (c : Nat) : Device :=
  let k := d.cls c
  if k.running && !k.release && k.expected.all k.done.contains then d.clsTrigger c else d

/-- The commits of classes whose last done has come are triggered in the order of R335 (R357). -/
def Device.cyclesCheck (d : Device) : Device := d.byPrio.foldl (fun e c => e.clsCheck c) d

/-- CLASS_RELEASE (R336, R342): IPEND[25] of the expected set, the class manifest, and the output map as it stands; a release in
DOZE ends it (Table 11.1). -/
def Device.classRelease (d : Device) (c : Nat) : Device :=
  let exp := d.expectedSet c
  let d1 := d.setCls c { d.cls c with release := false, expected := exp, done := [], omap := d.outMap c }
  let d2 := (d1.wrapInc (Reg.SCN_CYC c) 0 32).setManifest (16 + c)
    (some ⟨0, false, false, 0, [], 0, false, none, false⟩)
  let d3 := exp.foldl (fun e b => e.setLine b 25) d2
  (if d3.mode = .doze then d3.setMode d3.prev else d3).clsCheck c

/-- A latch buffer goes into its working word; one that cannot be read is left out (R160, R342). -/
def Device.latchWord (d : Device) (w : Nat) : Device :=
  match d.memRead 6 (imageBase + 2 * d.cfg.imageS + w) 8 with
  | (some v, e) => e.memWrite 5 3 (imageBase + w) (leBytes 8 v)
  | (none, e) => e.mapUe

/-- The swaps whose deferral has ended are made (R391). -/
def Device.thawBuffers (d : Device) : Device :=
  let d1 := d.freezeBuffers
  let bs := d1.bey.due.filter fun n => !d1.bey.deferred.contains n
  let ms := d1.mac.due.filter fun n => !d1.mac.deferred.contains n
  let d2 := bs.foldl (fun e n => e.rxSwap (e.beyBuffer n)) d1
  let d3 := ms.foldl (fun e n => e.rxSwap (e.macBuffer n)) d2
  { d3 with
    bey := { d3.bey with due := d3.bey.due.filter d3.bey.deferred.contains }
    mac := { d3.mac with due := d3.mac.due.filter d3.mac.deferred.contains } }

/-- The TCLK edge of a class's latest tick that latched: its instant, and 2 TCLK more where a channel brought it (R334). -/
def Device.tickEdge (d : Device) (c : Nat) : Nat := d.rd64 (Reg.SCN_STAMP c) + if d.clsByChannel c then 2 else 0

/-- A class served before class c still assembles the latch of the same edge, so its transfer comes first (R335, R357). -/
def Device.latchBehind (d : Device) (c : Nat) : Bool :=
  (d.byPrio.takeWhile (· != c)).any fun k => (d.cls k).latching && d.tickEdge k == d.tickEdge c

/-- LATCH_TRANSFER (R342): every latch buffer and the stamp word enter the working image as one commit, and the class is
released where its mode releases. -/
def Device.latchTransfer (d : Device) (c : Nat) : Device :=
  let k := d.cls c
  if k.latching = false ∨ d.latchBehind c = true then d
  else
    let d1 := k.assembled.foldl (fun e w => e.latchWord w) d
    let d2 := match k.stampWord with
      | some (off, v) => d1.memWrite 5 3 (imageBase + off) (leBytes 8 v)
      | none => d1
    let d3 := (d2.setCls c { d2.cls c with latching := false, assembled := [], stampWord := none, frozen := [] }).thawBuffers
    let d4 := d3.commitCount
    if (d4.cls c).release = false then d4
    else if d4.scanReleases then d4.classRelease c
    else d4.setCls c { d4.cls c with running := false, release := false }

/-- Berths leave the expected sets of running cycles at their reset (R336). -/
def Device.leaveCycles (d : Device) (gone : Nat → Bool) : Device :=
  ((List.range 16).foldl (fun e c =>
    let k := e.cls c
    if k.running && k.expected.any gone then
      e.setCls c { k with expected := k.expected.filter (!gone ·), done := k.done.filter (!gone ·) }
    else e) d).cyclesCheck

/-- The cycle of class c ends with its commit (R342, R344, Table 11.17). -/
def Device.cycleEnd (d : Device) (c : Nat) (ok : Bool) : Device :=
  let t := d.tbNow - d.rd64 (Reg.SCN_STAMP c)
  let d1 := if d.rd (Reg.SCN_WORST c) < t then d.wr (Reg.SCN_WORST c) (min t (2 ^ 32 - 1)) else d
  let d2 := d1.setCls c { d1.cls c with running := false, release := false, expected := [], done := [] }
  if ok then d2 else (d2.bump (Reg.SCN_OVR c) 16 8).raise 0x26 c

/-! ### Edit windows, counters, SERVICE -/

/-- EDIT_WINDOW_OPEN (R361). -/
def Device.editOpen (d : Device) : Device :=
  let busy := (List.range 16).any fun c => d.flag Reg.SCN_EDIT c && (d.cls c).running
  if d.flag Reg.SCN_EDIT 16 && !d.flag Reg.SCN_STAT 0 && !busy then
    (d.setFlag Reg.SCN_STAT 0 true).wrapInc Reg.SCN_EDIT 24 8
  else d

/-- SCN_OVRc.CLR (Table 11.17). -/
def Device.ovrClear (d : Device) (c v : Nat) : Device :=
  if bitOf v 31 then (d.wr (Reg.SCN_OVR c) 0).wr (Reg.SCN_WORST c) 0 else d

/-- MFT_CLR.CNT (Table 11.19). -/
def Device.mftClear (d : Device) (v : Nat) : Device := if bitOf v 0 then d.wr Reg.MFT_CNT 0 else d

/-- SERVICE_SAMPLE (R469). DESIGN CHOICE (notes/assumptions/59.md): a tracked word that it changes counts as written by path 3
of Table 6.10. -/
def Device.serviceSample (d : Device) : Device :=
  if d.mode = .service ∧ d.tbNow % 250000 = 0 then
    (List.range d.cfg.tiles).foldl (fun e t => e.memWrite 6 3 (imageBase + t * 16) (leBytes 8 (e.padInWord t))) d
  else d

/-- SCN_BINDb as read (Table 11.18). -/
def Device.bindWord (d : Device) (b : Nat) : Nat :=
  let inSet := (List.range 16).any fun c => (d.cls c).running && (d.cls c).expected.contains b
  let isDone := (List.range 16).any fun c => (d.cls c).running && (d.cls c).done.contains b
  d.fld (Reg.SCN_BIND b) 0 5 + 256 * bit01 inSet + 512 * bit01 isDone

end Sys2Proof.Machine
end

