-- ==== Sys2Proof/Machine/Commit.lean ====
section
/-! DEFINITION. The manifest unit (R346 to R358): manifests and their actions, the store and its limits, the commit of a
class or of a berth's manifest, and the checkpoint captures that a class commit fixes (R363, R364). -/

namespace Sys2Proof.Machine

/-! ### Manifests as they stand -/

/-- Guards of a list of actions, in MGUARD order. -/
def guardsOf (as : List MftAct) : List (Nat × Nat × Nat) :=
  as.filterMap fun a => match a with
    | .guard w v k => some (w, v, k)
    | _ => none

/-- Lines of a capture whose values at C the store holds: they have changed since C and are not yet written to the retained
store, which takes 8 bytes every 16 MCLK from C on (R363, R364). -/
def Device.heldLines (d : Device) (k : Capture) : Nat :=
  let p := (k.record.drop 32).take (fieldAt k.record 8 4)
  let n := fieldAt p 8 4
  let written := (d.tbNow - k.at_) * 3 / 16 * 8
  let regions := (List.range n).map fun i => (fieldAt p (16 + 16 * i) 8, fieldAt p (24 + 16 * i) 4)
  ((regions.foldl (fun (s : Nat × List Nat) r =>
    let lines := (List.range' (r.1 / 64) ((r.1 + r.2 + 63) / 64 - r.1 / 64)).filter fun l =>
      let lo := max (64 * l) r.1
      let m := min (64 * l + 64) (r.1 + r.2) - lo
      let at_ := s.1 + (lo - r.1)
      decide (written < 32 + at_ + m) && d.bytesAt lo m != (p.drop at_).take m
    (s.1 + pad8 r.2, lines.foldl joinNat s.2)) (16 + 16 * n, [])).2).length

/-- Bytes of the store that a checkpoint capture uses: 64 for each line it holds (R363). -/
def Device.captureHeld (d : Device) : Nat :=
  match d.scn.capture with
  | some k => if k.fixed then 64 * d.heldLines k else 0
  | none => 0

/-- Actions in all open and class manifests, and the store in use, captures included (R356, Table 11.8). -/
def Device.mftActs (d : Device) : Nat := d.scn.manifests.foldl (fun n e => n + (e.2.map fun m => m.acts.length).getD 0) 0
def Device.mftBytes (d : Device) : Nat :=
  d.scn.manifests.foldl (fun n e => n + (e.2.map fun m => m.bytes).getD 0) d.captureHeld

/-- The manifest store (R356). -/
def mftStore : Nat := 0x20000

/-- MFT_STAT and MFT_Hn as read (Table 11.19). -/
def Device.mftStat (d : Device) : Nat :=
  let opened := ((List.range 16).filter fun h => (d.manifest h).isSome).length
  opened + (d.mftBytes + 1023) / 1024 * 2 ^ 8 + d.mftActs * 2 ^ 16

def Device.mftHandle (d : Device) (h : Nat) : Nat :=
  match d.manifest h with
  | some m => 1 + 2 * bit01 m.edit + 4 * bit01 m.sync + m.owner * 2 ^ 8 + m.acts.length * 2 ^ 19
  | none => 0

/-- The class manifest that a berth may act on: it is in the expected set of its running cycle and has not reported
done (R347). -/
def Device.classOf (d : Device) (b : Nat) : Option Nat :=
  (List.range 16).find? fun c =>
    let k := d.cls c
    k.running && !k.release && k.expected.contains b && !k.done.contains b && (d.manifest (16 + c)).isSome

/-- MOPEN (R346, Tables 11.5 and 11.6): the handle, or the failure. `class` is rd[8] of the operand (R347). -/
def Device.mftOpen (d : Device) (b p : Nat) (cls : Bool) : Nat × Device :=
  let sync := bitOf p 0
  let edit := bitOf p 1
  if cls then (mftFail (if (d.classOf b).isSome then 0x0A else 0x09), d)
  else if bitsOf p 2 6 ≠ 0 ∨ bitsOf p 16 16 ≠ 0 ∨ (sync && edit) = true ∨ (sync = false ∧ bitsOf p 8 8 ≠ 0) then
    (mftFail 0x08, d)
  else if edit = true ∧ ((d.berth b).pl = 0 ∨ d.gateHeld b 1 = false) then (mftFail 0x0B, d)
  else match (List.range 16).find? fun h => (d.manifest h).isNone with
    | none => (mftFail 0x03, d)
    | some h =>
      if mftStore < d.mftBytes + 64 then (mftFail 0x04, d)
      else (h, d.setManifest h (some ⟨b, sync, edit, bitsOf p 8 8, [], 64, false, none, false⟩))

/-- The manifest that rd names for a berth, or the failure (R346, R347, Table 11.6). -/
def Device.mftTarget (d : Device) (b rdv : Nat) : Except Nat (Nat × Manifest) :=
  if bitOf rdv 8 then
    match d.classOf b with
    | some c => (match d.manifest (16 + c) with
      | some m => .ok (16 + c, m)
      | none => .error 0x09)
    | none => .error 0x09
  else match d.manifest (rdv % 16) with
    | some m => if m.owner = b ∧ m.committed = false then .ok (rdv % 16, m) else .error (if m.owner = b then 0x01 else 0x02)
    | none => .error 0x01

/-- An action joins a manifest where the limits allow it (R349, R356). DESIGN CHOICE (notes/assumptions/65.md): where a failure of the
handle and BADPARAM both apply, Table 11.6 gives no order, and the handle is checked first. -/
def Device.mftAdd (d : Device) (b rdv : Nat) (valid : Bool) (cost : Nat) (a : MftAct) : Nat × Device :=
  match d.mftTarget b rdv with
  | .error c => (mftFail c, d)
  | .ok (h, m) =>
    let isGuard := match a with
      | .guard _ _ _ => true
      | _ => false
    if valid = false then (mftFail 0x08, d)
    else if isGuard = true ∧ 16 ≤ (guardsOf m.acts).length then (mftFail 0x07, d)
    else if 4096 ≤ m.acts.length then (mftFail 0x05, d)
    else if 8192 ≤ d.mftActs then (mftFail 0x06, d)
    else if mftStore < d.mftBytes + cost then (mftFail 0x04, d)
    else (0, d.setManifest h (some { m with acts := m.acts ++ [a], bytes := m.bytes + cost }))

/-- MGUARD and MPUT (R350, R351); the address is the word's global one. -/
def Device.mftGuard (d : Device) (b rdv a v k : Nat) : Nat × Device := d.mftAdd b rdv (decide (k ≤ 5)) 16 (.guard a v k)
def Device.mftPut (d : Device) (b rdv a v k : Nat) : Nat × Device := d.mftAdd b rdv (decide (k = 0)) 16 (.put a v)

/-- MPIN (R352). -/
def Device.mftPin (d : Device) (b rdv kind tile mask v : Nat) : Nat × Device :=
  let who := d.identity (.berth b)
  d.mftAdd b rdv (decide (kind ≤ 1 ∧ tile < d.cfg.tiles)) 16
    (if kind = 0 then .pins tile mask v who else .start tile (mask % 256) who)

/-- A send's ARG as its link takes it (R393, R406). -/
def Device.sendArgOk (d : Device) (link len arg : Nat) : Bool :=
  if link = 1 then
    let dst := bitsOf arg 16 10
    !bitOf arg 31 && !(decide (1000 ≤ dst) && decide (dst ≤ 1022)) &&
      (!bitOf arg 30 || ((d.txSafe (bitsOf arg 0 16)).isSome && decide (len ≤ 1484)))
  else decide (arg < 8) && decide (14 ≤ len)

/-- The global address of a place in a tile SRAM or the Image Store. -/
def sendPlace (c : Straps) (own a : Nat) : Option Nat :=
  match placeOf c (some own) a with
  | some (.sram t o) => some (sramBase t + o)
  | some (.image o) => some (imageBase + o)
  | _ => none

/-- A region lies in one memory. -/
def regionPlaced (c : Straps) (r : Nat × Nat) : Bool :=
  if r.2 = 0 then true
  else match placeOf c none r.1, placeOf c none (r.1 + r.2 - 1) with
    | some (.sram t _), some (.sram u _) => t == u
    | some (.image _), some (.image _) => true
    | some (.retained _), some (.retained _) => true
    | _, _ => false

/-- MSEND (R353, Table 11.7): the descriptor at a global address and its payload are copied. A descriptor or payload that
does not lie whole in one memory, or cannot be read, is an invalid one. -/
def Device.mftSend (d : Device) (b rdv k desc : Nat) : Nat × Device :=
  match d.mftTarget b rdv with
  | .error c => (mftFail c, d)
  | .ok _ =>
    match if regionPlaced d.cfg (desc, 16) then d.readSpan 5 desc 16 else (none, d) with
    | (none, d1) => (mftFail 0x08, d1)
    | (some bs, d1) =>
      let link := fieldAt bs 0 1
      let len := fieldAt bs 2 2
      let bank := fieldAt bs 8 4
      let arg := fieldAt bs 12 4
      let from_ := fieldAt bs 4 4 + bank * 2 ^ 32
      let ok := k = 0 ∧ 1 ≤ link ∧ link ≤ 3 ∧ zeroAt bs 1 1 = true ∧ 1 ≤ len ∧ len ≤ 1500 ∧ bank < 2 ^ 18 ∧
        d1.sendArgOk link len arg = true
      match sendPlace d1.cfg (tileOf b) from_, sendPlace d1.cfg (tileOf b) (from_ + len - 1) with
      | some g, some g' =>
        if ¬ok ∨ g' ≠ g + len - 1 then (mftFail 0x08, d1)
        else match d1.readSpan 5 g len with
          | (none, d2) => (mftFail 0x08, d2)
          | (some p, d2) => d2.mftAdd b rdv true (32 + (len + 15) / 16 * 16) (.send link arg p)
      | _, _ => (mftFail 0x08, d1)

/-- MABORT (R347, R355). -/
def Device.mftAbort (d : Device) (b rdv k : Nat) : Nat × Device :=
  if bitOf rdv 8 then
    match d.classOf b with
    | some _ => (mftFail 0x0A, d)
    | none => (mftFail 0x09, d)
  else match d.mftTarget b rdv with
    | .error c => (mftFail c, d)
    | .ok (h, _) => if k ≠ 0 then (mftFail 0x08, d) else (0, d.setManifest h none)

/-- The instant of a scheduled MCOMMIT (R135); none where it has passed. -/
def commitInstant (now v : Nat) : Option Nat :=
  let ahead := (v + 2 ^ 32 - now % 2 ^ 32) % 2 ^ 32
  if 2 ^ 31 ≤ ahead then none else some (now + ahead)

/-- LATE outcomes are counted (Table 11.19). -/
def Device.lateCount (d : Device) : Device := d.bump Reg.MFT_CNT 24 8

/-- A queued commit is one of the same round as handle h's, of a lower handle. -/
def Device.sameRound (d : Device) (h : Nat) (q : Commit) : Bool :=
  match q with
  | .berth k => decide (k < h) && match d.manifest k, d.manifest h with
    | some x, some y => x.sync && x.group == y.group && x.instant == y.instant
    | _, _ => false
  | _ => false

/-- A queued commit joined in the same cycle as handle h's and has a higher handle (R357): both are scheduled for one V and joined at
V − LEAD. -/
def Device.sameJoin (d : Device) (h : Nat) (q : Commit) : Bool :=
  match q with
  | .berth k => decide (h < k) && d.joinedNow q && d.joinedNow (.berth h)
  | _ => false

/-- A commit joins the queue; a sync-group commit goes ahead of every one that has not begun, those of one round in ascending
handle order, and so do those that join together (R357, R399). -/
def Device.commitJoin (d : Device) (h : Nat) (ahead : Bool) : Device :=
  if d.scn.queue.contains (.berth h) then d
  else if ahead then d.commitBefore (.berth h) (!d.sameRound h ·)
  else d.commitBefore (.berth h) (d.sameJoin h)

/-- SCHEDULED_COMMIT_JOIN (R358): V less LEAD MCLK has come; three MCLK make one TCLK. -/
def Device.commitDue (d : Device) (h : Nat) : Device :=
  match d.manifest h with
  | some m => (match m.instant with
    | some v => if m.committed ∧ 3 * v ≤ 3 * d.tbNow + d.fld Reg.MFT_LEAD 0 12 then d.commitJoin h m.sync else d
    | none => d)
  | none => d

/-- MCOMMIT (R135, R348, R355): a status at once, or none while the berth waits. -/
def Device.mftCommit (d : Device) (b rdv v k rd : Nat) : Option Nat × Device :=
  let wait (e : Device) (h : Nat) : Device := e.setBerth b { e.berth b with wait := .commit rd h }
  match d.mftTarget b rdv with
  | .error c => (some (mftFail c), d)
  | .ok (h, m) =>
    if 16 ≤ h then
      if k = 1 then (some (mftFail 0x0A), d)
      else if k ≠ 0 then (some (mftFail 0x08), d)
      else
        let c := h - 16
        let d1 := (wait d h).setCls c { d.cls c with done := (d.cls c).done ++ [b] }
        (none, d1.clsCheck c)
    else if 2 ≤ k ∨ (k = 1 ∧ (m.edit || m.sync) = true) then (some (mftFail 0x08), d)
    else if k = 1 then
      match commitInstant d.tbNow v with
      | none => (some (mftFail 0x11), (d.setManifest h none).lateCount)
      | some at_ => (none, (wait (d.setManifest h (some { m with committed := true, instant := some at_ })) h).commitDue h)
    else
      let d1 := wait (d.setManifest h (some { m with committed := true })) h
      (none, if m.sync then d1 else d1.commitJoin h false)

/-- A forward step of the timebase that passes over V lets the commit begin at once (R358). -/
def Device.stepPassed (d : Device) (old : Nat) : Device :=
  (List.range 16).foldl (fun e h =>
    match e.manifest h with
    | some m => (match m.instant with
      | some v =>
        if old < v ∧ v ≤ e.tbNow then (e.setManifest h (some { m with passed := true })).commitJoin h m.sync else e
      | none => e)
    | none => e) d

/-- A reset of its owner discards a berth's open manifests (R346). -/
def Device.discardManifests (d : Device) (b : Nat) : Device :=
  (List.range 16).foldl (fun e h =>
    match e.manifest h with
    | some m =>
      if m.owner = b then
        let e1 := (e.setManifest h none).leaveRounds h
        { e1 with scn := { e1.scn with queue := e1.scn.queue.filter (· ≠ .berth h) } }
      else e
    | none => e) d

/-! ### One commit -/

/-- "word K value" (R350). -/
def guardHolds (k w v : Nat) : Bool :=
  if k = 0 then w == v
  else if k = 1 then w != v
  else if k = 2 then decide (w < v)
  else if k = 3 then decide (v ≤ w)
  else if k = 4 then decide (signedOf 32 w < signedOf 32 v)
  else decide (signedOf 32 v ≤ signedOf 32 w)

/-- The guards are read in MGUARD order: the index of the first that does not hold (R349, R350). -/
def Device.guardPhase (d : Device) (as : List MftAct) : Option Nat × Device :=
  (guardsOf as).zipIdx.foldl (fun r g =>
    match r with
    | (some i, e) => (some i, e)
    | (none, e) =>
      match e.memRead 5 g.1.1 4 with
      | (some w, e1) => (if guardHolds g.1.2.2 w g.1.2.1 then none else some g.2, e1)
      | (none, e1) => (some g.2, e1)) (none, d)

/-- The MPUTs that take effect: the last to each word (R351). -/
def lastPuts : List MftAct → List (Nat × Nat)
  | [] => []
  | .put a v :: r => if (lastPuts r).any fun p => p.1 == a then lastPuts r else (a, v) :: lastPuts r
  | _ :: r => lastPuts r

/-- An output word goes into its live buffer; one that cannot be read is not copied (R160, R340). -/
def Device.copyWord (d : Device) (w : Nat) : Device :=
  match d.memRead 5 (imageBase + w) 8 with
  | (some v, e) => e.memWrite 5 3 (imageBase + 2 * d.cfg.imageS + w) (leBytes 8 v)
  | (none, e) => e

/-- PE_IMGOUT is loaded from a live buffer (R340). -/
def Device.loadImgout (d : Device) (e ofs : Nat) : Device :=
  if d.engPresent e = false then d
  else match d.memRead 5 (imageBase + 2 * d.cfg.imageS + ofs) 4 with
    | (some v, f) => f.setEngine e ((f.engine e).setRg peImgout v)
    | (none, f) => f

/-- The sends of a list of actions, in manifest order. -/
def sendsOf (as : List MftAct) : List (Nat × Nat × List Byte) :=
  as.filterMap fun a => match a with
    | .send l arg p => some (l, arg, p)
    | _ => none

/-- PIN_EDGE (R285, R286, R352, R354, R357): pad changes, engine starts and sends. -/
def Device.pinEdge (d : Device) (as : List MftAct) : Device :=
  (as.foldl (fun e a => match a with
    | .pins t m v who => e.padMaskWrite who t m v
    | .start t m _ => e.groupStart t m true false
    | _ => e) d).sendBurst (sendsOf as)

/-- The MPUTs of a commit are written (R351). -/
def Device.commitPuts (d : Device) (as : List MftAct) : Device :=
  (lastPuts as).foldl (fun e p => e.memWrite 5 3 p.1 (leBytes 4 p.2)) d

/-- The copies of the output maps of one commit, and after every copy its loads (R340). -/
def Device.copyMaps (d : Device) (oms : List OutMap) : Device :=
  let d1 := oms.foldl (fun e m => m.copies.foldl (fun x w => x.copyWord w) e) d
  oms.foldl (fun e m => m.loads.foldl (fun x l => x.loadImgout l.1 l.2) e) d1

/-- What a class commit applies once its guards hold: the memory part, then the pin edge (R340, R351, R357). -/
def Device.commitApply (d : Device) (as : List MftAct) (om : OutMap) : Device :=
  ((d.commitPuts as).copyMaps [om]).pinEdge as

/-- The commit-instant producer of a group pulses at V, once in a round (Table 12.8). -/
def Device.sgInstant (d : Device) (g v : Nat) : Device :=
  match d.sgSlot g with
  | some j => if (d.sg j).pulsed = some v then d else (d.setSg j { d.sg j with pulsed := some v }).sgPulse g 0x58
  | none => d

/-- The pin edge of a berth's commit, and for a sync-group commit its producer. -/
def Device.berthEdge (d : Device) (p : PinEdge) : Device :=
  match p.group with
  | some g => (d.pinEdge p.acts).sgInstant g p.v
  | none => d.pinEdge p.acts

/-- The pin edge of a berth's commit comes at V where that is still ahead (R358), and otherwise now. -/
def Device.edgeAt (d : Device) (p : PinEdge) : Device :=
  if d.tbNow < p.v then { d with scn := { d.scn with edges := d.scn.edges ++ [p] } } else d.berthEdge p

/-- The pin edges of scheduled commits whose V has come (R358). -/
def Device.pinEdges (d : Device) : Device :=
  (d.scn.edges.filter fun p => decide (p.v ≤ d.tbNow)).foldl (fun e p => e.berthEdge p)
    { d with scn := { d.scn with edges := d.scn.edges.filter fun p => decide (d.tbNow < p.v) } }

/-- The MFT trace packet (Table 16.9). -/
def Device.commitTrace (d : Device) (src status acts handle : Nat) : Device :=
  if d.flag Reg.DBG_TCTL 5 then
    d.record 0x05 (if status = 0 then 1 else 2) src (leBytes 4 status ++ leBytes 2 acts ++ leBytes 1 handle ++ [0])
  else d

/-! ### Checkpoints -/

/-- A span of memory that a list names: its bytes, or the code that ends the capture, 4 where it lies in no one memory and 6
where it cannot be read (R363, Table 11.15). -/
def Device.listRead (d : Device) (a n : Nat) : Except Nat (List Byte) × Device :=
  if n = 0 then (.ok [], d)
  else if a % 8 ≠ 0 ∨ regionPlaced d.cfg (a, n) = false then (.error 4, d)
  else match d.readSpan 5 a n with
    | (some bs, e) => (.ok bs, e)
    | (none, e) => (.error 6, e)

/-- A region list: 16 bytes each (R363). -/
def Device.regionList (d : Device) (a n : Nat) : Except Nat (List (Nat × Nat)) × Device :=
  match d.listRead a (16 * n) with
  | (.error c, e) => (.error c, e)
  | (.ok bs, e) =>
    let bad := (List.range n).any fun i => fieldAt bs (16 * i + 12) 4 != 0 || decide (2 ^ 50 ≤ fieldAt bs (16 * i) 8)
    (if bad then .error 4 else .ok ((List.range n).map fun i => (fieldAt bs (16 * i) 8, fieldAt bs (16 * i + 8) 4)), e)

/-- The entries of the active table, and with the anchor and the table every instance area that they list (R359, R363). -/
def Device.tableList (d : Device) (anchor table n : Nat) : Except Nat (List (Nat × Nat)) × Device :=
  match d.listRead (table + 32) (32 * n) with
  | (.error c, e) => (.error c, e)
  | (.ok bs, e) =>
    let areas := (List.range n).map fun i => (fieldAt bs (32 * i + 8) 8, fieldAt bs (32 * i + 16) 4)
    (.ok ((anchor, 16) :: (table, 32 + 32 * n) :: areas.filter fun r => r.2 ≠ 0), e)

/-- The whole instance area, from the anchor at SCN_PUDT (R359, R363). -/
def Device.instanceList (d : Device) : Except Nat (List (Nat × Nat)) × Device :=
  let anchor := bitsOf (d.rd64 Reg.SCN_PUDT) 0 50
  match d.listRead anchor 16 with
  | (.error c, e) => (.error c, e)
  | (.ok as, e) =>
    let table := fieldAt as 0 8
    match e.listRead table 32 with
    | (.error c, e1) => (.error c, e1)
    | (.ok hs, e1) =>
      let n := fieldAt hs 4 4
      if 2 ^ 50 ≤ table ∨ fieldAt hs 0 4 ≠ 0x50554454 ∨ n = 0 ∨ 4096 < n then (.error 4, e1)
      else e1.tableList anchor table n

/-- The payload of a checkpoint record (Table 11.11). -/
def Device.capturePayload (d : Device) (c id : Nat) (rs : List (Nat × Nat)) : List Byte :=
  leBytes 8 id ++ leBytes 4 rs.length ++ leBytes 4 (d.rd (Reg.SCN_CYC c)) ++
    (rs.flatMap fun r => leBytes 8 r.1 ++ leBytes 4 r.2 ++ leBytes 4 0) ++
    (rs.flatMap fun r => padBytes (d.bytesAt r.1 r.2))

/-- A capture ends with a code and, where it wrote, its slot (Table 11.15). -/
def Device.captureEnd (d : Device) (code slot : Nat) : Device :=
  let d1 := (d.wr Reg.SCN_CKPTST (code + 16 * slot)).setFlag Reg.SCN_STAT 1 false
  { d1 with scn := { d1.scn with capture := none } }

/-- Slots of a capture: lower and higher offset, size, TYPE, number of the first (Table 5.5, R364). -/
def captureSlots (whole : Bool) : Nat × Nat × Nat × Nat × Nat :=
  if whole then (0x10000, 0x88000, 0x78000, 4, 0) else (0x100000, 0x140000, 0x40000, 5, 2)

/-- The captured regions as they stand at C become the record, in the slot that R168 gives (R363, R364). -/
def Device.captureRecord (d : Device) (k : Capture) (id : Nat) (rs : List (Nat × Nat)) : Device :=
  let (lo, hi, room, type, first) := captureSlots k.whole
  let size := 40 + 16 + 16 * rs.length + (rs.map fun r => pad8 r.2).foldl (· + ·) 0
  if rs.all (regionPlaced d.cfg) = false then d.captureEnd 4 0
  else if room < size then d.captureEnd 5 0
  else
    let r := rs.foldl (fun (s : Bool × Device) r => let q := s.2.readSpan 5 r.1 r.2; (s.1 && q.1.isSome, q.2)) (true, d)
    if r.1 = false then r.2.captureEnd 6 0
    else
      let e := (r.2.checkRecord 5 lo room).checkRecord 5 hi room
      let (top, seq) := match e.newestRecord lo hi room type with
        | none => (false, 1)
        | some (t, r) => (!t, (r.seq + 1) % 2 ^ 32)
      let k' : Capture :=
        { k with
          fixed := true, at_ := e.tbNow, slot := first + bit01 top, offset := if top then hi else lo
          record := recordBytes type seq e.tbNow (e.capturePayload k.cls id rs) }
      { e with scn := { e.scn with capture := some k' } }

/-- A commit of class c fixes the capture that names it (R363). -/
def Device.captureFix (d : Device) (c : Nat) : Device :=
  match d.scn.capture with
  | none => d
  | some k =>
    if k.fixed ∨ k.cls ≠ c then d
    else
      let list := if k.whole then d.instanceList
        else d.regionList (bitsOf (d.rd64 Reg.SCN_RLIST) 0 50) (bitsOf (d.rd64 Reg.SCN_RLIST) 52 10)
      match list with
      | (.error code, e) => e.captureEnd code 0
      | (.ok rs, e) =>
        match e.progRead 5 with
        | (none, e1) => e1.captureEnd 6 0
        | (some id, e1) => e1.captureRecord k id rs

/-- A write of SCN_CKPT (R363, Table 11.15). -/
def Device.captureStart (d : Device) (who : Nat) (whole : Bool) (c : Nat) : Device :=
  if d.scn.capture.isSome then d.setFld Reg.SCN_CKPTST 0 4 2
  else if whole = true ∧ d.gateHeld who 3 = false then d.setFld Reg.SCN_CKPTST 0 4 3
  else
    let d1 := (d.wr Reg.SCN_CKPTST 9).setFlag Reg.SCN_STAT 1 true
    { d1 with scn := { d1.scn with capture := some ⟨whole, c, false, 0, 0, 0, []⟩ } }

/-- A capture for whose lines the store no longer has room ends with NOSTORE (R363). -/
def Device.captureRoom (d : Device) : Device :=
  if d.scn.capture.isSome ∧ mftStore < d.mftBytes then d.captureEnd 1 0 else d

/-- CHECKPOINT_WRITE_DONE (R363, R364): the record is durable. -/
def Device.captureDone (d : Device) : Device :=
  match d.captureRoom.scn.capture with
  | none => d.captureRoom
  | some k => if k.fixed then (d.pokeFresh (retainedBase + k.offset) k.record).captureEnd 0 k.slot else d

/-! ### The unit -/

/-- GUARDFAIL with the index of the first guard that did not hold (R349). -/
def guardFail (i : Nat) : Nat := mftFail 0x10 + 256 * i

/-- The output map at a class commit (R332, R338): read now, or as it stood at the release where the class has been
disabled in the cycle; entries that break it or cannot be read are reported. -/
def Device.commitMap (d : Device) (c : Nat) : OutMap × Device :=
  let now := !(d.cls c).kept
  let om := if now then d.outMap c else (d.cls c).omap
  let d1 := if now then
      (List.range (d.mapCount (Reg.SCN_OMAP c))).foldl (fun e i =>
        (e.mapEntry (e.mapAddr (Reg.SCN_OMAP c) + 8 * i)).2) d
    else d
  let d2 := if om.ue = 0 then d1 else d1.mapUe
  (om, (List.range om.bad).foldl (fun e _ => e.mapErr c) d2)

/-- A class commit (R340, R342, R344, R348, R418). -/
def Device.classCommit (d : Device) (c : Nat) : Device :=
  match d.manifest (16 + c) with
  | none => d
  | some m =>
    let (om, d0) := d.commitMap c
    match d0.guardPhase m.acts with
    | (some i, d1) =>
      (((d1.bump Reg.MFT_CNT 16 8).closeManifest (16 + c) (guardFail i)).commitTrace (0x200 + c) (guardFail i)
        m.acts.length 0).cycleEnd c false
    | (none, d1) =>
      let mir := d1.mirrorClass c
      let ls := if mir then d1.dirtyLines else []
      let d2 := (d1.clearDirty ls).commitApply m.acts om
      let d3 := if mir then d2.mirrorClose ls else d2
      (((d3.captureFix c).commitCount.closeManifest (16 + c) 0).commitTrace (0x200 + c) 0 m.acts.length 0).cycleEnd c true

/-- A class commit that failed before it began (R522); the spec names no code for it. -/
def Device.classFailed (d : Device) (c : Nat) : Device :=
  match d.manifest (16 + c) with
  | none => d
  | some m =>
    let st := mftFail (bitsOf (Config.freeValue d.draws).toNat 0 8)
    ((d.draw.closeManifest (16 + c) st).commitTrace (0x200 + c) st m.acts.length 0).cycleEnd c false

/-- Why the commit of a berth's manifest fails as it begins: WINDOW, or LATE where its C would fall later than V less
2 MCLK, unless a step of the timebase has passed over V (R358, R361). -/
def Device.commitRefused (d : Device) (m : Manifest) : Option Nat :=
  if m.edit && !d.flag Reg.SCN_STAT 0 then some 0x12
  else match m.instant with
    | some v => if m.passed = false ∧ 3 * v < 3 * d.tbNow + 22 then some 0x11 else none
    | none => none

/-- The commit of a berth's manifest (R355, R357, R358, R361); a sync-group commit does not read its guards again
(R397). -/
def Device.berthCommit (d : Device) (h : Nat) : Device :=
  match d.manifest h with
  | none => d
  | some m =>
    let fin (e : Device) (st : Nat) : Device := (e.closeManifest h st).commitTrace m.owner st m.acts.length h
    match d.commitRefused m with
    | some code => fin (if code = 0x11 then d.lateCount else d) (mftFail code)
    | none =>
      match (if m.sync then (none, d) else d.guardPhase m.acts) with
      | (some i, d1) => fin (d1.bump Reg.MFT_CNT 16 8) (guardFail i)
      | (none, d1) =>
        let p : PinEdge := ⟨m.instant.getD 0, m.acts, if m.sync then some m.group else none⟩
        let d2 := ((d1.commitPuts m.acts).edgeAt p).commitCount
        let d3 := if m.edit then
            let e := d2.setFlag Reg.SCN_EDIT 16 false
            { e with sn := { e.sn with edited := true } }
          else d2
        fin d3 0

/-- A queued commit may begin: a class commit in a mode that makes it, and in LOCKED once the ACK of the cycle before has
come (Table 11.1, R427). -/
def Device.commitReady (d : Device) (q : Commit) : Bool :=
  match q with
  | .cls c => d.scanCommits && !d.lockedWait c
  | .failed _ => true
  | .berth _ => true

/-- COMMIT_START (R357): the first queued commit that may begin is performed. -/
def Device.commitStart (d : Device) : Device :=
  match takeFirst d.commitReady d.scn.queue with
  | none => d
  | some (q, rest) =>
    let d1 := { d with scn := { d.scn with queue := rest } }
    match q with
    | .cls c => d1.classCommit c
    | .failed c => d1.classFailed c
    | .berth h => d1.berthCommit h

/-- LOCKED_TIMEOUT (R427): the commit of the mirror class has waited LKTMO µs from its last done. -/
def Device.lockedTimeout (d : Device) : Device :=
  let c := d.fld Reg.NET_SNCFG 4 4
  let t := d.fld Reg.NET_SNCFG 16 8
  let us := if t = 0 then 1 else t
  if d.lockedWait c ∧ d.scn.queue.contains (.cls c) ∧ (d.cls c).doneAt + 250 * us ≤ d.tbNow then
    ((d.snFlag 4 false).bump Reg.NET_SNCNT 0 8).raise 0x32 0
  else d

end Sys2Proof.Machine
end

