-- ==== Sys2Proof/Machine/SafetyNet.lean ====
section
/-! DEFINITION. The Safety Net (chapter 13): the lane and its heartbeats, pairing, the cycle log as the active sends it and
as the standby stages and applies it, switchover and takeover, and full resynchronisation. -/

namespace Sys2Proof.Machine

/-! ### The lane -/

/-- The Safety Net link runs; DEEP-SLEEP stops its lane (R520). -/
def Device.snOn (d : Device) : Bool := d.flag Reg.NET_SNCFG 0 && !d.isolated && d.mode != Mode.deepSleep

/-- The partner's SN_POE as the synchronised read-back of PAD1_11 shows it (R283, R411, Table 13.1). -/
def Device.psense (d : Device) : Bool := d.snOn && d.padIn 1 11

/-- The lane goes DOWN (R414). -/
def Device.snDown (d : Device) : Device :=
  { d with sn := { d.sn with hbs := 0 } }.snFlag 6 false

/-- Block lock of the Safety Net lane (R414). -/
def Device.snLock (d : Device) : Device := { d with sn := { d.sn with locked := true } }

/-- Loss of block lock (R414). -/
def Device.snUnlock (d : Device) : Device := { d with sn := { d.sn with locked := false } }.snDown

/-- BLOCK_LOCK and BLOCK_LOCK_LOSS: receive lanes 0 and 1 are the Beyram ports, 2 the Safety Net's (R370, R371, R414). -/
def Device.laneLock (d : Device) (lane : Nat) : Device :=
  if d.beyRuns = false then d else if lane = 2 then d.snLock else d.beyLock lane
def Device.laneUnlock (d : Device) (lane : Nat) : Device := if lane = 2 then d.snUnlock else d.beyUnlock lane

/-- NET_SNCNT.BAD counts a discarded frame (R413, R415). -/
def Device.snBad (d : Device) : Device := d.bump Reg.NET_SNCNT 24 8

/-- The standby asks for cycle k again, and stages nothing of it (R422); asked twice for one cycle it is no longer ready
(R423). -/
def Device.snNak (d : Device) (k : Nat) : Device :=
  let twice := d.sn.lastNak == some k
  let d1 := { d with sn := { d.sn with staged := none, lastNak := some k } }
  let d2 := (d1.snSend [snFrame 0x45 k (leBytes 8 k)]).bump Reg.NET_SNCNT 8 8
  if twice then d2.setReady false else d2

/-- The payload has the length and the zero fields of Tables 13.3 to 13.5; CYCLE is zero for PAIR and FAULT. -/
def SnFrame.wellFormed (g : SnFrame) : Bool :=
  let n := g.payload.length
  let rest (k : Nat) := zeroAt g.payload k (n - k)
  let lines := decide (0 < n) && decide (n % 72 = 0) &&
    (List.range (n / 72)).all fun i => decide (fieldAt g.payload (72 * i) 8 < 2 ^ 50)
  if g.type = 0x40 then n == 32 && decide (fieldAt g.payload 6 1 < 8) && zeroAt g.payload 7 1 && rest 28
  else if g.type = 0x41 then n == 16 && zeroAt g.payload 4 4
  else if g.type = 0x42 ∨ g.type = 0x48 then lines
  else if g.type = 0x43 then n == 32 && decide (fieldAt g.payload 8 1 < 2) && zeroAt g.payload 9 7
  else if g.type = 0x44 ∨ g.type = 0x45 ∨ g.type = 0x49 then n == 8 && rest 4
  else if g.type = 0x46 then n == 8 && rest 1 && g.cycle == 0
  else n == 16 && decide (fieldAt g.payload 4 4 < 2) && g.cycle == 0

/-- A frame arrives on the Safety Net's receive lane: one that fails R413 is counted, and discards what a standby has
staged (R422); an HB that fails breaks the run of valid ones (R414). Any other frame than the one the command names is another
command's. -/
def Device.snReceive (d : Device) (type : Nat) (f : FrameIn) (k : SnFrame → Device → Device) : Device :=
  if (d.snOn && d.sn.locked) = false then d
  else
    let bad (e0 : Device) : Device :=
      let e := if type = 0x40 then { e0 with sn := { e0.sn with hbs := 0 } } else e0
      match e.sn.staged with
      | some s => e.snBad.snNak s.k
      | none => e.snBad
    match snRead f with
    | none => bad d
    | some g => if g.type ≠ type then d else if g.wellFormed then k g d else bad d

/-! ### Heartbeats -/

/-- The HB payload (Table 13.4). -/
def Device.hbPayload (d : Device) : List Byte :=
  let flags := bit01 (d.flag Reg.NET_SNSTAT 3) + 2 * bit01 (d.flag Reg.NET_SNSTAT 4) +
    4 * bit01 (d.flag Reg.NET_SNSTAT 5)
  leBytes 4 (d.rd Reg.NET_SNID) ++ leBytes 1 d.snRole ++ leBytes 1 d.mode.code ++ leBytes 1 flags ++ [0] ++
    leBytes 4 (d.rd Reg.NET_SNCYC) ++ leBytes 4 (d.rd Reg.NET_SNACK) ++ leBytes 8 d.cfg.devid.toNat ++
    leBytes 4 d.sn.takeovers ++ leBytes 4 0

/-- HB_INTERVAL (R414): on the grid of 2,500 units while the lane is UP, and after a change of ROLE, READY or mode; none from a device that
has unpaired (R416; DEDUCED, notes/assumptions/66.md). -/
def Device.hbInterval (d : Device) : Device :=
  if d.snOn ∧ d.sn.locked ∧ d.sn.silent = false ∧ (d.sn.hbDue ∨ (d.flag Reg.NET_SNSTAT 6 ∧ d.tbNow % 2500 = 0)) then
    { d with sn := { d.sn with hbDue := false } }.snSend [snFrame 0x40 (d.rd Reg.NET_SNCYC) d.hbPayload]
  else d

/-- An active without its partner is SOLO and builds no logs (R416). -/
def Device.goSolo (d : Device) : Device :=
  let d1 := ((d.setRole 4).setReady false).resyncEnd
  { d1 with sn := { d1.sn with logs := [], rsDue := false, relock := false, invalid := false } }

/-- A switchover trigger on a standby (R429): with READY 0 it raises SN_NOTREADY; with READY 1 the first trigger starts a
switchover, which discards what is staged of an incomplete cycle. -/
def Device.snTrigger (d : Device) (cause : Nat) : Device :=
  if d.snRole ≠ 3 ∨ d.mode ≠ .standby then d
  else if d.flag Reg.NET_SNSTAT 3 = false then d.raise 0x35 0
  else if d.sn.trigger.isSome then d
  else { d with sn := { d.sn with trigger := some (cause, d.tbNow), staged := none } }

/-- The third miss: the lane is DOWN and SN_LINK is raised; an active is SOLO, and a standby's third trigger is met. -/
def Device.thirdMiss (d : Device) : Device :=
  let d1 := d.snDown.raise 0x30 0
  if d1.snRole = 2 then d1.goSolo else d1.snTrigger 3

/-- HEARTBEAT_MISS (R414): every 2,500 units without a valid HB are a miss, which breaks the run of valid ones; at the third the lane is
DOWN, an active is SOLO (R416) and a standby's third trigger is met (R429). -/
def Device.heartbeatMiss (d : Device) : Device :=
  match d.sn.lastHb with
  | none => d
  | some t =>
    if d.snOn ∧ t + 2500 * (d.sn.missed + 1) ≤ d.tbNow then
      let d1 := { d with sn := { d.sn with missed := d.sn.missed + 1, hbs := 0 } }.bump Reg.NET_SNCNT 16 8
      if d.sn.missed = 2 then d1.thirdMiss else d1
    else d

/-- The standby learns that a full resynchronisation is in progress: it is not ready until that completes (R432). -/
def Device.resyncSeen (d : Device) : Device :=
  let d1 := (d.setReady false).snFlag 5 true
  { d1 with sn := { d1.sn with rsDone := false, rsSent := 0, rsRead := d1.rd Reg.NET_SNCYC } }

/-- After RSDONE, the standby has applied a cycle whose C follows the active's read of the last resynchronised line: one past
the cycle that the frame of that line belongs to (R432). -/
def Device.resyncWhole (d : Device) : Bool :=
  d.flag Reg.NET_SNSTAT 5 && d.sn.rsDone && cycleAfter (d.rd Reg.NET_SNACK) d.sn.rsRead

/-- The resynchronisation completes where it may: on the standby, which is READY 1 again and has undone a handing over (R430),
and on the active, which releases the gate and takes the discipline of NET_SNCFG.DISC (R432). -/
def Device.resyncCheck (d : Device) : Device :=
  if d.resyncWhole = false then d
  else
    let d1 := d.resyncEnd.setReady true
    if d1.snRole = 2 then { d1 with sn := { d1.sn with invalid := false } }.snFlag 4 (d1.flag Reg.NET_SNCFG 1)
    else { d1 with sn := { d1.sn with handedOver := false } }

/-- What an HB tells a standby (R423, R427, R432): CCYC, the discipline in force, that the active holds it for READY 0, and a
resynchronisation in progress or, where it has not been whole here, given up: the next one counts its lines anew. -/
def Device.hbStandby (d : Device) (was flags ccyc : Nat) : Device :=
  let d1 := (d.wr Reg.NET_SNCYC ccyc).snFlag 4 (bitOf flags 1)
  let d2 := if bitOf was 0 && !bitOf flags 0 then d1.setReady false else d1
  if bitOf flags 2 && !bitOf was 2 && !d2.flag Reg.NET_SNSTAT 5 then d2.resyncSeen
  else if bitOf was 2 && !bitOf flags 2 then d2.resyncEnd
  else d2

/-- HB (R414, Table 13.4): READY of the standby shows on the active, while that holds its state for valid. -/
def Device.heartbeat (d : Device) (f : FrameIn) : Device :=
  d.snReceive 0x40 f fun g d =>
    let p := g.payload
    let was := d.sn.partner.flags
    let flags := fieldAt p 6 1
    let d1 := { d with sn := { d.sn with
      lastHb := some d.tbNow, missed := 0, hbs := min (d.sn.hbs + 1) 3
      partner := ⟨fieldAt p 4 1, fieldAt p 5 1, flags, fieldAt p 8 4, fieldAt p 12 4, fieldAt p 16 8, fieldAt p 24 4⟩ } }
    let d2 := if d1.sn.hbs = 3 then d1.snFlag 6 true else d1
    if d2.snRole = 3 then d2.hbStandby was flags (fieldAt p 8 4)
    else if d2.snRole = 2 then d2.setReady (bitOf flags 0 && !d2.sn.invalid)
    else d2

/-! ### Pairing -/

/-- PAIR_REQUEST (R415): a write of NET_SNCTL with PAIR = 1 and ROLE. A device that has handed over pairs only as standby
(R430); a paired one has nothing to ask for. -/
def Device.pairRequest (d : Device) (standby : Bool) : Device :=
  if d.snRole = 2 ∨ d.snRole = 3 then d
  else
    let ok := if standby then d.mode == Mode.stop else d.mode == Mode.run && !d.sn.handedOver
    if ok then { d with sn := { d.sn with asked := bit01 standby, silent := false } }.setRole 1
    else if d.snRole = 1 then d.setRole 0
    else d

/-- PAIR_INTERVAL (R415): a PAIRING device sends PAIR. -/
def Device.pairInterval (d : Device) : Device :=
  if d.snOn ∧ d.snRole = 1 then
    d.snSend [snFrame 0x47 0 (leBytes 4 (d.rd Reg.NET_SNID) ++ leBytes 4 d.sn.asked ++ leBytes 8 d.cfg.devid.toNat)]
  else d

/-- A pairing succeeds (R415, R418): mirror cycles count from 1 again, and the pairing record is written. -/
def Device.paired (d : Device) (role partner : Nat) : Device :=
  let d1 := (((d.resyncEnd.wr Reg.NET_SNCYC 0).wr Reg.NET_SNACK 0).setFlag Reg.NET_SNSTAT 4 false).setRole role
  { d1 with sn := { d1.sn with
      partnerId := partner, logs := [], lastNak := none, staged := none, whole := none, trigger := none,
      edited := false, relock := false } }.writePairing role 0

/-- PAIR (R415): the outcome of the partner's request for a PAIRING device. The active then starts a full
resynchronisation. -/
def Device.pairFrame (d : Device) (f : FrameIn) : Device :=
  d.snReceive 0x47 f fun g d =>
    if d.snRole ≠ 1 then d
    else if fieldAt g.payload 0 4 ≠ d.rd Reg.NET_SNID then d.snBad
    else
      let theirs := fieldAt g.payload 4 1
      let id := fieldAt g.payload 8 8
      if d.sn.asked = 0 ∧ theirs = 0 then (d.setRole 6).raise 0x36 0
      else if d.sn.asked = 0 ∧ d.mode = .run then (d.paired 2 id).resyncNeeded
      else if d.sn.asked = 1 ∧ theirs = 0 ∧ d.mode = .stop then
        (((d.paired 3 id).setReady false).stopPads).setMode .standby
      else d

/-- The device has left its pair: its heartbeats end (R416). -/
def Device.snSilence (d : Device) : Device := { d with sn := { d.sn with silent := true } }

/-- UNPAIR_REQUEST (R416): a standby returns to STOP, an active becomes SOLO; a request that stands, an ORPHAN's role and a
CONFLICT end UNPAIRED. -/
def Device.unpairRequest (d : Device) : Device :=
  match d.snRole with
  | 1 => d.setRole 0
  | 2 => (d.goSolo.writePairing 4 2).snSilence
  | 3 =>
    let d1 := (((d.setReady false).setRole 0).writePairing 0 2).resyncEnd.snSilence
    let d2 := { d1 with sn := { d1.sn with staged := none, whole := none, applying := false, trigger := none } }
    if d2.mode = .standby then d2.enterStop else d2
  | 5 =>
    let d1 := (((d.setReady false).setRole 0).writePairing 0 2).snSilence
    if d1.mode = .standby then d1.enterStop else d1
  | 6 => d.setRole 0
  | _ => d

/-- RESYNC_REQUEST (R431): on an active, under the gate, whose holder the requester becomes. -/
def Device.resyncRequest (d : Device) (who : Nat) : Device :=
  if d.snRole ≠ 2 ∨ d.flag Reg.NET_SNSTAT 5 then d
  else if d.gateHeld who 2 then d.resyncStart
  else match d.gateRequest who 2 with
    | (0, d1) => (d1.gateResult who 0).resyncStart
    | (r, d1) => d1.gateResult who r

/-! ### The log, on the active -/

/-- Records by twenties (R420). -/
def twenties : Nat → List (Nat × List Byte) → List (List (Nat × List Byte))
  | 0, _ => []
  | n + 1, rs => if rs.isEmpty then [] else rs.take 20 :: twenties n (rs.drop 20)

/-- LOGCRC (Table 13.5). -/
def logCrc (rs : List (Nat × List Byte)) : Nat := crc32c (rs.flatMap lineRecord)

/-- The frames of a cycle's log (R420). -/
def CycleLog.frames (l : CycleLog) : List (List Byte) :=
  let n := l.lines.length
  [snFrame 0x41 l.k (leBytes 8 n ++ leBytes 8 l.c)] ++
    (twenties n l.lines).map (fun rs => snFrame 0x42 l.k (rs.flatMap lineRecord)) ++
    [snFrame 0x43 l.k (leBytes 4 n ++ leBytes 4 (logCrc l.lines) ++ leBytes 1 (bit01 l.edit) ++ leBytes 7 0 ++
      leBytes 8 l.progid ++ leBytes 8 l.c)]

/-- LOG_TRANSMIT (R420): the oldest held log that is due to be sent. -/
def Device.logTransmit (d : Device) : Device :=
  if (d.snOn && d.snRole == 2) = false then d
  else match d.sn.logs.find? fun l => !l.sent with
    | none => d
    | some l =>
      let d1 := d.snSend l.frames
      { d1 with sn := { d1.sn with logs := d1.sn.logs.map fun x => if x.k = l.k then { x with sent := true } else x } }

/-- ACK (R421, R426, R427): the active's half is free again; the ACK of the first cycle after the last resynchronised line ends
a resynchronisation (R432). -/
def Device.ackFrame (d : Device) (f : FrameIn) : Device :=
  d.snReceive 0x44 f fun g d =>
    if d.snRole ≠ 2 then d
    else
      let a := fieldAt g.payload 0 4
      let d1 := d.wr Reg.NET_SNACK a
      { d1 with sn := { d1.sn with logs := d1.sn.logs.filter fun l => cycleAfter l.k a } }.resyncCheck

/-- NAK (R423): the cycle is sent again once; a second NAK, or one for a cycle no longer held, needs a full
resynchronisation. -/
def Device.nakFrame (d : Device) (f : FrameIn) : Device :=
  d.snReceive 0x45 f fun g d =>
    if d.snRole ≠ 2 then d
    else
      let k := fieldAt g.payload 0 4
      let d1 := d.bump Reg.NET_SNCNT 8 8
      if d1.sn.logs.any fun l => l.k == k && !l.again then
        { d1 with sn := { d1.sn with
            lastNak := some k
            logs := d1.sn.logs.map fun l => if l.k = k then { l with sent := false, again := true } else l } }
      else (d1.raise 0x31 k).resyncNeeded

/-! ### The log, on the standby -/

/-- Cycles are staged by a standby, and a copy of a cycle already applied or complete is not staged again. -/
def Device.stagingRole (d : Device) : Bool := d.snRole == 3 && d.mode == Mode.standby && d.sn.trigger.isNone

/-- The cycle that the standby is to stage next. -/
def Device.nextStaged (d : Device) : Nat := match d.sn.whole with
  | some w => (w.k + 1) % 2 ^ 32
  | none => (d.rd Reg.NET_SNACK + 1) % 2 ^ 32

/-- A cycle may be staged now: the next one; or in a full resynchronisation, where cycles are applied in the order they arrive
(R432), a later one too. -/
def Device.stagesNow (d : Device) (k : Nat) : Bool :=
  k == d.nextStaged || (d.flag Reg.NET_SNSTAT 5 && cycleAfter k d.nextStaged)

/-- The half of the mirror log area that no applied or applying cycle occupies (R422). -/
def Device.stageHalf (d : Device) : Nat := match d.sn.whole with
  | some w => 1 - w.half
  | none => 1 - d.sn.half

/-- A staged cycle with its COMMITREC that meets every condition of R422 is complete. -/
def Device.completeStaged (d : Device) : Device :=
  match d.sn.staged with
  | none => d
  | some s =>
    match s.commit with
    | none => d
    | some p =>
      if d.sn.whole.isNone ∧ d.stagesNow s.k = true ∧ s.recs.length = s.nlines ∧ fieldAt p 0 4 = s.nlines ∧
          fieldAt p 4 4 = logCrc s.recs then
        let log : CycleLog := ⟨s.k, s.recs, s.c, bitOf (fieldAt p 8 1) 0, fieldAt p 16 8, false, false, d.stageHalf⟩
        { d with sn := { d.sn with staged := none, whole := some log } }
      else d

/-- LOGOPEN (R422): it opens its cycle afresh; one that comes before the cycle ahead of it is complete discards that. -/
def Device.logOpen (d : Device) (f : FrameIn) : Device :=
  d.snReceive 0x41 f fun g d =>
    let ahead := match d.sn.staged with
      | some s => s.k
      | none => d.nextStaged
    if d.stagingRole = false then d
    else if g.cycle = ahead ∨ (d.sn.staged.isNone = true ∧ d.stagesNow g.cycle = true) then
      let s : Staging := ⟨g.cycle, fieldAt g.payload 0 4, fieldAt g.payload 8 8, [], none⟩
      { d with sn := { d.sn with staged := some s } }
    else if cycleAfter g.cycle ahead then d.snNak ahead
    else d

/-- The line records of a LINES or RSLINES payload. -/
def recordsOf (p : List Byte) : List (Nat × List Byte) :=
  (List.range (p.length / 72)).map fun i => (fieldAt p (72 * i) 8, (p.drop (72 * i + 8)).take 64)

/-- Line records join those staged, and go into the half of the mirror log area that is free (R422). -/
def Device.stageLines (d : Device) (s : Staging) (rs : List (Nat × List Byte)) : Device :=
  let s1 : Staging := { s with recs := s.recs ++ rs }
  let d1 := { d with sn := { d.sn with staged := some s1 } }
  if s1.recs.length ≤ 14336 then d1.logStore d.stageHalf s.recs.length rs else d1

/-- LINES (R422): staged; after the cycle's COMMITREC it discards the cycle, unless its application has begun. -/
def Device.linesFrame (d : Device) (f : FrameIn) : Device :=
  d.snReceive 0x42 f fun g d =>
    if d.stagingRole = false then d
    else match d.sn.staged with
      | some s =>
        if s.k ≠ g.cycle then d
        else if s.commit.isSome then d.snNak s.k
        else d.stageLines s (recordsOf g.payload)
      | none =>
        match d.sn.whole with
        | some w =>
          if w.k = g.cycle ∧ d.sn.applying = false then
            { d with sn := { d.sn with whole := none } }.snNak w.k
          else d
        | none => d

/-- COMMITREC (R422). -/
def Device.commitRec (d : Device) (f : FrameIn) : Device :=
  d.snReceive 0x43 f fun g d =>
    if d.stagingRole = false then d
    else match d.sn.staged with
      | some s =>
        if s.k ≠ g.cycle then d
        else
          let s1 : Staging := { s with commit := some g.payload }
          { d with sn := { d.sn with staged := some s1 } }.completeStaged
      | none => d

/-- A log's line goes to its address, where the Safety Net has the right to write (Table 5.7): a tile SRAM that is powered, the
working image, or the checkpoint and retentive areas. -/
def Device.applyLine (d : Device) (l : Nat × List Byte) : Device :=
  let ok := match placeOf d.cfg none l.1, placeOf d.cfg none (l.1 + l.2.length - 1) with
    | some (.sram t _), some (.sram u _) => t == u && d.tileOn t
    | some (.image _), some (.image o) => imageWritable d.cfg o
    | some (.retained o), some (.retained _) => decide (0x10000 ≤ o)
    | _, _ => false
  if ok then d.writeSpan 7 6 l.1 l.2 else d

/-- CYCLE_APPLY (R424): the lines of the complete cycle are written to their addresses. -/
def Device.cycleApply (d : Device) : Device :=
  match d.sn.whole with
  | none => d
  | some w =>
    if d.sn.applying ∨ d.snRole ≠ 3 then d
    else
      let d1 := w.lines.foldl (fun e l => e.applyLine l) d
      { d1 with sn := { d1.sn with applying := true } }

/-- APPLY_COMPLETE (R424, R432): APPLIED takes the cycle, ACK goes out, and an edit's PROGID is compared. An anchor
that cannot be read does not match. -/
def Device.applyComplete (d : Device) : Device :=
  match d.sn.whole with
  | none => d
  | some w =>
    if d.sn.applying = false then d
    else
      let d1 := (d.wr Reg.NET_SNACK w.k).snSend [snFrame 0x44 w.k (leBytes 8 w.k)]
      let d2 := { d1 with sn := { d1.sn with whole := none, applying := false, half := w.half } }
      let (id, d3) := if w.edit then d2.progRead 7 else (some w.progid, d2)
      let d4 := if id = some w.progid then d3.resyncCheck else (d3.setReady false).raise 0x31 w.k
      d4.completeStaged

/-! ### Switchover -/

/-- FAULT (R429): the active hands over. -/
def Device.faultFrame (d : Device) (f : FrameIn) : Device := d.snReceive 0x46 f fun _ d => d.snTrigger 1

/-- SN_PSENSE takes a level at the synchronised read-back: a rise sets NET_SNSTAT.PSENSE (R434), and a fall while the partner
was ACTIVE is trigger 2 (R429). -/
def Device.psenseChange (d : Device) (was : Bool) : Device :=
  if was && !d.psense && d.sn.partner.role == 2 then d.snTrigger 2
  else if !was && d.psense then d.snNotice
  else d

/-- PSENSE_WAIT_TIMEOUT (R429): the partner still drives; the standby becomes ORPHAN. -/
def Device.psenseTimeout (d : Device) : Device :=
  let w := d.fld Reg.NET_SNCFG 24 8
  let us := if w = 0 then 1 else w
  match d.sn.trigger with
  | none => d
  | some (_, t) =>
    if d.psense ∧ t + 250 * us ≤ d.tbNow then
      ({ d with sn := { d.sn with trigger := none } }.setRole 5).raise 0x34 0
    else d

/-- Enabled classes, in order. -/
def Device.enabledClasses (d : Device) : List Nat := (List.range 16).filter d.clsOn

/-- TAKEOVER_COMMIT (R429): live buffers take the output words of every enabled class, and after them PE_IMGOUT its loads (R340);
the engines of NET_SNENGt start, and at the pin edge the device is in RUN as SOLO. -/
def Device.takeover (d : Device) : Device :=
  match d.sn.trigger with
  | none => d
  | some (cause, _) =>
    if d.sn.applying ∨ d.psense ∨ d.mode ≠ .standby ∨ d.snRole ≠ 3 then d
    else
      let (oms, d0) := d.enabledClasses.foldl (fun r c => let q := r.2.commitMap c; (r.1 ++ [q.1], q.2)) ([], d)
      let d1 := (d0.copyMaps oms).commitCount
      let d2 := (List.range d1.cfg.tiles).foldl (fun e t => e.groupStart t (e.fld (Reg.NET_SNENG t) 0 8) true false) d1
      let age := d2.snLag
      let d3 := ((d2.setMode .run).setRole 4).setReady false
      let d4 := ((d3.setFld Reg.NET_SNTKO 0 8 (min age 255)).setFld Reg.NET_SNTKO 8 3 cause).wr64 Reg.NET_SNTKOT d3.tbNow
      let d5 := { d4.bump Reg.NET_SNCNT2 8 8 with sn := { d4.sn with
        trigger := none, whole := none, takeovers := (d4.sn.takeovers + 1) % 2 ^ 32, age := age, logs := [] } }
      (d5.writePairing 4 1).raise 0x37 age

/-! ### Full resynchronisation -/

/-- RESYNC_TRANSMIT (R432): the next lines, each as it stands when it is sent, in the time that cycle logs leave free; after
the last, RSDONE. -/
def Device.resyncTransmit (d : Device) : Device :=
  if (d.snOn && d.snRole == 2 && d.flag Reg.NET_SNSTAT 5 && d.sn.logs.all (·.sent)) = false then d
  else if d.sn.rsLines.isEmpty then
    if d.sn.rsDone then d
    else
      let d1 := d.snSend [snFrame 0x49 (d.rd Reg.NET_SNCYC) (leBytes 8 d.sn.rsSent)]
      { d1 with sn := { d1.sn with rsDone := true } }.resyncCheck
  else
    let ls := d.sn.rsLines.take 20
    let (recs, d0) := d.linesRead ls
    let d1 := d0.snSend [snFrame 0x48 (d.rd Reg.NET_SNCYC) (recs.flatMap lineRecord)]
    { d1 with sn := { d1.sn with
        rsLines := d1.sn.rsLines.drop 20, rsSent := d1.sn.rsSent + ls.length, rsRead := d1.rd Reg.NET_SNCYC } }

/-- RSLINES (R432): the standby writes the lines as they arrive. -/
def Device.rsLines (d : Device) (f : FrameIn) : Device :=
  d.snReceive 0x48 f fun g d =>
    if (d.snRole == 3 && d.mode == Mode.standby) = false then d
    else
      let d0 := if d.flag Reg.NET_SNSTAT 5 then d else d.resyncSeen
      let rs := recordsOf g.payload
      let d1 := rs.foldl (fun e l => e.applyLine l) d0
      { d1 with sn := { d1.sn with rsSent := d1.sn.rsSent + rs.length, rsRead := g.cycle } }

/-- RSDONE (R432): the copy is complete where every line sent has arrived. -/
def Device.rsDoneFrame (d : Device) (f : FrameIn) : Device :=
  d.snReceive 0x49 f fun g d =>
    if (d.snRole == 3 && d.flag Reg.NET_SNSTAT 5) = false ∨ fieldAt g.payload 0 4 ≠ d.sn.rsSent then d
    else { d with sn := { d.sn with rsDone := true } }.resyncCheck

/-! ### Registers -/

/-- SN_COUNT_CLEAR (Table 13.9). -/
def Device.snCountClear (d : Device) : Device := (d.wr Reg.NET_SNCNT 0).wr Reg.NET_SNCNT2 0

/-- A write of NET_SNCFG: EN, CLASS and MAXLAG only while ROLE is UNPAIRED (R434); DISC = 1 asks for LOCKED again (R427). -/
def Device.snCfgWrite (d : Device) (v : Nat) : Device :=
  let fixed := d.rd Reg.NET_SNCFG &&& 0xFD
  let w := v &&& 0xFFFF01FF
  let d1 := d.wr Reg.NET_SNCFG (if d.snRole = 0 then w else (w &&& 0xFFFFFF02) ||| fixed)
  let d2 := { d1 with sn := { d1.sn with relock := bitOf v 1 && d1.snRole == 2 && !d1.flag Reg.NET_SNSTAT 4 } }
  (if bitOf v 1 = false ∧ d2.snRole = 2 then d2.snFlag 4 false else d2).psenseChange d.psense

/-- A write of NET_SNID (R434). -/
def Device.snIdWrite (d : Device) (v : Nat) : Device := if d.snRole = 0 then d.wr Reg.NET_SNID v else d

end Sys2Proof.Machine
end

