-- ==== Sys2Proof/Machine/SyncGroup.lean ====
section
/-! DEFINITION. Sync groups (R396 to R403): the rounds of a group slot j, as its coordinator and as a member. -/

namespace Sys2Proof.Machine

/-- GROUP, PER and START of a slot (Table 12.15). -/
def Device.sgGroup (d : Device) (j : Nat) : Nat := d.fld (Reg.BEY_SGCFG j) 0 8
def Device.sgPer (d : Device) (j : Nat) : Nat := d.rd (Reg.BEY_SGPER j)
def Device.sgStart (d : Device) (j : Nat) : Nat := d.rd64 (Reg.BEY_SGSTART j)

/-- The slot's GROUP while it is enabled and the device belongs to sync groups (R374, R396). -/
def Device.sgOn (d : Device) (j : Nat) : Bool := d.originates && d.sgSlot (d.sgGroup j) == some j

/-- The device coordinates the slot's group (R396, R403). -/
def Device.sgCoordinates (d : Device) (j : Nat) : Bool :=
  d.sgOn j && (d.fld (Reg.BEY_SGCRD j) 0 10 == d.beyAddr || (d.sg j).alternate)

/-- Codes of an outcome in DEC, PREV, LAST and RES. -/
def SgOutcome.code : SgOutcome → Nat
  | .unknown => 0
  | .commit => 1
  | .abort => 2
  | .uncertain => 3

/-- DEC and PREV carry no uncertain outcome (Table 12.7). -/
def SgOutcome.told : SgOutcome → Nat
  | .uncertain => 0
  | o => o.code

/-- A group frame's payload (Table 12.7). -/
def groupPayload (group round v vd vote dec prev reason : Nat) : List Byte :=
  leBytes 4 group ++ leBytes 4 round ++ leBytes 8 v ++ leBytes 8 vd ++ leBytes 1 vote ++ leBytes 1 dec ++
    leBytes 1 prev ++ leBytes 1 reason ++ leBytes 4 0

/-- A group frame of the device's own. -/
def Device.groupFrame (d : Device) (j type dst round v vd vote dec prev reason : Nat) : Device :=
  let g := d.sgGroup j
  d.ownControl type (0xFF00 + g) dst (round % 16) (groupPayload g round v vd vote dec prev reason)

/-! ### Members -/

/-- Handles of the SYNC manifests that wait for a group and that no vote covers. -/
def Device.sgWaiting (d : Device) (j : Nat) : List Nat :=
  (List.range 16).filter fun h => match d.manifest h with
    | some m => m.sync && m.committed && m.instant.isNone && m.group == d.sgGroup j &&
        !((d.sg j).joined.map Prod.fst).contains h
    | none => false

/-- The vote of a member: YES, or NO with its REASON; a frame goes to the coordinator unless that is this device (R397).
In SAFE and under the freeze none is given (R522, Table 16.7). -/
def Device.sgVote (d : Device) (j : Nat) (covers : List (Nat × Option Nat)) (no : Nat) : Device :=
  let x : SgState := { d.sg j with voted := true, no := no, joined := covers }
  let d1 := d.setSg j x
  if x.coord = d1.beyAddr then d1
  else d1.groupFrame j 0x11 x.coord x.round x.v x.vd (if no = 0 then 1 else 2) 0 0 no

/-- The guards of some manifests are read: each with the index of its first guard that fails (R350). -/
def Device.sgRead (d : Device) (hs : List Nat) : List (Nat × Option Nat) × Device :=
  hs.foldl (fun (s : List (Nat × Option Nat) × Device) h =>
    match s.2.manifest h with
    | some m => let (i, e) := s.2.guardPhase m.acts; (s.1 ++ [(h, i)], e)
    | none => s) ([], d)

/-- The guards of the waiting manifests are read once, at the vote, and a guard that fails makes it NO with REASON 1
(R397). -/
def Device.sgGuards (d : Device) (j : Nat) : Device :=
  let r := d.sgRead (d.sgWaiting j)
  r.2.sgVote j r.1 (if r.1.any fun p => p.2.isSome then 1 else 0)

/-- Manifests whose MCOMMIT comes after the vote and before VD join the round and share its outcome; their guards are read as
they join (R397; DESIGN CHOICE, notes/assumptions/46.md). -/
def Device.sgJoin (d : Device) (j : Nat) : Device :=
  let r := d.sgRead (d.sgWaiting j)
  r.2.setSg j { r.2.sg j with joined := (r.2.sg j).joined ++ r.1 }

/-- A member votes once a round is prepared and an MCOMMIT waits, up to the round's VD (R397). -/
def Device.sgTryVote (d : Device) (j : Nat) : Device :=
  let x := d.sg j
  if d.sgOn j ∧ x.undecided ∧ d.beyFrozen = false ∧ d.tbNow ≤ x.vd ∧ d.sgWaiting j ≠ [] then
    (if x.voted then d.sgJoin j else d.sgGuards j)
  else d

/-- An MCOMMIT on a SYNC manifest reaches the unit: the members of its group may vote now (R397). -/
def Device.sgArrive (d : Device) : Device := (List.range 16).foldl (fun e j => e.sgTryVote j) d

/-- VOTE_DEADLINE: at VD a member without a waiting MCOMMIT votes NO with REASON 2 (R397); where the coordinator was
isolated, what waits for the round never prepared is ABORTED at that round's VD (R403). -/
def Device.sgVoteDeadline (d : Device) (j : Nat) : Device :=
  let x := d.sg j
  if d.sgOn j = false then d
  else if x.undecided ∧ x.voted = false ∧ x.vd ≤ d.tbNow then
    (if d.beyFrozen then d else d.sgVote j [] 2)
  else if x.undecided = false ∧ x.isolated ∧ x.vd + d.sgPer j ≤ d.tbNow then
    let d1 := (d.sgWaiting j).foldl (fun e h => e.closeManifest h (mftFail 0x13)) d
    d1.setSg j { d1.sg j with isolated := false }
  else d

/-- Line 29 of NBERTH where the slot's NOTE is 1. -/
def Device.sgNote (d : Device) (j : Nat) : Device := if d.flag (Reg.BEY_SGCFG j) 10 then d.beyNote else d

/-- An outcome of the round in hand is shown and counted (Table 12.15). -/
def Device.sgOutcome (d : Device) (j : Nat) (o : SgOutcome) (reason : Nat) : Device :=
  let x := d.sg j
  let unsure := if o = .uncertain then x.unsure ++ [x.round] else x.unsure
  let d1 := d.setSg j { x with undecided := false, outcome := o, joined := [], unsure := unsure }
  let d2 := (d1.setFld (Reg.BEY_SGST j) 0 16 x.round).setFld (Reg.BEY_SGST j) 16 2 o.code
  let d3 := match o with
    | .commit => d2.bump (Reg.BEY_SGCNT j) 0 16
    | .abort => (d2.setFld (Reg.BEY_SGST j) 21 3 reason).bump (Reg.BEY_SGCNT j) 16 8
    | .uncertain => d2.bump (Reg.BEY_SGCNT j) 24 8
    | .unknown => d2
  d3.sgNote j

/-- A manifest fails by its guard (R349, R397). -/
def Device.sgGuardFail (d : Device) (h i : Nat) : Device := (d.bump Reg.MFT_CNT 16 8).closeManifest h (guardFail i)

/-- The manifests of the round fail: GUARDFAIL where a guard of theirs failed and the round was aborted, else with the code
(R397, R400, Table 12.8). -/
def Device.sgFail (d : Device) (j code : Nat) : Device :=
  ((d.sg j).joined).foldl (fun e p => match p.2 with
    | some i => if code = 0x13 then e.sgGuardFail p.1 i else e.closeManifest p.1 (mftFail code)
    | none => e.closeManifest p.1 (mftFail code)) d

/-- A member takes COMMIT: its manifests are scheduled for V (R398, R399); one that joined after the vote and whose guard
failed returns GUARDFAIL. -/
def Device.sgTakeCommit (d : Device) (j : Nat) : Device :=
  let x := d.sg j
  let d1 := x.joined.foldl (fun e p => match p.2, e.manifest p.1 with
    | some i, _ => e.sgGuardFail p.1 i
    | none, some m => (e.setManifest p.1 (some { m with instant := some x.v })).commitDue p.1
    | none, none => e) d
  d1.sgOutcome j .commit 0

/-- A member takes ABORT (Table 12.8). -/
def Device.sgTakeAbort (d : Device) (j reason : Nat) : Device :=
  ((d.sgFail j 0x13).sgPulse (d.sgGroup j) 0x59).sgOutcome j .abort reason

/-- A reporting port faces device c (R400): the own port by the neighbour it has heard; another's by the hops of its LINK frame,
which went out of its other port, and so came to here by the ring on which the next device behind it is c (R368, R371). -/
def Device.facing (d : Device) (c : Nat) (r : PortReport) : Bool :=
  if r.addr = d.beyAddr then d.fld (Reg.BEY_PORT r.port) 2 10 == c
  else match r.path with
    | some (ring, hops) => d.bey.places.get (fun _ => none) (2 * c + ring) == some (hops + 1)
    | none => false

/-- The DOWN reports since the round's PREPARE show exactly one fault, and it isolates the coordinator (R400): its neighbours
report both ports towards it DOWN, or it has reported both of its own. -/
def Device.sgIsolated (d : Device) (j : Nat) : Bool :=
  let x := d.sg j
  let rs := d.bey.reports.filter fun r => r.down && decide (x.since ≤ r.since)
  let own := rs.filter fun r => r.addr == x.coord
  let others := rs.filter fun r => r.addr != x.coord
  let sides := [0, 1].all fun q => others.any fun r => r.port == q
  decide (others.length ≤ 2) && others.all (d.facing x.coord) && (sides || own.length == 2)

/-- TOKEN_DEADLINE: TD has come without a decision (R400, R403). -/
def Device.sgToken (d : Device) (j : Nat) : Device :=
  let x := d.sg j
  if (d.sgOn j && x.undecided) = false ∨ d.tbNow + 500 < x.v then d
  else
    if d.sgIsolated j then
      let d2 := d.sgTakeAbort j 3
      let alt := d2.fld (Reg.BEY_SGCRD j) 16 10 == d2.beyAddr
      d2.setSg j { d2.sg j with isolated := true, alternate := (d2.sg j).alternate || alt }
    else (((d.sgFail j 0x14).sgPulse (d.sgGroup j) 0x5A).sgOutcome j .uncertain 0).raise 0x2D j

/-- PREV resolves a round that was uncertain here (R402). -/
def Device.sgResolve (d : Device) (j round prev : Nat) : Device :=
  let x := d.sg j
  if 2 ≤ round ∧ x.unsure.contains (round - 2) ∧ (prev = 1 ∨ prev = 2) then
    let d1 := d.setSg j { x with unsure := x.unsure.filter (· != round - 2) }
    ((d1.setFlag (Reg.BEY_SGST j) 18 true).setFld (Reg.BEY_SGST j) 19 2 prev).sgNote j
  else d

/-- A round is prepared here. -/
def Device.sgPrepare (d : Device) (j round v vd coord : Nat) : Device :=
  let x := d.sg j
  let x1 : SgState := { x with
    known := true, round := round, v := v, vd := vd, coord := coord, since := d.tbNow, undecided := true, voted := false
    no := 0, joined := [], isolated := false, last := if x.known ∧ round = x.round + 1 then x.outcome else .unknown
    outcome := .unknown }
  (d.setSg j x1).sgTryVote j

/-- The place of a frame's source on a ring, by the hops it has made. -/
def Device.notePlace (d : Device) (ring : Nat) (g : BeyFrame) : Device :=
  { d with bey := { d.bey with places := d.bey.places.put (fun _ => none) (2 * g.src + ring) (some g.hops) } }

/-- A group frame that concerns a slot: delivered here, of a group the device is a member of, from its coordinator or the
alternate. -/
def Device.sgFrameSlot (d : Device) (g : BeyFrame) : Option Nat :=
  if d.deliveredHere g = false ∨ g.src = d.beyAddr then none
  else (d.sgSlot (fieldAt g.payload 0 1)).filter fun j => d.sgOn j

def Device.fromCoordinator (d : Device) (j : Nat) (g : BeyFrame) : Bool :=
  g.src == d.fld (Reg.BEY_SGCRD j) 0 10 || g.src == d.fld (Reg.BEY_SGCRD j) 16 10

/-- A PREPARE or DECIDE whose GEN is late against the round in hand is discarded and counted (R389); the copy that came by
the other ring is a duplicate. -/
def Device.sgFresh (d : Device) (j round gen : Nat) : Bool × Device :=
  let x := d.sg j
  let dist := (gen + 16 - x.round % 16) % 16
  if x.known = false then (true, d)
  else if round = x.round then (false, d)
  else if dist = 0 ∨ dist < 8 then (true, d)
  else (false, d.bump Reg.BEY_CNT0 16 8)

/-- What a DECIDE says of the round before the one it prepares (R398, R399, R400). -/
def Device.sgDecision (d : Device) (j round dec reason : Nat) : Device :=
  let x := d.sg j
  if x.undecided = false then d
  else if x.round + 1 = round ∧ d.tbNow + 500 ≤ x.v ∧ (dec = 1 ∨ dec = 2) then
    (if dec = 1 then d.sgTakeCommit j else d.sgTakeAbort j reason)
  else d.sgToken j

/-- PREPARE and DECIDE (R397 to R400, R402). -/
def Device.sgRound (d : Device) (p type : Nat) (f : FrameIn) : Device :=
  d.beyReceive p type f fun g d =>
    let d0 := (d.passOn p g).notePlace (1 - p) g
    match d0.sgFrameSlot g with
    | none => d0
    | some j =>
      let round := fieldAt g.payload 4 4
      if d0.fromCoordinator j g = false then d0
      else match d0.sgFresh j round g.gen with
        | (false, d1) => d1
        | (true, d1) =>
          let prev := fieldAt g.payload 26 1
          let d2 := if type = 0x12 then d1.sgDecision j round (fieldAt g.payload 25 1) (fieldAt g.payload 27 1) else d1
          (d2.sgResolve j round prev).sgPrepare j round (fieldAt g.payload 8 8) (fieldAt g.payload 16 8) g.src

/-! ### The coordinator -/

/-- VOTE (R398): the GEN rule of R389, then YES and NO votes, each voter once. -/
def Device.sgVoteFrame (d : Device) (p : Nat) (f : FrameIn) : Device :=
  d.beyReceive p 0x11 f fun g d =>
    let d0 := d.passOn p g
    match d0.sgFrameSlot g with
    | none => d0
    | some j =>
      let x := d0.sg j
      let dist := (g.gen + 16 - x.round % 16) % 16
      if d0.sgCoordinates j = false ∨ x.known = false then d0
      else if 8 ≤ dist then d0.bump Reg.BEY_CNT0 16 8
      else if dist ≠ 0 then d0.bump Reg.BEY_CNT1 0 8
      else if fieldAt g.payload 4 4 ≠ x.round ∨ x.decided ≠ .unknown ∨ x.votes.contains g.src ∨
          (x.noes.map Prod.fst).contains g.src then d0
      else if fieldAt g.payload 24 1 = 1 then d0.setSg j { x with votes := x.votes ++ [g.src] }
      else if fieldAt g.payload 24 1 = 2 then d0.setSg j { x with noes := x.noes ++ [(g.src, fieldAt g.payload 27 1)] }
      else d0

/-- The decision of the round in hand (Table 12.8): COMMIT on every YES; otherwise ABORT with REASON 3 where a vote is
missing, else with the REASON of the first NO. -/
def Device.sgDecide (d : Device) (j : Nat) : Device :=
  let x := d.sg j
  if x.decided ≠ .unknown then d
  else
    let others := d.fld (Reg.BEY_SGCFG j) 16 10 - 1
    let reason :=
      if x.votes.length + x.noes.length < others ∨ x.voted = false then 3
      else match x.noes with
        | n :: _ => n.2
        | [] => x.no
    if x.votes.length = others ∧ x.voted ∧ x.no = 0 then d.setSg j { x with decided := .commit, reason := 0 }
    else d.setSg j { x with decided := .abort, reason := reason }

/-- COLLECTION_DEADLINE: CD = t + 2 RTT + 3,750 units (R396, R398). -/
def Device.sgCollect (d : Device) (j : Nat) : Device :=
  let x := d.sg j
  if d.sgCoordinates j ∧ x.known ∧ x.coord = d.beyAddr ∧ d.sgStart j + x.round * d.sgPer j + 2 * x.rtt + 3750 ≤ d.tbNow then
    d.sgDecide j
  else d

/-- The coordinator sends DECIDE with the outcome of the round in hand and takes that outcome itself. -/
def Device.sgSendDecide (d : Device) (j round v vd prev : Nat) : Device :=
  let d1 := d.sgDecide j
  let x := d1.sg j
  let d2 := d1.groupFrame j 0x12 1023 round v vd 0 x.decided.told prev x.reason
  if x.undecided = false then d2
  else if x.decided = .commit ∧ d2.tbNow + 500 ≤ x.v then d2.sgTakeCommit j
  else if x.decided = .abort ∧ d2.tbNow + 500 ≤ x.v then d2.sgTakeAbort j x.reason
  else d2.sgToken j

/-- ROUND_START (R396, R398, R403): at t_r the coordinator fixes RTT, V and VD, and sends PREPARE inside the DECIDE of the
round before, or alone. -/
def Device.sgRoundStart (d : Device) (j : Nat) : Device :=
  let per := d.sgPer j
  if d.sgCoordinates j = false ∨ per = 0 ∨ d.tbNow < d.sgStart j then d
  else
    let x := d.sg j
    let r := (d.tbNow - d.sgStart j) / per
    let t := d.sgStart j + r * per
    let takesOver := x.alternate && x.coord != d.beyAddr
    if x.known ∧ r < x.round + (if takesOver then 2 else 1) then d
    else
      let rtt := d.rd Reg.BEY_RTT
      let v := t + per + rtt + 1250
      let vd := t + rtt + 1250
      let follows := x.known && r == x.round + 1 && !takesOver
      let prev := if x.known = false then 0
        else if r = x.round + 1 then x.last.told
        else if r = x.round + 2 then x.outcome.told
        else 0
      let d1 := if follows then d.sgSendDecide j r v vd prev
        else d.groupFrame j 0x10 1023 r v vd 0 0 prev (if takesOver then 5 else 0)
      let short := decide (per < 2 * rtt + 5000)
      let x1 := d1.sg j
      let d2 := d1.setSg j { x1 with
        rtt := rtt, votes := [], noes := [], decided := if short then .abort else .unknown
        reason := if short then 4 else 0 }
      let d3 := d2.sgPrepare j r v vd d2.beyAddr
      if short then d3.raise 0x2C j else d3

end Sys2Proof.Machine
end

