-- ==== Sys2Proof/Machine/Halt.lean ====
section
/-! DEFINITION. The debugger's halt of cores (R488 to R495): halting, cross-triggering, resuming, and the cross-device
halt of the Beyram link (R404). -/

namespace Sys2Proof.Machine

/-- The core is present in the configuration, its tile is powered, and it is not asleep (Table 16.5): an emulated DEEP-SLEEP leaves tiles
powered (R502). -/
def Device.coreOn (d : Device) (c : Nat) : Bool := decide (c < d.cfg.cores) && d.tileOn (c / 4) && d.mode != Mode.deepSleep

/-- CAR_BSTATb.STATE (Table 2.11). A berth in MCOMMIT has no code of its own and shows as running. -/
def Device.bstate (d : Device) (b : Nat) : Nat :=
  if d.present b = false then 8
  else if d.parked b then 0
  else if d.coreHalted (coreOf b) then 7
  else match (d.berth b).wait with
    | .waitt _ _ => 2
    | .waite _ _ => 3
    | .sleep _ _ => 4
    | .bollard _ _ _ _ _ _ => 5
    | .breach => 6
    | _ => 1

/-- The other core of an active twin pair halts and resumes with a core that a request names (R488). -/
def Device.withTwin (d : Device) (c : Nat) : List Nat :=
  if d.twinLow c then [c, c + 1] else if d.twinHigh c then [c - 1, c] else [c]

/-- Core c halts with a cause of Table 16.11. A berth behind a load just issued issues once more (R86, R488); one that waits goes on
waiting (R489). -/
def Device.haltOne (d : Device) (cause c : Nat) : Device :=
  if d.coreOn c = false ∨ d.coreHalted c then d
  else
    let d1 := (d.setFlag Reg.DBG_HALTED c true).setFld (Reg.DBG_CSTAT c) 0 3 cause
    let more := (List.range' (16 * c) 16).filter fun b => (d1.berth b).shadow.isSome && (d1.berth b).wait == .none
    { d1 with dbg := { d1.dbg with extra := d1.dbg.extra ++ more } }.record 0x0A cause c []

def Device.haltCores (d : Device) (cause : Nat) (cs : List Nat) : Device :=
  (cs.flatMap d.withTwin).foldl (fun e c => e.haltOne cause c) d

/-- Every present core is halted (R25, R490). -/
def Device.allHalted (d : Device) : Bool :=
  (List.range d.cfg.cores).all fun c => d.coreHalted c || !d.coreOn c

/-- The freeze of the engines at entry to HALT (R242, Table 16.7): a stop of every running engine, which one of a migration in
progress ignores (R243). -/
def Device.freezeEngines (d : Device) : Device :=
  (List.range d.cfg.engines).foldl (fun e k =>
    if (e.engine k).run = false then e
    else if e.migrating k then e.engIgnore (k / 8)
    else e.setEngine k { (e.engine k).stop with frozen := true }) d

/-- Entry to HALT (R490, Table 17.5): the freeze-on-halt bits act as they stand now (R496), that of the engines by stopping every running
one (Table 16.7), and a halt whose cause is not REMOTE goes out as XEV (R495). -/
def Device.enterHalt (d : Device) (cause : Nat) : Device :=
  let from_ := d.mode == Mode.service || d.mode == Mode.stop || d.mode == Mode.run || d.mode == Mode.standby
  if (d.allHalted && from_) = false then d
  else
    let d0 := { d with dbg := { d.dbg with freeze := d.rd Reg.DBG_FREEZE } }
    let d1 := if bitOf d0.dbg.freeze 0 then d0.freezeEngines else d0
    let d2 := d1.enterFrom .halt
    if cause ≠ 4 ∧ d2.flag Reg.DBG_XTRIG 1 ∧ d2.flag Reg.BEY_XEV 0 then
      { d2.xevOriginate 1 with dbg := { d2.dbg with xout := true } }
    else d2

/-- Cores halt with a cause; a core of DBG_XMASK that halts by REQUEST, COMPARATOR or REMOTE halts the whole mask (R490).
A halt request ends DOZE first (Table 17.5). -/
def Device.haltWith (d : Device) (cause : Nat) (cs : List Nat) : Device :=
  let d0 := if d.mode = .doze ∧ (cs.any fun c => d.coreOn c) then d.setMode d.prev else d
  let d1 := d0.haltCores cause cs
  let hit := (List.range 32).any fun c => d1.coreHalted c && !d0.coreHalted c && d1.flag Reg.DBG_XMASK c
  let d2 := if hit ∧ (cause = 1 ∨ cause = 3 ∨ cause = 4) then
      (d1.haltCores 2 ((List.range 32).filter fun c => d1.flag Reg.DBG_XMASK c)).pulse 0x64
    else d1
  if (List.range 32).any fun c => d2.coreHalted c && !d0.coreHalted c then d2.enterHalt cause else d2

/-- DBG_AUTH.LEVEL is FULL (R481). -/
def Device.authFull (d : Device) : Bool := d.fld Reg.DBG_AUTH 0 2 == 2

/-- A resume of some cores is requested (R491). -/
def Device.resumeRequest (d : Device) (mask : Nat) : Device :=
  { d with dbg := { d.dbg with resume := d.dbg.resume ++ [(mask % 2 ^ 32, d.tbNow)] } }

/-- A berth of a resumed core takes what waited for the resume: its wake, or the status of its MCOMMIT (R489). -/
def Berth.resume (x : Berth) : Berth :=
  match x.wait with
  | .status rd v => { x with wait := .none }.setReg rd (BitVec.ofNat 32 v)
  | _ => x.wake

/-- Core c resumes (R491). -/
def Device.resumeOne (d : Device) (c : Nat) : Device :=
  if d.coreHalted c = false then d
  else
    let d1 := (d.setFlag Reg.DBG_HALTED c false).setFld (Reg.DBG_CSTAT c) 0 3 0
    let d2 := { d1 with dbg := { d1.dbg with
      extra := d1.dbg.extra.filter fun b => coreOf b != c
      steps := d1.dbg.steps.filter fun s => coreOf s.1 != c } }
    let d3 := (List.range' (16 * c) 16).foldl (fun e b =>
      if e.present b then (e.setBerth b (e.berth b).resume).settlePark b else e) d2
    d3.record 0x0B 0 c []

/-- The device leaves HALT for the mode it held (R491): the engines that the freeze stopped start on one ECLK edge, and a resume follows
a halt that went out as XEV, under the same conditions (R495). -/
def Device.leaveHalt (d : Device) : Device :=
  if d.mode ≠ .halt ∨ d.allHalted then d
  else
    let d1 := d.setMode d.prev
    let d2 := (List.range d1.cfg.engines).foldl (fun e k =>
      if (e.engine k).frozen then e.engStart k false false else e) d1
    let d3 := d2.poeNotice d
    let d4 := { d3 with dbg := { d3.dbg with xout := false } }
    if d3.dbg.xout ∧ d3.flag Reg.DBG_XTRIG 1 ∧ d3.flag Reg.BEY_XEV 0 then d4.xevOriginate 2 else d4

/-- A resume request has met its edge: 4 TCLK after it at least, and at a multiple of 8 (R491). -/
def Device.resumeDue (d : Device) (at_ : Nat) : Bool := decide (at_ + 4 ≤ d.tbNow) && decide (d.tbNow % 8 = 0)

/-- The cores that some requests name. -/
def namedCores (rs : List (Nat × Nat)) : List Nat := (List.range 32).filter fun c => rs.any fun r => bitOf r.1 c

/-- RESUME_INSTANT (R490, R491): the requests that are due take effect; a core of DBG_XMASK resumes the whole mask, but for a resume
that an XEV asks for, which names the cores halted with cause REMOTE only (R495). -/
def Device.resumeInstant (d : Device) : Device :=
  let due := d.dbg.resume.filter fun r => d.resumeDue r.2
  let far := d.dbg.remote.filter fun r => d.resumeDue r.2
  if due.isEmpty ∧ far.isEmpty then d
  else
    let d1 := { d with dbg := { d.dbg with
      resume := d.dbg.resume.filter fun r => !d.resumeDue r.2
      remote := d.dbg.remote.filter fun r => !d.resumeDue r.2 } }
    let masked (c : Nat) : Bool := d1.coreHalted c && d1.flag Reg.DBG_XMASK c
    let whole := (namedCores due).any masked
    let hit := whole || (namedCores far).any masked
    let cs := (List.range 32).filter fun c =>
      (namedCores due).contains c || (namedCores far).contains c || (whole && d1.flag Reg.DBG_XMASK c)
    let d2 := (cs.flatMap d1.withTwin).foldl (fun e c => e.resumeOne c) d1
    (if hit then d2.pulse 0x65 else d2).leaveHalt

/-- XEV (R404, R495): forwarded whatever EN holds; with EN it pulses the cross-halt producer, and, while XIN and the
authorisation permit, halts the cores of DBG_XMASK or resumes those halted with cause REMOTE. -/
def Device.xevReceive (d : Device) (p code src hops : Nat) : Device :=
  if d.beyRuns = false ∨ d.portState p = 0 then d
  else
    let d1 := d.xevForward p code src hops
    if d1.flag Reg.BEY_XEV 0 = false ∨ src = d1.beyAddr then d1
    else
      let d2 := d1.pulse 0x5B
      if (d2.flag Reg.DBG_XTRIG 0 && d2.authFull) = false then d2
      else if code = 1 then d2.haltWith 4 ((List.range 32).filter fun c => d2.flag Reg.DBG_XMASK c)
      else if code = 2 then
        let m := (List.range 32).foldl (fun m c => if d2.fld (Reg.DBG_CSTAT c) 0 3 = 4 then m + 2 ^ c else m) 0
        { d2 with dbg := { d2.dbg with remote := d2.dbg.remote ++ [(m, d2.tbNow)] } }
      else d2

end Sys2Proof.Machine
end

