-- ==== Sys2Proof/Machine/Events.lean ====
section
/-! DEFINITION. The event fabric at work (R304 to R317): an assertion at every consumer of Table 10.2, software fires, channel
configuration, groups, snapshots; and a change of level at a pad (R283). -/

namespace Sys2Proof.Machine

/-! ### Snapshots -/

/-- DBG_SNPCb at a snapshot (R504): VALID 0 for a berth of an unpowered or absent tile. -/
def Device.snapBerth (d : Device) (b : Nat) : Nat :=
  if d.tileOn (tileOf b) = false then 0
  else (d.berth b).pc.toNat + d.bstate b * 2 ^ 50 + 2 ^ 63

/-- SNAP (R317, R504): every block latches its snapshot registers at its next clock edge; a SNAP that finds ARM 0
overruns. -/
def Device.snapshot (d : Device) : Device :=
  if d.flag Reg.EVF_SNAP 0 = false then d.evfOverrun 2
  else
    let d1 := (d.wr64 Reg.TB_SNAP (d.tbNow + 1)).wr Reg.LPT_SNAP (bitsOf (d.lpt.acc + d.rd Reg.LPT_INC) 16 32)
    let d2 := (List.range d1.cfg.berths).foldl (fun e b => e.wr64 (Reg.DBG_SNPC b) (e.snapBerth b)) d1
    let d3 := d2.wr Reg.DBG_SNTWP (d2.rd Reg.DBG_TWP)
    let d4 := ((d3.setFlag Reg.EVF_SNAP 0 false).setFlag Reg.EVF_SNAP 1 true).bump Reg.EVF_SNAP 16 16
    d4.record 0x0E 0 0x3FF (leBytes 8 (d4.rd64 Reg.TB_SNAP))

/-! ### Consumers -/

/-- Line 17 + m of core c takes channel n (R316). -/
def Device.lineTakes (d : Device) (c m n : Nat) : Bool :=
  d.fld (Reg.EVF_CLINE c (m / 4)) (8 * (m % 4)) 7 == n && d.flag (Reg.EVF_CLINE c (m / 4)) (8 * (m % 4) + 7)

/-- Lines of a mask that are busy at a berth: pending while unmasked (Table 10.2). -/
def Device.busyLines (d : Device) (b lines : Nat) : Nat := lines &&& (d.berth b).srN 20 &&& (d.berth b).srN 19

/-- The lines of a mask assert together at every present berth of core c; a busy one drops its assertion and overruns (R54,
R312, R316, Table 10.2). -/
def Device.coreLines (d : Device) (c lines : Nat) : Device :=
  let bs := (List.range' (16 * c) 16).filter d.present
  let d1 := if bs.any fun b => d.busyLines b lines != 0 then d.evfOverrun 1 else d
  bs.foldl (fun e b => e.assertLines b (lines - d.busyLines b lines)) d1

/-- The berth lines that a channel drives; those of an unpowered tile drop it. -/
def Device.fabricLines (d : Device) (n : Nat) : Device :=
  (List.range d.cfg.cores).foldl (fun e c =>
    let lines := (List.range 8).foldl (fun m k => if e.lineTakes c k n then m + 2 ^ (17 + k) else m) 0
    if e.coreOn c = false ∨ lines = 0 then e else e.coreLines c lines) d

/-- Ringmaster sources EVF_EXT0 to EVF_EXT3 (Table 10.2), whose events come in one cycle (R438). -/
def Device.fabricRms (d : Device) (n : Nat) : Device :=
  d.raiseAll (((List.range 4).filter fun k =>
    d.fld Reg.EVF_RMSCH (8 * k) 7 == n && d.flag Reg.EVF_RMSCH (8 * k + 7)).map fun k => (k, n))

/-- Channel n, which has asserted, acts on group g (R310): OFFCH clears EN and ONCH sets it. A set and a clear that overlap
end disabled: a clear outlasts a set whose own assertion is still to act. -/
def Device.groupAct (d : Device) (n g : Nat) : Device :=
  let r := d.rd (Reg.EVF_GRP g)
  let set_ := bitsOf r 0 7
  if bitOf r 15 && bitsOf r 8 7 == n then
    let e := d.setFlag (Reg.EVF_GRP g) 16 false
    if bitOf r 7 && set_ != n && d.chComing set_ then
      { e with evf := { e.evf with offWins := e.evf.offWins.filter (· != g) ++ [g] } }
    else e
  else if bitOf r 7 && set_ == n then
    if d.evf.offWins.contains g then { d with evf := { d.evf with offWins := d.evf.offWins.filter (· != g) } }
    else d.setFlag (Reg.EVF_GRP g) 16 true
  else d

/-- Group control (R310): one assertion may switch any number of groups. -/
def Device.groupControl (d : Device) (n : Nat) : Device :=
  ((List.range 16).foldl (fun e g => e.groupAct n g) d).evfFall

/-- An assertion of channel n at every consumer (R312, Table 10.2). In DEEP-SLEEP the clocked blocks are off, and only the
island, the blocks on TCLK and the power controller see it (R509, R520). -/
def Device.consume (d : Device) (n : Nat) : Device :=
  let d1 := d.wr (Reg.EVF_STICKY (n / 32)) (d.rd (Reg.EVF_STICKY (n / 32)) ||| 2 ^ (n % 32))
  let d2 := if d1.flag Reg.DBG_TCTL 4 ∧ d1.flag (Reg.DBG_TEVM (n / 32)) (n % 32) then d1.record 0x04 0 n [] else d1
  let d3 := (d2.safeForce n).captures n
  let d4 := (if d3.mode = .deepSleep then d3 else ((d3.engChannel n).fabricLines n).channelTick n).lptChannel n
  let d5 := if n = 127 then d4.snapshot else d4
  let d6 := d5.fabricRms n
  if d6.flag (Reg.EVF_WAKE (n / 32)) (n % 32) then d6.wakeFor 1 else d6

/-- A pulse of channel n ends. -/
def Device.pulseEnd (d : Device) (n : Nat) : Device :=
  { d with evf := { d.evf with pulses := d.evf.pulses.filter (· != n) } }.evfFall

/-- CHANNEL_ASSERTION (R304, R306): the channel's output after gating has risen and has not yet reached its consumers. A
pulse that a disabled group holds back ends without an assertion. -/
def Device.channelAssert (d : Device) (n : Nat) : Device :=
  if d.isolated then d
  else if d.chComing n then
    let d1 := { d with evf := { d.evf with asserted := d.evf.asserted ++ [n] } }
    ((d1.consume n).groupControl n).pulseEnd n
  else d.pulseEnd n

/-! ### Writes of the fabric's registers -/

/-- CHANNEL_FIRE (R307): every 1 of the word fires its channel. -/
def Device.channelFire (d : Device) (w v : Nat) : Device :=
  (setPositions 32 v).foldl (fun e i => e.chPulse (32 * w + i)) d

/-- CHANNEL_CONFIG (R308): the channel is held at 0; bits [11:10] are reserved (Table 10.7). -/
def Device.channelConfig (d : Device) (n v : Nat) : Device :=
  let d1 := d.wr (Reg.EVF_CHCFG n) (v &&& 0x1F3FF)
  { d1 with evf := { d1.evf with
      pulses := d1.evf.pulses.filter (· != n)
      held := d1.evf.held.filter (· != n) ++ [n] } }.evfFall

/-- CHANNEL_HOLD_END (R308): 8 ns after the write the channel follows its producer again. -/
def Device.channelHoldEnd (d : Device) (n : Nat) : Device :=
  { d with evf := { d.evf with held := d.evf.held.filter (· != n) } }

/-- GROUP_WRITE (R310): a software write of EVF_GRPg. -/
def Device.groupWrite (d : Device) (g v : Nat) : Device := (d.wr (Reg.EVF_GRP g) (v % 2 ^ 17)).evfFall

/-- SOFTWARE_INTERRUPT (R316): an absent berth takes nothing, under R34. -/
def Device.softInterrupt (d : Device) (b : Nat) : Device := if d.present b then d.setLine b 31 else d.countAbsent b

/-! ### Pads -/

/-- A pad's read-back takes a level, and with it the routed inputs, the engines and SN_PSENSE (R283). -/
def Device.padTakes (d : Device) (t i : Nat) (v : Bool) : Device :=
  if d.padIn t i = v then d
  else
    let was := d.psense
    let d1 := { d with pad := { d.pad with level := d.pad.level.put (fun _ => false) (32 * t + i) v } }
    ((d1.followRoutes d).engPad t i v).psenseChange was

/-- A pad's read-back follows the level at the pad; one that the spec leaves undefined is a free choice (R283). -/
def Device.padFollow (d : Device) (t i : Nat) : Device :=
  match d.padLevel t i with
  | some v => d.padTakes t i v
  | none => (d.padTakes t i (Config.freeLevel d.draws)).draw

/-- The read-back takes one transition of an engine: a level of its pad, or an output enable of the pad at its run offset (R215). -/
def Device.seeTransition (d : Device) (e : Nat) (a : Nat × Nat × Bool) : Device :=
  let x := d.engine e
  let d1 := d.setEngine e { x with seen := setBits x.seen a.2.1 1 (bit01 a.2.2), past := x.past.drop 1 }
  let t := e / 8
  match (if a.2.1 < 32 then some a.2.1 else x.padOf (a.2.1 - 32)) with
  | some p => if d1.padLevel t p = some (d1.padIn t p) then d1 else d1.padFollow t p
  | none => d1

/-- The read-back takes every transition of an engine that is two ECLK cycles old at the latest TCLK edge, one by one, so that no pulse is
lost to a counter or a routed input (R215). -/
def Device.seeEngine (d : Device) (e : Nat) : Device :=
  let x := d.engine e
  (x.past.takeWhile fun a => decide (a.1 + 16 < 8 * x.tclkAt)).foldl (fun f a => f.seeTransition e a) d

/-- At a TCLK edge the read-back of every pad has followed what drives it (R215, R283). -/
def Device.settlePads (d : Device) : Device :=
  d.allPads.foldl (fun e p =>
    if e.padLevel (p / 32) (p % 32) = some (e.padIn (p / 32) (p % 32)) then e else e.padFollow (p / 32) (p % 32))
    (d.eng.engines.foldl (fun f p => f.seeEngine p.1) d)

/-- COMPARATOR_TRIP: the input of comparator c reaches a voltage (R291), which the receiver of its pad sees too (R276). -/
def Device.cmpInput (d : Device) (c u : Nat) : Device :=
  let d1 := d.cmpTrip c u
  if d1.cmpRuns c then d1.padFollow (c / 2) (30 + c % 2) else d1

/-- PAD_INPUT_CHANGE (R283): what the outside drives on a pad changes. An isolated pad shows nothing. -/
def Device.padInput (d : Device) (t i : Nat) (l : PinLevel) : Device :=
  if d.cfg.tiles ≤ t then d
  else
    let d1 := { d with pad := { d.pad with ext := d.pad.ext.put (fun _ => .released) (32 * t + i) l } }
    if d1.isolated then d1 else d1.padFollow t i

/-- PSENSE_FALL (R429): SN_PSENSE, on PAD1_11, falls. -/
def Device.psenseFall (d : Device) : Device := d.padInput 1 11 .low

end Sys2Proof.Machine
end

