-- ==== Sys2Proof/Machine/Carousel.lean ====
section
/-! DEFINITION. The Carousel's commands (chapter 2): parking, reclass, timing breaches, twin pairs; and the resets of a core
and of a berth (R518). -/

namespace Sys2Proof.Machine

/-! ### Parking -/

/-- The twin pair of a core, as 2 × tile + pair. -/
def pairOf (c : Nat) : Nat := 2 * (c / 4) + c % 4 / 2

/-- EN, ACT and MIS of a pair (Table 2.13). -/
def Device.twinEn (d : Device) (p : Nat) : Bool := d.flag (Reg.CAR_TWIN (p / 2)) (p % 2)
def Device.twinAct (d : Device) (p : Nat) : Bool := d.flag (Reg.CAR_TWIN (p / 2)) (8 + p % 2)
def Device.twinMis (d : Device) (p : Nat) : Bool := d.flag (Reg.CAR_TWIN (p / 2)) (16 + p % 2)

/-- The lower core of a pair. -/
def lowCore (p : Nat) : Nat := 4 * (p / 2) + 2 * (p % 2)

/-- PARK_REQUEST (R31, R34): it also takes back an unpark that waits for a twin copy (R55). -/
def Device.parkRequest (d : Device) (b : Nat) : Device :=
  if d.present b then
    { d with car := { d.car with unparks := d.car.unparks.filter (· != b) } }.parkBerth b
  else d.countAbsent b

/-- UNPARK_REQUEST (R31, R34). The berths of a pair stay parked while its MIS bit is 1 (R57), and an unpark waits for a twin
copy in progress (R55). A berth that runs again ends DOZE (R25). -/
def Device.unparkRequest (d : Device) (b : Nat) : Device :=
  let p := pairOf (coreOf b)
  if d.present b = false then d.countAbsent b
  else
    let d1 := d.setParkAsk b false
    if d.car.copying.contains p then
      { d1 with car := { d1.car with unparks := d1.car.unparks.filter (· != b) ++ [b] } }
    else if d1.twinAct p ∧ d1.twinMis p then d1
    else (d1.setParked b false).dozeExit b

/-- Berth 0 is unparked by the device: at START and at a wake (R57 holds as for any unpark). -/
def Device.unpark0 (d : Device) : Device := d.unparkRequest 0

/-- A write of CAR_PARKREQ of core c: every bit that changes parks or unparks its berth. -/
def Device.parkReqWrite (d : Device) (c v : Nat) : Device :=
  (List.range 16).foldl (fun e i =>
    let b := 16 * c + i
    let was := d.flag (Reg.CAR_PARKREQ c) i
    if bitOf v i = was then e else if was then e.unparkRequest b else e.parkRequest b) d

/-- BERTH_PARKED (R31). -/
def Device.berthParked (d : Device) (b : Nat) : Device := if d.present b then d.settlePark b else d

/-! ### Classes -/

/-- A share of a berth: FETCH at bit 8, LDQ at 14, STB at 20 (Table 2.10). -/
def Device.share (d : Device) (b lo : Nat) : Nat := d.fld (Reg.CAR_BCFG (coreOf b) (b % 16)) lo 6

/-- Timed shares of a core and 4 entries for each FREE berth, with berth b taken to hold `mine` (none where FREE)
(Table 2.2). -/
def Device.shareSum (d : Device) (b lo : Nat) (mine : Option Nat) : Nat :=
  (List.range 16).foldl (fun n i =>
    let x := 16 * coreOf b + i
    n + if x = b then mine.getD 4 else if d.timed x then d.share x lo else 4) 0

/-- The outcome of a reclass (Table 2.2), checked in order. -/
def Device.reclassCode (d : Device) (b : Nat) (timed : Bool) (slot f l s : Nat) : Nat :=
  let taken := (List.range 16).any fun i =>
    let x := 16 * coreOf b + i
    x != b && d.timed x && d.fld (Reg.CAR_BCFG (coreOf b) i) 1 3 == slot
  let mine (n : Nat) : Option Nat := if timed then some n else none
  if d.present b = false then 1
  else if d.parked b = false then 2
  else if timed && taken then 3
  else if timed && (decide (f < 4) || l == 0 || s == 0 || decide (16 < f) || decide (16 < l) || decide (16 < s)) then 4
  else if 128 < d.shareSum b 8 (mine f) ∨ 64 < d.shareSum b 14 (mine l) ∨ 64 < d.shareSum b 20 (mine s) then 5
  else 0

/-- RECLASS: a write of CAR_RECLASS of core c (R33, Table 2.7). -/
def Device.reclass (d : Device) (c v : Nat) : Device :=
  let b := 16 * c + bitsOf v 0 4
  let timed := bitOf v 4
  let code := d.reclassCode b timed (bitsOf v 5 3) (bitsOf v 8 6) (bitsOf v 14 6) (bitsOf v 20 6)
  let d1 := if code = 1 then d.countAbsent b else d
  let d2 := d1.wr (Reg.CAR_RECLASS_ST c) (code + 16 * bitsOf v 0 4)
  let off := Reg.CAR_BCFG c (b % 16)
  if code ≠ 0 then d2
  else
    let keep := d2.rd off &&& 0xF0
    if timed then d2.wr off (keep + 1 + 2 * bitsOf v 5 3 + bitsOf v 8 18 * 2 ^ 8) else d2.wr off keep

/-- CAR_SLOTMAP (Table 2.6). -/
def Device.slotMap (d : Device) (c : Nat) : Nat :=
  (List.range 16).foldl (fun m i =>
    if d.timed (16 * c + i) then m + (16 + i) * 2 ^ (8 * d.fld (Reg.CAR_BCFG c i) 1 3) else m) 0

/-- CAR_STAT (Table 2.5). -/
def Device.carStat (d : Device) (c : Nat) : Nat :=
  let timed := ((List.range 16).filter fun i => d.timed (16 * c + i)).length
  timed + 16 * d.fld (Reg.THM_TILE (c / 4)) 12 3 + 128 * bit01 (d.twinAct (pairOf c)) + 256 * bit01 (d.twinHigh c) +
    2 ^ 16 * d.fld (Reg.CAR_STAT c) 16 16

/-- CAR_BSTATb (Table 2.11). DESIGN CHOICE (notes/assumptions/58.md): EPRIO of a TIMED berth, which has no Midway priority
(R43), shows its PRIO. -/
def Device.bstat (d : Device) (b : Nat) : Nat :=
  d.bstate b + 16 * d.eprio b + 128 * bit01 (decide (d.prio b < d.eprio b))

/-- TIMING_BREACH (R50): counted, with its cause; the timed berth stalls while operations of it are in flight. -/
def Device.breach (d : Device) (b cause : Nat) : Device :=
  if d.timed b = false then d
  else
    let off := Reg.CAR_BREACH (coreOf b) (b % 16)
    let d1 := (d.bump off 0 24).setFld off 24 4 cause
    let d2 := if d1.flag (Reg.CAR_BCFG (coreOf b) (b % 16)) 7 then
        d1.raise (0x08 + tileOf b) (b + 2 ^ 9 * cause) else d1
    let x := d2.berth b
    if x.wait = .none then d2.setBerth b { x with wait := .breach }.unstall else d2

/-- BREACH_CLEAR: a write of CAR_BRCLR (Table 2.9). -/
def Device.breachClear (d : Device) (c v : Nat) : Device :=
  (setPositions 16 v).foldl (fun e i => e.wr (Reg.CAR_BREACH c i) 0) d

/-! ### Twin pairs -/

/-- Every present berth of both cores of a pair is parked (R55). -/
def Device.pairParked (d : Device) (p : Nat) : Bool :=
  (List.range' (16 * lowCore p) 32).all fun b => d.parked b || !d.present b

/-- TWIN_ACTIVATE (R55): the copy begins. -/
def Device.twinActivate (d : Device) (p : Nat) : Device :=
  if d.twinEn p ∧ d.twinAct p = false ∧ d.car.copying.contains p = false ∧ p / 2 < d.cfg.tiles ∧ d.pairParked p then
    { d with car := { d.car with copying := d.car.copying ++ [p] } }
  else d

/-- The higher core takes the complete state of every berth of the lower core. -/
def Device.twinCopy (d : Device) (p : Nat) : Device :=
  let c := lowCore p
  (List.range 16).foldl (fun e i =>
    let e1 := e.setBerth (16 * (c + 1) + i) (e.berth (16 * c + i))
    let e2 := (e1.wr (Reg.CAR_BCFG (c + 1) i) (e1.rd (Reg.CAR_BCFG c i))).wr (Reg.CAR_BREACH (c + 1) i)
      (e1.rd (Reg.CAR_BREACH c i))
    let e3 := e2.wr64 (Reg.CAR_TCMP (c + 1) i) (e2.rd64 (Reg.CAR_TCMP c i))
    (e3.wr (Reg.BOL_TMO (16 * (c + 1) + i)) (e3.rd (Reg.BOL_TMO (16 * c + i)))).wr (Reg.SCN_BIND (16 * (c + 1) + i))
      (e3.rd (Reg.SCN_BIND (16 * c + i)))) d

/-- TWIN_COPY_DONE (R55): ACT is set, the higher core's berths are absent, their bollards abandoned (R202), and the unparks that
waited take effect. -/
def Device.twinCopyDone (d : Device) (p : Nat) : Device :=
  if d.car.copying.contains p = false then d
  else
    let high : Holder → Bool := fun h => match h with
      | .berth b => coreOf b == lowCore p + 1
      | _ => false
    let d1 := ((d.abandon high).twinCopy p).setFlag (Reg.CAR_TWIN (p / 2)) (8 + p % 2) true
    let mine := d1.car.unparks.filter fun b => pairOf (coreOf b) == p
    let d2 := { d1 with car := { d1.car with
      copying := d1.car.copying.filter (· != p), unparks := d1.car.unparks.filter fun b => pairOf (coreOf b) != p } }
    mine.foldl (fun e b => if e.present b && !e.parkAsked b then e.unparkRequest b else e) d2

/-- The higher core's berths return, parked, with the state they held as the twin copy (R55). -/
def Device.twinEnd (d : Device) (p : Nat) : Device :=
  let d1 := (d.twinCopy p).setFlag (Reg.CAR_TWIN (p / 2)) (8 + p % 2) false
  let d2 := (d1.wr (Reg.CAR_PARKREQ (lowCore p + 1)) 0xFFFF).wr (Reg.CAR_PARKED (lowCore p + 1)) 0xFFFF
  { d2 with car := { d2.car with differ := d2.car.differ.filter (· != p) } }

/-- TWIN_DEACTIVATE (R55). -/
def Device.twinDeactivate (d : Device) (p : Nat) : Device :=
  if d.twinEn p = false ∧ d.twinAct p ∧ d.pairParked p then d.twinEnd p else d

/-- TWIN_MISMATCH (R57): the request that mismatches, which is the next that the pair would send out, and every later one is
discarded, and the pair parks at once. Requests sent before it were equal and complete. Stack words that still wait to be sent are
later ones. -/
def Device.twinMismatch (d : Device) (p : Nat) : Device :=
  let c := lowCore p
  let d1 := (List.range' (16 * c) 16).foldl (fun e b =>
    let x := (e.berth b).leaveWait
    e.setBerth b { x with writes := [], reads := x.reads.filter fun r => r.sent }) d
  ((d1.wr (Reg.CAR_PARKED c) 0xFFFF).setFlag (Reg.CAR_TWIN (p / 2)) (16 + p % 2) true).raise (0x10 + p / 2) (p % 2)

/-- The berth's pair is active and its two copies differ. -/
def Device.twinDiffers (d : Device) (b : Nat) : Bool :=
  d.twinLow (coreOf b) && d.car.differ.contains (pairOf (coreOf b))

/-! ### Resets of a core and of a berth -/

/-- What a core reset and a berth reset do to a berth (R103, R518). -/
def Device.berthGone (d : Device) (b : Nat) : Device :=
  let d1 := (((d.dropNeed b).setBerth b Berth.reset).setParked b true).abandon (· == .berth b)
  ((d1.discardManifests b).leaveCycles (· == b)).gateDrop b

/-- The pair of a core that is reset ends (R518). -/
def Device.pairReset (d : Device) (p : Nat) : Device :=
  let t := Reg.CAR_TWIN (p / 2)
  let d1 := ((d.setFlag t (p % 2) false).setFlag t (8 + p % 2) false).setFlag t (16 + p % 2) false
  { d1 with car := { d1.car with
    copying := d1.car.copying.filter (· != p), differ := d1.car.differ.filter (· != p)
    unparks := d1.car.unparks.filter fun b => pairOf (coreOf b) != p } }

/-- One core's reset: its CAR_ fields of Tables 2.5 to 2.12, and its berths, parked. -/
def Device.coreResetOne (d : Device) (c : Nat) : Device :=
  if d.cfg.cores ≤ c then d
  else
    let d1 := d.clearRegs fun off => decide (0x100000 + 0x1000 * c ≤ off) && decide (off < 0x101000 + 0x1000 * c)
    (List.range' (16 * c) 16).foldl (fun e b => e.berthGone b) d1

/-- CORE_RESET of the cores of a mask (R518): one that names either core of an active pair resets both and ends it. Their berths
leave every cycle at once (R336). -/
def Device.coreReset (d : Device) (mask : Nat) : Device :=
  let named (c : Nat) : Bool := bitOf mask c || (d.twinAct (pairOf c) && bitOf mask (lowCore (pairOf c) + 1 - c % 2))
  (setPositions 32 mask).foldl (fun e c =>
    let p := pairOf c
    if e.twinAct p then ((e.pairReset p).coreResetOne (lowCore p)).coreResetOne (lowCore p + 1)
    else e.coreResetOne c) (d.leaveCycles fun b => named (coreOf b))

/-- BERTH_RESET (R518, Table 17.4). -/
def Device.berthReset (d : Device) (b : Nat) : Device :=
  if d.present b = false then d.countAbsent b
  else
    let c := coreOf b
    let i := b % 16
    let own := [Reg.CAR_BCFG c i, Reg.CAR_BSTAT c i, Reg.CAR_BREACH c i, Reg.CAR_TCMP c i, Reg.CAR_TCMP c i + 4,
      Reg.BOL_TMO b, Reg.SCN_BIND b]
    (d.clearRegs fun off => own.contains off).berthGone b

end Sys2Proof.Machine
end

