-- ==== Sys2Proof/Machine/Resets.lean ====
section
/-! DEFINITION. The device resets and the release of reset (R516 to R519, R531, Table 17.4), the debug-domain reset, and the
boot ROM's steps that the device takes from the release on (R468). -/

namespace Sys2Proof.Machine

/-! ### The reset count (R454) -/

/-- LHS_RSTCNT: the count of the newest valid slot, 0 where neither is valid. -/
def Device.resetCount (d : Device) : Nat :=
  match d.newestRecord 0x0 0x40 64 1 with
  | some (_, r) => leValue (r.payload.take 4)
  | none => 0

/-- Writes the Lighthouse count record: the count in [31:0], zero above. -/
def Device.writeCount (d : Device) (n : Nat) : Device := d.writeRecord 0x0 0x40 64 1 (leBytes 4 n ++ leBytes 4 0)

/-! ### Device resets -/

/-- Bit of PWR_RSTCAUSE (Table 17.6). -/
def ResetCause.bit : ResetCause → Nat
  | .por => 0
  | .resetN => 1
  | .lighthouse => 2
  | .ringmaster => 3
  | .software => 4

/-- EPOCH and AGE of the newest pairing record, which the next one goes on from (Table 13.6). -/
def Device.pairingKept (d : Device) : Nat × Nat :=
  match d.newestRecord 0x100 0x180 128 3 with
  | some (_, r) => (fieldAt r.payload 16 4, fieldAt r.payload 24 4)
  | none => (0, 0)

/-- The bytes of a tile SRAM. -/
def inSram (t a : Nat) : Bool := decide (sramBase t ≤ a) && decide (a < sramBase t + 0x200000)

/-- Memory whose addresses satisfy a predicate is written to zero with valid check bits. -/
def MemSys.wipe (m : MemSys) (p : Nat → Bool) : MemSys :=
  { m with
    bytes := m.bytes.filter fun e => !p e.1
    ecc := m.ecc.filter fun e => !p (8 * e.1)
    dirty := m.dirty.filter fun e => !p (64 * e.1) }

/-- Tile SRAM or Image Store, which a power-on reset clears (Table 17.4). -/
def volatileMem (a : Nat) : Bool := decide (0x100000000 ≤ a) && decide (a < bitBase)

/-- The memory after a device reset: kept with its check bits, but a power-on reset clears tile SRAM and Image Store
(R517, Table 17.4). The scrubbers start again. -/
def MemSys.afterReset (m : MemSys) (por : Bool) : MemSys :=
  { (if por then m.wipe volatileMem else m) with scrubAt := [], scrubbed := [] }

/-- The debug logic after a device reset: its own domain is kept; the halts end with the cores' state (Table 16.11), and a response on
the wire is cut, since RESET_N's pull-down is off in RESET (R508). -/
def DbgSys.afterReset (g : DbgSys) : DbgSys :=
  { g with
    sending := [], mute := false, resume := [], remote := [], steps := [], extra := [], fed := none, fedHeld := none, fedWait := .none, freeze := 0
    xout := false, executing := none
    lastReq := if g.executing.isSome then [] else g.lastReq }

/-- The supplies and sensors across a device reset: what is a physical condition stays (R506, R525). -/
def PwrSys.afterReset (p : PwrSys) (por : Bool) : PwrSys :=
  { p with
    por := por, divs := [], relock := none, noLock := false, lost := p.lost && !por, peakSet := false, tripAt := none, wake := none
    cool := if p.temps.any fun e => decide (500 ≤ e.2) then some 0 else none }

/-- The starting level of a lifecycle input (Table 16.6). -/
def lcLevel (lc : Nat) : Nat := if lc = 2 then 1 else if lc = 3 then 2 else 0

/-- The registers after a device reset (R19, R516): SYS fields, and after power-on every field, take their reset values;
PWR_RSTCAUSE names the source; CLK_STAT.LOCK and REFOK show the live inputs, and DBG_AUTH.LEVEL starts at the level of
qs_dbg_lc. -/
def Device.regsAfter (d : Device) (cause : ResetCause) : Device :=
  let por := decide (cause = ResetCause.por)
  let live := d.rd Reg.CLK_STAT &&& 0x28
  let dbgr := d.fld Reg.PWR_RSTCAUSE 5 1
  let lc := d.fld Reg.DBG_AUTH 2 2
  let d1 := { d with regs := if por then [] else resetRegs d.cfg regSysMask d.regs }
  let d2 := d1.wr Reg.PWR_RSTCAUSE (2 ^ cause.bit + if por then 0 else 32 * dbgr)
  if por then d2.setFld Reg.DBG_AUTH 0 4 (lcLevel lc + 4 * lc) else d2.wr Reg.CLK_STAT (d2.rd Reg.CLK_STAT ||| live)

/-- A device reset takes effect (R516, R517): the device is in RESET. -/
def Device.deviceReset (d : Device) (cause : ResetCause) : Device :=
  let por := decide (cause = ResetCause.por)
  let d0 := if por then d else d.traceMode .reset
  let r := d0.regsAfter cause
  let c := Device.cold d.cfg
  { c with
    mode := .reset
    regs := r.regs
    mem := d0.mem.afterReset por
    pad := { c.pad with ext := d.pad.ext, cmpIn := d.pad.cmpIn, deep := if por then [] else d.pad.deep }
    sn := { c.sn with takeovers := d.pairingKept.1, age := d.pairingKept.2 }
    qsp := { c.qsp with held := d.qsp.held, boot := false }
    dbg := if por then c.dbg else d0.dbg.afterReset
    pwr := d.pwr.afterReset por
    draws := d.draws }

/-- DEBUG_RESET (R516, Table 17.4): the DBG fields, the Gangway's bollards abandoned, the
maintenance gate released where it holds it (R366), the Ndouc link restarted; the trace buffer's contents are kept.
Where LEVEL falls below FULL with it, halted cores resume (R483). -/
def Device.debugReset (d : Device) : Device :=
  let lc := d.fld Reg.DBG_AUTH 2 2
  let d0 := (d.abandon (· == Holder.gangway)).gateDrop 1022
  let d1 := { d0 with regs := resetRegs d.cfg regDbgMask d0.regs }
  let c := (Device.cold d.cfg).dbg
  let d2 := { d1 with
    dbg := { d1.dbg with
      vtx := [], vrx := [], chal := none, lastReq := [], lastRsp := [], sending := [], mute := false, executing := none, uart := []
      trace := c.trace } }
  let d3 := (d2.setFld Reg.DBG_AUTH 0 4 (lcLevel lc + 4 * lc)).setFlag Reg.PWR_RSTCAUSE 5 true
  if d.fld Reg.DBG_AUTH 0 2 = 2 ∧ lcLevel lc < 2 ∧ d3.rd Reg.DBG_HALTED ≠ 0 then d3.resumeRequest (d3.rd Reg.DBG_HALTED) else d3

/-! ### The boot ROM (R468) -/

/-- The boot information block (Table 15.7). -/
def bootInfo : Nat := sramBase 0 + 0x1FFF00

/-- CODE of the boot information block. -/
def Device.bootCode (d : Device) (code : Nat) : Device := d.writeSpan 0 1 (bootInfo + 0x14) (leBytes 4 code)

/-- A load of a program image ends or begins with a code in QSP_BSTAT or QSP_CMDST (R470, R472). -/
def Device.setBstat (d : Device) (code : Nat) : Device := d.setFld Reg.QSP_BSTAT 0 4 code

/-- The boot ROM's first steps (R468): the boot information block with CODE 15, then the boot load, or NOIMAGE. They are
taken by the first step of the block on an empty queue after the release, within the 100 µs of the rule. -/
def Device.bootRom (d : Device) : Device :=
  if d.qsp.boot = false then d
  else
    let block := leBytes 8 0 ++ leBytes 8 0 ++ leBytes 4 0 ++ leBytes 4 15 ++ leBytes 4 d.resetCount ++ List.replicate 36 0
    let d1 := { d.writeSpan 0 1 bootInfo block with
      qsp := { (d.writeSpan 0 1 bootInfo block).qsp with boot := false } }
    if d1.cfg.bootEn then
      { d1 with qsp := { d1.qsp with load := some (false, d1.cfg.bootAddr.toNat) } }.setBstat 15
    else ((d1.setBstat 3).bootCode 3).hostSource 3

/-! ### Release -/

/-- The conditions of R531 that the state shows: in RESET, the sensors cool, and after a power-on reset no loss of lock or reference
since the latest lock. The others (2 µs, the 64 µs of lock, the memory clear, RESET_N high) are the command's occasion: it comes once
they hold. -/
def Device.releasable (d : Device) : Bool :=
  d.mode == Mode.reset && !(d.pwr.por && d.pwr.lost) && (match d.pwr.cool with
    | some n => decide (100 ≤ n)
    | none => true)

/-- The debug transport that the reset sampled (R474): DBGSEL, or the fuse where it is valid. -/
def uartSampled (c : Straps) : Bool := if bitOf c.fuse.toNat 1 then bitOf c.fuse.toNat 0 else c.dbgsel

/-- Level sources whose condition the reset left standing raise their event when Ringmaster starts (R26, R435): VDD outside its
range, and a clock-stop trip that CLK_MON still shows. -/
def Device.standingConditions (d : Device) : Device :=
  let stop := d.fld Reg.CLK_MON 0 2
  d.raiseLevels [(0x3B, d.pwr.vmon, d.pwr.vmon != 0), (0x3C, if bitOf stop 0 then 1 else 2, stop != 0)]

/-- RESET_RELEASE (R531, Table 17.5): SERVICE, or FACTORY with every berth parked where qs_factory is 1 and qs_dbg_lc is 3. -/
def Device.release (d : Device) : Device :=
  if d.releasable = false then d
  else
    let d1 := if d.pwr.por then d.wr Reg.CLK_STAT (d.rd Reg.CLK_STAT ||| 0x28) else d
    let d2 : Device := { d1.setFlag Reg.DBG_STAT 0 (uartSampled d1.cfg) with pwr := { d1.pwr with por := false, cool := none, rstLow := false } }
    if d2.cfg.factory ∧ d2.fld Reg.DBG_AUTH 2 2 = 3 then
      let d3 := (d2.setParkAsk 0 true).setParked 0 true
      (d3.setMode .factory).standingConditions
    else ({ d2.setMode .service with qsp := { (d2.setMode .service).qsp with boot := true } }).standingConditions

end Sys2Proof.Machine
end

