-- ==== Sys2Proof/Machine/Debug.lean ====
section
/-! DEFINITION. Authorisation (R481 to R483), the virtual terminal (R497), and the trace unit's own registers (R498, R505). -/

namespace Sys2Proof.Machine

/-! ### Authorisation -/

/-- DBG_AUTH.LEVEL. -/
def Device.authLevel (d : Device) : Nat := d.fld Reg.DBG_AUTH 0 2

/-- LEVEL takes a value; below FULL, every halted core resumes under R491 (R483). -/
def Device.setLevelAuth (d : Device) (l : Nat) : Device :=
  let d1 := d.setFld Reg.DBG_AUTH 0 2 l
  if d.authLevel = 2 ∧ l < 2 ∧ d1.rd Reg.DBG_HALTED ≠ 0 then d1.resumeRequest (d1.rd Reg.DBG_HALTED) else d1

/-- LIFECYCLE_CHANGE (R481, Table 16.6). -/
def Device.lifecycleChange (d : Device) (lc : Nat) : Device :=
  if d.fld Reg.DBG_AUTH 2 2 = lc % 4 then d
  else (d.setFld Reg.DBG_AUTH 2 2 lc).setLevelAuth (lcLevel (lc % 4))

/-- A fresh challenge replaces the one that stands (R482). FREE VALUE. -/
def Device.newChallenge (d : Device) : Nat × Device :=
  let c := (Config.challenge d.dbg.drawn).toNat
  (c, { d.wr64 Reg.DBG_CHAL c with dbg := { (d.wr64 Reg.DBG_CHAL c).dbg with chal := some c, drawn := d.dbg.drawn + 1 } })

/-- The response that an unlock to a level must carry (R482), as the little-endian value of its 8 bytes. -/
def unlockResponse (key devid challenge level : Nat) : Nat :=
  let k := (List.range 16).map fun i => BitVec.ofNat 8 (key / 2 ^ (8 * (15 - i)))
  let mac := cmac k (leBytes 8 challenge ++ leBytes 8 devid ++ leBytes 1 level ++ List.replicate 7 0)
  leValue ((mac.take 8).map fun x => BitVec.ofNat 8 x)

/-- Levels that Table 16.6 permits. -/
def unlockPermits (lc level : Nat) : Bool := (lc == 1 && (level == 1 || level == 2)) || (lc == 2 && level == 2)

/-- UNLOCK (R482): its Ndouc status. -/
def Device.unlock (d : Device) (level response : Nat) : Nat × Device :=
  if d.flag Reg.DBG_AUTH 6 then (7, d)
  else
    let ok := match d.dbg.chal with
      | some c => unlockPermits (d.fld Reg.DBG_AUTH 2 2) level &&
          response == unlockResponse d.cfg.dbgKey.toNat d.cfg.devid.toNat c level
      | none => false
    let d1 := { d with dbg := { d.dbg with chal := none } }
    if ok then (0, (d1.setFld Reg.DBG_AUTH 4 2 0).setLevelAuth level)
    else
      let n := d1.fld Reg.DBG_AUTH 4 2 + 1
      (8, (d1.setFld Reg.DBG_AUTH 4 2 (min n 3)).setFlag Reg.DBG_AUTH 6 (decide (3 ≤ n)))

/-- UNLOCK_REQUEST: a write of DBG_UNLKREQ, with the response in DBG_UNLK. -/
def Device.unlockRequest (d : Device) (v : Nat) : Device := (d.unlock (v % 4) (d.rd64 Reg.DBG_UNLK)).2

/-- The Ndouc link runs: not before the release of a reset, and in a sleep only where the debug logic keeps its clocks
(R502, R503). -/
def Device.linkRuns (d : Device) : Bool :=
  !d.isolated && ((d.mode != Mode.doze && d.mode != Mode.deepSleep) || d.dbgDomain || d.flag Reg.DBG_STAT 1)

/-! ### Virtual terminal -/

/-- VTX_WRITE. -/
def Device.vtxWrite (d : Device) (v : Nat) : Device :=
  if 64 ≤ d.dbg.vtx.length then d.setFlag Reg.DBG_VTSTAT 16 true
  else { d with dbg := { d.dbg with vtx := d.dbg.vtx ++ [BitVec.ofNat 8 v] } }

/-- VRX_READ: the oldest byte with VALID, or 0. -/
def Device.vrxRead (d : Device) : Nat × Device :=
  match d.dbg.vrx with
  | b :: r => (b.toNat + 256, { d with dbg := { d.dbg with vrx := r } })
  | [] => (0, d)

/-- The VT command appends a byte to DBG_VRX; a transition from empty sets line 28 of DBG_VTNB.BERTH. -/
def Device.vrxPush (d : Device) (b : Byte) : Device :=
  if 64 ≤ d.dbg.vrx.length then d.setFlag Reg.DBG_VTSTAT 17 true
  else
    let d1 := { d with dbg := { d.dbg with vrx := d.dbg.vrx ++ [b] } }
    if d.dbg.vrx.isEmpty then d1.setLine (d1.fld Reg.DBG_VTNB 0 9) 28 else d1

/-! ### Trace -/

/-- TRACE_SOFT: a write of DBG_TSW (Table 16.9). -/
def Device.traceSoft (d : Device) (who v : Nat) : Device :=
  if d.flag Reg.DBG_TCTL 6 then d.record 0x0D 0 who (leBytes 4 v ++ leBytes 4 0) else d

/-- The buffer is emptied and DBG_TWP is 0. -/
def Device.traceEmpty (d : Device) : Device :=
  (d.wr Reg.DBG_TWP 0).setTrace { d.dbg.trace with units := 0, atEnd := false }

/-- A write of DBG_TCTL: CLR empties the buffer; a SYNC follows that, and a change of EN to 1 (R498). -/
def Device.tctlWrite (d : Device) (v : Nat) : Device :=
  let was := d.flag Reg.DBG_TCTL 0
  let d1 := d.wr Reg.DBG_TCTL (v % 2 ^ 7)
  let d2 := if bitOf v 7 then d1.traceEmpty else d1
  if bitOf v 0 ∧ (bitOf v 7 ∨ was = false) then d2.traceSync else d2

end Sys2Proof.Machine
end

