-- ==== Sys2Proof/Machine/Ringmaster.lean ====
section
/-! DEFINITION. Ringmaster's commands (R440 to R447) and the Lighthouses with the clock-stop monitors (R448 to R454). -/

namespace Sys2Proof.Machine

/-! ### Writers -/

/-- A write of a writer arrives at the device's registers at all: a present berth above USER, the target port where
QSP_TACL.NSCW lets it (R459), the Gangway at FULL (R484). -/
def Device.reaches (d : Device) (w : Writer) : Bool := d.mayWrite w

/-- The writers of R440: a berth at SUPERVISOR or MONITOR, the target port with the secure attribute, the Gangway at FULL. -/
def Device.trusted (d : Device) (w : Writer) : Bool :=
  match w with
  | .berth b => d.present b && decide (1 ≤ (d.berth b).pl)
  | .host s => s
  | .hostUser => false
  | .gangway => d.authFull

/-! ### Sources -/

/-- A refused clear or raise (R440, R447). -/
def Device.clrDeny (d : Device) : Device := d.bump Reg.RMS_STAT 8 8

/-- SOURCE_CLEAR (R440). -/
def Device.sourceClear (d : Device) (w : Writer) (n : Nat) : Device :=
  if d.reaches w = false then d
  else if d.trusted w = false ∨ d.rmsClass n = 4 ∨ d.flag (Reg.RMS_STATN n) 3 then d.clrDeny
  else if rmsExists n = false then d
  else (d.wr (Reg.RMS_STATN n) (setBits (setBits (d.rd (Reg.RMS_STATN n)) 0 3 0) 8 8 0)).followFault

/-- FAULT_INJECT (R446). -/
def Device.faultInject (d : Device) (w : Writer) (v : Nat) : Device :=
  if d.reaches w = false then d
  else if d.mode ≠ .factory then d.bump Reg.RMS_STAT 16 8
  else if d.rmsHere (bitsOf v 0 8) then d.classify (bitsOf v 0 8) (bitsOf v 8 24) true
  else d

/-- SOFTWARE_RAISE (R447). -/
def Device.softwareRaise (d : Device) (w : Writer) (v : Nat) : Device :=
  if d.reaches w = false then d
  else if d.trusted w = false then d.clrDeny
  else d.raise (0xF0 + bitsOf v 0 4) (bitsOf v 8 24)

/-! ### The fault log -/

/-- The payload of an entry (Table 14.3). -/
def entryPayload (src cls react flags count mode detail time lost : Nat) : List Byte :=
  leBytes 1 src ++ leBytes 1 cls ++ leBytes 1 react ++ leBytes 1 (flags + 2 * bit01 (decide (0 < lost))) ++ leBytes 2 count ++
    leBytes 1 mode ++ leBytes 1 0 ++ leBytes 4 detail ++ leBytes 4 lost ++ leBytes 8 time

/-- Writes an entry at RMS_LOG.NEXT, which advances (R444). -/
def Device.writeEntry (d : Device) (payload : List Byte) : Device :=
  let i := d.fld Reg.RMS_LOG 0 10 % 960
  let d1 := d.pokeFresh (retainedBase + 0x1000 + 64 * i) (recordBytes 2 d.rms.nextSeq d.rms.began payload)
  { d1 with rms := { d1.rms with nextSeq := (d1.rms.nextSeq + 1) % 2 ^ 32 } }.setFld Reg.RMS_LOG 0 10 ((i + 1) % 960)

/-- Writes the Lighthouse count plus one, stamped with the start of the write (R454). -/
def Device.writeCountUp (d : Device) : Device :=
  let e := { d with tb := { d.tb with now := BitVec.ofNat 64 d.rms.began } }.writeCount (satInc d.resetCount 0xFFFFFFFF)
  { d with mem := e.mem }

/-- An item on which a reset still waits: an entry that carries RESET, or the count record (R441, R451). -/
def LogItem.holdsReset : LogItem → Bool
  | .entry _ _ react _ _ _ _ _ => react == 4
  | .count => true

/-- The reset that follows once its items are durable. -/
def Device.resetAfterLog (d : Device) : Device :=
  match d.rms.resetDue with
  | some c => if d.rms.queue.any LogItem.holdsReset then d else d.deviceReset c
  | none => d

/-- LOG_ENTRY_DURABLE (R445): the head of the queue is durable, the next one begins, and a reset that waited follows. -/
def Device.logDurable (d : Device) : Device :=
  if d.logRuns = false then d
  else
    let d1 := match d.rms.queue with
      | .entry s c r f n m x t :: q =>
        { (d.writeEntry (entryPayload s c r f n m x t d.rms.gap)) with
          rms := { (d.writeEntry (entryPayload s c r f n m x t d.rms.gap)).rms with queue := q, writing := false } }
      | .count :: q => { d.writeCountUp with rms := { d.writeCountUp.rms with queue := q, writing := false } }
      | [] => d
    d1.logBegin.resetAfterLog

/-- The newest valid entry of the ring with its index, under the order of R168 (R444). -/
def Device.newestEntry (d : Device) : Option (Nat × Nat) :=
  (List.range 960).foldl (fun best i =>
    match d.readRecord (0x1000 + 64 * i) 64 2 with
    | none => best
    | some r => match best with
      | none => some (i, r.seq)
      | some (_, s) => if seqNewer r.seq s then some (i, r.seq) else best) none

/-- The device reads the fault log and both slots of its system records (R444, R454, Tables 5.11 and 5.14). -/
def Device.searchReads (d : Device) : Device :=
  let d1 := (List.range 960).foldl (fun e i => e.checkRecord 8 (0x1000 + 64 * i) 64) d
  [(0x0, 64), (0x40, 64), (0x100, 128), (0x180, 128)].foldl (fun e r => e.checkRecord 8 r.1 r.2) d1

/-- LOG_SEARCH_DONE (R444). DEDUCED (notes/assumptions/59.md): the device reads its system records once after a reset, with this
search, and from then on knows them. -/
def Device.logSearch (d0 : Device) : Device :=
  if d0.rms.ready ∨ d0.isolated then d0
  else
    let d := d0.searchReads
    let (i, s) := match d.newestEntry with
      | some (i, s) => ((i + 1) % 960, (s + 1) % 2 ^ 32)
      | none => (0, 1)
    ({ d with rms := { d.rms with ready := true, nextSeq := s } }.setFld Reg.RMS_LOG 0 10 i).logBegin

/-! ### Lighthouses -/

/-- TMO within its bounds (R448). -/
def Device.lhsLimit (d : Device) (x : Nat) : Nat := min (max (d.fld (Reg.LHS_TMO x) 0 26) 10) 60000000

def Device.lhsOn (d : Device) (x : Nat) : Bool := d.flag (Reg.LHS_CFG x) 0
def Device.lhsCount (d : Device) (x : Nat) : Nat := d.lhs.counts.get (fun _ => 0) x
def Device.lhsTmo (d : Device) (x : Nat) : Nat := d.lhs.tmo.get (fun _ => 0) x

/-- A Lighthouse exists: the device's, or a configured tile's. -/
def Device.lhsExists (d : Device) (x : Nat) : Bool := x == 8 || decide (x < d.cfg.tiles)

/-- A count starts from 0, with the timeout then in force (R448). -/
def Device.lhsStart (d : Device) (x : Nat) : Device :=
  { d with lhs := { d.lhs with
    counts := d.lhs.counts.put (fun _ => 0) x 0
    started := d.lhs.started.put (fun _ => 0) x d.lpt.edges
    tmo := d.lhs.tmo.put (fun _ => 0) x (d.lhsLimit x) } }

/-- The Lighthouse registers are locked (R449). -/
def Device.lhsLocked (d : Device) : Bool := d.flag Reg.LHS_LOCK 0

/-- LIGHTHOUSE_CONFIG (R448): a write of LHS_CFGx. -/
def Device.lhsConfig (d : Device) (x v : Nat) : Device :=
  if d.lhsLocked ∨ d.lhsExists x = false then d
  else
    let was := d.lhsOn x
    let d1 := d.wr (Reg.LHS_CFG x) v
    if was = false ∧ bitOf v 0 then d1.lhsStart x else d1

/-- LHS_DENY with its detail (Table 14.1). -/
def Device.lhsDeny (d : Device) (x why lo w : Nat) : Device := (d.bump (Reg.LHS_CNT x) lo w).raise 0x3F (x + 16 * why)

/-- The count has reached the timeout: the expiry prevails over a serve (R450). -/
def Device.lhsExpired (d : Device) (x : Nat) : Bool := d.lhsOn x && decide (d.lhsTmo x ≤ d.lhsCount x)

/-- Less than LHS_WINx.MIN µs have passed since the latest serve, or since the count started (R450): one that has never been served or
started is not served early. -/
def Device.lhsEarly (d : Device) (x : Nat) : Bool :=
  (d.lhs.started.any fun e => e.1 == x) &&
    decide (d.lpt.edges < d.lhs.started.get (fun _ => 0) x + 250 * d.fld (Reg.LHS_WIN x) 0 26)

/-- The writer is a present berth at USER. -/
def Device.userBerth (d : Device) (w : Writer) : Bool :=
  match w with
  | .berth b => d.present b && (d.berth b).pl == 0
  | _ => false

/-- LIGHTHOUSE_SERVE (R450): a write of LHS_SERVEx. One of a USER berth is refused and counted as any other berth's. -/
def Device.lhsServe (d : Device) (w : Writer) (x v : Nat) : Device :=
  if (d.reaches w = false ∧ d.userBerth w = false) ∨ d.lhsExists x = false then d
  else
    let owner := match w with
      | .berth b => decide (1 ≤ (d.berth b).pl) && b == d.fld (Reg.LHS_OWNER x) 0 9
      | _ => false
    if owner = false then d.lhsDeny x 1 0 16
    else if bitsOf v 0 16 ≠ 0x6D3A then d.lhsDeny x 2 24 8
    else if d.lhsEarly x then d.lhsDeny x 3 16 8
    else if d.lhsExpired x then d
    else d.lhsStart x

/-- The count record goes into the queue right behind the LHS_DEV entry (R445, R451). -/
def queueCount : List LogItem → List LogItem
  | [] => [.count]
  | .entry 0x3E c r f n m x t :: q => .entry 0x3E c r f n m x t :: .count :: q
  | i :: q => if q.any fun j => (match j with
      | .entry 0x3E _ _ _ _ _ _ _ => true
      | _ => false) then i :: queueCount q else i :: .count :: q

/-- LIGHTHOUSE_EXPIRY (R451): LHS_DEV, SAFE, the count record and the reset that follows it, in every mode. -/
def Device.lhsExpiry (d : Device) : Device :=
  if d.lhsExpired 8 = false ∨ d.rms.resetDue = some .lighthouse then d
  else
    let d1 := (d.raise 0x3E 0).enterSafe
    let was := d1.rms.queue
    let d2 := { d1 with rms := { d1.rms with queue := queueCount was, resetDue := some .lighthouse } }
    if was.isEmpty then d2.logBegin else d2

/-- TILE_LIGHTHOUSE_EXPIRY (R452). -/
def Device.tileExpiry (d : Device) (t : Nat) : Device :=
  if t < d.cfg.tiles ∧ d.lhsExpired t then
    let act := d.flag (Reg.LHS_CFG t) 2
    let d1 := (d.setFlag (Reg.LHS_CFG t) 0 false).raise (0x40 + t) 0
    if act then d1.coreReset (15 * 2 ^ (4 * t)) else d1
  else d

/-- The BOSC-side monitor watches the PLL's lock detector, and the lock stands: CCLK and MCLK run from BOSC in a re-lock (R453). -/
def Device.lockWatched (d : Device) : Bool := d.pwr.relock.isSome && d.flag Reg.CLK_STAT 2 && d.flag Reg.CLK_STAT 3

/-- CLOCK_STOP_TRIP (R453): the BOSC-side monitor finds CCLK stopped, or the MCLK-side monitor BOSC. In RESET, where VDDA and VDD are
good, the trip stands and CLK_STOP is raised at the release. -/
def Device.clockStop (d : Device) (bosc : Bool) : Device :=
  if d.mode = .off ∨ d.mode = .ramp ∨ (bosc = false ∧ d.lockWatched) then d
  else
    let d1 := d.setFlag Reg.CLK_MON (bit01 bosc) true
    let d2 := (List.range 9).foldl (fun e x =>
      if e.lhsExists x ∧ e.flag (Reg.LHS_CFG x) 1 = bosc then e.setFlag (Reg.LHS_CFG x) 1 (!bosc) else e) d1
    if d2.isolated then d2 else d2.raiseLevel 0x3C (1 + bit01 bosc) true

/-- A write of CLK_MON clears the trips it names; CLK_STOP's condition ends with the last (R435, Table 14.7). -/
def Device.clkMonWrite (d : Device) (v : Nat) : Device :=
  let left := d.fld Reg.CLK_MON 0 2 &&& (3 - v % 4)
  (d.setFld Reg.CLK_MON 0 2 left).raiseLevel 0x3C 0 (left != 0)

/-- CLK_MON.ONBOSC (Table 14.7). -/
def Device.clkMon (d : Device) : Nat :=
  (List.range 9).foldl (fun m x => if d.lhsOn x && d.flag (Reg.LHS_CFG x) 1 then m + 2 ^ (2 + x) else m)
    (d.fld Reg.CLK_MON 0 2)

/-- RESET_COUNT_CLEAR (R454). -/
def Device.resetCountClear (d : Device) (v : Nat) : Device :=
  if d.mode = .factory ∧ bitsOf v 0 16 = 0x5C1E then d.writeCount 0 else d

/-- A Lighthouse counts in the present mode (R448, R449, Table 16.7). -/
def Device.lhsRuns (d : Device) (x : Nat) : Bool :=
  d.lhsOn x && d.lhsExists x && (x == 8 || d.tileOn x) && !d.isolated && d.mode != Mode.deepSleep &&
    !(d.mode == Mode.halt && bitOf d.dbg.freeze 4)

/-- A tick of one source: CCLK-derived, or BOSC. -/
def Device.lhsTick (d : Device) (bosc : Bool) : Device :=
  (List.range 9).foldl (fun e x =>
    if e.lhsRuns x ∧ e.flag (Reg.LHS_CFG x) 1 = bosc ∧ e.lhsCount x < e.lhsTmo x then
      { e with lhs := { e.lhs with counts := e.lhs.counts.put (fun _ => 0) x (e.lhsCount x + 1) } }
    else e) d

/-- One TCLK edge of the CCLK-derived tick: every 250 edges, in a phase that is free (R448). -/
def Device.cclkTick (d : Device) : Device :=
  let left := if d.lhs.ctick = 0 then 1 + (Config.freeValue d.draws).toNat % 250 else d.lhs.ctick
  let d0 := if d.lhs.ctick = 0 then d.draw else d
  if left = 1 then ({ d0 with lhs := { d0.lhs with ctick := 250 } }).lhsTick false
  else { d0 with lhs := { d0.lhs with ctick := left - 1 } }

/-- One TCLK edge of the BOSC tick: 1 µs ±5 % apart, free within it, as is its phase (R448). -/
def Device.boscTick (d : Device) : Device :=
  let left := if d.lhs.btick = 0 then 1 + (Config.freeValue d.draws).toNat % 262 else d.lhs.btick
  let d0 := if d.lhs.btick = 0 then d.draw else d
  if left = 1 then
    ({ d0.draw with lhs := { d0.lhs with btick := 238 + (Config.freeValue d0.draws).toNat % 25 } }).lhsTick true
  else { d0 with lhs := { d0.lhs with btick := left - 1 } }

end Sys2Proof.Machine
end

