-- ==== Sys2Proof/Machine/Power.lean ====
section
/-! DEFINITION. Supplies, clocks, reset sources and modes (chapter 17): the supplies and their banks, the CCLK divider, the
reference re-lock, DOZE and DEEP-SLEEP, recovery from SAFE, and the thermal governor. -/

namespace Sys2Proof.Machine

/-! ### Supplies (R506) -/

def Device.setBank (d : Device) (t : Nat) (b : Bank) : Device :=
  { d with pwr := { d.pwr with banks := d.pwr.banks.put bankDefault t b } }

/-- A bank has been classified and is good. -/
def Bank.good : Bank → Bool
  | .low18 | .high33 => true
  | _ => false

/-- SUPPLY_RISE: VDDA, VDD and every configured bank lie above their rising thresholds, so OFF changes to RAMP; a bank that
was down begins its classification. -/
def Device.supplyRise (d : Device) : Device :=
  if d.mode ≠ .off then d
  else
    let d1 := (List.range d.cfg.tiles).foldl (fun e t => if e.bank t = .down then e.setBank t .rising else e) d
    { d1 with mode := .ramp, pwr := { d1.pwr with vdda := true, vdd := true } }

/-- BANK_CLASSIFY: the 50 ms window of a bank ends, given the highest voltage it reached in the window (mV) and whether it has
stayed above 1.60 V for the last 100 µs. The window of a bank that came up before the other supplies may end in OFF. -/
def Device.bankClassify (d : Device) (t peak : Nat) (steady : Bool) : Device :=
  if (d.bank t ≠ .rising ∧ ¬(d.bank t = .down ∧ d.mode = .off)) ∨ d.cfg.tiles ≤ t then d
  else d.setBank t (if 2950 < peak then .high33 else if peak ≤ 2500 ∧ steady then .low18 else .refused)

/-- Every supply is good. -/
def Device.suppliesGood (d : Device) : Bool :=
  d.pwr.vdda && d.pwr.vdd && (List.range d.cfg.tiles).all fun t => (d.bank t).good

/-- SUPPLY_GOOD: RAMP ends and the power-on reset begins. -/
def Device.supplyGood (d : Device) : Device :=
  if d.mode = .ramp ∧ d.suppliesGood then d.deviceReset .por else d

/-- The device enters OFF: all logic stops, the pads are isolated, RESET_N's pull-down goes off and the lanes go high-impedance (R508,
R519). -/
def Device.powerOff (d : Device) : Device :=
  { d with
    mode := .off, prev := .off
    dbg := { d.dbg with sending := [], mute := false, executing := none }, bey := { d.bey with lane := [] }, sn := { d.sn with lane := [] } }

/-- What FAULT_N shows: its level (R442), or the isolated state (R508). -/
def Device.faultPin (d : Device) : Drive := if d.isolated then .highZ else if d.faultLow then .zero else .one

/-- What the SerDes transmit lanes do (Table 17.2): with a supply failed or still coming they are high-impedance, in RESET and in
DEEP-SLEEP (R520) electrically idle, otherwise as the link gives. -/
inductive LaneState where
  | highZ
  | idle
  | link
  deriving DecidableEq, Repr

/-- Table 17.2 and R520. -/
def Device.laneState (d : Device) : LaneState :=
  match d.mode with
  | .off | .ramp => .highZ
  | .reset | .deepSleep => .idle
  | _ => .link

/-- SUPPLY_FAIL: supply 0 VDDA, 1 VDD, 2 + t the bank of tile t. -/
def Device.supplyFail (d : Device) (s : Nat) : Device :=
  if 2 + d.cfg.tiles ≤ s then d
  else if s = 0 then { d with pwr := { d.pwr with vdda := false } }.powerOff
  else if s = 1 then { d with pwr := { d.pwr with vdd := false } }.powerOff
  else (d.setBank (s - 2) .down).powerOff

/-- BANK_OVERVOLTAGE: a good 1.8 V bank that rises above 2.50 V is treated as failed. -/
def Device.bankOver (d : Device) (t : Nat) : Device :=
  if t < d.cfg.tiles ∧ d.bank t = .low18 then (d.setBank t .down).powerOff else d

/-- VDD_MONITOR: VDD inside 0.72 to 0.80 V (0), below (1) or above (2) at the internal sensor (Table 14.1). -/
def Device.vddMonitor (d : Device) (s : Nat) : Device :=
  let d1 := { d with pwr := { d.pwr with vmon := s } }
  if d.isolated then d1 else d1.raiseLevel 0x3B s (s != 0)

/-! ### Reset sources (R475, R516, R518) -/

/-- The device is in a mode from SERVICE to FACTORY. -/
def Device.released (d : Device) : Bool := !d.isolated

/-- RESET_N_RESET (R475, R531): the filter's decision on a long low level; while the device is in OFF, RAMP or RESET it only
holds the release. -/
def Device.resetN (d : Device) : Device :=
  let d1 := if d.released then d.deviceReset .resetN else d
  { d1 with pwr := { d1.pwr with rstLow := true } }

/-- RESET_N_PULSE (R475): a low level, of some nanoseconds, that ended. Below 1 µs it is a signalling cell or nothing; to
9.5 µs it is ignored, counted, and abandons a frame in progress; between 9.5 and 10.5 µs the filter may decide either way. The end of a
low level that the filter has decided on already does no more. -/
def Device.resetPulse (d : Device) (ns : Nat) : Device :=
  if d.pwr.rstLow then { d with pwr := { d.pwr with rstLow := false } }
  else if ns < 1000 then d
  else
    let pulse := { d with dbg := { d.dbg with sending := [] } }.bump Reg.DBG_NDCNT 8 8
    if ns ≤ 9500 then pulse
    else if ns < 10500 ∧ (Config.freeValue d.draws).toNat % 2 = 0 then pulse.draw
    else
      let d1 := if ns < 10500 then d.draw else d
      if d1.released then d1.deviceReset .resetN else d1

/-- A write of PWR_RST (R516, Table 17.6): DBG resets the debug domain, DEV the device. -/
def Device.pwrRst (d : Device) (w : Writer) (v : Nat) : Device :=
  if d.trusted w = false ∨ d.isolated ∨ bitsOf v 0 16 ≠ 0x9E37 then d
  else
    let d1 := if bitOf v 17 then d.debugReset else d
    if bitOf v 16 then d1.deviceReset .software else d1

/-- CORE_RESET: a write of PWR_CRST (R518). -/
def Device.pwrCrst (d : Device) (w : Writer) (mask : Nat) : Device := if d.trusted w then d.coreReset mask else d

/-- BERTH_RESET: a write of PWR_BRST (R518). -/
def Device.pwrBrst (d : Device) (w : Writer) (v : Nat) : Device :=
  if d.trusted w then d.berthReset (bitsOf v 0 9) else d

/-! ### Tiles off and on (R520, R521, R525) -/

/-- A tile loses power: its engines, its berths, and its SRAM unless that is retained. -/
def Device.tileOff (d : Device) (t : Nat) (retain : Bool) : Device :=
  let d1 := ((d.engReset (· == t)).setFlag Reg.PWR_STAT (16 + t) false).setFld (Reg.THM_TILE t) 12 3 0
  let d2 := { d1 with
    mem := if retain then d1.mem else d1.mem.wipe (inSram t)
    berths := d1.berths.filter fun e => tileOf e.1 != t }
  (List.range' (4 * t) 4).foldl (fun e c => (e.wr (Reg.CAR_PARKREQ c) 0xFFFF).wr (Reg.CAR_PARKED c) 0xFFFF) d2

/-- Every configured tile, the highest first (R520). -/
def Device.tilesDown (d : Device) : List Nat := (List.range d.cfg.tiles).reverse

/-! ### DOZE and DEEP-SLEEP -/

/-- Every present berth of a core is parked or in SLEEP. -/
def Device.coreQuiet (d : Device) (c : Nat) : Bool :=
  (List.range' (16 * c) 16).all fun b => !d.present b || d.parked b || (d.berth b).asleep

/-- A core is clock-gated: all of it quiet, with some berth in SLEEP to permit it (R141), and not halted by the debugger (R25). -/
def Device.coreGated (d : Device) (c : Nat) : Bool :=
  !d.coreHalted c && d.coreQuiet c && (List.range' (16 * c) 16).any fun b => d.present b && !d.parked b && (d.berth b).asleep

/-- DOZE_ENTRY (R519, R25). -/
def Device.dozeEntry (d : Device) : Device :=
  let from_ := d.mode == Mode.service || d.mode == Mode.stop || d.mode == Mode.run
  let all := (List.range d.cfg.cores).all fun c => d.twinHigh c || !d.coreOn c || d.coreGated c
  if from_ && all && (List.range d.cfg.cores).any (fun c => d.coreOn c) then d.dozePads.enterFrom .doze else d

/-- DEEP_SLEEP_REQUEST: a write of PWR_SLEEP (R520). In RUN, STANDBY and HALT the write of DEEP has no effect, and sets SLPREF where it
asks for something. -/
def Device.sleepRequest (d : Device) (v : Nat) : Device :=
  let bad := d.mode == Mode.run || d.mode == Mode.standby || d.mode == Mode.halt
  let was := d.flag Reg.PWR_SLEEP 0
  let d1 := d.wr Reg.PWR_SLEEP (bitsOf v 8 8 * 256 + bit01 (if bad then was else bitOf v 0))
  if bad && (bitOf v 0 || was) then d1.setFlag Reg.PWR_STAT 10 true else d1

/-- DEEP_SLEEP_ENTRY (R520), or its emulation (R502): the trace flush, the pad latches, the engines, the tiles from the highest
down; the links lose their lanes. -/
def Device.deepEntry (d : Device) : Device :=
  let from_ := d.mode == Mode.service || d.mode == Mode.stop
  let quiet := (List.range d.cfg.cores).all fun c => !d.coreOn c || d.coreQuiet c
  if (from_ && d.flag Reg.PWR_SLEEP 0 && quiet) = false then d
  else
    let d1 := (((d.latchPads.enginesStop fun _ => false).beyUnlock 0).beyUnlock 1).snUnlock
    let d2 := d1.enterFrom .deepSleep
    if d2.flag Reg.DBG_STAT 1 then d2
    else d2.tilesDown.foldl (fun e t => e.tileOff t (e.flag Reg.PWR_SLEEP (8 + t))) d2

/-- WAKE_COMPLETE (R521): every tile is powered and ready, every berth parked as after reset, and berth 0 of core 0 goes on at
the wake vector or through the boot flow; a reaction that ended the sleep is performed (R443). -/
def Device.wakeComplete (d : Device) : Device :=
  match d.mode, d.pwr.wake with
  | .deepSleep, some cause =>
    let d1 := d.tilesDown.foldl (fun e t => e.tileOff t (e.flag Reg.PWR_SLEEP (8 + t))) d
    let d2 := (List.range d1.cfg.tiles).foldl (fun e t =>
      if e.flag (Reg.THM_TILE t) 19 then e else e.setFlag Reg.PWR_STAT (16 + t) true) d1
    let d3 := ((d2.setFld Reg.PWR_STAT 8 2 cause).setFlag Reg.PWR_SLEEP 0 false).lhsRestart
    let d4 := d3.unpark0
    let vec := d4.rd64 Reg.PWR_WAKEVEC
    let d5 := if bitOf vec 63 then d4.setBerth 0 { (d4.berth 0) with pc := BitVec.ofNat 50 vec }
      else { d4 with qsp := { d4.qsp with boot := true } }
    let due := d5.rms.deferred
    let d6 := { d5 with pwr := { d5.pwr with wake := none }, rms := { d5.rms with deferred := [] } }.setMode d.prev
    (due.foldl (fun e r => e.reactIrq r.1 r.2) d6.logBegin).reactAll due
  | _, _ => d

/-! ### Recovery from SAFE (R523) -/

/-- No source is at SEVERE or above, no level source holds its condition at FATAL, and every tile is powered. -/
def Device.recoverable (d : Device) : Bool :=
  ((List.range 256).all fun n => decide (d.rmsClass n < 3)) &&
  (levelSources.all fun n =>
    !(d.flag (Reg.RMS_STATN n) 3 && (d.fld (Reg.RMS_CFG n) 0 2 == 3 || d.rmsClass n == 4))) &&
  ((List.range d.cfg.tiles).all fun t => d.flag Reg.PWR_STAT (16 + t))

/-- What still holds acts again from STOP (R26): a level source whose reaction changes the mode, then every present core
halted, where the halt is REMOTE if every core's cause is. -/
def Device.stillPresent (d : Device) : Device :=
  let e := d.standing
  let remote := (List.range e.cfg.cores).all fun c => !e.coreHalted c || e.fld (Reg.DBG_CSTAT c) 0 3 == 4
  if e.mode = .stop then e.enterHalt (if remote then 4 else 1) else e

/-- RECOVER: a write of PWR_RECOVER. -/
def Device.recover (d : Device) (w : Writer) (v : Nat) : Device :=
  if d.trusted w = false ∨ bitsOf v 0 16 ≠ 0x51FE then d
  else if d.mode = .safe ∧ d.recoverable then d.enterStop.stillPresent
  else d.setFlag Reg.PWR_STAT 11 true

/-! ### The CCLK divider (R511) -/

/-- The divider that CLK_DIV selects: 3 acts as 2. -/
def Device.divider (d : Device) : Nat := min (d.fld Reg.CLK_DIV 0 2) 2

/-- DIVIDER_REQUEST: a write of CLK_DIV. -/
def Device.divRequest (d : Device) (v : Nat) : Device :=
  let d1 := d.wr Reg.CLK_DIV (v % 4)
  { d1 with pwr := { d1.pwr with divs := d1.pwr.divs ++ [(d1.tbNow, d1.divider)] } }

/-- DIVIDER_CHANGE: at a multiple of 8, at least 4 TCLK after the write; of several writes that old the latest prevails, and a younger
one waits for its own edge. -/
def Device.divChange (d : Device) : Device :=
  let old := d.pwr.divs.filter fun q => decide (q.1 + 4 ≤ d.tbNow)
  match old.getLast? with
  | some q => if d.tbNow % 8 = 0 then
      { d.setFld Reg.CLK_STAT 0 2 q.2 with pwr := { d.pwr with divs := d.pwr.divs.filter fun q => decide (d.tbNow < q.1 + 4) } }
    else d
  | none => d

/-! ### Reference re-lock (R512 to R515) -/

def Device.setRelock (d : Device) (r : Option Relock) : Device := { d with pwr := { d.pwr with relock := r } }

/-- An engine that CLK_TCRIT marks runs. -/
def Device.criticalRuns (d : Device) : Bool :=
  (List.range d.cfg.engines).any fun e => bitOf (d.rd64 Reg.CLK_TCRIT) e && (d.engine e).run

/-- RELOCK_REQUEST: a write of CLK_RELOCK (R512). -/
def Device.relockRequest (d : Device) (w : Writer) (v : Nat) : Device :=
  if bitOf v 0 = false then d
  else
    let code := if d.gateHeld (Writer.who w) 5 = false then 1 else if d.mode = .run ∧ d.criticalRuns then 2
      else if d.pwr.relock.isSome then 3 else 9
    let d1 := d.setFld Reg.CLK_RLST 0 4 code
    if code = 9 then
      d1.setRelock (some ⟨d.tbNow, bitsOf v 1 1, d.fld Reg.CLK_STAT 4 1, none, none, none, false, false⟩)
    else d1

/-- RELOCK_SWITCH (R513 step 1). -/
def Device.relockSwitch (d : Device) : Device :=
  match d.pwr.relock with
  | some r => if r.switched = none ∧ r.asked + 2 ≤ d.tbNow ∧ d.tbNow % 8 = 0 then
      (((d.setRelock (some { r with switched := some d.tbNow })).setFlag Reg.CLK_STAT 2 true).setFld Reg.CLK_RLST 4 2 1)
    else d
  | none => d

/-- CLK_STAT.REFOK shows the reference in use (Table 17.7): whether another one is present no command has said, so it is a free level
until the PLL locks to it. -/
def Device.takeReference (d : Device) (target : Nat) : Device :=
  if d.fld Reg.CLK_STAT 4 1 = target then d
  else ((d.setFld Reg.CLK_STAT 4 1 target).setFlag Reg.CLK_STAT 5 (Config.freeLevel d.draws)).draw

/-- RELOCK_PLL_RESET (R513 step 2). -/
def Device.relockReset (d : Device) : Device :=
  match d.pwr.relock with
  | some r => if r.switched.isSome ∧ r.pllReset = none then
      ((d.setRelock (some { r with pllReset := some d.tbNow, locked := none, first := false })).takeReference r.target).setFlag
        Reg.CLK_STAT 3 false
    else d
  | none => d

/-- The PLL has locked: its reference is there (R510). -/
def Device.lockSeen (d : Device) : Device :=
  { (d.setFlag Reg.CLK_STAT 3 true).setFlag Reg.CLK_STAT 5 true with pwr := { d.pwr with lost := false } }

/-- PLL_LOCK (R513 step 3): the lock detector asserts or drops. A PLL that locks has its reference (R510); outside a re-lock the
clocks stay as they are (a loss is PLL_UNLOCK). -/
def Device.pllLock (d : Device) (lock : Bool) : Device :=
  match d.pwr.relock with
  | some r =>
    let d1 := if lock then d.lockSeen else d.setFlag Reg.CLK_STAT 3 false
    match r.pllReset with
    | none => d1
    | some t =>
      if lock then
        let d2 := if r.first then d1 else d1.setFld Reg.CLK_RLST 16 16 (min ((d.tbNow - t) / 250) 0xFFFF)
        let since := if r.locked.isSome then r.locked else some d.tbNow
        (d2.setRelock (some { r with locked := since, first := true })).setFld Reg.CLK_RLST 4 2 2
      else (d1.setRelock (some { r with locked := none })).setFld Reg.CLK_RLST 4 2 1
  | none =>
    if lock ∧ d.mode ≠ .off ∧ d.mode ≠ .ramp then d.lockSeen else d

/-- A re-lock ends with a code. -/
def Device.relockEnd (d : Device) (code : Nat) : Device := ((d.setRelock none).setFld Reg.CLK_RLST 4 2 0).setFld Reg.CLK_RLST 0 4 code

/-- RELOCK_RETURN (R513 steps 4 and 5, R515): DONE, or FALLBACK on the previous reference, where the PLL has met step 4 within 10 ms of
its reset. After a NOLOCK the clocks stay on BOSC all the same. -/
def Device.relockReturn (d : Device) : Device :=
  match d.pwr.relock with
  | some r =>
    match r.locked, r.pllReset with
    | some t, some p => if t + 16000 ≤ d.tbNow ∧ t + 16000 ≤ p + 2500000 ∧ d.tbNow % 8 = 0 then
        let d1 := (d.setFlag Reg.CLK_STAT 2 d.pwr.noLock).setFld Reg.CLK_STAT 0 2 d.divider
        ({ d1 with pwr := { d1.pwr with divs := [] } }).relockEnd (if r.fallback then 5 else 0)
      else d
    | _, _ => d
  | none => d

/-- The PLL has met step 4 of R513 within 10 ms of its reset. -/
def Relock.met (r : Relock) : Bool :=
  match r.locked, r.pllReset with
  | some t, some p => decide (t + 16000 ≤ p + 2500000)
  | _, _ => false

/-- A re-lock fails for good: NOLOCK and CLK_UNLOCK, and the clocks stay on BOSC until a device reset (R515). -/
def Device.relockFail (d : Device) : Device :=
  let d1 := d.relockEnd 4
  { d1 with pwr := { d1.pwr with noLock := true } }.raise 0x3D 0

/-- RELOCK_TIMEOUT (R515): the previous reference is tried; when that fails too, NOLOCK and CLK_UNLOCK. -/
def Device.relockTimeout (d : Device) : Device :=
  match d.pwr.relock with
  | some r =>
    match r.pllReset with
    | some t => if d.tbNow < t + 2500000 ∨ r.met then d
      else if r.fallback then d.relockFail
      else (d.setRelock (some { r with target := r.previous, pllReset := none, locked := none, fallback := true })).setFld
        Reg.CLK_RLST 4 2 1
    | none => d
  | none => d

/-- PLL_UNLOCK (R510): the lock is lost, and whether the reference is still present. Outside a re-lock it raises CLK_UNLOCK; in one, the
count of stable lock starts again (R513). -/
def Device.pllUnlock (d : Device) (ref : Bool) : Device :=
  let d0 := (d.setFlag Reg.CLK_STAT 3 false).setFlag Reg.CLK_STAT 5 ref
  let d1 := { d0 with pwr := { d0.pwr with lost := true } }
  if d.mode = .off ∨ d.mode = .ramp then d
  else match d.pwr.relock with
    | some r => if r.pllReset.isSome then (d1.setRelock (some { r with locked := none })).setFld Reg.CLK_RLST 4 2 1 else d1
    | none => if d.isolated then d1 else (d1.setFlag Reg.CLK_STAT 2 true).raise 0x3D 0

/-! ### The sensors and the governor (R524, R525) -/

/-- A sensor's latest reading in 0.25 °C, where it has been read. -/
def Device.sensor (d : Device) (k : Nat) : Option Int := (d.pwr.temps.find? fun e => e.1 == k).map Prod.snd

/-- The hottest of some sensors, the lowest-numbered of equals: its number and its reading. -/
def Device.hottest (d : Device) (ks : List Nat) : Option (Nat × Int) :=
  ks.foldl (fun best k => match d.sensor k, best with
    | some v, some (j, u) => if u < v then some (k, v) else some (j, u)
    | some v, none => some (k, v)
    | none, b => b) none

/-- Every configured sensor, as 8 × tile + sensor. -/
def Device.sensors (d : Device) : List Nat := List.range (8 * d.cfg.tiles)

/-- New readings replace the old; a sensor that the configuration lacks has none. -/
def Device.takeReadings (d : Device) (rs : List (Nat × Int)) : Device :=
  let mine := rs.filter fun r => decide (r.1 < 8 * d.cfg.tiles)
  let temps := mine.foldl (fun m r => (Store.erase m r.1).insert r.1 r.2) d.pwr.temps
  { d with pwr := { d.pwr with temps := temps } }

/-- THM_TILEt.TEMP and SENSOR (Table 17.8). -/
def Device.tileTemp (d : Device) (t : Nat) : Device :=
  match d.hottest (List.range' (8 * t) 8) with
  | some (k, v) => (d.setFld (Reg.THM_TILE t) 0 11 (patternOf 11 v)).setFld (Reg.THM_TILE t) 16 3 (k % 8)
  | none => d

/-- THM_PEAK.TEMP keeps the highest reading since reset or clear. -/
def Device.peakTemp (d : Device) : Device :=
  match d.hottest d.sensors with
  | some (_, v) =>
    if d.pwr.peakSet ∧ v ≤ signedOf 11 (d.fld Reg.THM_PEAK 0 11) then d
    else { d.setFld Reg.THM_PEAK 0 11 (patternOf 11 v) with pwr := { d.pwr with peakSet := true } }
  | none => d

/-- The level sources of the temperature at the hottest sensor: above 115 °C, at 125 °C and at 135 °C (Table 14.1). -/
def Device.thermals (d : Device) : Device :=
  match d.hottest d.sensors with
  | some (k, v) =>
    let at_ := k % 8 + 16 * (k / 8)
    d.raiseLevels [(0x38, at_, decide (460 < v)), (0x39, at_, decide (500 ≤ v)), (0x3A, at_, decide (540 ≤ v))]
  | none => d

/-- SENSOR_READ (R524, R525, R531): readings of 8 × tile + sensor in 0.25 °C. -/
def Device.sensorRead (d : Device) (rs : List (Nat × Int)) : Device :=
  if d.mode = .off ∨ d.mode = .ramp then d
  else
    let d1 := d.takeReadings rs
    if d1.mode = .reset then
      let cool := d1.sensors.all fun k => match d1.sensor k with
        | some v => decide (v < 500)
        | none => true
      { d1 with pwr := { d1.pwr with
          cool := if cool then d1.pwr.cool.map (· + 1) else some 0 } }
    else
      let d2 := ((List.range d1.cfg.tiles).foldl (fun e t => e.tileTemp t) d1).peakTemp
      let d3 := d2.thermals
      let trip : Bool := match d3.hottest d3.sensors with
        | some (_, v) => decide (540 ≤ v)
        | none => false
      let done := (List.range d3.cfg.tiles).all fun t => d3.flag (Reg.THM_TILE t) 19
      if trip ∧ d3.pwr.tripAt = none ∧ done = false then
        { d3.enterSafe with pwr := { d3.enterSafe.pwr with tripAt := some d3.lpt.edges } }
      else d3

/-- THERMAL_POWER_OFF (R525): 10 µs after the trip every tile is powered off, without retention. -/
def Device.thermalOff (d : Device) : Device :=
  match d.pwr.tripAt with
  | some t => if d.lpt.edges < t + 2500 ∨ d.isolated then d
    else
      let d1 := d.tilesDown.foldl (fun e t => (e.tileOff t false).setFlag (Reg.THM_TILE t) 19 true) d
      { d1 with pwr := { d1.pwr with tripAt := none } }
  | none => d

/-- GOVERNOR_PERIOD (R524): each tile's throttle level follows its hottest sensor. -/
def Device.governor (d : Device) : Device :=
  if d.isolated then d else
  let low : Int := 4 * min (d.fld Reg.THM_CFG 8 8) 115
  (List.range d.cfg.tiles).foldl (fun e t =>
    let k := e.fld (Reg.THM_TILE t) 12 3
    let k' := if e.tileOn t = false then 0
      else match e.hottest (List.range' (8 * t) 8) with
        | some (_, v) => if 460 < v then min (k + 1) 7 else if v ≤ low then k - 1 else k
        | none => k
    e.setFld (Reg.THM_TILE t) 12 3 k') d

/-- PEAK_CLEAR: a write of THM_PEAK (R526). -/
def Device.peakClear (d : Device) (v : Nat) : Device :=
  if bitOf v 31 = false then d
  else match d.hottest d.sensors with
    | some (_, x) => { d.setFld Reg.THM_PEAK 0 11 (patternOf 11 x) with pwr := { d.pwr with peakSet := true } }
    | none => { d.setFld Reg.THM_PEAK 0 11 0 with pwr := { d.pwr with peakSet := false } }

end Sys2Proof.Machine
end

