-- ==== Sys2Proof/Machine/Quayside.lean ====
section
/-! DEFINITION. Quayside's commands and host-side registers (R465 to R473): errors, mailboxes and doorbells, feature
negotiation, the program image (R470) and the entry to RUN and STOP (R471, R472). -/

namespace Sys2Proof.Machine

/-! ### Errors (R465) -/

/-- QSP_STAT.DENY counts a refused request or write (R459, R472, R473). -/
def Device.qspDeny (d : Device) : Device := d.bump Reg.QSP_STAT 16 8

/-- An error response or an uncorrectable beat: port 0 target or 1 initiator, the kind of R465's DETAIL, response code and
address. -/
def Device.qspError (d : Device) (port kind resp addr : Nat) : Device :=
  let d1 := if kind = 5 then d.bump Reg.QSP_STAT 8 8 else d.bump Reg.QSP_STAT 24 8
  let d2 := if d1.flag (Reg.QSP_ELOG + 4) 31 then d1
    else d1.wr64 Reg.QSP_ELOG (addr % 2 ^ 48 + resp * 2 ^ 48 + port * 2 ^ 50 + kind * 2 ^ 51 + 2 ^ 63)
  let d3 := d2.raise 0x48 (port + 2 * kind)
  if port = 1 then d3.hostSource 4 else d3

/-- The target port sends an error response: its code counts and raises QSP_ERR (R465). -/
def Device.targetSend (d : Device) (addr code : Nat) : Device :=
  if code = 0 then d
  else d.qspError 0 (if code = 2 then 1 else if code = 3 then 2 else 3) code addr

/-! ### Mailbox, doorbells and software interrupts (R466) -/

/-- A host write of QSP_DBELL. -/
def Device.doorbell (d : Device) (v : Nat) : Device :=
  if d.hostFeature 3 = false ∨ v % 16 = 0 then d
  else ((setPositions 4 v).foldl (fun e i => e.pulse (0x60 + i)) d).setLine (d.fld Reg.QSP_DBNB 0 9) 27

/-- A host write of QSP_H2D. -/
def Device.mailboxH2d (d : Device) (v : Nat) : Device :=
  if d.hostFeature 3 then (d.wr Reg.QSP_H2D v).doorbell 1 else d

/-- A berth's write of QSP_D2H. -/
def Device.mailboxD2h (d : Device) (v : Nat) : Device :=
  if d.hostFeature 3 then (d.wr Reg.QSP_D2H v).hostSource 1 else d

/-- A write of QSP_HSWI. -/
def Device.hostSoft (d : Device) (v : Nat) : Device := if bitOf v 0 then d.hostSource 5 else d

/-- Line k of qs_hirq (R466, Table 15.4): some pending source is routed to it. -/
def Device.hostLine (d : Device) (k : Nat) : Bool :=
  (List.range 6).any fun s =>
    let r := d.fld Reg.QSP_HROUTE (4 * s) 3
    d.flag Reg.QSP_HPEND s && decide (1 ≤ r) && decide (r ≤ 4) && (if d.hostFeature 5 then r == k + 1 else k == 0)

/-! ### Feature negotiation (R467) -/

/-- The host features of word 2 (Table 15.4). -/
def hostOffer : Nat := 0x3F

/-- A host write of QSP_FEAT_ACCEPT2, fixed at DONE. -/
def Device.acceptWrite (d : Device) (v : Nat) : Device :=
  if d.flag Reg.QSP_FEAT_DONE 0 then d else d.wr Reg.QSP_FEAT_ACCEPT2 v

/-- FEATURE_DONE: the accepted set is fixed, the bits written that are also offered. -/
def Device.featureDone (d : Device) (v : Nat) : Device :=
  if bitOf v 0 = false ∨ d.flag Reg.QSP_FEAT_DONE 0 then d
  else (d.wr Reg.QSP_FEAT_ACCEPT2 (d.rd Reg.QSP_FEAT_ACCEPT2 &&& hostOffer)).setFlag Reg.QSP_FEAT_DONE 0 true

/-! ### The program image (R470, Tables 15.5 and 15.6) -/

/-- An entry of the segment table: DEST, OFS and LEN. -/
structure Segment where
  dest : Nat
  ofs  : Nat
  len  : Nat
  deriving DecidableEq, Repr

def segments (img : List Byte) : Nat → List Segment
  | 0 => []
  | n + 1 => segments img n ++ [⟨fieldAt img (0x80 + 16 * n) 8, fieldAt img (0x88 + 16 * n) 4, fieldAt img (0x8C + 16 * n) 4⟩]

/-- MAGIC, FORMAT and the reserved header fields. -/
def imageMagic (img : List Byte) : Bool :=
  fieldAt img 0 4 == 0x4D495351 && fieldAt img 4 2 == 1 && decide (fieldAt img 6 2 < 2) &&
  decide (fieldAt img 0x10 8 < 2 ^ 50) && (fieldAt img 0x20 4 &&& 0xFFFFF0F0) == 0 && zeroAt img 0x28 8 && zeroAt img 0x70 16

/-- Segments ascend from `at_` without overlap up to the signature, with lengths in multiples of 8. -/
def segmentsFit (total : Nat) : Nat → List Segment → Bool
  | _, [] => true
  | at_, s :: r => decide (at_ ≤ s.ofs) && decide (s.ofs + s.len + 64 ≤ total) && s.len % 8 == 0 &&
      segmentsFit total (s.ofs + s.len) r

/-- TOTAL and NSEG. -/
def imageSizes (img : List Byte) : Bool :=
  let nseg := fieldAt img 0x18 4
  let total := fieldAt img 0x1C 4
  decide (1 ≤ nseg) && decide (nseg ≤ 32) && total % 8 == 0 && decide (total ≤ 0x1000000) &&
  decide (0x80 + 16 * nseg + 64 ≤ total)

/-- REQ against OCX_FEAT0. -/
def imageConfig (c : Straps) (img : List Byte) : Bool :=
  let req := fieldAt img 0x20 4
  decide (bitsOf req 0 4 ≤ 1) && decide (bitsOf req 8 4 ≤ c.tiles)

/-- A DEST with LEN bytes: a tile SRAM global window or the working image, outside the boot information block. -/
def destOk (c : Straps) (s : Segment) : Bool :=
  s.dest % 8 == 0 && decide (s.dest < 2 ^ 50) &&
  (match placeOf c none s.dest with
  | some (.sram _ o) => decide (o + s.len ≤ 0x200000)
  | some (.image o) => decide (o + s.len ≤ 2 * c.imageS)
  | _ => false) &&
  !(decide (s.dest < bootInfo + 64) && decide (bootInfo < s.dest + s.len))

/-- ENTRY lies in a segment in tile SRAM or in the external region. -/
def entryOk (c : Straps) (entry : Nat) (ss : List Segment) : Bool :=
  match placeOf c none entry with
  | some (.external _) => true
  | some (.sram _ _) => ss.any fun s => decide (s.dest ≤ entry) && decide (entry < s.dest + s.len)
  | _ => false

/-- A public key and its hash, the order of the bytes as FIPS 180-4 gives the digest: qs_rotpk_hash holds the first byte as
its most significant. PRESUMED. -/
def imageKey (c : Straps) (img : List Byte) : Bool := sha256 ((img.drop 0x30).take 64) == c.rotpkHash.toNat

/-- The checks that precede the copy, on what was read: none where every one passes. -/
def imageRefused (c : Straps) (img : List Byte) : Option Nat :=
  let nseg := fieldAt img 0x18 4
  let total := fieldAt img 0x1C 4
  let ss := segments img nseg
  if img.length < 0x80 then some 11
  else if imageMagic img = false then some 4
  else if imageSizes img = false then some 5
  else if img.length < 0x80 + 16 * nseg then some 11
  else if segmentsFit total (0x80 + 16 * nseg) ss = false then some 5
  else if imageConfig c img = false then some 6
  else if imageKey c img = false then some 7
  else if ss.all (destOk c) = false ∨ entryOk c (fieldAt img 0x10 8) ss = false then some 10
  else none

/-- The signature over the digest. -/
def imageSigned (img : List Byte) (total : Nat) : Bool :=
  let num (o : Nat) : Nat := beValue ((img.drop o).take 32)
  ecdsaVerify (num 0x30) (num 0x50) (sha256 (img.take (total - 64))) (num (total - 64)) (num (total - 32))

/-- The checks after the copy: the outcome. -/
def imageOutcome (img : List Byte) : Nat :=
  let total := fieldAt img 0x1C 4
  if img.length < total then 11
  else if crc32c ((img.drop 0x80).take (total - 64 - 0x80)) ≠ fieldAt img 0x24 4 then 8
  else if imageSigned img total = false then 9
  else 0

/-- The segments are copied as they pass: what was read of them. -/
def Device.imageCopy (d : Device) (img : List Byte) : Device :=
  (segments img (fieldAt img 0x18 4)).foldl (fun e s => e.writeSpan 0 1 s.dest ((img.drop s.ofs).take s.len)) d

/-- The bytes of the image that its checks need next, of those in front (R470): the header, then the segment table, then all of it;
none once a check has failed. -/
def imageNeed (c : Straps) (got : List Byte) : Nat :=
  if got.length < 0x80 then 0x80
  else match imageRefused c got with
    | some 11 => 0x80 + 16 * fieldAt got 0x18 4
    | some _ => 0
    | none => fieldAt got 0x1C 4

/-- The beats of the next read of the image, less one (R463): single beats, but while IBURST is accepted bursts of any length that R457
and what is needed admit. FREE VALUE (notes/assumptions/67.md). -/
def Device.imageBurst (d : Device) (a n : Nat) : Nat :=
  if d.hostFeature 1 ∧ a % 32 = 0 then (Config.freeValue d.draws).toNat % (min (min 16 ((4096 - a % 4096) / 32)) ((n + 31) / 32)) else 0

/-- The load in progress reads the image on, in ascending order, where a tag is free and none of its reads is outstanding (R468, R470),
with req_attr 2. -/
def Device.sendImage (d : Device) : Device :=
  match d.qsp.load with
  | none => d
  | some (_, addr) =>
    let have_ := d.qsp.got.length
    let need := imageNeed d.cfg d.qsp.got
    if d.portFree = false ∨ need ≤ have_ ∨ d.qsp.requests.any fun r => r.owner == InitOwner.image true then d
    else
      let a := (addr + have_) % 2 ^ 48
      let more := d.imageBurst a (need - have_)
      (if d.hostFeature 1 then d.draw else d).sendRequest
        { InitReq.single (.image true) a (32 - a % 32) false 0 2 with more := more }

/-! ### RUN and STOP (R471, R472) -/

/-- The boot information block in the own-tile alias (R471). -/
def bootInfoAlias : Nat := 0x1FFF00

/-- Entry to RUN with a CAUSE at the loaded image's ENTRY (R471). -/
def Device.startRun (d : Device) (cause entry : Nat) : Device :=
  let d1 := (d.setMode .run).poeNotice d
  let d2 := (d1.berthReset 0).unpark0
  let x := { d2.berth 0 with pc := BitVec.ofNat 50 entry }.setReg 24 (BitVec.ofNat 32 bootInfoAlias)
  (d2.setBerth 0 x).writeSpan 0 1 (bootInfo + 0x10) (leBytes 4 cause)

/-- RUN to STOP (Table 17.5): every berth is parked, and the engines that PWR_STOPRUN does not name stop. -/
def Device.runToStop (d : Device) : Device :=
  let keep := d.rd64 Reg.PWR_STOPRUN
  ((d.enginesStop (bitOf keep)).parkAll fun _ => false).enterStop

/-- The outcome of a command in QSP_CMDST (R472). -/
def Device.cmdOutcome (d : Device) (code : Nat) : Device := (d.setFld Reg.QSP_CMDST 0 4 code).hostSource 3

/-- A command meets BUSY or BADMODE (Table 15.6). -/
def Device.cmdCheck (d : Device) (m : Mode) (f : Device → Device) : Device :=
  if d.qsp.load.isSome then d.cmdOutcome 1 else if d.mode ≠ m then d.cmdOutcome 2 else f d

/-- LOAD. -/
def Device.cmdLoad (d : Device) : Device :=
  d.cmdCheck .service fun e =>
    { e.setFld Reg.QSP_CMDST 0 4 15 with
      qsp := { e.qsp with load := some (true, bitsOf (e.rd64 Reg.QSP_CMDADDR) 0 48), got := [] } }.sendImage

/-- START. -/
def Device.cmdStart (d : Device) : Device :=
  d.cmdCheck .stop fun e =>
    match e.qsp.entry with
    | none => e.cmdOutcome 3
    | some a => (e.startRun 2 a).cmdOutcome 0

/-- STOP. -/
def Device.cmdStop (d : Device) : Device := d.cmdCheck .run fun e => e.runToStop.cmdOutcome 0

/-- A write of QSP_CMD by one of the writers of R440. -/
def Device.cmdWrite (d : Device) (w : Writer) (code : Nat) : Device :=
  if d.trusted w = false then d.qspDeny
  else if code % 4 = 1 then d.cmdLoad
  else if code % 4 = 2 then d.cmdStart
  else if code % 4 = 3 then d.cmdStop
  else d

/-- The outcome of a boot load or a LOAD: QSP_BSTAT, the boot information block, host source 3, and QSP_CMDST for a LOAD. -/
def Device.loadOutcome (d : Device) (cmd : Bool) (code : Nat) : Device :=
  let old := d.qsp.requests.map fun r => if r.owner = InitOwner.image true then { r with owner := .image false } else r
  let d1 := { d with qsp := { d.qsp with load := none, got := [], requests := old } }
  let d2 := if cmd then d1.setFld Reg.QSP_CMDST 0 4 code else d1
  ((d2.setBstat code).bootCode code).hostSource 3

/-- A load that ends DONE leaves SERVICE for STOP, and with AUTOSTART goes on to RUN (R468, Table 17.5). -/
def Device.loadedMode (d : Device) (auto : Bool) (entry : Nat) : Device :=
  if d.mode ≠ .service then d
  else if auto then d.enterStop.startRun 1 entry
  else d.enterStop

/-- A load of an image ends (R470), given the bytes that its reads returned, in ascending order, up to the first that failed. -/
def Device.imageEnd (d : Device) (img : List Byte) : Device :=
  match d.qsp.load with
  | none => d
  | some (cmd, addr) =>
    match imageRefused d.cfg img with
    | some code => d.loadOutcome cmd code
    | none =>
      let d1 := d.imageCopy img
      let code := imageOutcome img
      if code ≠ 0 then d1.loadOutcome cmd code
      else
        let entry := fieldAt img 0x10 8
        let d2 := d1.writeSpan 0 1 bootInfo (leBytes 8 (fieldAt img 8 8) ++ leBytes 8 addr)
        let d3 := { d2 with qsp := { d2.qsp with entry := some entry } }
        (d3.loadOutcome cmd 0).loadedMode (bitOf (fieldAt img 6 2) 0) entry

/-- A beat of a read of the image arrives (R465, R470): its bytes are appended and the next read leaves; with one in error the load
ends. -/
def Device.imageBeat (d : Device) (a data : Nat) (ok : Bool) : Device :=
  if ok then
    let n := min (32 - a % 32) (imageNeed d.cfg d.qsp.got - d.qsp.got.length)
    { d with qsp := { d.qsp with got := d.qsp.got ++ ((leBytes 32 data).drop (a % 32)).take n } }
  else d.imageEnd d.qsp.got

/-- IMAGE_LOAD_DONE (R470): what the reads of the image returned beyond those answered one by one. A correctable beat counts, and so does
the one that failed where the image is short (R465); in host-side reset nothing is read (R462). -/
def Device.imageLoadDone (d : Device) (r : ImageReads) : Device :=
  match d.qsp.load with
  | none => d
  | some (_, addr) =>
    if d.qsp.held then d
    else
      let img := d.qsp.got ++ r.bytes
      let d1 := (List.range r.corrected.toNat).foldl (fun e _ => e.bump Reg.QSP_STAT 0 8) d
      let d2 := if img.length < imageNeed d.cfg img then
          d1.qspError 1 (if r.fail = 0 then 5 else 4) r.fail.toNat (addr + img.length)
        else d1
      ({ d2 with qsp := { d2.qsp with requests := d2.qsp.requests.filter fun q => q.owner != InitOwner.image true } }).imageEnd img

end Sys2Proof.Machine
end

