-- ==== Sys2Proof/Machine/Upkeep.lean ====
section
/-! DEFINITION. Small operations of the Carousel and the memories: the timer compares (R52, R139), the scrubbers (R171), the
counters of operations in flight, and the clears of MEM_CLR, BOL_CLR and BEY_CLR. -/

namespace Sys2Proof.Machine

/-! ### Timer compares -/

/-- A write of CAR_TCMPb (R52, R34): the new value asserts once it is reached. -/
def Device.tcmpWrite (d : Device) (b v : Nat) : Device :=
  if d.present b = false then d.countAbsent b
  else
    let d1 := d.wr64 (Reg.CAR_TCMP (coreOf b) (b % 16)) v
    d1.setBerth b { d1.berth b with armed := true }

/-- TIMER_COMPARE (R139): line 0 asserts once, at a TCLK edge at which the timebase is at or above the value last written. -/
def Device.timerCompare (d : Device) (b : Nat) : Device :=
  if d.present b && (d.berth b).armed && decide (d.rd64 (Reg.CAR_TCMP (coreOf b) (b % 16)) ≤ d.tbNow) then
    (d.setBerth b { d.berth b with armed := false }).setLine b 0
  else d

/-! ### Scrubbers -/

/-- Scrubber m walks: 0 to 7 the tile SRAMs, 8 the Image Store (Tables 5.12 and 17.3, R171). -/
def Device.scrubs (d : Device) (m : Nat) : Bool :=
  d.flag Reg.MEM_SCRUB 0 && !d.isolated && d.mode != Mode.deepSleep &&
  (if m = 8 then d.flag Reg.MEM_SCRUB 2 else decide (m < d.cfg.tiles) && d.flag Reg.MEM_SCRUB 1 && d.tileOn m)

/-- Words of a scrubber's memory, and the address of its first. -/
def scrubWords (c : Straps) (m : Nat) : Nat := if m = 8 then c.imageSize / 8 else 0x40000
def scrubBase (m : Nat) : Nat := if m = 8 then imageBase else sramBase m

/-- The read, correction and write back of one word. -/
def Device.scrubOne (d : Device) (a : Nat) : Device :=
  match d.eccAt a with
  | .clean => d
  | .data => (d.countCe 2 a 1).setEcc a .clean
  | .check => (d.countCe 2 a 2).setEcc a .clean
  | .uncorrectable => d.countUe 2 a

/-- The scrubbers that are enabled. -/
def Device.scrubbers (d : Device) : List Nat := (List.range 9).filter d.scrubs

/-- SCRUB_WORD: scrubber m handles its next word and moves on; PASSES counts once every enabled memory has been walked;
a walk counts for a pass where it ends after the last count, also one that began before it (DESIGN CHOICE, notes/assumptions/59.md). -/
def Device.scrubWord (d : Device) (m : Nat) : Device :=
  if d.scrubs m = false then d
  else
    let k := d.mem.scrubAt.get (fun _ => 0) m
    let d1 := d.scrubOne (scrubBase m + 8 * k)
    let wrap := decide (scrubWords d.cfg m ≤ k + 1)
    let next := d1.mem.scrubAt.put (fun _ => 0) m (if wrap then 0 else k + 1)
    let done := if wrap then joinNat d1.mem.scrubbed m else d1.mem.scrubbed
    let all := d1.scrubbers.all done.contains
    let d2 := { d1 with mem := { d1.mem with scrubAt := next, scrubbed := if all then [] else done } }
    if all then d2.bump Reg.MEM_SCRUBSTAT 0 16 else d2

/-! ### Operations in flight (R44, R178) -/

/-- Load-queue entries of a berth: a BACQ or MCOMMIT that waits holds one (Table 5.9). -/
def Berth.loadUse (x : Berth) : Nat :=
  x.loads.length + match x.wait with
    | .bollard _ _ _ _ _ _ => 1
    | .commit _ _ => 1
    | _ => 0

/-- MEM_INFLT.NOW; a fed MCOMMIT that waits is one of them. -/
def Device.inflight (d : Device) : Nat :=
  d.berths.foldl (fun n e => n + e.2.loadUse + e.2.stores.length) (match d.dbg.fedWait with
    | .commit _ _ => 1
    | _ => 0)

/-- MEM_INFLT.PEAK follows a new operation. -/
def Device.inflightPeak (d : Device) : Device :=
  if d.fld Reg.MEM_INFLT 16 13 < d.inflight then d.setFld Reg.MEM_INFLT 16 13 d.inflight else d

/-! ### Clears -/

def Device.memClrCe (d : Device) : Device := d.setFld Reg.MEM_ECCSTAT 0 16 0
def Device.memClrUe (d : Device) : Device := d.setFld Reg.MEM_ECCSTAT 16 16 0
def Device.memClrPeak (d : Device) : Device := d.setFld Reg.MEM_INFLT 16 13 d.inflight

/-- A write of MEM_CLR (Table 5.10). -/
def Device.memClr (d : Device) (v : Nat) : Device :=
  let d1 := if bitOf v 0 then d.memClrCe else d
  let d2 := if bitOf v 1 then d1.memClrUe else d1
  if bitOf v 2 then d2.memClrPeak else d2

def Device.bolClrCnt (d : Device) : Device := d.wr Reg.BOL_CNT 0
def Device.bolClrPeak (d : Device) : Device := d.setFld Reg.BOL_STAT 16 11 d.bolUsed

/-- A write of BOL_CLR (Table 6.5). -/
def Device.bolClr (d : Device) (v : Nat) : Device :=
  let d1 := if bitOf v 0 then d.bolClrCnt else d
  if bitOf v 1 then d1.bolClrPeak else d1

/-- A write of BEY_CLR (R409). -/
def Device.beyCountClear (d : Device) (v : Nat) : Device :=
  if bitOf v 0 then ((d.wr Reg.BEY_CNT0 0).wr Reg.BEY_CNT1 0).wr Reg.BEY_CNT2 0 else d

end Sys2Proof.Machine
end

