-- ==== Sys2Proof/Machine/Window.lean ====
section
/-! DEFINITION. The control window (R12 to R18, Table 5.2): what a write of a register does by its access codes, which registers
do more, what each register shows, and who reaches it. -/

namespace Sys2Proof.Machine

/-! ### Storage by access codes (Table 0.5) -/

/-- The lock of an LK field is set (R18): RMS_LOCK, LHS_LOCK or QSP_TACL.LOCK. -/
def Device.regLocked (d : Device) (off : Nat) : Bool :=
  if 0xE1000 ≤ off ∧ off < 0xE1800 then d.flag Reg.RMS_LOCK 0
  else if 0xE8000 ≤ off ∧ off < 0xE8200 then d.flag Reg.LHS_LOCK 0
  else if off = Reg.QSP_TACL then d.flag Reg.QSP_TACL 31
  else false

/-- A register word of a part that the configuration lacks, or of a Ringmaster source that does not exist (R7, R435). -/
def Device.regHere (d : Device) (off : Nat) : Bool :=
  regPresent d.cfg off &&
  (if 0xE1000 ≤ off ∧ off < 0xE1800 then rmsExists ((off - 0xE1000) / 8)
   else if 0xE2000 ≤ off ∧ off < 0xE2400 then rmsExists ((off - 0xE2000) / 4)
   else true)

/-- A word of a register as a write leaves it: RW fields take the value, LK fields while unlocked, W1C bits written as 1
clear, and every other field stands (R15, R16). -/
def Device.regStore (d : Device) (off v : Nat) : Device :=
  match regFind off with
  | none => d
  | some (r, p) =>
    if d.regHere off = false then d
    else
      let part (m : Nat) : Nat := m / 2 ^ (8 * p) % 2 ^ 32
      let mask := part r.rw ||| part r.hid ||| (if d.regLocked off then 0 else part r.lk)
      let old := d.rd off
      let kept := old - (old &&& mask)
      d.wr off ((kept - (kept &&& (v &&& part r.w1c))) ||| (v &&& mask))

/-- A lock bit, once set, stays set (R18). -/
def Device.lockWrite (d : Device) (off v : Nat) : Device := d.wr off (bit01 (bitOf v 0 || d.flag off 0))

/-- The register at an offset is 64 bits wide (R12). -/
def reg64 (off : Nat) : Bool :=
  match regFind off with
  | some (r, _) => r.w64
  | none => false

/-- The index of an offset among registers that stand `str` bytes apart from a base. -/
def regIndex (off base str cnt : Nat) : Option Nat :=
  if base ≤ off ∧ (off - base) % str = 0 ∧ (off - base) / str < cnt then some ((off - base) / str) else none

/-! ### Writes of 32-bit registers -/

/-- A write of a register of berth b; an absent berth has none, and the write is counted (R34). -/
def Device.berthReg (d : Device) (b off v : Nat) : Device := if d.present b then d.regStore off v else d.countAbsent b

/-- Supplies, clocks, reset and modes (R526). -/
def Device.pwrWrite (d : Device) (w : Writer) (off v : Nat) : Device :=
  if off = Reg.PWR_RST then d.pwrRst w v
  else if off = Reg.PWR_CRST then d.pwrCrst w v
  else if off = Reg.PWR_BRST then d.pwrBrst w v
  else if off = Reg.PWR_SLEEP then d.sleepRequest v
  else if off = Reg.PWR_RECOVER then d.recover w v
  else if off = Reg.CLK_DIV then d.divRequest v
  else if off = Reg.CLK_RELOCK then d.relockRequest w v
  else if off = Reg.THM_PEAK then d.peakClear v
  else if off = Reg.MEM_CLR then d.memClr v
  else d.regStore off v

/-- A requester's own BOL_HADDR, BOL_HOP and BOL_HST exist (R209, Table 15.4). -/
def Device.hostBolHere (d : Device) (w : Writer) : Bool :=
  match w with
  | .berth _ => false
  | .host _ => d.hostFeature 4
  | .hostUser => d.hostFeature 4
  | .gangway => true

/-- A write of BOL_HOP (R205). -/
def Device.bolHop (d : Device) (w : Writer) (v : Nat) : Device :=
  if d.hostBolHere w = false then d
  else
    let gw := match w with
      | .gangway => true
      | _ => false
    let r := d.hostBol (if gw then .gangway else .host) (if gw then d.bol.gwAddr else d.bol.hostAddr) (v % 4) (bitOf v 15)
      (bitsOf v 16 15)
    match r.1 with
    | none => r.2
    | some st =>
      let e := r.2
      { e with bol := if gw then { e.bol with gwStatus := st } else { e.bol with hostStatus := st } }

/-- A write of BOL_FORCE (R204): its outcome in BOL_FST. -/
def Device.bolForceWrite (d : Device) (w : Writer) (v : Nat) : Device :=
  let r := d.bolForce (Writer.agent w) (bitsOf (d.rd64 Reg.BOL_FADDR) 0 50) (if bitOf v 0 then some (bitsOf v 16 9) else none)
  r.2.wr Reg.BOL_FST r.1

/-- Bollards (R207 to R211). -/
def Device.bolWrite (d : Device) (w : Writer) (off v : Nat) : Device :=
  if off = Reg.BOL_CLR then d.bolClr v
  else if off = Reg.BOL_FORCE then d.bolForceWrite w v
  else if off = Reg.BOL_HOP then d.bolHop w v
  else if 0x11000 ≤ off ∧ off < 0x11800 then d.berthReg ((off - 0x11000) / 4) off v
  else d.regStore off v

/-- Pin engines (R255, R236, R253). -/
def Device.engWindow (d : Device) (off v : Nat) : Device :=
  let e := (off - 0x40000) / 0x1000
  let o := off % 0x1000
  if o < 0x100 then d.engWrite .window e (o / 4) v
  else if o < 0x200 then d.progWrite e ((o - 0x100) / 4) v
  else d

/-- A write of PAD_CFGi, PAD_DOUT or PAD_SFST is refused on a pad for which it would change something (R279). -/
def Device.padRefused (d : Device) (who : Identity) (off v : Nat) : Bool :=
  let t := (off - 0x80000) / 0x1000
  let o := off % 0x1000
  let any (hit : Nat → Bool) : Bool := (List.range 32).any fun i => hit i && !d.padPermit who t i
  if off < 0x80000 ∨ 0x88000 ≤ off ∨ d.cfg.tiles ≤ t then false
  else if o < 0x80 then
    let i := o / 4
    let new := if i < 30 then setBits (v % 2 ^ 25) 7 1 0 else v % 2 ^ 25
    new != d.rd off && !d.padPermit who t i
  else if o = 0x100 then any fun i => bitOf v i != d.flag off i
  else if o = 0x124 then any fun i => bitOf v i && d.flag off i
  else false

/-- The target port answers such a write with REFUSED and performs none of it: it counts in QSP_STAT.DENY and in PAD_STAT.DENY (R279,
R459, R465). -/
def Device.padHostDeny (d : Device) (off : Nat) : Device :=
  (d.qspDeny.padDeny ((off - 0x80000) / 0x1000)).targetSend (windowBase + off) 3

/-- Pads (R298 to R303). -/
def Device.padWrite (d : Device) (w : Writer) (off v : Nat) : Device :=
  let t := (off - 0x80000) / 0x1000
  let o := off % 0x1000
  let who := d.identity w
  let host := match w with
    | .host _ => true
    | _ => false
  if d.cfg.tiles ≤ t then d
  else if host && d.padRefused who off v then d.padHostDeny off
  else if o < 0x80 then d.padCfgWrite who t (o / 4) v
  else if o < 0x100 then d.padOwnWrite who t ((o - 0x80) / 4) v
  else if o = 0x100 then d.padDoutWrite who t v
  else if o = 0x120 then d.padImgbWrite who t v
  else if o = 0x124 then d.padSfstWrite who t v
  else if o = 0x128 then d.latchRelease t v
  else if o = 0x12C then d.denyClear t v
  else if o = 0x130 then d.padLockWrite who t v
  else if o = 0x140 ∨ o = 0x144 then d.padCmpWrite who t ((o - 0x140) / 4) v
  else d

/-- A write of TB_CORR: TARGET, unless the Beyram link drives it (R320). -/
def Device.corrWrite (d : Device) (v : Nat) : Device :=
  if d.flag Reg.TB_CTRL 0 then d.tbDeny else d.setFld Reg.TB_CORR 0 16 v

/-- Event fabric, timebase and line phase (R330). -/
def Device.evfWrite (d : Device) (off v : Nat) : Device :=
  if off < 0x90200 then d.channelConfig ((off - 0x90000) / 4) v
  else if 0x90230 ≤ off ∧ off < 0x90240 then d.channelFire ((off - 0x90230) / 4) v
  else if 0x90300 ≤ off ∧ off < 0x90340 then d.groupWrite ((off - 0x90300) / 4) v
  else if off = Reg.EVF_SWI then d.softInterrupt (v % 512)
  else if off = Reg.TB_CORR then d.corrWrite v
  else if off = Reg.TB_STEP then d.tbStepWrite v
  else if off = Reg.TB_CTRL then d.tbCtrlWrite v
  else if 0x91180 ≤ off ∧ off < 0x911C0 then d.tbPerWrite ((off - 0x91180) / 4) v
  else if off = Reg.LPT_CFG then d.lptCfgWrite v
  else if off = Reg.LPT_STAT then d.lptStatWrite v
  else d.regStore off v

/-- A write of SCN_MNT (R366). -/
def Device.mntWrite (d : Device) (w : Writer) (v : Nat) : Device :=
  if v % 8 = 0 then d.maintRelease (Writer.who w) else d.maintRequest (Writer.who w) (v % 8)

/-- A write of SCN_CKPT (R363). -/
def Device.ckptWrite (d : Device) (w : Writer) (v : Nat) : Device :=
  if v % 4 = 1 ∨ v % 4 = 2 then d.captureStart (Writer.who w) (v % 4 == 2) (bitsOf v 4 4) else d

/-- Scan sequencer and manifest unit (R367). -/
def Device.scnWrite (d : Device) (w : Writer) (off v : Nat) : Device :=
  if off = Reg.SCN_MNT then d.mntWrite w v
  else if off = Reg.SCN_CKPT then d.ckptWrite w v
  else if off = Reg.MFT_CLR then d.mftClear v
  else if 0xA0100 ≤ off ∧ off < 0xA0500 then
    let c := (off - 0xA0100) / 0x40
    let o := off % 0x40
    if o = 0 then d.clsWrite c (v &&& 0x7F73)
    else if o = 4 then d.clsFixed c fun e => e.regStore off v
    else if o = 0x34 then d.ovrClear c v
    else d.regStore off v
  else if 0xA1000 ≤ off ∧ off < 0xA1800 then d.berthReg ((off - 0xA1000) / 4) off v
  else d.regStore off v

/-- Beyram link and MACs (R409). -/
def Device.beyRegWrite (d : Device) (w : Writer) (off v : Nat) : Device :=
  if off = Reg.BEY_CFG then d.beyCfgWrite v
  else if off = Reg.BEY_CLR then d.beyCountClear v
  else if 0xC2800 ≤ off ∧ off < 0xC2900 then (if d.identity w = .secure then d.regStore off v else d)
  else match regIndex off (Reg.BEY_RXLSEQ 0) 0x20 64 with
    | some n => d.rxSeqWrite n v
    | none =>
      if off = Reg.NET_CFG 0 ∨ off = Reg.NET_CFG 1 then ((d.regStore off v).followRoutes d).followCmps d
      else d.regStore off v

/-- The bits of RMS_CFGn that read as their defaults and ignore writes (R436): BASE, ESC, RB, RE and EN of a fixed source, BASE and EN
of one whose base class is fixed. -/
def rmsFixed (n : Nat) : Nat := if n = 0x3A ∨ n = 0x3E then 0x177F else if n = 0x39 ∨ n = 0x3C then 0x1003 else 0

/-- A write of RMS_CFGn as its fixed bits leave it. -/
def rmsCfgValue (n v : Nat) : Nat := (v - (v &&& rmsFixed n)) ||| (rmsCfgDefault n &&& rmsFixed n)

/-- Ringmaster and Lighthouses (R440 to R454). -/
def Device.rmsWrite (d : Device) (w : Writer) (off v : Nat) : Device :=
  if off = Reg.RMS_CLEAR then d.sourceClear w (v % 256)
  else if off = Reg.RMS_INJ then d.faultInject w v
  else if off = Reg.RMS_RAISE then d.softwareRaise w v
  else if off = Reg.RMS_LOCK ∨ off = Reg.LHS_LOCK then d.lockWrite off v
  else if 0xE1000 ≤ off ∧ off < 0xE1800 ∧ off % 8 = 0 then d.regStore off (rmsCfgValue ((off - 0xE1000) / 8) v)
  else if off = Reg.CLK_MON then d.clkMonWrite v
  else if off = Reg.LHS_RCCLR then d.resetCountClear v
  else if 0xE8000 ≤ off ∧ off < 0xE8120 then
    let x := (off - 0xE8000) / 0x20
    let o := off % 0x20
    if o = 0 then d.lhsConfig x (v % 8)
    else if o = 0x10 then d.lhsServe w x v
    else d.regStore off v
  else d.regStore off v

/-- A write of NET_SNCTL (R415, R416, R431). -/
def Device.snCtlWrite (d : Device) (w : Writer) (v : Nat) : Device :=
  let d1 := if bitOf v 0 then d.pairRequest (bitOf v 1) else d
  let d2 := if bitOf v 2 then d1.unpairRequest else d1
  if bitOf v 3 then d2.resyncRequest (Writer.who w) else d2

/-- Safety Net (R434). -/
def Device.snWrite (d : Device) (w : Writer) (off v : Nat) : Device :=
  if off = Reg.NET_SNCFG then (d.snCfgWrite v).followRoutes d
  else if off = Reg.NET_SNCTL then d.snCtlWrite w v
  else if off = Reg.NET_SNID then d.snIdWrite v
  else if off = Reg.NET_SNCLR then (if bitOf v 0 then d.snCountClear else d)
  else match regIndex off (Reg.NET_SNRLEN 0) 0x10 16 with
    | some k => d.regionWrite k (d.rd64 (Reg.NET_SNREG k)) v (bitOf v 31)
    | none => d.regStore off v

/-- Core registers (R59 to R68). -/
def Device.carWrite (d : Device) (off v : Nat) : Device :=
  if off < 0x120000 then
    let c := (off - 0x100000) / 0x1000
    let o := off % 0x1000
    if d.cfg.cores ≤ c then d
    else if o = 0x10 then d.reclass c v
    else if o = 0x18 then d.parkReqWrite c v
    else if o = 0x24 then d.breachClear c v
    else if 0x100 ≤ o ∧ o < 0x140 then d.berthReg (16 * c + (o - 0x100) / 4) off v
    else d.regStore off v
  else d.regStore off v

/-- A write of QSP_TACL: secure writers only (R473). -/
def Device.taclWrite (d : Device) (w : Writer) (v : Nat) : Device :=
  if d.identity w ≠ .secure then d.qspDeny
  else if d.flag Reg.QSP_TACL 31 then d
  else d.wr Reg.QSP_TACL (v &&& 0x800007FF)

/-- Quayside (R473): some registers are written by the target port, some by berths. -/
def Device.qspWrite (d : Device) (w : Writer) (off v : Nat) : Device :=
  let host := match w with
    | .host _ => true
    | _ => false
  let berth := match w with
    | .berth _ => true
    | _ => false
  if off = Reg.QSP_TACL then d.taclWrite w v
  else if off = Reg.QSP_CMD then d.cmdWrite w v
  else if off = Reg.QSP_FEAT_ACCEPT2 then (if host then d.acceptWrite v else d)
  else if off = Reg.QSP_FEAT_DONE then (if host then d.featureDone v else d)
  else if off = Reg.QSP_H2D then (if host then d.mailboxH2d v else d)
  else if off = Reg.QSP_DBELL then (if host then d.doorbell v else d)
  else if off = Reg.QSP_D2H then (if berth then d.mailboxD2h v else d)
  else if off = Reg.QSP_HSWI then (if berth then d.hostSoft v else d)
  else d.regStore off v

/-! ### Rights of the debug registers (R505) -/

/-- The registers that a berth at MONITOR does not reach. -/
def dbgOutside (off : Nat) : Bool :=
  [Reg.DBG_HALT, Reg.DBG_RESUME, Reg.DBG_STEP, Reg.DBG_ITRSEL, Reg.DBG_ITR, Reg.DBG_CHAL, Reg.DBG_CHAL + 4, Reg.DBG_UNLK,
    Reg.DBG_UNLK + 4].contains off

/-- The registers that a berth at SUPERVISOR reaches: the rest raise PRIV. -/
def dbgSupervisor (off : Nat) : Bool :=
  [Reg.DBG_VTX, Reg.DBG_VRX, Reg.DBG_VTSTAT, Reg.DBG_TSW, Reg.DBG_TSTAT, Reg.DBG_TWP].contains off ||
  (decide (0x340000 ≤ off) && decide (off < 0x380000))

/-- The challenge and the response, which the Gangway reaches at every level. -/
def dbgAlways (off : Nat) : Bool :=
  [Reg.DBG_CHAL, Reg.DBG_CHAL + 4, Reg.DBG_UNLK, Reg.DBG_UNLK + 4].contains off

def dbgFull (off : Nat) : Bool := [Reg.DBG_HALT, Reg.DBG_RESUME, Reg.DBG_STEP, Reg.DBG_ITR].contains off

/-- A write of a debug register has an effect. -/
def Device.dbgWritable (d : Device) (w : Writer) (off : Nat) : Bool :=
  match w with
  | .berth b => if (d.berth b).pl = 2 then !dbgOutside off else (d.berth b).pl == 1 && dbgSupervisor off
  | .host s => s && (d.authFull || !dbgFull off)
  | .hostUser => false
  | .gangway => d.authFull || dbgAlways off

/-- A read of a debug register shows it. -/
def Device.dbgReadable (d : Device) (w : Writer) (off : Nat) : Bool :=
  match w with
  | .berth b => if (d.berth b).pl = 2 then !dbgOutside off else (d.berth b).pl == 1 && dbgSupervisor off
  | .host s => s
  | .hostUser => false
  | .gangway => decide (1 ≤ d.authLevel) || dbgAlways off

/-- A write of DBG_STEP names a berth of a halted core (R492); an absent one is counted (R34). DESIGN CHOICE
(notes/assumptions/68.md): a berth whose step has not ended takes no second one. -/
def Device.stepRequest (d : Device) (b : Nat) : Device :=
  if d.present b = false then d.countAbsent b
  else if d.coreHalted (coreOf b) && d.authFull && !(d.dbg.steps.any fun s => s.1 == b) then
    { d with dbg := { d.dbg with steps := d.dbg.steps ++ [(b, d.tbNow, false)] } }
  else d

/-- Cores of a mask. -/
def coresOf (v : Nat) : List Nat := setPositions 32 v

/-- Debug (R505). DBG_ITR is written through Machine/Feed.lean. -/
def Device.dbgWrite (d : Device) (w : Writer) (off v : Nat) : Device :=
  if d.dbgWritable w off = false then d
  else if off = Reg.DBG_HALT then d.haltWith 1 (coresOf v)
  else if off = Reg.DBG_RESUME then d.resumeRequest v
  else if off = Reg.DBG_STEP then d.stepRequest (v % 512)
  else if off = Reg.DBG_UNLKREQ then d.unlockRequest v
  else if off = Reg.DBG_VTX then d.vtxWrite v
  else if off = Reg.DBG_TSW then d.traceSoft (Writer.who w) v
  else if off = Reg.DBG_TCTL then d.tctlWrite v
  else d.regStore off v

/-! ### Writes -/

/-- A write of a 32-bit register at its full width. -/
def Device.cwWrite (d : Device) (w : Writer) (off v : Nat) : Device :=
  let v := v % 2 ^ 32
  if off < 0x10000 then d.pwrWrite w off v
  else if off < 0x40000 then d.bolWrite w off v
  else if off < 0x80000 then d.engWindow off v
  else if off < 0x90000 then d.padWrite w off v
  else if off < 0xA0000 then d.evfWrite off v
  else if off < 0xC0000 then d.scnWrite w off v
  else if off < 0xE0000 then d.beyRegWrite w off v
  else if off < 0xF0000 then d.rmsWrite w off v
  else if off < 0x100000 then d.snWrite w off v
  else if off < 0x200000 then d.carWrite off v
  else if off < 0x300000 then d.qspWrite w off v
  else if off < 0x340000 then d.dbgWrite w off v
  else d

/-- Both words of a 64-bit register by their access codes. -/
def Device.regStore64 (d : Device) (off v : Nat) : Device :=
  (d.regStore off (v % 2 ^ 32)).regStore (off + 4) (v / 2 ^ 32 % 2 ^ 32)

/-- A write of BOL_HADDR, in the requester's own instance (R209). -/
def Device.haddrWrite (d : Device) (w : Writer) (v : Nat) : Device :=
  if d.hostBolHere w = false then d
  else match w with
    | .gangway => { d with bol := { d.bol with gwAddr := v % 2 ^ 50 } }
    | _ => { d with bol := { d.bol with hostAddr := v % 2 ^ 50 } }

/-- A write of a 64-bit register at its full width. -/
def Device.cwWrite64 (d : Device) (w : Writer) (off v : Nat) : Device :=
  if off = Reg.BOL_HADDR then d.haddrWrite w v
  else if 0x91100 ≤ off ∧ off < 0x91180 then d.tbCmpWrite ((off - 0x91100) / 8) v
  else if off = Reg.QSP_MSIADDR then d.wr64 off (bitsOf v 2 46 * 4)
  else if 0xA0100 ≤ off ∧ off < 0xA0500 ∧ off % 0x40 = 8 then
    d.clsFixed ((off - 0xA0100) / 0x40) fun e => e.regStore64 off v
  else if 0x300000 ≤ off ∧ off < 0x340000 ∧ d.dbgWritable w off = false then d
  else if 0x100000 ≤ off ∧ off < 0x120000 ∧ 0x200 ≤ off % 0x1000 ∧ off % 0x1000 < 0x280 then
    (if (off - 0x100000) / 0x1000 < d.cfg.cores then
      d.tcmpWrite (16 * ((off - 0x100000) / 0x1000) + (off % 0x1000 - 0x200) / 8) v
    else d)
  else match regIndex off (Reg.NET_SNREG 0) 0x10 16 with
    | some k => d.regionWrite k v (d.rd (Reg.NET_SNRLEN k) % 2 ^ 31) (d.flag (Reg.NET_SNRLEN k) 31)
    | none => d.regStore64 off v

/-! ### What registers show -/

/-- OCX_FEAT0 to OCX_FEAT7 (Tables 3.10 to 3.17). -/
def feature (c : Straps) (n : Nat) : Nat :=
  let t := c.tiles
  match n with
  | 0 => 1 + 16 * c.qs.code + 2 ^ 8 * t + 2 ^ 12 * 4 + 2 ^ 16 * 16 + 2 ^ 21 * 8 + 2 ^ 25 * (2 * t)
  | 1 => 0x20 + 2 ^ 8 * (c.imageSize / 0x40000) + 2 ^ 16 * 0x20 + 2 ^ 24 * 0x80
  | 2 => 0x1FF + 2 ^ 9 * 4 + 2 ^ 12
  | 3 => 6 + 2 ^ 4 * 8 + 2 ^ 8 * 4 + 2 ^ 11 * 3 + 2 ^ 13 * 0x20 + 2 ^ 19 * 0x48
  | 4 => 0x80 + 2 ^ 8 * 0x40 + 2 ^ 16 * 0x40 + 2 ^ 24 * 8
  | 5 => 128 * t + 2 ^ 11 * 0x10 + 2 ^ 16 * 0x80 + 2 ^ 24 * 0x10
  | 6 => 2 + 2 ^ 2 + 2 ^ 4 * 2 + 2 ^ 6 + 2 ^ 7 + 2 ^ 8 + 2 ^ 10 * 0x80 + 2 ^ 18 + 2 ^ 19 + 2 ^ 20 * 0x10
  | 7 => bit01 (c.qs == .qs8) + 2 * 0x100 + 2 ^ 10 * 0xF
  | _ => 0

/-- BOL_WAITb, BOL_ENTn and BOL_ENTQn (Tables 6.8 and 6.9). -/
def Device.bolWaitReg (d : Device) (b : Nat) : Nat :=
  match (d.berth b).bolWait with
  | some (a, _) => a + 2 ^ 63
  | none => 0
def Device.bolEntReg (d : Device) (n : Nat) : Nat :=
  match d.bol.entries.get bolDefault n with
  | some e => e.addr + 2 ^ 60 * e.holder.agent + 2 ^ 63
  | none => 0
def Device.bolEntqReg (d : Device) (n : Nat) : Nat :=
  match d.bol.entries.get bolDefault n with
  | some e => (d.waiters e.addr).length + 2 ^ 16 * (d.firstWaiter e.addr).getD 0
  | none => 0

/-- BOL_ registers (Tables 6.5 to 6.9): the word at an offset. -/
def Device.bolView (d : Device) (w : Writer) (off : Nat) : Nat :=
  let gw := match w with
    | .gangway => true
    | _ => false
  let half (v : Nat) : Nat := if off % 8 = 0 then v % 2 ^ 32 else v / 2 ^ 32
  if off = Reg.BOL_STAT then setBits (d.rd off) 0 11 d.bolUsed
  else if off = Reg.BOL_HADDR ∨ off = Reg.BOL_HADDR + 4 then
    (if d.hostBolHere w then half (if gw then d.bol.gwAddr else d.bol.hostAddr) else 0)
  else if off = Reg.BOL_HST then (if d.hostBolHere w then (if gw then d.bol.gwStatus else d.bol.hostStatus) else 0)
  else if 0x12000 ≤ off ∧ off < 0x13000 then half (d.bolWaitReg ((off - 0x12000) / 8))
  else if 0x18000 ≤ off ∧ off < 0x1C000 then
    let n := (off - 0x18000) / 16
    if off % 16 < 8 then half (d.bolEntReg n) else if off % 16 = 8 then d.bolEntqReg n else 0
  else d.rd off

/-- PAD_ registers (Tables 9.8 to 9.12). -/
def Device.padView (d : Device) (off : Nat) : Nat :=
  let t := (off - 0x80000) / 0x1000
  let o := off % 0x1000
  if off = Reg.PAD_INCONF then d.rd off
  else if d.cfg.tiles ≤ t then 0
  else if o = 0x104 then d.padInWord t
  else if 0x108 ≤ o ∧ o < 0x118 then d.padFsel t ((o - 0x108) / 4)
  else if o = 0x12C then setBits (d.rd off) 16 1 (bit01 (d.bank t == .high33))
  else if o = 0x128 then d.rd off % 2
  else d.rd off

/-- Engine registers through the window (R236, R255). -/
def Device.engView (d : Device) (off : Nat) : Nat :=
  let e := (off - 0x40000) / 0x1000
  let o := off % 0x1000
  if o < 0x100 then d.engPeek e (o / 4)
  else if o < 0x200 ∧ d.engPresent e then (d.engine e).prog.get (fun _ => 0) ((o - 0x100) / 4)
  else 0

/-- EVF_LEVELw (R313). -/
def Device.evfLevel (d : Device) (w : Nat) : Nat :=
  (List.range 32).foldl (fun m k => if d.chLevel (32 * w + k) then m + 2 ^ k else m) 0

/-- Event fabric, timebase and line phase. -/
def Device.evfView (d : Device) (off : Nat) : Nat :=
  if 0x90200 ≤ off ∧ off < 0x90210 then d.evfLevel ((off - 0x90200) / 4)
  else if off = Reg.TB_NOW then d.tbNow % 2 ^ 32
  else if off = Reg.TB_NOW + 4 then d.tbNow / 2 ^ 32
  else if off = Reg.LPT_PH then d.phaseWord
  else d.rd off

/-- SCN_MNTST of a requester (R366, Table 11.14). -/
def Device.mntView (d : Device) (w : Writer) : Nat :=
  d.scn.results.get (fun _ => 0) (Writer.who w) % 16 + match d.scn.gate with
    | some g => 256 * g.activity + 65536 * g.holder
    | none => 0

/-- Scan sequencer and manifest unit. -/
def Device.scnView (d : Device) (w : Writer) (off : Nat) : Nat :=
  if off = Reg.SCN_MNTST then d.mntView w
  else if 0xA1000 ≤ off ∧ off < 0xA1800 then d.bindWord ((off - 0xA1000) / 4)
  else if off = Reg.MFT_STAT then d.mftStat
  else if 0xB0100 ≤ off ∧ off < 0xB0140 then d.mftHandle ((off - 0xB0100) / 4)
  else d.rd off

/-- RMS_SUMw. -/
def Device.rmsSum (d : Device) (w : Nat) : Nat :=
  (List.range 32).foldl (fun m k => if 2 ≤ d.rmsClass (32 * w + k) then m + 2 ^ k else m) 0

/-- Ringmaster and Lighthouses (Tables 14.4 to 14.7). -/
def Device.rmsView (d : Device) (off : Nat) : Nat :=
  if off = Reg.RMS_STAT then
    let worst := (List.range 256).foldl (fun m n => max m (d.rmsClass n)) 0
    setBits (setBits (d.rd off) 0 1 (bit01 d.faultLow)) 1 3 worst
  else if off = Reg.RMS_LOG then
    setBits (d.rd off) 10 6 (d.rms.queue.filter fun i => i != .count).length
  else if 0xE0040 ≤ off ∧ off < 0xE0060 then d.rmsSum ((off - 0xE0040) / 4)
  else if off = Reg.LHS_RSTCNT then d.resetCount
  else if off = Reg.CLK_MON then d.clkMon
  else d.rd off

/-- Beyram link and MACs (Table 12.16). Whether an enabled MAC's link is up, which the PHY decides and no command reports, is a
free value (notes/assumptions/40.md). -/
def Device.beyView (d : Device) (off : Nat) : Nat :=
  if off = Reg.NET_STAT 0 ∧ d.flag (Reg.NET_CFG 0) 0 then setBits (d.rd off) 0 1 (bit01 (Config.freeLevel d.draws))
  else if off = Reg.NET_STAT 1 ∧ d.flag (Reg.NET_CFG 1) 0 then setBits (d.rd off) 0 1 (bit01 (Config.freeLevel (d.draws + 1)))
  else d.rd off

/-- Safety Net (Table 13.8). -/
def Device.snView (d : Device) (off : Nat) : Nat :=
  if off = Reg.NET_SNSTAT then
    setBits (setBits (setBits (d.rd off) 7 1 (bit01 d.psense)) 8 1 (bit01 d.snPoe)) 9 2 (min d.snLag 3)
  else d.rd off

/-- Core registers (Tables 2.5 to 2.13). -/
def Device.carView (d : Device) (off : Nat) : Nat :=
  if off < 0x120000 then
    let c := (off - 0x100000) / 0x1000
    let o := off % 0x1000
    if o = 0 then d.carStat c
    else if o = 8 then d.slotMap c % 2 ^ 32
    else if o = 0xC then d.slotMap c / 2 ^ 32
    else if 0x140 ≤ o ∧ o < 0x180 then d.bstat (16 * c + (o - 0x140) / 4)
    else d.rd off
  else d.rd off

/-- Quayside (Tables 15.8 to 15.10). -/
def Device.qspView (d : Device) (off : Nat) : Nat :=
  if off = Reg.QSP_FEAT_OFFER 0 then feature d.cfg 0
  else if off = Reg.QSP_FEAT_OFFER 1 then feature d.cfg 1
  else if off = Reg.QSP_FEAT_OFFER 2 then hostOffer
  else if off = Reg.QSP_FEAT_OFFER 4 then d.cfg.devid.toNat % 2 ^ 32
  else if off = Reg.QSP_FEAT_OFFER 5 then d.cfg.devid.toNat / 2 ^ 32
  else if off = Reg.QSP_BOOTADDR then d.cfg.bootAddr.toNat % 2 ^ 32
  else if off = Reg.QSP_BOOTADDR + 4 then d.cfg.bootAddr.toNat / 2 ^ 32 + 2 ^ 31 * bit01 d.cfg.bootEn
  else if off = Reg.QSP_H2D ∨ off = Reg.QSP_D2H then (if d.hostFeature 3 then d.rd off else 0)
  else d.rd off

/-- DBG_CSTATc.QUIET: the core is halted and none of its operations is in flight, as MEM_INFLT counts them, nor waits for an entry
(R488). -/
def Device.quiet (d : Device) (c : Nat) : Bool :=
  d.coreHalted c && (List.range' (16 * c) 16).all fun b =>
    (d.berth b).loadUse == 0 && (d.berth b).stores.isEmpty && (d.berth b).writes.isEmpty &&
    (d.dbg.fed != some b || d.dbg.fedWait == .none)

/-- Debug registers (Tables 16.10 to 16.13) and the trace buffer (R498). -/
def Device.dbgView (d : Device) (off : Nat) : Nat :=
  if off = Reg.DBG_STAT then setBits (d.rd off) 2 1 (bit01 d.dbgDomain)
  else if off = Reg.DBG_VTSTAT then setBits (setBits (d.rd off) 0 7 d.dbg.vtx.length) 8 7 d.dbg.vrx.length
  else if 0x300100 ≤ off ∧ off < 0x300180 then
    setBits (d.rd off) 3 1 (bit01 (d.quiet ((off - 0x300100) / 4)))
  else if 0x340000 ≤ off ∧ off < 0x380000 then d.value (windowBase + off) 4
  else d.rd off

/-- The word that a register shows at an offset of the window; zero where no register stands (R13). -/
def Device.cwView (d : Device) (w : Writer) (off : Nat) : Nat :=
  if 0x1000 ≤ off ∧ off < 0x1020 then feature d.cfg ((off - 0x1000) / 4)
  else if 0x40000 ≤ off ∧ off < 0x80000 then d.engView off
  else if 0xF00000 ≤ off ∧ off < 0xF40000 then
    leValue ((List.range 4).map fun i => Config.bootRomByte (off - 0xF00000 + i))
  else if 0x340000 ≤ off ∧ off < 0x380000 then (if d.dbgReadable w off then d.dbgView off else 0)
  else match regFind off with
    | none => 0
    | some (r, p) =>
      if d.regHere off = false ∨ (r.hid / 2 ^ (8 * p)) % 2 ^ 32 ≠ 0 then 0
      else if off < 0x10000 then
        (if off = Reg.PWR_STAT then setBits (setBits (d.rd off) 0 4 d.mode.code) 4 4 d.prev.code
         else if off = Reg.MEM_INFLT then setBits (d.rd off) 0 13 d.inflight
         else if off = Reg.MEM_SCRUBSTAT then setBits (d.rd off) 16 1 (bit01 !d.scrubbers.isEmpty)
         else d.rd off)
      else if off < 0x40000 then d.bolView w off
      else if off < 0x90000 then d.padView off
      else if off < 0xA0000 then d.evfView off
      else if off < 0xC0000 then d.scnView w off
      else if off < 0xE0000 then d.beyView off
      else if off < 0xF0000 then d.rmsView off
      else if off < 0x100000 then d.snView off
      else if off < 0x200000 then d.carView off
      else if off < 0x300000 then d.qspView off
      else if d.dbgReadable w off = false then 0
      else d.dbgView off

/-- A read of a 32-bit register at its full width: the oldest byte of DBG_VRX leaves its queue, but for the Gangway (R484,
R497). A 64-bit register reads zero (R12). -/
def Device.cwRead (d : Device) (w : Writer) (off : Nat) : Nat × Device :=
  if reg64 off then (0, d)
  else if off = Reg.DBG_VRX then
    (if d.dbgReadable w off = false ∨ w = .gangway then (0, d) else d.vrxRead)
  else (d.cwView w off, d)

/-- A read of a 64-bit register at its full width: one of DBG_CHAL replaces the challenge (R482). -/
def Device.cwRead64 (d : Device) (w : Writer) (off : Nat) : Nat × Device :=
  if off = Reg.DBG_CHAL then (if d.dbgReadable w off then d.newChallenge else (0, d))
  else (d.cwView w off + 2 ^ 32 * d.cwView w (off + 4), d)

end Sys2Proof.Machine
end

