-- ==== Sys2Proof/Machine/Access.lean ====
section
/-! DEFINITION. A berth's accesses (R80 to R85, R148 to R152): the checks of an address, the load queue and the store buffer
(R44, R45, R172, R173, R528), and the berth's requests on the initiator port (R463 to R465). -/

namespace Sys2Proof.Machine

/-! ### Checks -/

/-- An address of the control window. -/
def inWindow (a : Nat) : Bool := decide (windowBase ≤ a) && decide (a < windowBase + 0x1000000)

/-- A byte of the Image Store is readable at a level (Table 5.4). -/
def imageReadable (c : Straps) (level off : Nat) : Bool := decide (off < 4 * c.imageS) || decide (1 ≤ level)

/-- An access of `n` bytes at an address, formed by berth b at a level: its place, or the exception code (Table 3.8) that
prevails by R96. A berth's rights in the debug registers are those of R505. -/
def Device.access (d : Device) (b level a n : Nat) (write : Bool) : Except Nat Place :=
  let off := a - windowBase
  if inWindow a ∧ (level = 0 ∨ (level = 1 ∧ 0x300000 ≤ off ∧ off < 0x380000 ∧ dbgSupervisor off = false)) then .error 2
  else if a % n ≠ 0 then .error 3
  else match placeOf d.cfg (some (tileOf b)) a with
    | none => .error 4
    | some p =>
      let ok := match p with
        | .sram _ _ => true
        | .image o => if write then imageWritable d.cfg o else imageReadable d.cfg level o
        | .imageBit k => n == 4 && (if write then imageWritable d.cfg (k / 8) else imageReadable d.cfg level (k / 8))
        | .retained o => !write || (decide (1 ≤ level) && decide (0x10000 ≤ o))
        | .window o => !(write && decide (0xF00000 ≤ o) && decide (o < 0xF40000))
        | .external _ => true
      if ok then .ok p else .error 4

/-- The word of memory that a place belongs to, as R173 orders accesses: an image bit belongs to its Image Store word. -/
def Place.word : Place → Nat
  | .sram t o => (sramBase t + o) / 4
  | .image o => (imageBase + o) / 4
  | .imageBit k => (imageBase + k / 8) / 4
  | .retained o => (retainedBase + o) / 4
  | .window o => (windowBase + o) / 4
  | .external a => (2 ^ 49 + a) / 4

/-- The address of the SECDED word that a place reads, where it lies in a memory. -/
def Place.eccAddr : Place → Option Nat
  | .imageBit k => some (bitAddr k)
  | p => p.global

/-- A read of the place meets an uncorrectable error. -/
def Device.ueAt (d : Device) (p : Place) : Bool :=
  match p.eccAddr with
  | some g => d.eccAt g == .uncorrectable
  | none => false

/-- A word store of berth b to LHS_SERVEx that its level forbids is refused, and counted, as a serve too (R450). -/
def Device.serveRefused (d : Device) (b a v : Nat) : Device :=
  let off := a - windowBase
  if windowBase ≤ a ∧ 0xE8000 ≤ off ∧ off < 0xE8120 ∧ off % 0x20 = 0x10 then d.lhsServe (.berth b) ((off - 0xE8000) / 0x20) v else d

/-- The place of an address as berth b forms it; absent addresses never reach a queue. -/
def Device.placeFor (d : Device) (b a : Nat) : Place := (placeOf d.cfg (some (tileOf b)) a).getD (.external 0)

/-! ### Performing a load and a store -/

/-- An offset of the boot ROM (R152). -/
def inBootRom (o : Nat) : Bool := decide (0xF00000 ≤ o) && decide (o < 0xF40000)

/-- The value of `n` bytes of the boot ROM (R152). -/
def bootRomValue (o n : Nat) : Nat := leValue ((List.range n).map fun i => Config.bootRomByte (o - 0xF00000 + i))

/-- The value a load of `n` bytes delivers before extension; none where the word is uncorrectable. A read of a register narrower
than a word returns zero (R12); the boot ROM is memory (R152). -/
def Device.loadFrom (d : Device) (b a n : Nat) : Option Nat × Device :=
  match d.placeFor b a with
  | .imageBit k =>
    let r := d.checkRead 0 (bitAddr k)
    (if r.1 then some (bit01 (d.imageBit k)) else none, r.2)
  | .window o =>
    if inBootRom o then (some (bootRomValue o n), d)
    else if n = 4 then (some (d.cwRead (.berth b) o).1, (d.cwRead (.berth b) o).2) else (some 0, d)
  | .external _ => (none, d)
  | p => d.memRead 0 (p.global.getD 0) n

/-- The word that a load delivers (R121). -/
def extend (n : Nat) (signed : Bool) (v : Nat) : Word :=
  if signed then BitVec.ofInt 32 (signedOf (8 * n) v) else BitVec.ofNat 32 (v % 2 ^ (8 * n))

/-- A store of `n` bytes takes effect on chip; one narrower than a register has no effect on it (R12). -/
def Device.storeTo (d : Device) (b a n v : Nat) : Device :=
  match d.placeFor b a with
  | .imageBit k => d.setImageBit 0 k (bitOf v 0)
  | .window o => if n = 4 ∧ reg64 o = false then d.cwWrite (.berth b) o v else d
  | .external _ => d
  | p => d.memWrite 0 1 (p.global.getD 0) (leBytes n v)

/-! ### The queues -/

def LoadEntry.place (d : Device) (b : Nat) (e : LoadEntry) : Option Place :=
  match e.src with
  | .memory a _ _ => some (d.placeFor b a)
  | .value _ => none

def StoreEntry.place (d : Device) (b : Nat) (e : StoreEntry) : Place := d.placeFor b e.addr

def Place.isExternal : Place → Bool
  | .external _ => true
  | _ => false

/-- A load of the berth is outstanding on the initiator port. -/
def Device.externalLoads (d : Device) (b : Nat) : List LoadEntry :=
  (d.berth b).loads.filter fun e => match LoadEntry.place d b e with
    | some p => p.isExternal
    | none => false

/-- Free entries of a core's pool of one queue (R44, R45): those that are neither static shares, nor free minimums of 4, nor drawn
by a free berth beyond its minimum; `lo` is the share's place in CAR_BCFGb. -/
def Device.poolRoom (d : Device) (c lo : Nat) (use : Berth → Nat) : Nat :=
  let all := List.range' (16 * c) 16
  let free := all.filter fun b => !d.timed b
  let fixed := (all.filter d.timed).foldl (fun m b => m + d.fld (Reg.CAR_BCFG c (b % 16)) lo 6) (4 * free.length)
  let drawn := free.foldl (fun m b => m + (use (d.berth b) - 4)) 0
  64 - (drawn + fixed)

/-- Free berths of a core that wait for an entry of its pool. -/
def Device.poolWaiters (d : Device) (c lo : Nat) : List Nat :=
  (if lo = 14 then d.car.needLoad else d.car.needStore).filter fun b => coreOf b == c && !d.timed b && !d.parkAsked b

/-- An entry of the pool falls to the berth (R45): the waiting free berths of higher effective priority take theirs first, and a
berth that does not wait yet comes after all that do. -/
def Device.poolTurn (d : Device) (b lo room : Nat) : Bool :=
  let ws := d.poolWaiters (coreOf b) lo
  if ws.contains b then decide ((ws.filter fun x => decide (d.eprio b < d.eprio x)).length < room)
  else decide (ws.length < room)

/-- The berth waits for an entry of its core's pool (R45); a timed berth uses its own share only. -/
def Device.needEntry (d : Device) (b : Nat) (store : Bool) : Device :=
  if d.timed b then d
  else if store then { d with car := { d.car with needStore := d.car.needStore.filter (· != b) ++ [b] } }
  else { d with car := { d.car with needLoad := d.car.needLoad.filter (· != b) ++ [b] } }

/-- The berth may take one more entry of a queue (R45). -/
def Device.entryFree (d : Device) (b lo : Nat) (use : Berth → Nat) : Bool :=
  let n := use (d.berth b)
  if d.timed b then decide (n < d.fld (Reg.CAR_BCFG (coreOf b) (b % 16)) lo 6)
  else decide (n < 4) || d.poolTurn b lo (d.poolRoom (coreOf b) lo use)

def Device.loadFree (d : Device) (b : Nat) : Bool := d.entryFree b 14 Berth.loadUse
def Device.storeFree (d : Device) (b : Nat) : Bool := d.entryFree b 20 fun x => x.stores.length

/-- A new load-queue entry for a register of the current window. -/
def Device.pushLoad (d : Device) (b rd : Nat) (src : LoadSource) (rescue : Option Rescue) : Device :=
  let x := d.berth b
  let p := physReg x.cwp rd
  d.setBerth b { x with
    loads := x.loads ++ [⟨if p = 0 then none else some p, src, x.pc, x.seq, rescue, false⟩], seq := x.seq + 1 }

/-- A new store-buffer entry. -/
def Device.pushStore (d : Device) (b level a n v : Nat) : Device :=
  let x := d.berth b
  d.setBerth b { x with stores := x.stores ++ [⟨a, n, v % 2 ^ (8 * n), x.seq, level, false⟩], seq := x.seq + 1 }

/-- The result of a load in flight reaches its register, here and in what younger external loads would restore. -/
def Berth.deliver (x : Berth) (seq : Nat) (v : Word) : Berth :=
  let out := (x.loads.filter fun e => e.seq == seq).foldl (fun (y : Berth) e => match e.dest with
    | some p => y.setPhys p v
    | none => y) x
  let keep := (out.loads.filter fun e => e.seq != seq).map fun e =>
    match e.rescue with
    | some r => { e with rescue := some { r with
        gpr := (r.pend.filter fun q => q.1 == seq).foldl (fun g q => g.put (fun _ => 0) q.2 v) r.gpr } }
    | none => e
  { out with loads := keep }

def Berth.dropStore (x : Berth) (seq : Nat) : Berth := { x with stores := x.stores.filter fun e => e.seq != seq }

/-! ### Performed on chip (R172, R173, R528) -/

/-- A load in flight may be performed: no older load of the berth to the same memory and no older store of it to the same word
waits (R173). -/
def Device.loadReady (d : Device) (b : Nat) (e : LoadEntry) : Bool :=
  match LoadEntry.place d b e with
  | none => true
  | some p => !p.isExternal &&
    ((d.berth b).loads.all fun f => decide (e.seq ≤ f.seq) || match LoadEntry.place d b f with
      | some q => q.memory != p.memory
      | none => true) &&
    (d.berth b).stores.all fun s => decide (e.seq < s.seq) || (StoreEntry.place d b s).word != p.word

/-- A store may be performed: no older store to the same memory waits, no older load of the same word (R173), and no older load
of the berth that could still fault (R100). -/
def Device.storeReady (d : Device) (b : Nat) (s : StoreEntry) : Bool :=
  let p := StoreEntry.place d b s
  !p.isExternal &&
  ((d.berth b).stores.all fun t => decide (s.seq ≤ t.seq) || (StoreEntry.place d b t).memory != p.memory) &&
  (d.berth b).loads.all fun e => decide (s.seq < e.seq) || match LoadEntry.place d b e with
    | some q => !q.isExternal && q.word != p.word
    | none => true

/-- The value of a load is fixed: an on-chip one is read now. An uncorrectable word, found clean at issue, delivers nothing. -/
def Device.fixLoad (d : Device) (b : Nat) (e : LoadEntry) : Option Word × Device :=
  match e.src with
  | .value v => (some v, d)
  | .memory a n sg =>
    let r := d.loadFrom b a n
    (r.1.map (extend n sg), r.2)

/-- The store of a berth takes effect and its entry is freed. -/
def Device.doStore (d : Device) (b : Nat) (s : StoreEntry) : Device :=
  let d1 := d.setBerth b ((d.berth b).dropStore s.seq)
  (d1.storeTo b s.addr s.size s.value).settlePark b

/-! ### Trace of data (R498, Table 16.9) -/

/-- FLOW and DATA packets come from this berth. -/
def Device.tracedBerth (d : Device) (b : Nat) : Bool := d.flag Reg.DBG_TFILT 9 || d.fld Reg.DBG_TFILT 0 9 == b

/-- A DATA packet: the operation's bytes on their lanes of the aligned word, with the byte enables. -/
def Device.traceData (d : Device) (b kind a n v : Nat) : Device :=
  if d.flag Reg.DBG_TCTL 3 && d.tracedBerth b then
    d.record 0x03 kind b (leBytes 8 a ++ leBytes 4 (v % 2 ^ (8 * n) * 2 ^ (8 * (a % 4))) ++ leBytes 4 ((2 ^ n - 1) * 2 ^ (a % 4)))
  else d

/-- The DATA packet of a load that is performed now; one performed before has had it. -/
def Device.traceLoad (d : Device) (b : Nat) (e : LoadEntry) (v : Option Word) : Device :=
  match e.src, v with
  | .memory a n _, some v => d.traceData b 1 a n v.toNat
  | _, _ => d

/-- An on-chip operation of the berth by its place in program order: a load (its value is fixed and stays in the queue) or a
store. -/
def Device.performSeq (d : Device) (b seq : Nat) : Device :=
  match (d.berth b).loads.find? fun e => e.seq == seq with
  | some e =>
    let r := d.fixLoad b e
    let x := r.2.berth b
    let d1 := r.2.setBerth b { x with loads := x.loads.map fun f =>
      if f.seq = seq then { f with src := .value (r.1.getD (((f.dest).map x.phys).getD 0)) } else f }
    d1.traceLoad b e r.1
  | none => match (d.berth b).stores.find? fun s => s.seq == seq with
    | some s => d.doStore b s
    | none => d

def insertSorted (n : Nat) : List Nat → List Nat
  | [] => [n]
  | m :: r => if n ≤ m then n :: m :: r else m :: insertSorted n r

/-- The berth's operations to some memories, in program order. -/
def Device.opsIn (d : Device) (b : Nat) (sel : Nat → Bool) : List Nat :=
  let ls := ((d.berth b).loads.filter fun e => match LoadEntry.place d b e with
    | some p => sel p.memory
    | none => false).map LoadEntry.seq
  let ss := ((d.berth b).stores.filter fun s => sel (StoreEntry.place d b s).memory).map StoreEntry.seq
  (ls ++ ss).foldl (fun m n => insertSorted n m) []

/-- Every operation of the berth in flight to some memories is performed, in program order. -/
def Device.drain (d : Device) (b : Nat) (sel : Nat → Bool) : Device := (d.opsIn b sel).foldl (fun e n => e.performSeq b n) d

/-- Everything of the berth that is in flight on chip is performed and delivered (R100: at an exception's entry every earlier
instruction has completed). -/
def Device.finish (d : Device) (b : Nat) : Device :=
  let d1 := d.drain b fun m => m != 11
  let vs := (d1.berth b).loads.filterMap fun e => match e.src with
    | .value v => some (e.seq, v)
    | _ => none
  d1.setBerth b (vs.foldl (fun (x : Berth) q => x.deliver q.1 q.2) (d1.berth b)).unstall

/-! ### Returns -/

/-- LOAD_RETURN (R123, R173): the load that stands at a place of the berth's load queue, if it may be performed; its result is
written to its destination and the entry freed. -/
def Device.loadReturn (d : Device) (b i : Nat) : Device :=
  match (d.berth b).loads[i]? with
  | none => d
  | some e =>
    if d.loadReady b e = false then d
    else
      let r := d.fixLoad b e
      let x := r.2.berth b
      let d1 := match r.1 with
        | some v => r.2.setBerth b (x.deliver e.seq v)
        | none => r.2.setBerth b { x with loads := x.loads.filter fun f => f.seq != e.seq }
      (d1.traceLoad b e r.1).settlePark b

/-- STORE_PERFORMED (R528): the store at a place of the berth's store buffer, if it may be performed. -/
def Device.storePerformed (d : Device) (b i : Nat) : Device :=
  match (d.berth b).stores[i]? with
  | none => d
  | some s => if d.storeReady b s then d.doStore b s else d

/-! ### The initiator port (R463, R464) -/

/-- A request of the berth to the 32-byte beat of an external address is outstanding. -/
def Device.beatBusy (d : Device) (b a : Nat) : Bool :=
  d.qsp.requests.any fun r => r.addr / 32 == a % 2 ^ 48 / 32 && match r.owner with
    | .load c _ => c == b
    | .store c _ => c == b
    | .stack c _ => c == b
    | .fetch c => c == b
    | .msi => false
    | .image _ => false

/-- A store of the berth waits to be sent. -/
def Device.unsent (d : Device) (b : Nat) : Bool :=
  !(d.berth b).writes.isEmpty || (d.berth b).stores.any fun s => (StoreEntry.place d b s).isExternal && !s.sent

/-- The berth's external stores leave in program order, as far as they may. -/
def Device.sendStores (d : Device) (b : Nat) : Device :=
  let rec go (d : Device) : List StoreEntry → Device
    | [] => d
    | s :: r =>
      if (StoreEntry.place d b s).isExternal = false ∨ s.sent then go d r
      else if d.portFree = false ∨ d.beatBusy b s.addr ∨ (d.externalLoads b).any fun e => decide (e.seq < s.seq) then d
      else
        let x := d.berth b
        let d1 := d.setBerth b { x with stores := x.stores.map fun t => if t.seq = s.seq then { t with sent := true } else t }
        go (d1.sendRequest (.single (.store b s.seq) (s.addr % 2 ^ 48) s.size true s.value s.level)) r
  go d (d.berth b).stores

/-- The external stack words of a call or an exception's entry take store-buffer entries as far as they are free, and leave (R45, R177,
R463). -/
def Device.pushWrites (d : Device) (b : Nat) : Device :=
  let rec go (d : Device) : List (Nat × Nat × Nat) → Device
    | [] => d
    | (a, v, l) :: r =>
      if d.storeFree b = false then d.needEntry b true
      else go ((d.setBerth b { d.berth b with writes := r }).pushStore b l a 4 v) r
  if (d.berth b).writes.isEmpty then d else ((d.dropNeed b) |> fun e => go e (e.berth b).writes).sendStores b

/-- The reads of external stack words that the berth has asked for leave in order, behind its stores, as far as they may (R464). -/
def Device.sendReads (d : Device) (b : Nat) : Device :=
  let rec go (d : Device) : List StackRead → Device
    | [] => d
    | s :: r =>
      if s.sent then go d r
      else if d.portFree = false ∨ d.beatBusy b s.addr ∨ d.unsent b then d
      else
        let x := d.berth b
        let d1 := d.setBerth b { x with reads := x.reads.map fun t => if t.addr = s.addr then { t with sent := true } else t }
        go (d1.sendRequest (.single (.stack b s.addr) (s.addr % 2 ^ 48) 4 false 0 s.level)) r
  go d (d.berth b).reads

/-- The berth asks for external stack words that it has not asked for yet (R73, R78, R463). -/
def Device.askWords (d : Device) (b level : Nat) (as : List Nat) : Device :=
  let x := d.berth b
  let new := (as.filter fun a => !(x.reads.any fun r => r.addr == a)).map fun a => ⟨a, level, false, none⟩
  (d.setBerth b { x with reads := x.reads ++ new }).sendReads b

/-- Among some stack words of the berth, the external ones that have still to arrive. -/
def Device.wordsWanted (d : Device) (b : Nat) (as : List Nat) : List Nat :=
  as.filter fun a => (d.placeFor b a).isExternal && !((d.berth b).reads.any fun r => r.addr == a && r.value.isSome)

/-- The external beats that an instruction at some halfword addresses still has to fetch, by address / 32 (R463). -/
def Device.beatsWanted (d : Device) (b : Nat) (as : List Nat) : List Nat :=
  ((as.filter fun a => (d.placeFor b a).isExternal).map (· / 32)).filter fun k => !(d.berth b).beats.contains k

/-- A fetch of the berth sends a read of the aligned beat that contains its address (R463), behind the berth's earlier requests
(R464). -/
def Device.askFetch (d : Device) (b level : Nat) (ks : List Nat) : Device :=
  ks.foldl (fun e k =>
    if e.portFree = false ∨ e.beatBusy b (32 * k) ∨ e.unsent b then e
    else e.sendRequest (.single (.fetch b) (32 * k % 2 ^ 48) 32 false 0 level)) d

/-- Stack words that waited for store-buffer entries take those that have come free. -/
def Device.writesIdle (d : Device) : Device :=
  d.berths.foldl (fun e p => if p.2.writes.isEmpty then e else e.pushWrites p.1) d

/-- Every berth's waiting external stores and stack reads, the waiting MSI writes, and the reads of a program image leave as far as they
may. -/
def Device.sendAll (d : Device) : Device :=
  ((d.berths.map Prod.fst).foldl (fun e b =>
    let e1 := if e.unsent b then (e.pushWrites b).sendStores b else e
    if (e1.berth b).reads.any fun r => !r.sent then e1.sendReads b else e1) d).sendMsi.sendImage

end Sys2Proof.Machine
end

