-- ==== Sys2Proof/Machine/Entry.lean ====
section
/-! DEFINITION. The window file in memory (R71 to R75), the call record (R76 to R79), taking an exception (R94 to R102) and
taking an interrupt (R93). -/

namespace Sys2Proof.Machine

/-! ### Stack memory: call records, spills and refills (R80) -/

/-- The address of an offset that SBANK extends. -/
def Berth.stackAddr (x : Berth) (off : Nat) : Nat := x.srN 7 * 2 ^ 32 + off % 2 ^ 32

/-- The addresses of the `k` words from an offset. -/
def Berth.stackWords (x : Berth) (off k : Nat) : List Nat := (List.range k).map fun i => x.stackAddr (off + 4 * i)

/-- The code of the first word of the stack that may not be accessed at a level. -/
def Device.stackCheck (d : Device) (b level off k : Nat) (write : Bool) : Option Nat :=
  ((d.berth b).stackWords off k).findSome? fun a => match d.access b level a 4 write with
    | .error c => some c
    | .ok _ => none

/-- The first word whose read meets an uncorrectable error. -/
def Device.stackUe (d : Device) (b off k : Nat) : Option Nat :=
  ((d.berth b).stackWords off k).find? fun a => d.ueAt (d.placeFor b a)

/-- Two words of the stack are written at a level; a memory takes them as one 8-byte word where they are one. Words of the external
region become stores of the berth, as its store-buffer entries come free (R45, R177), which leave through the initiator port (R150,
R463). -/
def Device.stackPair (d : Device) (b level a0 a1 v0 v1 : Nat) : Device :=
  match d.placeFor b a0 with
  | .external _ =>
    let x := d.berth b
    d.setBerth b { x with writes := x.writes ++ [(a0, v0, level), (a1, v1, level)] }
  | .window _ => (d.storeTo b a0 4 v0).storeTo b a1 4 v1
  | .imageBit _ => (d.storeTo b a0 4 v0).storeTo b a1 4 v1
  | p => if a0 % 8 = 0 ∧ a1 = a0 + 4 then d.memWrite 0 1 (p.global.getD 0) (leBytes 4 v0 ++ leBytes 4 v1)
         else (d.storeTo b a0 4 v0).storeTo b a1 4 v1

/-- Words are written to the stack from an offset, at a level. -/
def Device.stackWrite (d : Device) (b level off : Nat) : List Nat → Device
  | v0 :: v1 :: r =>
    let x := d.berth b
    Device.stackWrite (d.stackPair b level (x.stackAddr off) (x.stackAddr (off + 4)) v0 v1) b level (off + 8) r
  | _ => d.pushWrites b

/-- One word of the stack is read; one of the external region has arrived by then (Device.wordsWanted). -/
def Device.stackRead1 (d : Device) (b a : Nat) : Nat × Device :=
  match d.placeFor b a with
  | .external _ => ((((d.berth b).reads.find? fun r => r.addr == a).bind StackRead.value).getD 0, d)
  | _ => let r := d.loadFrom b a 4; (r.1.getD 0, r.2)

/-- Words are read from the stack. -/
def Device.stackRead (d : Device) (b : Nat) : List Nat → List Nat × Device
  | [] => ([], d)
  | a :: r =>
    let h := d.stackRead1 b a
    let t := Device.stackRead h.2 b r
    (h.1 :: t.1, t.2)

/-- A stack access of a timed berth outside its own tile SRAM is a breach of cause 4 (R50, R75). -/
def Device.stackBreach (d : Device) (b off : Nat) : Nat :=
  match d.placeFor b ((d.berth b).stackAddr off) with
  | .sram t _ => if t = tileOf b then 0 else 4
  | _ => 4

/-! ### Window slides (R72, R73) -/

/-- The physical registers of a frame, a0 to k7 (Table 3.1). -/
def frameRegs (f : Nat) : List Nat := (List.range 16).map fun i => 8 + 16 * f + i

def Berth.setWindow (x : Berth) (cwp nres : Nat) : Berth := x.setSr 4 (setBits (setBits (x.srN 4) 0 3 cwp) 4 3 nres)
def Berth.wsp (x : Berth) : Nat := x.srN 5

/-- A slide forward spills (R72). -/
def Berth.spills (x : Berth) : Bool := x.nres == 5

/-- A slide back refills (R73). -/
def Berth.refills (x : Berth) : Bool := x.nres == 1

/-- What forbids a spill at a level: code, subcode and address (R79, R99). -/
def Device.spillFault (d : Device) (b level : Nat) : Option (Nat × Nat × Nat) :=
  let x := d.berth b
  let a := x.stackAddr x.wsp
  if x.spills = false then none
  else if x.wsp % 8 ≠ 0 then some (3, 0, a)
  else if x.srN 6 < x.wsp + 64 then some (8, 3, a)
  else (d.stackCheck b level x.wsp 16 true).map fun c => (c, 0, a)

/-- A load in flight has its destination in the frame that a slide forward spills (R75). -/
def Berth.spillWaits (x : Berth) : Bool :=
  x.spills && x.loads.any fun e => match e.dest with
    | some p => (frameRegs ((x.cwp + 2) % 6)).contains p
    | none => false

/-- The frame that a slide forward spills, a0 to k7 (R72). -/
def Berth.spilled (x : Berth) : List Nat := (frameRegs ((x.cwp + 2) % 6)).map fun p => (x.phys p).toNat

/-- The window slides forward past a frame that has been spilled (R72). -/
def Device.slideSpilled (d : Device) (b : Nat) : Device :=
  let y := d.berth b
  let z := (y.setWindow ((y.cwp + 1) % 6) 5).setSr 5 (y.wsp + 64)
  d.setBerth b (z.setSr 4 (setBits (z.srN 4) 8 16 (satInc (bitsOf (z.srN 4) 8 16) 0xFFFF)))

/-- The window slides forward (R72), with a spill made at a level. -/
def Device.slideForward (d : Device) (b level : Nat) : Device :=
  let x := d.berth b
  if x.spills then (d.stackWrite b level x.wsp x.spilled).slideSpilled b
  else d.setBerth b (x.setWindow ((x.cwp + 1) % 6) (x.nres + 1))

/-- The window slides forward without the spill that faulted (R99). -/
def Device.slideBare (d : Device) (b : Nat) : Device :=
  let x := d.berth b
  d.setBerth b (x.setWindow ((x.cwp + 1) % 6) x.nres)

/-- A refilled register: a load in flight to it is older and no longer delivers to it (R69, R73). -/
def Berth.refill (x : Berth) (p : Nat) (v : Word) : Berth :=
  { x.setPhys p v with loads := x.loads.map fun e => if e.dest = some p then { e with dest := none } else e }

/-- The window slides back (R73). -/
def Device.slideBack (d : Device) (b : Nat) : Device :=
  let x := d.berth b
  let f := (x.cwp + 5) % 6
  if x.refills then
    let r := d.stackRead b (x.stackWords (x.wsp - 64) 16)
    let y := (r.2.berth b).setSr 5 (x.wsp - 64)
    let z := ((frameRegs f).zip r.1).foldl (fun (z : Berth) q => z.refill q.1 (BitVec.ofNat 32 q.2)) y
    r.2.setBerth b (z.setWindow f 1)
  else d.setBerth b (x.setWindow f (x.nres - 1))

/-! ### The call record (R77) -/

/-- FCHK of a frame word (Table 3.3). -/
def frameCheck (retlo rethi : Nat) (fb : Bool) : Nat :=
  let x := [retlo, retlo / 2 ^ 8, retlo / 2 ^ 16, retlo / 2 ^ 24, rethi, rethi / 2 ^ 8, rethi / 2 ^ 16 % 4].foldl
    (fun m v => m ^^^ v % 2 ^ 8) 0x5A
  x ^^^ bit01 fb

/-- The FRAME word. -/
def frameWord (ret : Nat) (fb : Bool) : Nat :=
  let hi := ret / 2 ^ 32 % 2 ^ 18
  hi + 2 ^ 18 * bit01 fb + 2 ^ 24 * frameCheck (ret % 2 ^ 32) hi fb

/-! ### Taking an exception -/

/-- The level whose handler receives it (Table 3.8, R95). -/
def Raised.target (r : Raised) (pl : Nat) : Nat :=
  if r.code = 10 ∨ r.code = 11 then 2 else if r.code = 12 then 1 else if pl = 2 then 2 else 1

/-- First special register of a level's exception registers (Table 3.5): EPC, then ESTAT, ECAUSE, EADDR, EVB. -/
def excBase (t : Nat) : Nat := if t = 1 then 40 else 56

/-- EXL of a level. -/
def Berth.exl (x : Berth) (t : Nat) : Bool := bitOf (x.srN 0) (2 + t)

/-- The registers that exception entry to level T writes (R97, steps 1 to 3). -/
def Berth.enterRegs (x : Berth) (t : Nat) (r : Raised) : Berth :=
  let k := excBase t
  let a := if r.code ∈ [3, 4, 5, 6, 8, 11] then r.addr else 0
  let y := (((x.setSr k (r.epc % 2 ^ 32)).setSr (k + 1) (r.epc / 2 ^ 32 % 2 ^ 18)).setSr (k + 2) (x.srN 0)).setSr (k + 3)
    (r.code + 2 ^ 8 * r.sub + 2 ^ 16 * r.line + 2 ^ 31 * bit01 r.imp)
  let z := (y.setSr (k + 4) (a % 2 ^ 32)).setSr (k + 5) (a / 2 ^ 32 % 2 ^ 18)
  { z.setSr 0 (setBits (setBits (setBits (x.srN 0) 0 2 t) 2 1 0) (2 + t) 1 1) with shadow := none }

/-- Handler address: EVB_T + code × 0x40. -/
def Berth.vector (x : Berth) (t code : Nat) : Nat := (x.srPair (excBase t + 6) + code * 0x40) % 2 ^ 50

/-- A FLOW packet (Table 16.9). -/
def Device.traceFlow (d : Device) (b kind target extra : Nat) : Device :=
  if d.flag Reg.DBG_TCTL 2 && d.tracedBerth b then d.record 0x02 kind b (leBytes 8 (target + 2 ^ 50 * extra)) else d

/-- The slide of an exception entry: with its spill, past a spill that has been written outside (R463), or without the spill that
faulted (R99). -/
inductive Slide where
  | forward
  | written
  | bare
  deriving DecidableEq, Repr

/-- Exception entry to level T (R97). -/
def Device.enterHandler (d : Device) (b t : Nat) (r : Raised) (slide : Slide) : Device :=
  let breach := if (d.berth b).spills && slide != .bare then d.stackBreach b (d.berth b).wsp else 0
  let d1 := d.setBerth b ((d.berth b).enterRegs t r)
  let d2 := match slide with
    | .forward => d1.slideForward b t
    | .written => d1.slideSpilled b
    | .bare => d1.slideBare b
  let pc := (d2.berth b).vector t r.code
  let d3 := d2.setBerth b { d2.berth b with pc := BitVec.ofNat 50 pc, wait := .none, reads := [], beats := [], badBeat := none }
  let d4 := d3.traceFlow b (if r.code = 12 then 6 else 5) pc (if r.code = 12 then r.line else r.code)
  if breach = 0 then d4 else d4.breach b breach

/-- The spill of a slide forward goes to the external region. -/
def Device.spillsOutside (d : Device) (b : Nat) : Bool :=
  let x := d.berth b
  x.spills && (d.placeFor b (x.stackAddr x.wsp)).isExternal

/-- Entry to level T with its spill. One whose spill goes to the external region changes nothing until the host has answered every
store of it, since an error there is a fault of the entry (R99): the berth waits. -/
def Device.enterLevel (d : Device) (b t : Nat) (r : Raised) : Device :=
  if d.spillsOutside b then
    let x := d.berth b
    (d.setBerth b { x with wait := .entering r t x.seq }).stackWrite b t x.wsp x.spilled
  else d.enterHandler b t r .forward

/-- An exception that targets MONITOR while EXL_M is 1 (R99): nothing changes but the park request and the source. -/
def Device.monitorFault (d : Device) (b : Nat) : Device := (d.parkBerth b).raise 0x20 b

/-- Entry to MONITOR: none where it faults there too. DESIGN CHOICE (notes/assumptions/58.md): a fault in the spill of an entry to
MONITOR, which R99 does not name, is such a fault even while EXL_M is 0. -/
def Device.enterMonitor (d : Device) (b : Nat) (r : Raised) (spill : Bool) : Option Device :=
  if (d.berth b).exl 2 then none
  else if spill && (d.spillFault b 2).isSome then none
  else some (if spill then d.enterLevel b 2 r else d.enterHandler b 2 r .bare)

/-- What becomes of an exception whose entry to SUPERVISOR met a fault of its spill (R99): DOUBLE at MONITOR, without the spill. -/
def Raised.spillDouble (r : Raised) (code addr : Nat) : Raised :=
  { r with code := 11, sub := code, addr := addr, line := 0, imp := false }

/-- EXCEPTION_ENTRY (R95, R97, R99): everything the berth issued before has completed. In a twin pair whose copies differ, the
entry's spill is the request that mismatches (R56). -/
def Device.takeException (d : Device) (b : Nat) (r : Raised) : Device :=
  if d.twinDiffers b ∧ (d.berth b).spills then d.twinMismatch (pairOf (coreOf b))
  else
    let d1 := (d.dropNeed b).finish b
    let pl := (d1.berth b).pl
    let res :=
      if r.target pl = 2 then d1.enterMonitor b r true
      else if (d1.berth b).exl 1 then
        d1.enterMonitor b { r with code := 11, sub := r.code, addr := 0, line := 0, imp := false, epc := r.at_ } true
      else match d1.spillFault b 1 with
        | some (c, _, a) => d1.enterMonitor b (r.spillDouble c a) false
        | none => some (d1.enterLevel b 1 r)
    match res with
    | some e => e
    | none => d1.monitorFault b

/-- A store of an entry's spill is no longer in flight (R99): after an error the entry becomes DOUBLE at MONITOR, or, where it
targets MONITOR, the monitor fault; with the last one answered the handler is entered. -/
def Device.entrySpill (d : Device) (b : Nat) (failed : Option Nat) : Device :=
  match (d.berth b).wait with
  | .entering r t first =>
    let x := d.berth b
    match failed with
    | some a =>
      let d1 := d.setBerth b { x with
        wait := .none, writes := [], stores := x.stores.filter fun s => decide (s.seq < first) }
      if t = 1 then (d1.enterMonitor b (r.spillDouble 6 a) false).getD (d1.monitorFault b) else d1.monitorFault b
    | none =>
      if (!x.writes.isEmpty || x.stores.any fun s => decide (first ≤ s.seq)) then d.pushWrites b
      else d.enterHandler b t r .written
  | _ => d

/-! ### When a berth stands at an instruction boundary -/

/-- A berth named by DBG_STEP has reached the instant of R491 and its instruction has not issued. -/
def Device.stepping (d : Device) (b : Nat) : Bool :=
  d.dbg.steps.any fun s => s.1 == b && !s.2.2 && decide ((s.2.1 + 11) / 8 * 8 ≤ d.tbNow)

/-- The berth issues: it is present and powered, neither parked nor asked to park (R31), waits for nothing, and its core is not
halted, or lets it issue once (R488, R492). -/
def Device.mayIssue (d : Device) (b : Nat) : Bool :=
  let x := d.berth b
  d.present b && d.tileOn (tileOf b) && !d.isolated && d.mode != Mode.deepSleep && !d.parked b && !d.parkAsked b &&
  x.wait == .none &&
  (!d.coreHalted (coreOf b) || d.dbg.extra.contains b || d.stepping b)

/-- The line that the berth takes as an interrupt at this boundary (R93): the lowest-numbered that qualifies. -/
def Device.interruptLine (d : Device) (b : Nat) : Option Nat :=
  let x := d.berth b
  let p := x.srN 0
  if bitOf p 2 && decide (x.pl < 2) && !bitOf p 3 && x.shadow.isNone then
    (List.range 32).find? fun k => bitOf (x.srN 20) k && bitOf (x.srN 19) k
  else none

/-- INTERRUPT_ENTRY (R93). It waits for the external loads in flight, which could still fault (R100). -/
def Device.interruptEntry (d : Device) (b : Nat) : Device :=
  if d.mayIssue b = false ∨ (d.externalLoads b).isEmpty = false ∨ (d.berth b).faults.isEmpty = false then d
  else match d.interruptLine b with
    | some k =>
      let pc := (d.berth b).pc.toNat
      d.takeException b ⟨12, 0, k, 0, false, pc, pc⟩
    | none => d

/-- The imprecise BUS of an external store (R100): EPC is the next unissued instruction. -/
def Device.storeFault (d : Device) (b : Nat) : Device :=
  match (d.berth b).faults with
  | a :: r =>
    let x := d.berth b
    let pc := x.pc.toNat
    (d.setBerth b { x with faults := r }).takeException b ⟨6, 0, 0, a, true, pc, pc⟩
  | [] => d

/-- A store fault is taken at the boundary where the berth stands when the response arrives, the load-delay position included
(R86, R100), the stall of a breach having ended with its last operation (R50). Until it can be taken, nothing more issues. DESIGN
CHOICE (notes/assumptions/65.md): one that arrives in a wait (WAITT, WAITE, SLEEP, BACQ, MCOMMIT) is held until the wait ends. -/
def Device.storeFaultNow (d : Device) (b : Nat) : Device :=
  let d1 := d.setBerth b (d.berth b).unstall
  if (d1.berth b).wait = .none ∧ (d1.externalLoads b).isEmpty then (d1.storeFault b).settlePark b else d1

/-- A call's record and spill have been written in full: its wait ends (R76), and a timed berth's breach stalls it while other
operations of it are in flight (R50). -/
def Device.recordDone (d : Device) (b : Nat) : Device :=
  let x := d.berth b
  match x.wait with
  | .record first =>
    if (!x.writes.isEmpty || x.stores.any fun s => decide (first ≤ s.seq)) then d.pushWrites b
    else d.setBerth b { x with wait := if d.timed b then .breach else .none }.unstall
  | _ => d

/-- The oldest external load of a berth has failed: the berth goes back to that load, which raises BUS (R100, R465). -/
def Device.loadFault (d : Device) (b : Nat) : Device :=
  match d.externalLoads b with
  | e :: _ =>
    if e.failed = false then d
    else
      let x := d.berth b
      let old := e.rescue.getD ⟨x.gpr, x.sr, []⟩
      let y := { x with
        gpr := old.gpr, sr := old.sr, pc := e.pc, shadow := none, wait := .none
        loads := x.loads.filter fun f => decide (f.seq < e.seq)
        stores := x.stores.filter fun s => decide (s.seq < e.seq) }
      let z := y.setSr 20 (y.srN 20 ||| x.srN 20)
      let a := match e.src with
        | .memory a _ _ => a
        | .value _ => 0
      ((d.setBerth b z).takeException b ⟨6, 0, 0, a, false, e.pc.toNat, e.pc.toNat⟩).settlePark b
  | [] => d

end Sys2Proof.Machine
end

