-- ==== Sys2Proof/Machine/Issue.lean ====
section
/-! DEFINITION. The issue of one instruction: the boundary before it (R31, R93, R494), its fetch (R113, R122), the waits for
registers and queue entries (R45, R49), its effect or its exception (R96), the zero-overhead loops (R127, R128), and what trace
and the comparators see of it (R494, R498). -/

namespace Sys2Proof.Machine

/-- What an instruction knows of its place: the berth, the address and length of the instruction, the level its checks are made
at, and whether the debugger fed it (R493). -/
structure Ctx where
  b     : Nat
  pc    : Nat
  len   : Nat
  level : Nat
  fed   : Bool
  deriving DecidableEq, Repr

/-- What an instruction leaves beside the device: a transfer of control with its kind (FLAGS of a FLOW packet), the load-delay
position with its register and old value (R49), a timing breach (R50, 0 for none), and its accesses of memory for the
comparators (a store or a load, address, bytes). -/
structure Effect where
  target : Option Nat
  flow   : Nat
  shadow : Option (Nat × Word)
  breach : Nat
  access : List (Bool × Nat × Nat)
  deriving DecidableEq, Repr

/-- An effect that only goes on to the next instruction. -/
def Effect.next : Effect := ⟨none, 0, none, 0, []⟩

/-- What the issue of an instruction comes to. -/
inductive Issued where
  | done (d : Device) (e : Effect)
  /-- an exception of Table 3.8: code, subcode, EADDR -/
  | exc (d : Device) (code sub addr : Nat)
  /-- it does not issue yet -/
  | stall
  /-- it needs stack words of the external region first, read at a level (R463) -/
  | words (level : Nat) (as : List Nat)
  /-- no entry of a queue is left to it (R45): of the store buffer, or of the load queue -/
  | full (store : Bool)

/-- What becomes of an instruction at its boundary: it has issued, it waits, or it asks for stack words. -/
inductive Went where
  | issued (d : Device)
  | held
  | asks (level : Nat) (as : List Nat)

/-- An instruction: the registers it reads, the register that a load-like result of it goes to (R123), whether its effect stays
inside the berth (so that it may issue while an external load could still fault, R100), whether it sends a request out of the
core (R56), whether it may be fed (R493), and its effect. -/
structure Op where
  reads : List Nat
  dest  : Option Nat
  calm  : Bool
  sends : Bool
  feed  : Bool
  run   : Ctx → Device → Issued

/-- An instruction that only raises an exception of Table 3.8. -/
def trapOp (code : Nat) : Op where
  reads := []
  dest := none
  calm := true
  sends := false
  feed := false
  run _ d := .exc d code 0 0

/-- An undefined encoding (R114): ILLEGAL, and no effect. -/
def undefinedOp : Op := trapOp 1

/-- An instruction whose fields admit only some values: any other is ILLEGAL (R114). -/
def Op.legal (ok : Bool) (op : Op) : Op := if ok then op else undefinedOp

/-! ### Comparators (R494) -/

/-- Comparator k matches an access of its KIND by the berth: kind 1 a fetch, 2 a load, 3 a store. -/
def Device.cmpMatch (d : Device) (b k kind a n : Nat) : Bool :=
  let c := d.rd (Reg.DBG_CMPC k)
  let m := min (bitsOf (d.rd (Reg.DBG_CMPA k + 4)) 18 6) 20
  let x := d.rd64 (Reg.DBG_CMPA k) % 2 ^ 50 / 2 ^ m
  (bitOf c 13 || bitsOf c 4 9 == b) && (bitsOf c 0 3 == kind || (bitsOf c 0 3 == 4 && decide (2 ≤ kind))) &&
    decide (a / 2 ^ m ≤ x) && decide (x ≤ (a + n - 1) / 2 ^ m)

/-- Comparators that some access matches. -/
def Device.cmpHits (d : Device) (b : Nat) (as : List (Nat × Nat × Nat)) : List Nat :=
  (List.range 4).filter fun k => as.any fun x => d.cmpMatch b k x.1 x.2.1 x.2.2

/-- The actions of matches; below FULL only PULSE is left (R483), and TROFF prevails over TRON. -/
def Device.cmpActions (d : Device) (b : Nat) (ks : List Nat) : Device :=
  let on (i : Nat) : Bool := ks.any fun k => d.flag (Reg.DBG_CMPC k) i
  let full := d.authFull
  let t := d.rd Reg.DBG_TCTL
  let d1 := if on 19 then d.pulse 0x66 else d
  let d2 := if full && on 18 then d1.tctlWrite (setBits t 0 1 0)
    else if full && on 17 then d1.tctlWrite (setBits t 0 1 1) else d1
  if full && on 16 then d2.haltWith 3 [coreOf b] else d2

/-- Something watches the berth's instructions: a comparator, or the trace of its flow or data. -/
def Device.watched (d : Device) : Bool :=
  (d.flag Reg.DBG_TCTL 0 && (d.flag Reg.DBG_TCTL 2 || d.flag Reg.DBG_TCTL 3)) ||
  (List.range 4).any fun k => decide (1 ≤ d.fld (Reg.DBG_CMPC k) 0 3) && decide (d.fld (Reg.DBG_CMPC k) 0 3 ≤ 4)

/-! ### Fetch (R96, R113, R122, R156) -/

/-- The code of a fetch exception of a halfword, before ECC. -/
def Device.fetchFault (d : Device) (b level a : Nat) : Option Nat :=
  if inWindow a ∧ level = 0 then some 2
  else match placeOf d.cfg (some (tileOf b)) a with
    | some (.sram _ _) => none
    | some (.window o) => if 0xF00000 ≤ o ∧ o < 0xF40000 then none else some 4
    | some (.external _) => none
    | _ => some 4

/-- The halfwords of an instruction. -/
def fetchAddrs (pc len : Nat) : List Nat := if len = 2 then [pc] else [pc, pc / 2 ^ 32 * 2 ^ 32 + (pc + 2) % 2 ^ 32]

/-- The exception of a fetch: code and address. -/
def Device.fetchExc (d : Device) (b level pc len : Nat) : Option (Nat × Nat) :=
  if pc % 2 = 1 then some (3, pc)
  else match (fetchAddrs pc len).findSome? fun a => (d.fetchFault b level a).map fun c => (c, a) with
    | some x => some x
    | none => ((fetchAddrs pc len).find? fun a => d.ueAt (d.placeFor b a)).map fun a => (5, a)

/-- The syndrome check of each 8-byte word that the fetch reads (R169). -/
def Device.fetchCheck (d : Device) (b pc len : Nat) : Device :=
  (fetchAddrs pc len).foldl (fun e a =>
    if a ≠ pc ∧ a % 8 ≠ 0 then e else
    match (e.placeFor b a).global with
    | some g => (e.checkRead 1 g).2
    | none => e) d

/-- A fetch of a timed berth outside its own tile SRAM is a breach of cause 2 (R50). -/
def Device.fetchBreach (d : Device) (b pc : Nat) : Bool :=
  match d.placeFor b pc with
  | .sram t _ => t != tileOf b
  | _ => true

/-! ### Registers (R49, R69, R123) -/

/-- A load in flight has the register as its destination. -/
def Berth.loading (x : Berth) (r : Nat) : Bool := x.loads.any fun e => e.dest == some (physReg x.cwp r)

/-- The instruction waits for a register: one that it reads and that a load has still to write, unless it stands in the load-delay
position of that load; or one that it loads itself. -/
def Berth.interlocked (x : Berth) (op : Op) : Bool :=
  (op.reads.any fun r => x.loading r && match x.shadow with
    | some (p, _) => p != physReg x.cwp r
    | none => true) ||
  match op.dest with
  | some r => x.loading r
  | none => false

/-! ### Zero-overhead loops (R127) -/

/-- The sequential next PC after the loop levels have acted on it. -/
def Berth.loopLevels (x : Berth) (next : Nat) : List Nat → Berth × Nat
  | [] => (x, next)
  | n :: r =>
    let count := x.srN (32 + n)
    if count ≠ 0 ∧ next % 2 ^ 32 = x.srN (28 + n) then
      if 1 < count then (x.setSr (32 + n) (count - 1), next / 2 ^ 32 * 2 ^ 32 + x.srN (24 + n))
      else Berth.loopLevels (x.setSr (32 + n) 0) next r
    else Berth.loopLevels x next r

/-- The sequential next PC. DESIGN CHOICE (notes/assumptions/58.md): PC + 2 and PC + 4 keep PC[49:32], as R84 has it for relative
transfers, where the spec does not say whether they carry into the bank. -/
def seqPc (pc len : Nat) : Nat := pc / 2 ^ 32 * 2 ^ 32 + (pc + len) % 2 ^ 32

/-- Where the berth goes on: the target of a transfer, from which it fetches anew (R176), or the sequential next PC with the
loops. -/
def Berth.advance (x : Berth) (pc len : Nat) (e : Effect) : Berth :=
  match e.target with
  | some t => { x with pc := BitVec.ofNat 50 t, shadow := e.shadow, beats := [], badBeat := none }
  | none =>
    let r := x.loopLevels (seqPc pc len) [3, 2, 1, 0]
    { r.1 with pc := BitVec.ofNat 50 r.2, shadow := e.shadow }

/-! ### Issue -/

/-- The berth's step, or its one instruction before a halt, has issued (R488, R492); what it held for that instruction ends. One that leaves
a load-delay position is followed by one more before the halt (R488). -/
def Device.issuedOne (d : Device) (b : Nat) (load : Bool := false) : Device :=
  let d1 := (d.dropNeed b).setBerth b { d.berth b with woke := none, reads := [] }
  { d1 with dbg := { d1.dbg with
      steps := d1.dbg.steps.map fun s => if s.1 = b then (s.1, s.2.1, true) else s
      extra := if load then d1.dbg.extra else d1.dbg.extra.filter (· != b) } }

/-- What follows the effect of an instruction: the next PC, the step's end, trace, breaches and data comparators. -/
def Device.complete (d : Device) (c : Ctx) (e : Effect) : Device :=
  let d1 := ((d.setBerth c.b ((d.berth c.b).advance c.pc c.len e)).issuedOne c.b e.shadow.isSome).inflightPeak
  let d2 := match e.target with
    | some t => if e.flow = 0 then d1 else d1.traceFlow c.b e.flow t 0
    | none => d1
  let d3 := if d2.fetchBreach c.b c.pc then d2.breach c.b 2 else d2
  let d4 := if e.breach = 0 then d3 else d3.breach c.b e.breach
  d4.cmpActions c.b (d4.cmpHits c.b (e.access.map fun x => (if x.1 then 3 else 2, x.2)))

/-- The instruction raises an exception; the load-delay position ends with it (R86). -/
def Device.raiseAt (d : Device) (c : Ctx) (code sub addr : Nat) : Device :=
  (d.issuedOne c.b).takeException c.b ⟨code, sub, 0, addr, false, if code = 9 ∨ code = 10 then seqPc c.pc c.len else c.pc, c.pc⟩

/-- The instruction raises an exception after its fetch, whose own breach counts (R50). -/
def Device.raiseFetched (d : Device) (c : Ctx) (code sub addr : Nat) : Device :=
  let d1 := d.raiseAt c code sub addr
  if d.fetchBreach c.b c.pc then d1.breach c.b 2 else d1

/-- The exception of a fetch is raised; an uncorrectable word is counted and logged (R170, R179). -/
def Device.fetchRaise (d : Device) (c : Ctx) (code a : Nat) : Device :=
  if code = 5 then (d.countUe 1 (((d.placeFor c.b a).global).getD 0)).raiseFetched c code 0 a else d.raiseAt c code 0 a

/-- The instruction at a boundary where it may issue. It waits for a register, for a queue entry, or, where its effect could not
be undone, for the external loads in flight (R100). In a twin pair whose copies differ, its fetch is the request that mismatches
(R56, R57). -/
def Device.issueHere (d : Device) (c : Ctx) (op : Op) : Went :=
  let ext := !(d.externalLoads c.b).isEmpty
  match d.fetchExc c.b c.level c.pc c.len with
  | some (code, a) => if ext then .held else .issued (d.fetchRaise c code a)
  | none =>
    if (d.berth c.b).interlocked op || (ext && (!op.calm || d.watched)) then .held
    else if d.twinDiffers c.b then .issued (d.twinMismatch (pairOf (coreOf c.b)))
    else match op.run c (d.fetchCheck c.b c.pc c.len) with
      | .done e f => .issued (e.complete c f)
      | .exc e code sub a => if ext then .held else .issued (e.raiseFetched c code sub a)
      | .stall => .held
      | .words l as => .asks l as
      | .full st => .issued ((d.needEntry c.b st).breach c.b 6)

/-- The external beats that a fetch at the boundary still has to read; none where the fetch raises an exception. -/
def Device.fetchWanted (d : Device) (c : Ctx) : List Nat :=
  if (d.fetchExc c.b c.level c.pc c.len).isSome then [] else d.beatsWanted c.b (fetchAddrs c.pc c.len)

/-- The instruction at PC raises the BUS of its fetch from the external region (R465), with the address of the first halfword in the failed
beat. It waits for the external loads in flight and for a store's fault (R100). -/
def Device.fetchBus (d : Device) (b : Nat) : Device :=
  let x := d.berth b
  let pc := x.pc.toNat
  if (d.externalLoads b).isEmpty = false ∨ x.faults.isEmpty = false then d
  else
    let h := ((fetchAddrs pc 4).find? fun h => x.badBeat == some (h / 32)).getD pc
    ((d.issuedOne b).takeException b ⟨6, 0, 0, h, false, pc, pc⟩).settlePark b

/-- INSTRUCTION_ISSUE: a berth issues the instruction that its fetch delivers (R29, R31, R93, R100, R494). An instruction of the
external region is fetched through the initiator port first (R463). -/
def Device.issue (d : Device) (s : Site) (op : Op) : Device :=
  let b := s.berth.toNat
  let x := d.berth b
  if d.mayIssue b = false then d
  else if x.faults.isEmpty = false then (if (d.externalLoads b).isEmpty then d.storeFault b else d)
  else if (d.interruptLine b).isSome then d
  else
    let c : Ctx := ⟨b, x.pc.toNat, if s.short then 2 else 4, x.pl, false⟩
    let ks := d.fetchWanted c
    if ks.isEmpty = false then (if x.badBeat.any ks.contains then d.fetchBus b else d.askFetch b x.pl ks)
    else
      let d1 := d.cmpActions b (d.cmpHits b [(1, c.pc, c.len)])
      if d1.mayIssue b = false ∨ (d1.coreHalted (coreOf b) && !d.coreHalted (coreOf b)) then d1
      else match d1.issueHere c op with
        | .issued e => e
        | .held => d
        | .asks l as => d.askWords b l as

end Sys2Proof.Machine
end

