-- ==== Sys2Proof/Machine/Alu.lean ====
section
/-! DEFINITION. The ALU group and the immediate, shift and bit-field instructions (R118 to R120). -/

namespace Sys2Proof.Machine

/-- An instruction that only computes a register from the berth's own state. -/
def plainOp (reads : List Nat) (f : Ctx → Berth → Berth) : Op where
  reads := reads
  dest := none
  calm := true
  sends := false
  feed := true
  run c d := .done (d.setBerth c.b (f c (d.berth c.b))) Effect.next

/-- rd := f(rs1, rs2). -/
def aluOp (f : Word → Word → Word) (rd rs1 rs2 : Reg5) : Op :=
  plainOp [rs1.toNat, rs2.toNat] fun _ x => x.setReg rd.toNat (f (x.operand rs1.toNat) (x.operand rs2.toNat))

/-- rd := f(rs1). -/
def unaryOp (f : Word → Word) (rd rs1 : Reg5) : Op :=
  plainOp [rs1.toNat] fun _ x => x.setReg rd.toNat (f (x.operand rs1.toNat))

/-- 1 or 0 as a register value. -/
def wordOf (b : Bool) : Word := if b then 1 else 0

/-- The shift amount rs2[4:0]. -/
def shamt (v : Word) : Nat := v.toNat % 32

/-- Leading zeros; 32 for zero. -/
def leadingZeros (v : Word) : Nat := (((List.range 32).reverse.findIdx? fun i => bitOf v.toNat i)).getD 32

/-! ### Functions of Table 4.4 -/

def addFn (a b : Word) : Word := a + b
def subFn (a b : Word) : Word := a - b
def andFn (a b : Word) : Word := a &&& b
def orFn (a b : Word) : Word := a ||| b
def xorFn (a b : Word) : Word := a ^^^ b
def andnFn (a b : Word) : Word := a &&& ~~~b
def sllFn (a b : Word) : Word := a <<< shamt b
def srlFn (a b : Word) : Word := a >>> shamt b
def sraFn (a b : Word) : Word := a.sshiftRight (shamt b)
def sltFn (a b : Word) : Word := wordOf (decide (a.toInt < b.toInt))
def sltuFn (a b : Word) : Word := wordOf (decide (a.toNat < b.toNat))
def minFn (a b : Word) : Word := if a.toInt < b.toInt then a else b
def maxFn (a b : Word) : Word := if a.toInt < b.toInt then b else a
def minuFn (a b : Word) : Word := if a.toNat < b.toNat then a else b
def maxuFn (a b : Word) : Word := if a.toNat < b.toNat then b else a
def mulFn (a b : Word) : Word := BitVec.ofNat 32 (a.toNat * b.toNat)
def mulhFn (a b : Word) : Word := BitVec.ofInt 32 (a.toInt * b.toInt / 2 ^ 32)
def mulhuFn (a b : Word) : Word := BitVec.ofNat 32 (a.toNat * b.toNat / 2 ^ 32)
def clzFn (a : Word) : Word := BitVec.ofNat 32 (leadingZeros a)
def rorFn (a b : Word) : Word := a.rotateRight (shamt b)

/-- A register ALU instruction as a command. -/
def State.alu (s : State) (f : Word → Word → Word) (i : Site) (rd rs1 rs2 : Reg5) : Host.Outcome State Fault Refusal :=
  s.upd fun d => d.issue i (aluOp f rd rs1 rs2)

def execAdd (i : Site) (rd rs1 rs2 : Reg5) (s : State) : Host.Outcome State Fault Refusal := s.alu addFn i rd rs1 rs2
def execSub (i : Site) (rd rs1 rs2 : Reg5) (s : State) : Host.Outcome State Fault Refusal := s.alu subFn i rd rs1 rs2
def execAnd (i : Site) (rd rs1 rs2 : Reg5) (s : State) : Host.Outcome State Fault Refusal := s.alu andFn i rd rs1 rs2
def execOr (i : Site) (rd rs1 rs2 : Reg5) (s : State) : Host.Outcome State Fault Refusal := s.alu orFn i rd rs1 rs2
def execXor (i : Site) (rd rs1 rs2 : Reg5) (s : State) : Host.Outcome State Fault Refusal := s.alu xorFn i rd rs1 rs2
def execAndn (i : Site) (rd rs1 rs2 : Reg5) (s : State) : Host.Outcome State Fault Refusal := s.alu andnFn i rd rs1 rs2
def execSll (i : Site) (rd rs1 rs2 : Reg5) (s : State) : Host.Outcome State Fault Refusal := s.alu sllFn i rd rs1 rs2
def execSrl (i : Site) (rd rs1 rs2 : Reg5) (s : State) : Host.Outcome State Fault Refusal := s.alu srlFn i rd rs1 rs2
def execSra (i : Site) (rd rs1 rs2 : Reg5) (s : State) : Host.Outcome State Fault Refusal := s.alu sraFn i rd rs1 rs2
def execSlt (i : Site) (rd rs1 rs2 : Reg5) (s : State) : Host.Outcome State Fault Refusal := s.alu sltFn i rd rs1 rs2
def execSltu (i : Site) (rd rs1 rs2 : Reg5) (s : State) : Host.Outcome State Fault Refusal := s.alu sltuFn i rd rs1 rs2
def execMin (i : Site) (rd rs1 rs2 : Reg5) (s : State) : Host.Outcome State Fault Refusal := s.alu minFn i rd rs1 rs2
def execMax (i : Site) (rd rs1 rs2 : Reg5) (s : State) : Host.Outcome State Fault Refusal := s.alu maxFn i rd rs1 rs2
def execMinu (i : Site) (rd rs1 rs2 : Reg5) (s : State) : Host.Outcome State Fault Refusal := s.alu minuFn i rd rs1 rs2
def execMaxu (i : Site) (rd rs1 rs2 : Reg5) (s : State) : Host.Outcome State Fault Refusal := s.alu maxuFn i rd rs1 rs2
def execMul (i : Site) (rd rs1 rs2 : Reg5) (s : State) : Host.Outcome State Fault Refusal := s.alu mulFn i rd rs1 rs2
def execMulh (i : Site) (rd rs1 rs2 : Reg5) (s : State) : Host.Outcome State Fault Refusal := s.alu mulhFn i rd rs1 rs2
def execMulhu (i : Site) (rd rs1 rs2 : Reg5) (s : State) : Host.Outcome State Fault Refusal := s.alu mulhuFn i rd rs1 rs2
def execRor (i : Site) (rd rs1 rs2 : Reg5) (s : State) : Host.Outcome State Fault Refusal := s.alu rorFn i rd rs1 rs2
def execClz (i : Site) (rd rs1 : Reg5) (s : State) : Host.Outcome State Fault Refusal :=
  s.upd fun d => d.issue i (unaryOp clzFn rd rs1)

/-! ### Immediate forms (R119) -/

/-- rd := f(rs1, sext(s14)). -/
def immOp (f : Word → Word → Word) (rd rs1 : Reg5) (imm : BitVec 14) : Op := unaryOp (fun a => f a (imm.signExtend 32)) rd rs1

def State.aluImm (s : State) (f : Word → Word → Word) (i : Site) (rd rs1 : Reg5) (imm : BitVec 14) :
    Host.Outcome State Fault Refusal :=
  s.upd fun d => d.issue i (immOp f rd rs1 imm)

def execAddi (i : Site) (rd rs1 : Reg5) (imm : BitVec 14) (s : State) : Host.Outcome State Fault Refusal :=
  s.aluImm addFn i rd rs1 imm
def execAndi (i : Site) (rd rs1 : Reg5) (imm : BitVec 14) (s : State) : Host.Outcome State Fault Refusal :=
  s.aluImm andFn i rd rs1 imm
def execOri (i : Site) (rd rs1 : Reg5) (imm : BitVec 14) (s : State) : Host.Outcome State Fault Refusal :=
  s.aluImm orFn i rd rs1 imm
def execXori (i : Site) (rd rs1 : Reg5) (imm : BitVec 14) (s : State) : Host.Outcome State Fault Refusal :=
  s.aluImm xorFn i rd rs1 imm
def execSlti (i : Site) (rd rs1 : Reg5) (imm : BitVec 14) (s : State) : Host.Outcome State Fault Refusal :=
  s.aluImm sltFn i rd rs1 imm
def execSltiu (i : Site) (rd rs1 : Reg5) (imm : BitVec 14) (s : State) : Host.Outcome State Fault Refusal :=
  s.aluImm sltuFn i rd rs1 imm

/-- LUI: rd := u19 << 13. -/
def luiOp (rd : Reg5) (imm : BitVec 19) : Op := plainOp [] fun _ x => x.setReg rd.toNat (BitVec.ofNat 32 (imm.toNat * 2 ^ 13))

def execLui (i : Site) (rd : Reg5) (imm : BitVec 19) (s : State) : Host.Outcome State Fault Refusal :=
  s.upd fun d => d.issue i (luiOp rd imm)

/-- SHI: a shift by the amount in the instruction. -/
def shiftOp (f : Word → Word → Word) (rd rs1 sh : Reg5) : Op := unaryOp (fun a => f a (sh.zeroExtend 32)) rd rs1

def State.shiftImm (s : State) (f : Word → Word → Word) (i : Site) (rd rs1 sh : Reg5) : Host.Outcome State Fault Refusal :=
  s.upd fun d => d.issue i (shiftOp f rd rs1 sh)

def execSlli (i : Site) (rd rs1 sh : Reg5) (s : State) : Host.Outcome State Fault Refusal := s.shiftImm sllFn i rd rs1 sh
def execSrli (i : Site) (rd rs1 sh : Reg5) (s : State) : Host.Outcome State Fault Refusal := s.shiftImm srlFn i rd rs1 sh
def execSrai (i : Site) (rd rs1 sh : Reg5) (s : State) : Host.Outcome State Fault Refusal := s.shiftImm sraFn i rd rs1 sh
def execRori (i : Site) (rd rs1 sh : Reg5) (s : State) : Host.Outcome State Fault Refusal := s.shiftImm rorFn i rd rs1 sh

/-! ### Bit fields (R119) -/

/-- EXTU: bits beyond bit 31 of rs1 read as 0. `len1` is len − 1. -/
def extuFn (pos len1 : Nat) (a : Word) : Word := BitVec.ofNat 32 (bitsOf a.toNat pos (len1 + 1))

/-- EXTS: sign-extended from bit len − 1 of the field. -/
def extsFn (pos len1 : Nat) (a : Word) : Word := BitVec.ofInt 32 (signedOf (len1 + 1) (a.toNat / 2 ^ pos))

/-- INS: the low bits of rs1 into a field of rd; bits above 31 are discarded. -/
def insFn (pos len1 : Nat) (rd a : Word) : Word := BitVec.ofNat 32 (setBits rd.toNat pos (len1 + 1) a.toNat)

def extuOp (rd rs1 pos len1 : Reg5) : Op := unaryOp (extuFn pos.toNat len1.toNat) rd rs1
def extsOp (rd rs1 pos len1 : Reg5) : Op := unaryOp (extsFn pos.toNat len1.toNat) rd rs1
def insOp (rd rs1 pos len1 : Reg5) : Op := aluOp (insFn pos.toNat len1.toNat) rd rd rs1

def execExtu (i : Site) (rd rs1 pos len1 : Reg5) (s : State) : Host.Outcome State Fault Refusal :=
  s.upd fun d => d.issue i (extuOp rd rs1 pos len1)
def execExts (i : Site) (rd rs1 pos len1 : Reg5) (s : State) : Host.Outcome State Fault Refusal :=
  s.upd fun d => d.issue i (extsOp rd rs1 pos len1)
def execIns (i : Site) (rd rs1 pos len1 : Reg5) (s : State) : Host.Outcome State Fault Refusal :=
  s.upd fun d => d.issue i (insOp rd rs1 pos len1)

end Sys2Proof.Machine
end

