-- ==== Sys2Proof/WellFormed.lean ====
section
/-! DEFINITION. The well-formed commands of a configuration: what a command names exists (R7), an instruction has an encoding (R113 to
R117, Table 4.12) in the length that it is given, and an operand is one that its row gives. -/

namespace Sys2Proof

/-! ### Parts of a command -/

/-- A berth that sends or is named exists. -/
def Site.ok (cf : Straps) (i : Site) : Bool := decide (i.berth.toNat < cf.berths)

def Writer.ok (cf : Straps) (w : Writer) : Bool :=
  match w with
  | .berth b => decide (b < cf.berths)
  | .host _ => true
  | .hostUser => true
  | .gangway => true

/-- A register that a 3-bit field names (R115). -/
def short3 (r : Reg5) : Bool := (decide (24 ≤ r.toNat) && decide (r.toNat < 28)) || (decide (16 ≤ r.toNat) && decide (r.toNat < 20))

/-- A value that a signed field of `n` bits holds. -/
def shortImm {w : Nat} (n : Nat) (v : BitVec w) : Bool := (v.truncate n).signExtend w == v

/-- The forms of a load or store of a word in 16 bits: the direct page, and a base with a small displacement (Table 4.3). -/
def memShort (rd : Reg5) (m : Mem) : Bool :=
  match m with
  | .page _ => short3 rd
  | .base rs1 disp bk => short3 rd && short3 rs1 && disp.toNat % 4 == 0 && decide (disp.toNat < 64) && bk == 0

/-- The short load of p0 from the start of the direct page, whose halfword 0x0000 is ILLEGAL (R114, Table 4.3). -/
def zeroHalf (rd : Reg5) (m : Mem) : Bool :=
  match m with
  | .page u6 => rd == 24 && u6 == 0
  | .base _ _ _ => false

/-- The form in 32 bits names a base. -/
def memLong (m : Mem) : Bool :=
  match m with
  | .page _ => false
  | .base _ _ _ => true

def bitShort (rd : Reg5) (n : BitName) : Bool :=
  match n with
  | .page _ => short3 rd
  | .base _ _ => false

def bitLong (n : BitName) : Bool :=
  match n with
  | .page _ => false
  | .base _ _ => true

/-- The buffer sizes that MACX admits with an operand size (Table 4.6). -/
def macxSizes (k : BitVec 4) (wide : Bool) : Bool := k != 1 && !(wide && k == 2)

/-! ### Commands -/

/-- The command is well-formed in a configuration. -/
def Instr.wf (cf : Straps) : Instr → Bool
  | .add i rd rs1 _ => Site.ok cf i && (!i.short || rd == rs1)
  | .sub i rd rs1 rs2 => Site.ok cf i && (!i.short || (rd == rs1 && short3 rd && short3 rs2))
  | .and i rd rs1 rs2 => Site.ok cf i && (!i.short || (rd == rs1 && short3 rd && short3 rs2))
  | .or i rd rs1 rs2 => Site.ok cf i && (!i.short || (rd == rs1 && short3 rd && short3 rs2))
  | .xor i rd rs1 rs2 => Site.ok cf i && (!i.short || (rd == rs1 && short3 rd && short3 rs2))
  | .andn i rd rs1 rs2 => Site.ok cf i && (!i.short || (rd == rs1 && short3 rd && short3 rs2))
  | .sll i rd rs1 rs2 => Site.ok cf i && (!i.short || (rd == rs1 && short3 rd && short3 rs2))
  | .srl i rd rs1 rs2 => Site.ok cf i && (!i.short || (rd == rs1 && short3 rd && short3 rs2))
  | .sra i rd rs1 rs2 => Site.ok cf i && (!i.short || (rd == rs1 && short3 rd && short3 rs2))
  | .slt i _ _ _ => Site.ok cf i && !i.short
  | .sltu i _ _ _ => Site.ok cf i && !i.short
  | .min i _ _ _ => Site.ok cf i && !i.short
  | .max i _ _ _ => Site.ok cf i && !i.short
  | .minu i _ _ _ => Site.ok cf i && !i.short
  | .maxu i _ _ _ => Site.ok cf i && !i.short
  | .mul i _ _ _ => Site.ok cf i && !i.short
  | .mulh i _ _ _ => Site.ok cf i && !i.short
  | .mulhu i _ _ _ => Site.ok cf i && !i.short
  | .clz i _ _ => Site.ok cf i && !i.short
  | .ror i _ _ _ => Site.ok cf i && !i.short
  | .addi i rd rs1 imm => Site.ok cf i && (!i.short || ((rd == rs1 || rs1 == 0) && short3 rd && shortImm 8 imm) || imm == 0)
  | .andi i _ _ _ => Site.ok cf i && !i.short
  | .ori i _ _ _ => Site.ok cf i && !i.short
  | .xori i _ _ _ => Site.ok cf i && !i.short
  | .slti i _ _ _ => Site.ok cf i && !i.short
  | .sltiu i _ _ _ => Site.ok cf i && !i.short
  | .lui i _ _ => Site.ok cf i && !i.short
  | .slli i rd rs1 _ => Site.ok cf i && (!i.short || rd == rs1 && short3 rd)
  | .srli i rd rs1 _ => Site.ok cf i && (!i.short || rd == rs1 && short3 rd)
  | .srai i rd rs1 _ => Site.ok cf i && (!i.short || rd == rs1 && short3 rd)
  | .rori i _ _ _ => Site.ok cf i && !i.short
  | .extu i _ _ _ _ => Site.ok cf i && !i.short
  | .exts i _ _ _ _ => Site.ok cf i && !i.short
  | .ins i _ _ _ _ => Site.ok cf i && !i.short
  | .lb i _ m => Site.ok cf i && !i.short && memLong m
  | .lbu i _ m => Site.ok cf i && !i.short && memLong m
  | .lh i _ m => Site.ok cf i && !i.short && memLong m
  | .lhu i _ m => Site.ok cf i && !i.short && memLong m
  | .lw i rd m => Site.ok cf i && if i.short then memShort rd m && !zeroHalf rd m else memLong m
  | .sb i _ m => Site.ok cf i && !i.short && memLong m
  | .sh i _ m => Site.ok cf i && !i.short && memLong m
  | .sw i rs2 m => Site.ok cf i && if i.short then memShort rs2 m else memLong m
  | .lwi i _ _ => Site.ok cf i && !i.short
  | .swi i _ _ => Site.ok cf i && !i.short
  | .loadReturn b _ => decide (b.toNat < cf.berths)
  | .storePerformed b _ => decide (b.toNat < cf.berths)
  | .beq i rs1 rs2 disp => Site.ok cf i && (!i.short || short3 rs1 && rs2 == 0 && shortImm 8 disp)
  | .bne i rs1 rs2 disp => Site.ok cf i && (!i.short || short3 rs1 && rs2 == 0 && shortImm 8 disp)
  | .blt i _ _ _ => Site.ok cf i && !i.short
  | .bge i _ _ _ => Site.ok cf i && !i.short
  | .bltu i _ _ _ => Site.ok cf i && !i.short
  | .bgeu i _ _ _ => Site.ok cf i && !i.short
  | .beqi i _ _ _ => Site.ok cf i && !i.short
  | .bnei i _ _ _ => Site.ok cf i && !i.short
  | .blti i _ _ _ => Site.ok cf i && !i.short
  | .bgei i _ _ _ => Site.ok cf i && !i.short
  | .bbs i _ _ _ => Site.ok cf i && !i.short
  | .bbc i _ _ _ => Site.ok cf i && !i.short
  | .jmp i disp => Site.ok cf i && (!i.short || shortImm 11 disp)
  | .call i _ => Site.ok cf i && !i.short
  | .jmpr i _ _ => Site.ok cf i && !i.short
  | .callr i _ _ => Site.ok cf i && !i.short
  | .ret i => Site.ok cf i
  | .callfb i _ _ _ => Site.ok cf i && !i.short
  | .callfbr i _ _ _ _ => Site.ok cf i && !i.short
  | .loop i _ _ _ => Site.ok cf i && !i.short
  | .loopi i _ _ _ => Site.ok cf i && !i.short
  | .macx i _ _ k wide _ _ => Site.ok cf i && !i.short && macxSizes k wide
  | .bld i rd n => Site.ok cf i && if i.short then bitShort rd n else bitLong n
  | .bldn i _ n => Site.ok cf i && !i.short && bitLong n
  | .band i rd n => Site.ok cf i && if i.short then bitShort rd n else bitLong n
  | .bandn i rd n => Site.ok cf i && if i.short then bitShort rd n else bitLong n
  | .bor i rd n => Site.ok cf i && if i.short then bitShort rd n else bitLong n
  | .born i rd n => Site.ok cf i && if i.short then bitShort rd n else bitLong n
  | .bxor i _ n => Site.ok cf i && !i.short && bitLong n
  | .bxorn i _ n => Site.ok cf i && !i.short && bitLong n
  | .bst i rd n => Site.ok cf i && if i.short then bitShort rd n else bitLong n
  | .bset i rd n => Site.ok cf i && if i.short then bitShort rd n else bitLong n
  | .brst i rd n => Site.ok cf i && if i.short then bitShort rd n else bitLong n
  | .edgr i rd n => Site.ok cf i && if i.short then bitShort rd n else bitLong n
  | .edgf i rd n => Site.ok cf i && if i.short then bitShort rd n else bitLong n
  | .cNop i => Site.ok cf i && if i.short then true else false
  | .bcas i _ _ _ _ => Site.ok cf i && !i.short
  | .btry i _ _ _ _ => Site.ok cf i && !i.short
  | .bacq i _ _ _ _ => Site.ok cf i && !i.short
  | .brel i _ _ _ => Site.ok cf i && !i.short
  | .bollardTimeout b => decide (b.toNat < cf.berths)
  | .mopen i _ _ _ => Site.ok cf i && !i.short
  | .mguard i _ _ _ _ _ => Site.ok cf i && !i.short
  | .mput i _ _ _ _ _ => Site.ok cf i && !i.short
  | .mpin i _ _ rs2 bk _ => Site.ok cf i && !i.short && (bk != 1 || rs2 == 0)
  | .msend i _ _ _ _ => Site.ok cf i && !i.short
  | .mcommit i _ rs1 k => Site.ok cf i && !i.short && (k != 0 || rs1 == 0)
  | .mabort i _ _ => Site.ok cf i && !i.short
  | .outp i _ _ => Site.ok cf i && !i.short
  | .outpm i _ _ => Site.ok cf i && !i.short
  | .inp i _ => Site.ok cf i && !i.short
  | .pewr i _ _ _ => Site.ok cf i && !i.short
  | .perd i _ _ _ => Site.ok cf i && !i.short
  | .rdsr i _ _ => Site.ok cf i && !i.short
  | .wrsr i _ _ => Site.ok cf i && !i.short
  | .syscall i _ => Site.ok cf i && !i.short
  | .retx i => Site.ok cf i && !i.short
  | .fence i mask => Site.ok cf i && if i.short then mask == 15 else mask != 0
  | .waitt i _ rs1 rs2 mode _ => Site.ok cf i && !i.short && (mode != 3 && (mode != 1 || rs1 == 0) && (mode == 0 || rs2 == 0))
  | .waite i _ _ _ => Site.ok cf i && !i.short
  | .sleep i _ _ => Site.ok cf i && !i.short
  | .interruptEntry b => decide (b.toNat < cf.berths)
  | .timerCompare b => decide (b.toNat < cf.berths)
  | .parkRequest w b => Writer.ok cf w && decide (b.toNat < cf.berths)
  | .unparkRequest w b => Writer.ok cf w && decide (b.toNat < cf.berths)
  | .berthParked b => decide (b.toNat < cf.berths)
  | .reclass w c _ => Writer.ok cf w && decide (c.toNat < cf.cores)
  | .breachClear w c _ => Writer.ok cf w && decide (c.toNat < cf.cores)
  | .twinActivate p => decide (p.toNat < 2 * cf.tiles)
  | .twinCopyDone p => decide (p.toNat < 2 * cf.tiles)
  | .twinDeactivate p => decide (p.toNat < 2 * cf.tiles)
  | .scrubWord m => m.toNat == 8 || decide (m.toNat < cf.tiles)
  | .memClrCe w => Writer.ok cf w
  | .memClrUe w => Writer.ok cf w
  | .memClrPeak w => Writer.ok cf w
  | .bolForcedRelease w => Writer.ok cf w
  | .bolHandOver w b => Writer.ok cf w && decide (b.toNat < cf.berths)
  | .hostTry w _ _ => Writer.ok cf w
  | .hostRel w => Writer.ok cf w
  | .bolClrCnt w => Writer.ok cf w
  | .bolClrPeak w => Writer.ok cf w
  | .peNop e => decide (e.toNat < cf.engines)
  | .peStop e => decide (e.toNat < cf.engines)
  | .peJmp e => decide (e.toNat < cf.engines)
  | .peWait e => decide (e.toNat < cf.engines)
  | .peWaitComplete e _ => decide (e.toNat < cf.engines)
  | .peIn e => decide (e.toNat < cf.engines)
  | .peOut e => decide (e.toNat < cf.engines)
  | .pePush e => decide (e.toNat < cf.engines)
  | .pePull e => decide (e.toNat < cf.engines)
  | .peStallEnd e _ => decide (e.toNat < cf.engines)
  | .peMov e => decide (e.toNat < cf.engines)
  | .peSet e => decide (e.toNat < cf.engines)
  | .peEdge e => decide (e.toNat < cf.engines)
  | .peCntClr e => decide (e.toNat < cf.engines)
  | .peCntInc e => decide (e.toNat < cf.engines)
  | .peCntArm e => decide (e.toNat < cf.engines)
  | .peFlag e => decide (e.toNat < cf.engines)
  | .peFlagWaitComplete e _ => decide (e.toNat < cf.engines)
  | .peDly e => decide (e.toNat < cf.engines)
  | .peDlyComplete e => decide (e.toNat < cf.engines)
  | .engineStart w e _ => Writer.ok cf w && decide (e.toNat < cf.engines)
  | .engineStop w e _ => Writer.ok cf w && decide (e.toNat < cf.engines)
  | .programRestart w e _ => Writer.ok cf w && decide (e.toNat < cf.engines)
  | .dividerRestart w e _ => Writer.ok cf w && decide (e.toNat < cf.engines)
  | .txClear w e _ => Writer.ok cf w && decide (e.toNat < cf.engines)
  | .rxClear w e _ => Writer.ok cf w && decide (e.toNat < cf.engines)
  | .stallClear w e _ => Writer.ok cf w && decide (e.toNat < cf.engines)
  | .groupStart w t _ _ _ => Writer.ok cf w && decide (t.toNat < cf.tiles)
  | .groupStop w t _ => Writer.ok cf w && decide (t.toNat < cf.tiles)
  | .tileFlagSet w t _ => Writer.ok cf w && decide (t.toNat < cf.tiles)
  | .tileFlagClear w t _ => Writer.ok cf w && decide (t.toNat < cf.tiles)
  | .tstatClear w t => Writer.ok cf w && decide (t.toNat < cf.tiles)
  | .programWordWrite w e _ _ => Writer.ok cf w && decide (e.toNat < cf.engines)
  | .migrationRequest w t _ => Writer.ok cf w && decide (t.toNat < cf.tiles)
  | .migrationCancel w t => Writer.ok cf w && decide (t.toNat < cf.tiles)
  | .migrationFence t => decide (t.toNat < cf.tiles)
  | .migrationCopy t => decide (t.toNat < cf.tiles)
  | .migrationDone t => decide (t.toNat < cf.tiles)
  | .padInputChange t _ _ => decide (t.toNat < cf.tiles)
  | .padConfigWrite w t _ _ => Writer.ok cf w && decide (t.toNat < cf.tiles)
  | .padDoutWrite w t _ => Writer.ok cf w && decide (t.toNat < cf.tiles)
  | .padOwnerWrite w t _ _ => Writer.ok cf w && decide (t.toNat < cf.tiles)
  | .safeForceClear w t _ => Writer.ok cf w && decide (t.toNat < cf.tiles)
  | .imageWordSelect w t _ => Writer.ok cf w && decide (t.toNat < cf.tiles)
  | .latchRelease w t => Writer.ok cf w && decide (t.toNat < cf.tiles)
  | .denyClear w t => Writer.ok cf w && decide (t.toNat < cf.tiles)
  | .comparatorConfig w c _ => Writer.ok cf w && decide (c.toNat < cf.comparators)
  | .comparatorTrip c u => decide (c.toNat < cf.comparators) && decide (u.toNat ≤ 1800000)
  | .channelAssertion _ => true
  | .channelFire w _ _ => Writer.ok cf w
  | .channelConfig w _ _ => Writer.ok cf w
  | .channelHoldEnd _ => true
  | .groupWrite w _ _ => Writer.ok cf w
  | .softwareInterrupt w b => Writer.ok cf w && decide (b.toNat < cf.berths)
  | .timebaseStepRequest w _ => Writer.ok cf w
  | .timebaseStep => true
  | .timebaseCompareArm w _ _ => Writer.ok cf w
  | .timebaseCompare _ => true
  | .ppsCapture => true
  | .lineCrossing => true
  | .trackerTimeout => true
  | .trackerHoldExpiry => true
  | .trackerConfig w _ => Writer.ok cf w
  | .trackerCountClear w => Writer.ok cf w
  | .linePhaseWrap => true
  | .classEnable w _ _ => Writer.ok cf w
  | .classDisable w _ _ => Writer.ok cf w
  | .classTick _ => true
  | .latchTransfer _ => true
  | .scheduledCommitJoin _ => true
  | .commitStart => true
  | .editWindowOpen => true
  | .checkpointRetentive w _ => Writer.ok cf w
  | .checkpointInstance w _ => Writer.ok cf w
  | .checkpointWriteDone => true
  | .maintRequest w act => Writer.ok cf w && decide (1 ≤ act.toNat) && decide (act.toNat ≤ 5)
  | .maintRelease w => Writer.ok cf w
  | .overrunClear w _ => Writer.ok cf w
  | .mftCountClear w => Writer.ok cf w
  | .serviceSample => true
  | .blockLock lane => lane != 3
  | .blockLockLoss lane => lane != 3
  | .helloInterval _ => true
  | .hello _ _ _ => true
  | .data _ _ _ => true
  | .frameTransmit _ => true
  | .dreqInterval _ _ => true
  | .dreq _ _ _ _ _ => true
  | .drsp _ _ _ _ => true
  | .syncInterval _ => true
  | .sync _ _ _ _ _ => true
  | .syncTimeout => true
  | .elect _ _ _ => true
  | .electionTimeout => true
  | .rttp _ _ _ _ => true
  | .rttTimeout => true
  | .link _ _ _ => true
  | .dupExpiry _ => true
  | .roundStart _ => true
  | .prepare _ _ _ => true
  | .vote _ _ _ => true
  | .voteDeadline _ => true
  | .collectionDeadline _ => true
  | .decideFrame _ _ _ => true
  | .tokenDeadline _ => true
  | .xev _ _ src _ => decide (src.toNat < 1023)
  | .beyCountClear w => Writer.ok cf w
  | .macFrameReceive _ _ => true
  | .macTransmit _ => true
  | .gateInterval _ => true
  | .hbInterval => true
  | .hb _ _ => true
  | .heartbeatMiss => true
  | .pairRequest w _ => Writer.ok cf w
  | .pair _ _ => true
  | .pairInterval => true
  | .unpairRequest w => Writer.ok cf w
  | .resyncRequest w => Writer.ok cf w
  | .logTransmit => true
  | .logOpen _ _ => true
  | .lines _ _ => true
  | .commitRec _ _ => true
  | .cycleApply => true
  | .applyComplete => true
  | .ack _ _ => true
  | .nak _ _ => true
  | .lockedTimeout => true
  | .fault _ _ => true
  | .psenseFall => true
  | .psenseWaitTimeout => true
  | .takeoverCommit => true
  | .rsLines _ _ => true
  | .rsDone _ _ => true
  | .snCountClear w => Writer.ok cf w
  | .sourceClear w _ => Writer.ok cf w
  | .faultInject w _ => Writer.ok cf w
  | .softwareRaise w _ => Writer.ok cf w
  | .logEntryDurable => true
  | .logSearchDone => true
  | .lighthouseConfig w x _ => Writer.ok cf w && (x.toNat == 8 || decide (x.toNat < cf.tiles))
  | .lighthouseServe w x _ => Writer.ok cf w && (x.toNat == 8 || decide (x.toNat < cf.tiles))
  | .lighthouseExpiry => true
  | .tileLighthouseExpiry t => decide (t.toNat < cf.tiles)
  | .clockStopTrip _ => true
  | .resetCountClear w _ => Writer.ok cf w
  | .targetRead _ _ _ _ _ => true
  | .targetWrite _ _ _ beats => decide (1 ≤ beats.length) && decide (beats.length ≤ 16)
  | .initiatorResponse _ _ _ _ => true
  | .hostReset => true
  | .hostResetRelease => true
  | .mailboxH2d w _ => Writer.ok cf w
  | .doorbell w _ => Writer.ok cf w
  | .mailboxD2h w _ => Writer.ok cf w
  | .hostSoftwareInterrupt w => Writer.ok cf w
  | .featureDone w => Writer.ok cf w
  | .load w => Writer.ok cf w
  | .start w => Writer.ok cf w
  | .qspStop w => Writer.ok cf w
  | .imageLoadDone _ => true
  | .ident _ => true
  | .chal _ => true
  | .unlock _ => true
  | .read _ => true
  | .write _ => true
  | .stateReadSteal _ => true
  | .halt _ => true
  | .resume _ => true
  | .step _ => true
  | .itr _ => true
  | .snap _ => true
  | .vt _ => true
  | .svc _ => true
  | .ndoucIdleTimeout => true
  | .uartGapTimeout => true
  | .dbgHalt w _ => Writer.ok cf w
  | .dbgResume w _ => Writer.ok cf w
  | .resumeInstant => true
  | .dbgStep w b => Writer.ok cf w && decide (b.toNat < cf.berths)
  | .stepDone => true
  | .dbgItr w _ => Writer.ok cf w
  | .itrDone => true
  | .unlockRequest w _ => Writer.ok cf w
  | .challengeRead w => Writer.ok cf w
  | .lifecycleChange _ => true
  | .vtxWrite w _ => Writer.ok cf w
  | .vrxRead w => Writer.ok cf w
  | .traceSoft w _ => Writer.ok cf w
  | .traceClear w _ => Writer.ok cf w
  | .supplyRise => true
  | .bankClassify t _ _ => decide (t.toNat < cf.tiles)
  | .supplyGood => true
  | .supplyFail k => decide (k.toNat < 2 + cf.tiles)
  | .resetRelease => true
  | .resetNReset => true
  | .resetNPulse _ => true
  | .softwareReset w _ => Writer.ok cf w
  | .debugReset w _ => Writer.ok cf w
  | .coreReset w _ => Writer.ok cf w
  | .berthReset w b => Writer.ok cf w && decide (b.toNat < cf.berths)
  | .dozeEntry => true
  | .deepSleepRequest w => Writer.ok cf w
  | .deepSleepEntry => true
  | .wakeComplete => true
  | .recover w _ => Writer.ok cf w
  | .dividerRequest w _ => Writer.ok cf w
  | .dividerChange => true
  | .relockRequest w _ => Writer.ok cf w
  | .relockSwitch => true
  | .relockPllReset => true
  | .pllLock _ => true
  | .relockReturn => true
  | .relockTimeout => true
  | .pllUnlock _ => true
  | .sensorRead rs => rs.all fun r => decide (r.1 < 8 * cf.tiles)
  | .thermalPowerOff => true
  | .governorPeriod => true
  | .peakClear w => Writer.ok cf w
  | .registerWrite w _ _ => Writer.ok cf w
  | .undefinedInstruction i => Site.ok cf i
  | .peUndefined e => decide (e.toNat < cf.engines)
  | .vddMonitor k => k != 3
  | .resyncTransmit => true
  | .bankOvervoltage t => decide (t.toNat < cf.tiles)

end Sys2Proof
end

