-- ==== Sys2Proof/Machine/LoadStore.lean ====
section
/-! DEFINITION. Loads and stores (R121 to R123), their addresses (R80, R81, R83), and their end. -/

namespace Sys2Proof.Machine

/-- {BANKn[17:0], offset} (R80): the offset is taken modulo 2^32. -/
def Berth.banked (x : Berth) (bk off : Nat) : Nat := x.srN (12 + bk) * 2 ^ 32 + off % 2 ^ 32

/-- A register plus a displacement that is sign-extended to 32 bits. -/
def Berth.plus (x : Berth) (r : Reg5) (disp : Word) : Nat := (x.operand r.toNat + disp).toNat

/-- The address of a load or a store (R80, R81). -/
def Berth.memAddr (x : Berth) : Mem → Nat
  | .base rs1 disp bk => x.banked bk.toNat (x.plus rs1 (disp.signExtend 32))
  | .page u6 => x.banked 0 (x.srN 9 / 256 * 256 + 4 * u6.toNat)

/-- The address of LWI and SWI (R83): {BANK3, INST + u19 × 4}. -/
def Berth.instAddr (x : Berth) (u19 : BitVec 19) : Nat := x.banked 3 (x.srN 11 + 4 * u19.toNat)

/-- The registers that form an address. -/
def memRegs : Mem → List Nat
  | .base rs1 _ _ => [rs1.toNat]
  | .page _ => []

/-- An access outside a timed berth's own tile SRAM is a breach of cause 1 (R46, R50). -/
def placeBreach (b : Nat) : Place → Nat
  | .sram t _ => if t = tileOf b then 0 else 1
  | _ => 1

/-- What an error response to an external load would restore (R100). -/
def Berth.rescue (x : Berth) : Rescue := ⟨x.gpr, x.sr, x.loads.filterMap fun e => e.dest.map fun p => (e.seq, p)⟩

/-- The load-delay position after a load-like instruction: its destination's register and the old value (R49). -/
def Berth.delay (x : Berth) (rd : Nat) : Option (Nat × Word) := some (physReg x.cwp rd, x.reg rd)

/-- A load of `n` bytes at an address. A window load, whose read may change the device, waits for external loads in flight. -/
def Device.loadAt (d : Device) (c : Ctx) (rd a n : Nat) (signed : Bool) : Issued :=
  let b := c.b
  let x := d.berth b
  match d.access b c.level a n false with
  | .error code => .exc d code 0 a
  | .ok p =>
    let eff : Effect := ⟨none, 0, x.delay rd, placeBreach b p, [(false, a, n)]⟩
    if d.loadFree b = false then .full false
    else if d.ueAt p then .exc (d.countUe 0 ((p.eccAddr).getD 0)) 5 0 a
    else match p with
      | .external _ =>
        if d.unsent b || d.beatBusy b a || !d.portFree then .stall
        else
          .done ((d.pushLoad b rd (.memory a n signed) (some x.rescue)).sendRequest
            (.single (.load b x.seq) (a % 2 ^ 48) n false 0 c.level)) eff
      | .window _ =>
        if (d.externalLoads b).isEmpty = false then .stall
        else .done (d.pushLoad b rd (.memory a n signed) none) eff
      | _ => .done (d.pushLoad b rd (.memory a n signed) none) eff

/-- A store of `n` bytes at an address. With every tag in use an external one does not issue (R177, R463). -/
def Device.storeAt (d : Device) (c : Ctx) (a n v : Nat) : Issued :=
  let b := c.b
  match d.access b c.level a n true with
  | .error code => .exc (if code = 2 ∧ n = 4 then d.serveRefused b a v else d) code 0 a
  | .ok p =>
    if d.storeFree b = false then .full true
    else if p.isExternal && !d.portFree then .stall
    else
      let d1 := ((d.pushStore b c.level a n v).traceData b 2 a n v)
      .done (if p.isExternal then d1.sendStores b else d1) ⟨none, 0, none, placeBreach b p, [(true, a, n)]⟩

/-- A load instruction. -/
def loadOp (n : Nat) (signed : Bool) (rd : Reg5) (m : Mem) : Op where
  reads := memRegs m
  dest := some rd.toNat
  calm := true
  sends := true
  feed := true
  run c d := d.loadAt c rd.toNat ((d.berth c.b).memAddr m) n signed

/-- A store instruction. -/
def storeOp (n : Nat) (rs2 : Reg5) (m : Mem) : Op where
  reads := rs2.toNat :: memRegs m
  dest := none
  calm := true
  sends := true
  feed := true
  run c d := d.storeAt c ((d.berth c.b).memAddr m) n ((d.berth c.b).operand rs2.toNat).toNat

def lwiOp (rd : Reg5) (u19 : BitVec 19) : Op where
  reads := []
  dest := some rd.toNat
  calm := true
  sends := true
  feed := true
  run c d := d.loadAt c rd.toNat ((d.berth c.b).instAddr u19) 4 false

def swiOp (rs : Reg5) (u19 : BitVec 19) : Op where
  reads := [rs.toNat]
  dest := none
  calm := true
  sends := true
  feed := true
  run c d := d.storeAt c ((d.berth c.b).instAddr u19) 4 ((d.berth c.b).operand rs.toNat).toNat

def execLb (i : Site) (rd : Reg5) (m : Mem) (s : State) : Host.Outcome State Fault Refusal :=
  s.upd fun d => d.issue i (loadOp 1 true rd m)
def execLbu (i : Site) (rd : Reg5) (m : Mem) (s : State) : Host.Outcome State Fault Refusal :=
  s.upd fun d => d.issue i (loadOp 1 false rd m)
def execLh (i : Site) (rd : Reg5) (m : Mem) (s : State) : Host.Outcome State Fault Refusal :=
  s.upd fun d => d.issue i (loadOp 2 true rd m)
def execLhu (i : Site) (rd : Reg5) (m : Mem) (s : State) : Host.Outcome State Fault Refusal :=
  s.upd fun d => d.issue i (loadOp 2 false rd m)
/-- LW (R121); the halfword 0x0000, a short load of p0, is ILLEGAL (R114, Table 4.3). -/
def execLw (i : Site) (rd : Reg5) (m : Mem) (s : State) : Host.Outcome State Fault Refusal :=
  s.upd fun d => d.issue i (if i.short && zeroHalf rd m then undefinedOp else loadOp 4 false rd m)
def execSb (i : Site) (rs2 : Reg5) (m : Mem) (s : State) : Host.Outcome State Fault Refusal :=
  s.upd fun d => d.issue i (storeOp 1 rs2 m)
def execSh (i : Site) (rs2 : Reg5) (m : Mem) (s : State) : Host.Outcome State Fault Refusal :=
  s.upd fun d => d.issue i (storeOp 2 rs2 m)
def execSw (i : Site) (rs2 : Reg5) (m : Mem) (s : State) : Host.Outcome State Fault Refusal :=
  s.upd fun d => d.issue i (storeOp 4 rs2 m)
def execLwi (i : Site) (rd : Reg5) (u19 : BitVec 19) (s : State) : Host.Outcome State Fault Refusal :=
  s.upd fun d => d.issue i (lwiOp rd u19)
def execSwi (i : Site) (rs : Reg5) (u19 : BitVec 19) (s : State) : Host.Outcome State Fault Refusal :=
  s.upd fun d => d.issue i (swiOp rs u19)

/-- LOAD_RETURN: the berth and the place in its load queue. -/
def execLoadReturn (b : BitVec 9) (i : BitVec 6) (s : State) : Host.Outcome State Fault Refusal :=
  s.upd fun d => d.loadReturn b.toNat i.toNat

/-- STORE_PERFORMED: the berth and the place in its store buffer. -/
def execStorePerformed (b : BitVec 9) (i : BitVec 6) (s : State) : Host.Outcome State Fault Refusal :=
  s.upd fun d => d.storePerformed b.toNat i.toNat

end Sys2Proof.Machine
end

