-- ==== Sys2Proof/Machine/Branch.lean ====
section
/-! DEFINITION. Branches, jumps, the short no-operation and the zero-overhead loops (R84, R117, R124, R125, R127). -/

namespace Sys2Proof.Machine

/-- PC + disp × 2 modulo 2^32 under PC[49:32] (R84). -/
def relTarget (pc : Nat) (disp : Word) : Nat := pc / 2 ^ 32 * 2 ^ 32 + (pc + 2 * disp.toNat) % 2 ^ 32

/-- A transfer of control with its kind. -/
def Effect.jump (t kind : Nat) : Effect := { Effect.next with target := some t, flow := kind }

/-- A compare-and-branch or bit-test branch: a condition over the berth's operands, and the displacement. -/
def branchOp (reads : List Nat) (cond : Berth → Bool) (disp : BitVec 14) : Op where
  reads := reads
  dest := none
  calm := true
  sends := false
  feed := false
  run c d := .done d (if cond (d.berth c.b) then Effect.jump (relTarget c.pc (disp.signExtend 32)) 1 else Effect.next)

/-- A branch that compares two registers. -/
def regBranch (p : Word → Word → Bool) (rs1 rs2 : Reg5) (disp : BitVec 14) : Op :=
  branchOp [rs1.toNat, rs2.toNat] (fun x => p (x.operand rs1.toNat) (x.operand rs2.toNat)) disp

/-- A branch that compares a register, signed, with a 5-bit immediate. -/
def immBranch (p : Word → Word → Bool) (rs1 : Reg5) (imm : BitVec 5) (disp : BitVec 14) : Op :=
  branchOp [rs1.toNat] (fun x => p (x.operand rs1.toNat) (imm.signExtend 32)) disp

/-- A branch on one bit of a register. -/
def bitBranch (v : Bool) (rs1 bit : Reg5) (disp : BitVec 14) : Op :=
  branchOp [rs1.toNat] (fun x => bitOf (x.operand rs1.toNat).toNat bit.toNat == v) disp

def eqCond (a b : Word) : Bool := a == b
def neCond (a b : Word) : Bool := a != b
def ltCond (a b : Word) : Bool := decide (a.toInt < b.toInt)
def geCond (a b : Word) : Bool := decide (b.toInt ≤ a.toInt)
def ltuCond (a b : Word) : Bool := decide (a.toNat < b.toNat)
def geuCond (a b : Word) : Bool := decide (b.toNat ≤ a.toNat)

def execBeq (i : Site) (rs1 rs2 : Reg5) (disp : BitVec 14) (s : State) : Host.Outcome State Fault Refusal :=
  s.upd fun d => d.issue i (regBranch eqCond rs1 rs2 disp)
def execBne (i : Site) (rs1 rs2 : Reg5) (disp : BitVec 14) (s : State) : Host.Outcome State Fault Refusal :=
  s.upd fun d => d.issue i (regBranch neCond rs1 rs2 disp)
def execBlt (i : Site) (rs1 rs2 : Reg5) (disp : BitVec 14) (s : State) : Host.Outcome State Fault Refusal :=
  s.upd fun d => d.issue i (regBranch ltCond rs1 rs2 disp)
def execBge (i : Site) (rs1 rs2 : Reg5) (disp : BitVec 14) (s : State) : Host.Outcome State Fault Refusal :=
  s.upd fun d => d.issue i (regBranch geCond rs1 rs2 disp)
def execBltu (i : Site) (rs1 rs2 : Reg5) (disp : BitVec 14) (s : State) : Host.Outcome State Fault Refusal :=
  s.upd fun d => d.issue i (regBranch ltuCond rs1 rs2 disp)
def execBgeu (i : Site) (rs1 rs2 : Reg5) (disp : BitVec 14) (s : State) : Host.Outcome State Fault Refusal :=
  s.upd fun d => d.issue i (regBranch geuCond rs1 rs2 disp)
def execBeqi (i : Site) (rs1 : Reg5) (imm : BitVec 5) (disp : BitVec 14) (s : State) : Host.Outcome State Fault Refusal :=
  s.upd fun d => d.issue i (immBranch eqCond rs1 imm disp)
def execBnei (i : Site) (rs1 : Reg5) (imm : BitVec 5) (disp : BitVec 14) (s : State) : Host.Outcome State Fault Refusal :=
  s.upd fun d => d.issue i (immBranch neCond rs1 imm disp)
def execBlti (i : Site) (rs1 : Reg5) (imm : BitVec 5) (disp : BitVec 14) (s : State) : Host.Outcome State Fault Refusal :=
  s.upd fun d => d.issue i (immBranch ltCond rs1 imm disp)
def execBgei (i : Site) (rs1 : Reg5) (imm : BitVec 5) (disp : BitVec 14) (s : State) : Host.Outcome State Fault Refusal :=
  s.upd fun d => d.issue i (immBranch geCond rs1 imm disp)
def execBbs (i : Site) (rs1 bit : Reg5) (disp : BitVec 14) (s : State) : Host.Outcome State Fault Refusal :=
  s.upd fun d => d.issue i (bitBranch true rs1 bit disp)
def execBbc (i : Site) (rs1 bit : Reg5) (disp : BitVec 14) (s : State) : Host.Outcome State Fault Refusal :=
  s.upd fun d => d.issue i (bitBranch false rs1 bit disp)

/-! ### Jumps (R125) -/

def jmpOp (disp : BitVec 24) : Op where
  reads := []
  dest := none
  calm := true
  sends := false
  feed := false
  run c d := .done d (Effect.jump (relTarget c.pc (disp.signExtend 32)) 1)

/-- {BANK[BK][17:0], rt} (R84). -/
def Berth.regTarget (x : Berth) (rt : Reg5) (bk : BitVec 2) : Nat := x.banked bk.toNat (x.operand rt.toNat).toNat

/-- JMPR: a target whose bit 0 is 1 raises ALIGN on the transfer (R84). -/
def jmprOp (rt : Reg5) (bk : BitVec 2) : Op where
  reads := [rt.toNat]
  dest := none
  calm := true
  sends := false
  feed := false
  run c d :=
    let t := (d.berth c.b).regTarget rt bk
    if t % 2 = 1 then .exc d 3 0 t else .done d (Effect.jump t 1)

def execJmp (i : Site) (disp : BitVec 24) (s : State) : Host.Outcome State Fault Refusal := s.upd fun d => d.issue i (jmpOp disp)
def execJmpr (i : Site) (rt : Reg5) (bk : BitVec 2) (s : State) : Host.Outcome State Fault Refusal :=
  s.upd fun d => d.issue i (jmprOp rt bk)

/-- C.NOP (R117). -/
def cnopOp : Op := plainOp [] fun _ x => x
def execCNop (i : Site) (s : State) : Host.Outcome State Fault Refusal := s.upd fun d => d.issue i cnopOp

/-! ### Loops (R127) -/

/-- Sets up loop level n; a count of zero skips the body, a taken transfer. -/
def loopOp (reads : List Nat) (n : BitVec 2) (count : Berth → Word) (disp : BitVec 14) : Op where
  reads := reads
  dest := none
  calm := true
  sends := false
  feed := false
  run c d :=
    let x := d.berth c.b
    let v := count x
    let fin := relTarget c.pc (disp.signExtend 32)
    let y := ((x.setSr (24 + n.toNat) ((c.pc + 4) % 2 ^ 32)).setSr (28 + n.toNat) (fin % 2 ^ 32)).setSr (32 + n.toNat) v.toNat
    .done (d.setBerth c.b y) (if v = 0 then Effect.jump fin 1 else Effect.next)

def execLoop (i : Site) (n : BitVec 2) (rs1 : Reg5) (disp : BitVec 14) (s : State) : Host.Outcome State Fault Refusal :=
  s.upd fun d => d.issue i (loopOp [rs1.toNat] n (fun x => x.operand rs1.toNat) disp)
def execLoopi (i : Site) (n : BitVec 2) (count : BitVec 8) (disp : BitVec 14) (s : State) : Host.Outcome State Fault Refusal :=
  s.upd fun d => d.issue i (loopOp [] n (fun _ => count.zeroExtend 32) disp)

end Sys2Proof.Machine
end

