-- ==== Sys2Proof/Machine/Calls.lean ====
section
/-! DEFINITION. Calls and returns (R76 to R79, R83, R125, R126). -/

namespace Sys2Proof.Machine

/-- The memories that stack accesses from some offsets reach: the berth's earlier accesses to them come first (R173). -/
def Device.stackMems (d : Device) (b : Nat) (offs : List Nat) : List Nat :=
  offs.map fun o => (d.placeFor b ((d.berth b).stackAddr o)).memory

def Device.drainStack (d : Device) (b : Nat) (offs : List Nat) : Device :=
  let ms := d.stackMems b offs
  d.drain b fun m => m != 11 && ms.contains m

/-- Some word of the stack lies where the level has no privilege (R85, R96). -/
def Device.stackPriv (d : Device) (b level off k : Nat) (write : Bool) : Bool :=
  ((d.berth b).stackWords off k).any fun a => match d.access b level a 4 write with
    | .error c => c == 2
    | .ok _ => false

/-- The offset of the record that a call writes: SP − 16. -/
def recordOff (sp : Nat) : Nat := (sp + 2 ^ 32 - 16) % 2 ^ 32

/-- What forbids a call to a target (R79, R84, in the order of R96): code, subcode and address. -/
def Device.callFault (d : Device) (c : Ctx) (sp target : Nat) : Option (Nat × Nat × Nat) :=
  let x := d.berth c.b
  let rec_ := x.stackAddr (recordOff sp)
  let spill := x.stackAddr x.wsp
  if d.stackPriv c.b c.level (recordOff sp) 4 true || (x.spills && d.stackPriv c.b c.level x.wsp 16 true) then
    some (2, 0, rec_)
  else if sp % 16 ≠ 0 then some (3, 0, rec_)
  else if x.spills ∧ x.wsp % 8 ≠ 0 then some (3, 0, spill)
  else if sp < x.srN 8 + 16 then some (8, 2, rec_)
  else if x.spills ∧ x.srN 6 < x.wsp + 64 then some (8, 3, spill)
  else if target % 2 = 1 then some (3, 0, target)
  else match d.stackCheck c.b c.level (recordOff sp) 4 true with
    | some e => some (e, 0, rec_)
    | none => d.spillFault c.b c.level

/-- A call that writes to the external region waits until its record and spill are there (R76). -/
def Device.recordWait (d : Device) (b first : Nat) : Device :=
  let x := d.berth b
  if (!x.writes.isEmpty || x.stores.any fun s => decide (first ≤ s.seq)) then
    d.setBerth b { x with wait := .record first } else d

/-- The call itself: the record, SP, INST and BANK3, the slide (R76, R126). -/
def Device.callDo (d : Device) (c : Ctx) (sp target : Nat) (fb : Option (Word × Word)) : Device × Effect :=
  let b := c.b
  let x := d.berth b
  let off := recordOff sp
  let offs := if x.spills then [off, x.wsp] else [off]
  let d1 := d.drainStack b offs
  let ret := seqPc c.pc c.len
  let d2 := d1.stackWrite b c.level off [ret % 2 ^ 32, frameWord ret fb.isSome, x.srN 11, x.srN 15]
  let y := (d2.berth b).setReg 7 (BitVec.ofNat 32 off)
  let z := match fb with
    | some (i, k) => (y.setSr 11 i.toNat).setSr 15 (k.toNat % 2 ^ 18)
    | none => y
  let d3 := ((d2.setBerth b z).slideForward b c.level).recordWait b (d1.berth b).seq
  let breach := (offs.map fun o => d.stackBreach b o).foldl max 0
  let acc := (true, x.stackAddr off, 16) :: (if x.spills then [(true, x.stackAddr x.wsp, 64)] else [])
  (d3, { Effect.jump target 2 with breach := breach, access := acc })

/-- A call (R76): its checks change no state. The spill waits for loads into the frame (R75). -/
def Device.call (d : Device) (c : Ctx) (target : Nat) (fb : Option (Word × Word)) : Issued :=
  let x := d.berth c.b
  let sp := (x.operand 7).toNat
  match d.callFault c sp target with
  | some (code, sub, a) => .exc d code sub a
  | none => if x.spillWaits then .stall else .done (d.callDo c sp target fb).1 (d.callDo c sp target fb).2

/-- A call instruction: the registers it reads, its target and, for a function block, INST and BANK3. -/
def callOp (reads : List Nat) (target : Ctx → Berth → Nat) (fb : Berth → Option (Word × Word)) : Op where
  reads := 7 :: reads
  dest := none
  calm := false
  sends := true
  feed := false
  run c d := d.call c (target c (d.berth c.b)) (fb (d.berth c.b))

def fbArgs (rs1 rs2 : Reg5) (x : Berth) : Option (Word × Word) := some (x.operand rs1.toNat, x.operand rs2.toNat)

def callRel (disp : BitVec 24) : Op := callOp [] (fun c _ => relTarget c.pc (disp.signExtend 32)) fun _ => none
def callReg (rt : Reg5) (bk : BitVec 2) : Op := callOp [rt.toNat] (fun _ x => x.regTarget rt bk) fun _ => none
def callFbRel (rs1 rs2 : Reg5) (disp : BitVec 14) : Op :=
  callOp [rs1.toNat, rs2.toNat] (fun c _ => relTarget c.pc (disp.signExtend 32)) (fbArgs rs1 rs2)
def callFbReg (rs1 rs2 rt : Reg5) (bk : BitVec 2) : Op :=
  callOp [rs1.toNat, rs2.toNat, rt.toNat] (fun _ x => x.regTarget rt bk) (fbArgs rs1 rs2)

def execCall (i : Site) (disp : BitVec 24) (s : State) : Host.Outcome State Fault Refusal :=
  s.upd fun d => d.issue i (callRel disp)
def execCallr (i : Site) (rt : Reg5) (bk : BitVec 2) (s : State) : Host.Outcome State Fault Refusal :=
  s.upd fun d => d.issue i (callReg rt bk)
def execCallfb (i : Site) (rs1 rs2 : Reg5) (disp : BitVec 14) (s : State) : Host.Outcome State Fault Refusal :=
  s.upd fun d => d.issue i (callFbRel rs1 rs2 disp)
def execCallfbr (i : Site) (rs1 rs2 rt : Reg5) (bk : BitVec 2) (s : State) : Host.Outcome State Fault Refusal :=
  s.upd fun d => d.issue i (callFbReg rs1 rs2 rt bk)

/-! ### RET (R78) -/

/-- What forbids a slide back before memory is read: ALIGN of WSP, then STACK with subcode 4 (R79, R96). -/
def Device.refillLimit (d : Device) (b : Nat) : Option (Nat × Nat × Nat) :=
  let x := d.berth b
  let a := x.stackAddr ((x.wsp + 2 ^ 32 - 64) % 2 ^ 32)
  if x.refills = false then none
  else if x.wsp % 8 ≠ 0 then some (3, 0, a)
  else if x.wsp < 64 then some (8, 4, a)
  else none

/-- The words that a slide back reads. -/
def Device.refillWords (d : Device) (b : Nat) : List Nat :=
  let x := d.berth b
  if x.refills then x.stackWords (x.wsp - 64) 16 else []

/-- What forbids the refill's read: ACCESS, then ECC. -/
def Device.refillFault (d : Device) (b level : Nat) : Option (Nat × Nat × Nat) :=
  let x := d.berth b
  if x.refills = false then none
  else match d.stackCheck b level (x.wsp - 64) 16 false with
    | some e => some (e, 0, x.stackAddr (x.wsp - 64))
    | none => (d.stackUe b (x.wsp - 64) 16).map fun a => (5, 0, a)

/-- What forbids the record's read: ALIGN, ACCESS, then ECC. -/
def Device.recordFault (d : Device) (b level sp : Nat) : Option (Nat × Nat × Nat) :=
  match d.stackCheck b level sp 4 false with
  | some e => some (e, 0, (d.berth b).stackAddr sp)
  | none => (d.stackUe b sp 4).map fun a => (5, 0, a)

/-- A record as RET reads it. -/
structure CallRecord where
  retlo  : Nat
  frame  : Nat
  sinst  : Nat
  sbank3 : Nat
  deriving DecidableEq, Repr

def CallRecord.of (ws : List Nat) : CallRecord := ⟨ws.getD 0 0, ws.getD 1 0, ws.getD 2 0, ws.getD 3 0⟩

def CallRecord.fb (r : CallRecord) : Bool := bitOf r.frame 18
def CallRecord.target (r : CallRecord) : Nat := r.retlo + 2 ^ 32 * (r.frame % 2 ^ 18)

/-- FCHK of the record holds. -/
def CallRecord.good (r : CallRecord) : Bool := r.frame / 2 ^ 24 == frameCheck r.retlo (r.frame % 2 ^ 18) r.fb

/-- An uncorrectable error met by a read is counted and logged (R170). -/
def Device.countFault (d : Device) (b : Nat) (e : Nat × Nat × Nat) : Device :=
  if e.1 = 5 then d.countUe 0 (((d.placeFor b e.2.2).eccAddr).getD 0) else d

/-- The return itself: INST and BANK3, the slide, SP. -/
def Device.retDo (d : Device) (c : Ctx) (sp : Nat) (r : CallRecord) : Device × Effect :=
  let b := c.b
  let x := d.berth b
  let y := if r.fb then (x.setSr 11 r.sinst).setSr 15 (r.sbank3 % 2 ^ 18) else x
  let d1 := (d.setBerth b y).slideBack b
  let d2 := d1.setBerth b ((d1.berth b).setReg 7 (BitVec.ofNat 32 (sp + 16)))
  let offs := if x.refills then [sp, x.wsp - 64] else [sp]
  let acc := (false, x.stackAddr sp, 16) :: (if x.refills then [(false, x.stackAddr (x.wsp - 64), 64)] else [])
  (d2, { Effect.jump r.target 3 with breach := (offs.map fun o => d.stackBreach b o).foldl max 0, access := acc })

/-- RET (R78), its checks in the order of R96: it reads the record only once nothing earlier forbids it. A record and a frame in the
external region are read through the initiator port first (R463). -/
def Device.ret (d : Device) (c : Ctx) : Issued :=
  let b := c.b
  let x := d.berth b
  let sp := (x.operand 7).toNat
  if d.stackPriv b c.level sp 4 false || (x.refills && decide (64 ≤ x.wsp) && d.stackPriv b c.level (x.wsp - 64) 16 false) then
    .exc d 2 0 (x.stackAddr sp)
  else match d.refillLimit b with
  | some (code, sub, a) => .exc d code sub a
  | none =>
    let d0 := d.drainStack b (if x.refills then [sp, x.wsp - 64] else [sp])
    match d0.recordFault b c.level sp with
    | some e => .exc (d0.countFault b e) e.1 e.2.1 e.2.2
    | none =>
      if (d0.wordsWanted b (x.stackWords sp 4)).isEmpty = false then .words c.level (x.stackWords sp 4)
      else
      let q := d0.stackRead b (x.stackWords sp 4)
      let r := CallRecord.of q.1
      if r.good = false then .exc q.2 8 1 (x.stackAddr sp)
      else if r.target % 2 = 1 then .exc q.2 3 0 r.target
      else match q.2.refillFault b c.level with
        | some e => .exc (q.2.countFault b e) e.1 e.2.1 e.2.2
        | none =>
          let ws := q.2.refillWords b
          if (q.2.wordsWanted b ws).isEmpty = false then .words c.level ws
          else .done (q.2.retDo c sp r).1 (q.2.retDo c sp r).2

def retOp : Op where
  reads := [7]
  dest := none
  calm := false
  sends := true
  feed := false
  run c d := d.ret c

def execRet (i : Site) (s : State) : Host.Outcome State Fault Refusal := s.upd fun d => d.issue i retOp

end Sys2Proof.Machine
end

