-- ==== Sys2Proof/Machine/ImageBits.lean ====
section
/-! DEFINITION. MACX (R92, R129, R130) and the image bit operations (R82, R131, R132). -/

namespace Sys2Proof.Machine

/-! ### Results fixed at issue -/

/-- A load-like instruction whose result is known at issue delivers it through the load queue (R44, R123). -/
def Device.fixed (d : Device) (c : Ctx) (rd v : Nat) (e : Effect) : Issued :=
  .done (d.pushLoad c.b rd (.value (BitVec.ofNat 32 v)) none) { e with shadow := (d.berth c.b).delay rd }

/-! ### Image bit operations -/

/-- The bit index (R82). -/
def Berth.bitIndex (x : Berth) : BitName → Nat
  | .base rs1 disp => x.plus rs1 (disp.signExtend 32)
  | .page u8 => x.srN 10 / 256 * 256 + u8.toNat

def bitRegs : BitName → List Nat
  | .base rs1 _ => [rs1.toNat]
  | .page _ => []

/-- The word of the bit alias that is the bit (R82). -/
def aliasAddr (bit : Nat) : Nat := bitBase + 4 * bit

/-- What forbids an operation on a bit at a level: ACCESS (R82, R148, Table 5.4), then ECC (R170). -/
def Device.bitFault (d : Device) (level bit : Nat) (write : Bool) : Option Nat :=
  if 8 * d.cfg.imageSize ≤ bit then some 4
  else if imageReadable d.cfg level (bit / 8) = false ∨ (write && !imageWritable d.cfg (bit / 8)) then some 4
  else if d.eccAt (bitAddr bit) = .uncorrectable then some 5
  else none

/-- An image bit operation: given rd[0] and m, the value written to rd and the value written to m, where there is one. -/
def bitOp (f : Bool → Bool → Option Bool × Option Bool) (write res : Bool) (rd : Reg5) (n : BitName) : Op where
  reads := rd.toNat :: bitRegs n
  dest := if res then some rd.toNat else none
  calm := false
  sends := true
  feed := true
  run c d :=
    let b := c.b
    let x := d.berth b
    let k := x.bitIndex n
    if res && !d.loadFree b then .full false
    else match d.bitFault c.level k write with
      | some code => .exc (if code = 5 then d.countUe 0 (bitAddr k) else d) code 0 (aliasAddr k)
      | none =>
        let d1 := d.drain b (· == 8)
        let r := f (bitOf (x.operand rd.toNat).toNat 0) (d1.imageBit k)
        let d2 := match r.2 with
          | some v => d1.setImageBit 0 k v
          | none => (d1.checkRead 0 (bitAddr k)).2
        let d3 := d2.traceData b 4 (aliasAddr k) 4 (bit01 (d2.imageBit k))
        let acc := (if write then [(true, aliasAddr k, 4)] else []) ++ (if res then [(false, aliasAddr k, 4)] else [])
        let e : Effect := { Effect.next with breach := 1, access := acc }
        match r.1 with
        | some v => d3.fixed c rd.toNat (bit01 v) e
        | none => .done d3 e

def bldOp := bitOp (fun _ m => (some m, none)) false true
def bldnOp := bitOp (fun _ m => (some !m, none)) false true
def bandOp := bitOp (fun r m => (some (r && m), none)) false true
def bandnOp := bitOp (fun r m => (some (r && !m), none)) false true
def borOp := bitOp (fun r m => (some (r || m), none)) false true
def bornOp := bitOp (fun r m => (some (r || !m), none)) false true
def bxorOp := bitOp (fun r m => (some (r != m), none)) false true
def bxornOp := bitOp (fun r m => (some (r != !m), none)) false true
def bstOp := bitOp (fun r _ => (none, some r)) true false
def bsetOp := bitOp (fun r _ => (none, if r then some true else none)) true false
def brstOp := bitOp (fun r _ => (none, if r then some false else none)) true false
def edgrOp := bitOp (fun r m => (some (r && !m), some r)) true true
def edgfOp := bitOp (fun r m => (some (m && !r), some r)) true true

def execBld (i : Site) (rd : Reg5) (n : BitName) (s : State) : Host.Outcome State Fault Refusal :=
  s.upd fun d => d.issue i (bldOp rd n)
def execBldn (i : Site) (rd : Reg5) (n : BitName) (s : State) : Host.Outcome State Fault Refusal :=
  s.upd fun d => d.issue i (bldnOp rd n)
def execBand (i : Site) (rd : Reg5) (n : BitName) (s : State) : Host.Outcome State Fault Refusal :=
  s.upd fun d => d.issue i (bandOp rd n)
def execBandn (i : Site) (rd : Reg5) (n : BitName) (s : State) : Host.Outcome State Fault Refusal :=
  s.upd fun d => d.issue i (bandnOp rd n)
def execBor (i : Site) (rd : Reg5) (n : BitName) (s : State) : Host.Outcome State Fault Refusal :=
  s.upd fun d => d.issue i (borOp rd n)
def execBorn (i : Site) (rd : Reg5) (n : BitName) (s : State) : Host.Outcome State Fault Refusal :=
  s.upd fun d => d.issue i (bornOp rd n)
def execBxor (i : Site) (rd : Reg5) (n : BitName) (s : State) : Host.Outcome State Fault Refusal :=
  s.upd fun d => d.issue i (bxorOp rd n)
def execBxorn (i : Site) (rd : Reg5) (n : BitName) (s : State) : Host.Outcome State Fault Refusal :=
  s.upd fun d => d.issue i (bxornOp rd n)
def execBst (i : Site) (rd : Reg5) (n : BitName) (s : State) : Host.Outcome State Fault Refusal :=
  s.upd fun d => d.issue i (bstOp rd n)
def execBset (i : Site) (rd : Reg5) (n : BitName) (s : State) : Host.Outcome State Fault Refusal :=
  s.upd fun d => d.issue i (bsetOp rd n)
def execBrst (i : Site) (rd : Reg5) (n : BitName) (s : State) : Host.Outcome State Fault Refusal :=
  s.upd fun d => d.issue i (brstOp rd n)
def execEdgr (i : Site) (rd : Reg5) (n : BitName) (s : State) : Host.Outcome State Fault Refusal :=
  s.upd fun d => d.issue i (edgrOp rd n)
def execEdgf (i : Site) (rd : Reg5) (n : BitName) (s : State) : Host.Outcome State Fault Refusal :=
  s.upd fun d => d.issue i (edgfOp rd n)

/-! ### MACX -/

/-- ACC as a signed number (R92). -/
def Berth.acc (x : Berth) : Int := signedOf 72 (x.srN 16 + 2 ^ 32 * x.srN 17 + 2 ^ 64 * (x.srN 18 % 256))

/-- ACC and OV take values. -/
def Berth.setAcc (x : Berth) (v : Int) (ov : Bool) : Berth :=
  let n := patternOf 72 v
  ((x.setSr 16 (n % 2 ^ 32)).setSr 17 (n / 2 ^ 32 % 2 ^ 32)).setSr 18 (n / 2 ^ 64 + 256 * bit01 ov)

/-- A pointer after its step (Table 4.6); K = 0 does not wrap. -/
def stepPointer (k step q : Nat) : Nat :=
  if k = 0 then (q + step) % 2 ^ 32 else q / 2 ^ k * 2 ^ k + (q + step) % 2 ^ k

/-- What forbids the operands: ALIGN, ACCESS, then ECC, each in rx or in ry: code and address (R129, R170). -/
def Device.macxFault (d : Device) (b size p q : Nat) : Option (Nat × Nat) :=
  let bad (f : Nat → Bool) : Option Nat := if f p then some p else if f q then some q else none
  match bad fun a => a % size != 0 with
  | some a => some (3, a)
  | none => match bad fun a => decide (0x200000 ≤ a) with
    | some a => some (4, a)
    | none => (bad fun a => d.eccAt (sramBase (tileOf b) + a) == .uncorrectable).map fun a => (5, a)

/-- The operands lie in the same half of the tile SRAM (R129). -/
def sameHalf (p q : Nat) : Bool := bitOf p 20 == bitOf q 20

/-- The sum and the flag (R92, R129). -/
def macxSum (x : Berth) (va vb : Int) (neg clr : Bool) : Int × Bool :=
  let p := if neg then -(va * vb) else va * vb
  let s := x.acc + p
  if clr then (p, false) else (s, bitOf (x.srN 18) 8 || decide (s < -(2 ^ 71)) || decide ((2 : Int) ^ 71 ≤ s))

/-- Both operand reads of a MACX are checked. They fall in one MCLK cycle where the operands lie in different halves: MEM_UELOG
then takes the word at the higher address and MEM_CELOG the one at the lower (R179). -/
def Device.macxChecks (d : Device) (base p q : Nat) : Device :=
  let late := !sameHalf p q && decide (p < q)
  ((d.checkRead 0 (base + if late then q else p)).2.checkRead 0 (base + if late then p else q)).2

def macxOp (rx ry : Reg5) (k : BitVec 4) (wide neg clr : Bool) : Op where
  reads := [rx.toNat, ry.toNat]
  dest := none
  calm := false
  sends := true
  feed := true
  run c d :=
    let b := c.b
    let size := if wide then 4 else 2
    let p := ((d.berth b).operand rx.toNat).toNat
    let q := ((d.berth b).operand ry.toNat).toNat
    let base := sramBase (tileOf b)
    match d.macxFault b size p q with
    | some (code, a) => .exc (if code = 5 then d.macxChecks base p q else d) code 0 a
    | none =>
      let d1 := d.drain b (· == tileOf b)
      let d2 := d1.macxChecks base p q
      let x := d2.berth b
      let s := macxSum x (signedOf (8 * size) (d1.value (base + p) size)) (signedOf (8 * size) (d1.value (base + q) size)) neg clr
      let y := (x.setAcc s.1 s.2).setReg rx.toNat (BitVec.ofNat 32 (stepPointer k.toNat size p))
      let q' := if rx = ry then (y.reg ry.toNat).toNat else q
      let z := y.setReg ry.toNat (BitVec.ofNat 32 (stepPointer k.toNat size q'))
      .done (d2.setBerth b z)
        { Effect.next with breach := if sameHalf p q then 3 else 0, access := [(false, p, size), (false, q, size)] }

/-- MACX: `wide` is SZ = 1; a buffer size that Table 4.6 does not admit is ILLEGAL. -/
def execMacx (i : Site) (rx ry : Reg5) (k : BitVec 4) (wide neg clr : Bool) (s : State) : Host.Outcome State Fault Refusal :=
  s.upd fun d => d.issue i ((macxOp rx ry k wide neg clr).legal (macxSizes k wide))

end Sys2Proof.Machine
end

