-- ==== Sys2Proof/Machine/BollardOps.lean ====
section
/-! DEFINITION. The bollard instructions (R133, R186 to R200) and the end of a bollard wait. -/

namespace Sys2Proof.Machine

/-- The word of a BOL instruction: its global address, or the exception (R133): a word of a tile SRAM or of the Image Store. -/
def Device.bolWord (d : Device) (c : Ctx) (a : Nat) : Except (Nat × Nat) Nat :=
  match d.access c.b c.level a 4 true with
  | .error code => .error (code, 0)
  | .ok p =>
    let g := match p with
      | .sram t o => some (sramBase t + o)
      | .image o => some (imageBase + o)
      | _ => none
    match g with
    | none => .error (4, 0)
    | some g => if d.eccAt g = .uncorrectable then .error (5, g) else .ok g

/-- A BOL instruction: the operation at the word's global address gives the result, or none while the berth waits. Its checks come
in the order of R96: PRIV, TSTALL (R51), then those of the data. The berth's
earlier accesses to the memories come first (R173, R174). -/
def bolOp (reads : List Reg5) (rd rs1 : Reg5) (bk : BitVec 2) (wait : Bool)
    (f : Ctx → Berth → Nat → Device → Option Nat × Device) : Op where
  reads := rs1.toNat :: reads.map BitVec.toNat
  dest := some rd.toNat
  calm := false
  sends := true
  feed := !wait
  run c d :=
    let b := c.b
    let x := d.berth b
    let a := x.banked bk.toNat (x.operand rs1.toNat).toNat
    match d.bolWord c a with
      | .error (2, _) => .exc d 2 0 a
      | r => if wait && d.timed b then .exc d 7 0 0 else match r with
      | .error (code, g) => .exc (if code = 5 then d.countUe 0 g else d) code 0 a
      | .ok g =>
        if d.loadFree b = false then .full false
        else
          let d1 := d.drain b fun m => decide (m < 10)
          let r := f c x g d1
          let d2 := r.2.traceData b 3 a 4 (r.2.value g 4)
          let e : Effect := { Effect.next with
            shadow := x.delay rd.toNat
            breach := placeBreach b (d.placeFor b a)
            access := [(false, a, 4), (true, a, 4)] }
          match r.1 with
          | some v => d2.fixed c rd.toNat v e
          | none => .done d2 e

/-- BCAS (R133, R186): the old word; the word becomes rs2 only if it equalled rd. -/
def bcasOp (rd rs1 rs2 : Reg5) (bk : BitVec 2) : Op :=
  bolOp [rd, rs2] rd rs1 bk false fun _ x g d =>
    let old := d.value g 4
    (some old,
      if old = (x.operand rd.toNat).toNat then d.memWrite 0 2 g (leBytes 4 (x.operand rs2.toNat).toNat)
      else (d.checkRead 0 g).2)

/-- INH and USER of an acquire (R133). -/
def inhOf (v : Word) : Bool := bitOf v.toNat 29
def userOf (v : Word) : Nat := v.toNat % 2 ^ 15

def btryOp (rd rs1 rs2 : Reg5) (bk : BitVec 2) : Op :=
  bolOp [rs2] rd rs1 bk false fun c x g d =>
    let v := x.operand rs2.toNat
    let r := (d.checkRead 0 g).2.bolTry (.berth c.b) g (inhOf v) (userOf v)
    (some r.1, r.2)

def bacqOp (rd rs1 rs2 : Reg5) (bk : BitVec 2) : Op :=
  bolOp [rs2] rd rs1 bk true fun c x g d =>
    let v := x.operand rs2.toNat
    (d.checkRead 0 g).2.bolAcquire c.b g (inhOf v) (userOf v) rd.toNat

def brelOp (rd rs1 : Reg5) (bk : BitVec 2) : Op :=
  bolOp [] rd rs1 bk false fun c _ g d =>
    let r := (d.checkRead 0 g).2.bolRelease (.berth c.b) g
    (some r.1, r.2)

def execBcas (i : Site) (rd rs1 rs2 : Reg5) (bk : BitVec 2) (s : State) : Host.Outcome State Fault Refusal :=
  s.upd fun d => d.issue i (bcasOp rd rs1 rs2 bk)
def execBtry (i : Site) (rd rs1 rs2 : Reg5) (bk : BitVec 2) (s : State) : Host.Outcome State Fault Refusal :=
  s.upd fun d => d.issue i (btryOp rd rs1 rs2 bk)
def execBacq (i : Site) (rd rs1 rs2 : Reg5) (bk : BitVec 2) (s : State) : Host.Outcome State Fault Refusal :=
  s.upd fun d => d.issue i (bacqOp rd rs1 rs2 bk)
def execBrel (i : Site) (rd rs1 : Reg5) (bk : BitVec 2) (s : State) : Host.Outcome State Fault Refusal :=
  s.upd fun d => d.issue i (brelOp rd rs1 bk)

/-- BOLLARD_TIMEOUT (R197): the wait of a berth ends once the timebase has reached its limit. -/
def execBollardTimeout (b : BitVec 9) (s : State) : Host.Outcome State Fault Refusal := s.upd fun d => d.bolTimeout b.toNat

end Sys2Proof.Machine
end

