-- ==== Sys2Proof/Machine/ManifestOps.lean ====
section
/-! DEFINITION. The manifest instructions (R134, R135) and those of the private pin port and engine registers (R136 to
R138). -/

namespace Sys2Proof.Machine

/-- The word of a manifest operand as a global address, or the exception: word-aligned, in a tile SRAM or the Image Store, and
for MPUT writable by the berth (R134, R351). -/
def Device.mftWord (d : Device) (c : Ctx) (a : Nat) (write : Bool) : Except Nat Nat :=
  match d.access c.b c.level a 4 write with
  | .error code => .error code
  | .ok (.sram t o) => .ok (sramBase t + o)
  | .ok (.image o) => .ok (imageBase + o)
  | .ok _ => .error 4

/-- A manifest instruction; `feed` is false where R493 refuses it. Each is a breach of cause 5 in a timed berth (R50). -/
def mftOp (reads : List Reg5) (rd : Reg5) (feed : Bool) (f : Ctx → Berth → Device → Except (Nat × Nat) (Option Nat × Device)) :
    Op where
  reads := rd.toNat :: reads.map BitVec.toNat
  dest := some rd.toNat
  calm := false
  sends := true
  feed := feed
  run c d :=
    let x := d.berth c.b
    if d.loadFree c.b = false then .full false
    else match f c x d with
      | .error (code, a) => .exc d code 0 a
      | .ok (some v, d1) => d1.fixed c rd.toNat v { Effect.next with breach := 5 }
      | .ok (none, d1) => .done d1 { Effect.next with breach := 5, shadow := x.delay rd.toNat }

/-- An operation that names memory by {BANK[BK], rs1}. -/
def mftMemOp (reads : List Reg5) (rd rs1 : Reg5) (bk : BitVec 2) (write : Bool) (f : Ctx → Berth → Nat → Device → Nat × Device) :
    Op :=
  mftOp (rs1 :: reads) rd true fun c x d =>
    let a := x.banked bk.toNat (x.operand rs1.toNat).toNat
    match d.mftWord c a write with
    | .error code => .error (code, a)
    | .ok g => let r := f c x g d; .ok (some r.1, r.2)

/-- MOPEN: a K that Table 4.8 does not list is BADPARAM. -/
def mopenOp (rd rs1 : Reg5) (k : BitVec 3) : Op :=
  mftOp [rs1] rd true fun c x d =>
    if k = 0 then
      let r := d.mftOpen c.b (x.operand rs1.toNat).toNat (bitOf (x.operand rd.toNat).toNat 8)
      .ok (some r.1, r.2)
    else .ok (some (mftFail 0x08), d)

def mguardOp (rd rs1 rs2 : Reg5) (bk : BitVec 2) (k : BitVec 3) : Op :=
  mftMemOp [rs2] rd rs1 bk false fun c x g d =>
    d.mftGuard c.b (x.operand rd.toNat).toNat g (x.operand rs2.toNat).toNat k.toNat

def mputOp (rd rs1 rs2 : Reg5) (bk : BitVec 2) (k : BitVec 3) : Op :=
  mftMemOp [rs2] rd rs1 bk true fun c x g d =>
    d.mftPut c.b (x.operand rd.toNat).toNat g (x.operand rs2.toNat).toNat k.toNat

def mpinOp (rd rs1 rs2 : Reg5) (bk : BitVec 2) (k : BitVec 3) : Op :=
  mftOp [rs1, rs2] rd true fun c x d =>
    let r := d.mftPin c.b (x.operand rd.toNat).toNat bk.toNat k.toNat (x.operand rs1.toNat).toNat (x.operand rs2.toNat).toNat
    .ok (some r.1, r.2)

def msendOp (rd rs1 : Reg5) (bk : BitVec 2) (k : BitVec 3) : Op :=
  mftMemOp [] rd rs1 bk false fun c x g d => d.mftSend c.b (x.operand rd.toNat).toNat k.toNat g

/-- MCOMMIT (R135): it returns its status only once the commit has been applied or has failed; on a SYNC manifest the members
of its group may vote now (R397). -/
def mcommitOp (rd rs1 : Reg5) (k : BitVec 3) : Op :=
  mftOp [rs1] rd (k != 1) fun c x d =>
    let r := d.mftCommit c.b (x.operand rd.toNat).toNat (x.operand rs1.toNat).toNat k.toNat rd.toNat
    .ok (r.1, if r.1.isNone then r.2.sgArrive else r.2)

def mabortOp (rd : Reg5) (k : BitVec 3) : Op :=
  mftOp [] rd true fun c x d => let r := d.mftAbort c.b (x.operand rd.toNat).toNat k.toNat; .ok (some r.1, r.2)

def execMopen (i : Site) (rd rs1 : Reg5) (k : BitVec 3) (s : State) : Host.Outcome State Fault Refusal :=
  s.upd fun d => d.issue i (mopenOp rd rs1 k)
def execMguard (i : Site) (rd rs1 rs2 : Reg5) (bk : BitVec 2) (k : BitVec 3) (s : State) : Host.Outcome State Fault Refusal :=
  s.upd fun d => d.issue i (mguardOp rd rs1 rs2 bk k)
def execMput (i : Site) (rd rs1 rs2 : Reg5) (bk : BitVec 2) (k : BitVec 3) (s : State) : Host.Outcome State Fault Refusal :=
  s.upd fun d => d.issue i (mputOp rd rs1 rs2 bk k)
/-- MPIN: BK 1 does not use rs2, which must be zero (R134). -/
def execMpin (i : Site) (rd rs1 rs2 : Reg5) (bk : BitVec 2) (k : BitVec 3) (s : State) : Host.Outcome State Fault Refusal :=
  s.upd fun d => d.issue i ((mpinOp rd rs1 rs2 bk k).legal (bk != 1 || rs2 == 0))
def execMsend (i : Site) (rd rs1 : Reg5) (bk : BitVec 2) (k : BitVec 3) (s : State) : Host.Outcome State Fault Refusal :=
  s.upd fun d => d.issue i (msendOp rd rs1 bk k)
/-- MCOMMIT: K = 0 does not use rs1, which must name g0 (R134, Table 4.8). -/
def execMcommit (i : Site) (rd rs1 : Reg5) (k : BitVec 3) (s : State) : Host.Outcome State Fault Refusal :=
  s.upd fun d => d.issue i ((mcommitOp rd rs1 k).legal (k != 0 || rs1 == 0))
def execMabort (i : Site) (rd : Reg5) (k : BitVec 3) (s : State) : Host.Outcome State Fault Refusal :=
  s.upd fun d => d.issue i (mabortOp rd k)

/-! ### Pin port and engine registers -/

/-- An instruction of the private port that returns nothing. -/
def portOp (reads : List Reg5) (f : Ctx → Berth → Device → Device) : Op where
  reads := reads.map BitVec.toNat
  dest := none
  calm := false
  sends := true
  feed := true
  run c d := .done (f c (d.berth c.b) d) Effect.next

/-- One that returns a value (R123). -/
def portReadOp (rd : Reg5) (f : Ctx → Device → Word × Device) : Op where
  reads := []
  dest := some rd.toNat
  calm := false
  sends := true
  feed := true
  run c d := if d.loadFree c.b = false then .full false else (f c d).2.fixed c rd.toNat (f c d).1.toNat Effect.next

/-- OUTP: one pad (R136). -/
def outpOp (pad rs1 : Reg5) : Op :=
  portOp [rs1] fun c x d =>
    let v := (x.operand rs1.toNat).toNat % 2
    d.padMaskWrite (d.identity (.berth c.b)) (tileOf c.b) (2 ^ pad.toNat) (v * 2 ^ pad.toNat)

/-- OUTPM: the pads of a mask (R136). -/
def outpmOp (rs1 rs2 : Reg5) : Op :=
  portOp [rs1, rs2] fun c x d =>
    d.padMaskWrite (d.identity (.berth c.b)) (tileOf c.b) (x.operand rs1.toNat).toNat (x.operand rs2.toNat).toNat

/-- INP: the read-back of the tile's pads (R136, R284). -/
def inpOp (rd : Reg5) : Op := portReadOp rd fun c d => (BitVec.ofNat 32 (d.padInWord (tileOf c.b)), d)

/-- PEWR (R138); a USER berth may write only the registers of R236. -/
def pewrOp (rs : Reg5) (e : BitVec 3) (r : BitVec 6) : Op :=
  portOp [rs] fun c x d =>
    if c.level = 0 ∧ userPewr r.toNat = false then d.engDeny (tileOf c.b)
    else d.engWrite .port (8 * tileOf c.b + e.toNat) r.toNat (x.operand rs.toNat).toNat

/-- PERD (R138). -/
def perdOp (rd : Reg5) (e : BitVec 3) (r : BitVec 6) : Op := portReadOp rd fun c d => d.engRead (8 * tileOf c.b + e.toNat) r.toNat

def execOutp (i : Site) (pad rs1 : Reg5) (s : State) : Host.Outcome State Fault Refusal :=
  s.upd fun d => d.issue i (outpOp pad rs1)
def execOutpm (i : Site) (rs1 rs2 : Reg5) (s : State) : Host.Outcome State Fault Refusal :=
  s.upd fun d => d.issue i (outpmOp rs1 rs2)
def execInp (i : Site) (rd : Reg5) (s : State) : Host.Outcome State Fault Refusal := s.upd fun d => d.issue i (inpOp rd)
def execPewr (i : Site) (rs : Reg5) (e : BitVec 3) (r : BitVec 6) (s : State) : Host.Outcome State Fault Refusal :=
  s.upd fun d => d.issue i (pewrOp rs e r)
def execPerd (i : Site) (rd : Reg5) (e : BitVec 3) (r : BitVec 6) (s : State) : Host.Outcome State Fault Refusal :=
  s.upd fun d => d.issue i (perdOp rd e r)

end Sys2Proof.Machine
end

