-- ==== Sys2Proof/Machine/System.lean ====
section
/-! DEFINITION. Special registers (R87 to R92, R142), system calls and the return from an exception (R98), FENCE (R143), the
waits (R139 to R141), and the undefined instruction (R114). -/

namespace Sys2Proof.Machine

/-! ### Special registers (Table 3.5) -/

/-- The level a read needs. -/
def srReadLevel (n : Nat) : Nat :=
  if (5 ≤ n ∧ n ≤ 8) ∨ n = 20 ∨ (40 ≤ n ∧ n ≤ 48) then 1
  else if 56 ≤ n ∧ n ≤ 64 then 2
  else 0

/-- The level a write needs; a register whose Write column is "none" and a number that the table lacks need none (R88, R89). -/
def srWriteLevel (n : Nat) : Nat :=
  if n = 0 ∨ (5 ≤ n ∧ n ≤ 8) ∨ n = 19 ∨ n = 20 ∨ (40 ≤ n ∧ n ≤ 48) then 1
  else if 56 ≤ n ∧ n ≤ 64 then 2
  else 0

/-- The bits that a write replaces; zero for a register that a write leaves alone, and for PSR, IPEND and ACCH, whose writes have
rules of their own. -/
def srMask (n : Nat) : Nat :=
  if n = 5 ∨ n = 6 ∨ n = 8 ∨ n = 11 ∨ n = 16 ∨ n = 17 ∨ n = 19 ∨ (24 ≤ n ∧ n ≤ 35) then 0xFFFFFFFF
  else if n = 7 ∨ (12 ≤ n ∧ n ≤ 15) then 0x3FFFF
  else if n = 9 ∨ n = 10 then 0xFFFFFF00
  else
    let k := if 40 ≤ n ∧ n ≤ 48 then n - 40 else if 56 ≤ n ∧ n ≤ 64 then n - 56 else 9
    match k with
    | 0 => 0xFFFFFFFF
    | 1 => 0x3FFFF
    | 2 => 0x1F
    | 3 => 0x801F0F1F
    | 4 => 0xFFFFFFFF
    | 5 => 0x3FFFF
    | 6 => 0xFFFFFC00
    | 7 => 0x3FFFF
    | 8 => 0xFFFFFFFF
    | _ => 0

/-- What a special register reads as, at an instruction address (R88, R89). -/
def Device.srRead (d : Device) (b n pc : Nat) : Nat :=
  if n = 1 then pc % 2 ^ 32
  else if n = 2 then pc / 2 ^ 32
  else if n = 3 then b
  else if 112 ≤ n ∧ n ≤ 119 then feature d.cfg (n - 112)
  else if n = 0 ∨ n = 4 ∨ n = 18 ∨ n = 20 ∨ srMask n ≠ 0 then (d.berth b).srN n
  else 0

/-- PSR as a write at a level leaves it (R90); none where it would raise PL above the level. -/
def psrWrite (old v level : Nat) : Option Nat :=
  let pl := if v % 4 = 3 then old % 4 else v % 4
  if level < v % 4 ∧ v % 4 ≠ 3 then none
  else some (pl + 4 * bitsOf v 2 2 + 16 * (if level = 2 then bitsOf v 4 1 else bitsOf old 4 1))

/-- A special register takes a value, where a write changes it at all (R88 to R92). -/
def Berth.srWrite (x : Berth) (n v level : Nat) : Berth :=
  if n = 0 then x.setSr 0 ((psrWrite (x.srN 0) v level).getD (x.srN 0))
  else if n = 20 then x.setSr 20 (x.srN 20 - (x.srN 20 &&& v))
  else if n = 18 then x.setSr 18 (v % 256 + 256 * bit01 (bitOf v 8 && bitOf (x.srN 18) 8))
  else if srMask n = 0 then x
  else x.setSr n (v &&& srMask n)

/-- RDSR. A fed one does not read PC (R493), so PCL and PCH are free values to it. -/
def rdsrOp (rd : Reg5) (sr : BitVec 7) : Op where
  reads := []
  dest := none
  calm := true
  sends := false
  feed := true
  run c d :=
    if c.level < srReadLevel sr.toNat then .exc d 2 0 0
    else
      let own := c.fed && (sr.toNat == 1 || sr.toNat == 2)
      let v := if own then (Config.freeValue d.draws).toNat else d.srRead c.b sr.toNat c.pc
      let d1 := if own then d.draw else d
      .done (d1.setBerth c.b ((d.berth c.b).setReg rd.toNat (BitVec.ofNat 32 v))) Effect.next

/-- An access of the berth to the control window is in flight: it keeps the level of its own instruction, so PL does not change
before it is performed. -/
def Device.windowBusy (d : Device) (b : Nat) : Bool := !(d.opsIn b (· == 10)).isEmpty

/-- WRSR (R87, R88, R90). -/
def wrsrOp (sr : BitVec 7) (rs1 : Reg5) : Op where
  reads := [rs1.toNat]
  dest := none
  calm := sr != 0
  sends := false
  feed := true
  run c d :=
    let x := d.berth c.b
    let v := (x.operand rs1.toNat).toNat
    if c.level < srWriteLevel sr.toNat ∨ (sr = 0 ∧ (psrWrite (x.srN 0) v c.level).isNone) then .exc d 2 0 0
    else if sr = 0 ∧ d.windowBusy c.b then .stall
    else .done (d.setBerth c.b (x.srWrite sr.toNat v c.level)) Effect.next

def execRdsr (i : Site) (rd : Reg5) (sr : BitVec 7) (s : State) : Host.Outcome State Fault Refusal :=
  s.upd fun d => d.issue i (rdsrOp rd sr)
def execWrsr (i : Site) (sr : BitVec 7) (rs1 : Reg5) (s : State) : Host.Outcome State Fault Refusal :=
  s.upd fun d => d.issue i (wrsrOp sr rs1)

/-! ### SYSCALL, RETX, undefined instructions -/

/-- SYSCALL: codes below 0x800 raise SYSCALL, the others MCALL (Table 3.8). -/
def syscallOp (code : BitVec 12) : Op := trapOp (if code.toNat < 0x800 then 9 else 10)

/-- PSR as RETX at level T restores it (R98). -/
def retxPsr (estat t : Nat) : Nat :=
  let pl := estat % 4
  estat % 32 - pl + (if t < pl then t else pl)

/-- RETX (R98), with the checks of the slide back (R79) and of its target (R84). -/
def Device.retx (d : Device) (c : Ctx) : Issued :=
  let b := c.b
  let x := d.berth b
  let t := x.pl
  if t = 0 then .exc d 2 0 0
  else if x.exl t = false then .exc d 1 0 0
  else if x.refills && decide (64 ≤ x.wsp) && d.stackPriv b t (x.wsp - 64) 16 false then .exc d 2 0 (x.stackAddr (x.wsp - 64))
  else match d.refillLimit b with
  | some (code, sub, a) => .exc d code sub a
  | none =>
    let epc := x.srPair (excBase t) % 2 ^ 50
    if epc % 2 = 1 then .exc d 3 0 epc
    else if d.windowBusy b then .stall
    else
      let d0 := if x.refills then d.drainStack b [x.wsp - 64] else d
      match d0.refillFault b t with
      | some e => .exc (d0.countFault b e) e.1 e.2.1 e.2.2
      | none =>
        if (d0.wordsWanted b (d0.refillWords b)).isEmpty = false then .words t (d0.refillWords b)
        else
        let y := d0.berth b
        let d1 := (d0.setBerth b (y.setSr 0 (retxPsr (y.srN (excBase t + 2)) t))).slideBack b
        let breach := if x.refills then d.stackBreach b (x.wsp - 64) else 0
        let acc := if x.refills then [(false, x.stackAddr (x.wsp - 64), 64)] else []
        .done d1 { Effect.jump epc 4 with breach := breach, access := acc }

def retxOp : Op where
  reads := []
  dest := none
  calm := false
  sends := false
  feed := false
  run c d := d.retx c

def execSyscall (i : Site) (code : BitVec 12) (s : State) : Host.Outcome State Fault Refusal :=
  s.upd fun d => d.issue i (syscallOp code)
def execRetx (i : Site) (s : State) : Host.Outcome State Fault Refusal := s.upd fun d => d.issue i retxOp

/-- UNDEFINED_INSTRUCTION (R114). -/
def execUndefinedInstruction (i : Site) (s : State) : Host.Outcome State Fault Refusal := s.upd fun d => d.issue i undefinedOp

/-- INTERRUPT_ENTRY (R93): the berth. -/
def execInterruptEntry (b : BitVec 9) (s : State) : Host.Outcome State Fault Refusal := s.upd fun d => d.interruptEntry b.toNat

/-! ### FENCE (R143) -/

/-- Every earlier operation of a kind of the mask has been performed. Pin accesses are performed at their issue here, and a
manifest status is fixed there but delivered through the load queue. -/
def Berth.fenced (x : Berth) (mask : BitVec 4) : Bool :=
  let fixed (e : LoadEntry) : Bool := match e.src with
    | .value _ => true
    | .memory _ _ _ => false
  (!mask.getLsbD 0 || x.loads.all fixed) && (!mask.getLsbD 1 || x.stores.isEmpty) &&
    (!mask.getLsbD 3 || x.loads.all fun e => !fixed e)

def fenceOp (mask : BitVec 4) : Op where
  reads := []
  dest := none
  calm := false
  sends := false
  feed := true
  run c d := if (d.berth c.b).fenced mask then .done d Effect.next else .stall

/-- FENCE; a mask of 0 is ILLEGAL (R143). -/
def execFence (i : Site) (mask : BitVec 4) (s : State) : Host.Outcome State Fault Refusal :=
  s.upd fun d => d.issue i ((fenceOp mask).legal (mask != 0))

/-! ### Waits (R139 to R141) -/

/-- A wait that begins, and ends at once where its wait set is not empty. -/
def waitOp (reads : List Reg5) (priv : Bool) (wait : Wait) (f : Ctx → Berth → Device → Device) : Op where
  reads := reads.map BitVec.toNat
  dest := none
  calm := false
  sends := false
  feed := false
  run c d :=
    if priv && c.level = 0 then .exc d 2 0 0
    else
      let d1 := f c (d.berth c.b) d
      .done (d1.setBerth c.b { d1.berth c.b with wait := wait }.wake) Effect.next

/-- The compare that MODE sets before the wait (R140). -/
def Device.setCompare (d : Device) (b mode lo hi : Nat) : Device :=
  let clear (e : Device) : Device :=
    let y := e.berth b
    e.setBerth b (y.setSr 20 (setBits (y.srN 20) 0 1 0))
  if mode = 0 then clear (d.tcmpWrite b (lo + 2 ^ 32 * hi))
  else if mode = 2 then clear (d.tcmpWrite b ((d.rd64 (Reg.CAR_TCMP (coreOf b) (b % 16)) + lo) % 2 ^ 64))
  else d

/-- MODE and the registers that it does not use (R140). -/
def waittLegal (rs1 rs2 : Reg5) (mode : BitVec 2) : Bool := mode != 3 && (mode != 1 || rs1 == 0) && (mode == 0 || rs2 == 0)

def waittOp (rd rs1 rs2 : Reg5) (mode : BitVec 2) (consume : Bool) : Op :=
  waitOp [rs1, rs2] false (.waitt rd.toNat consume) fun c x d =>
    d.setCompare c.b mode.toNat (x.operand rs1.toNat).toNat (x.operand rs2.toNat).toNat

/-- WAITE; with P it only polls (R141). -/
def waiteOp (rd : Reg5) (consume poll : Bool) : Op :=
  if poll then { plainOp [] fun _ x => x.endWait rd.toNat consume (x.srN 20 &&& x.srN 19) with feed := false }
  else waitOp [] false (.waite rd.toNat consume) fun _ _ d => d

def sleepOp (rd : Reg5) (consume : Bool) : Op := waitOp [] true (.sleep rd.toNat consume) fun _ _ d => d

def execWaitt (i : Site) (rd rs1 rs2 : Reg5) (mode : BitVec 2) (consume : Bool) (s : State) :
    Host.Outcome State Fault Refusal :=
  s.upd fun d => d.issue i ((waittOp rd rs1 rs2 mode consume).legal (waittLegal rs1 rs2 mode))
def execWaite (i : Site) (rd : Reg5) (consume poll : Bool) (s : State) : Host.Outcome State Fault Refusal :=
  s.upd fun d => d.issue i (waiteOp rd consume poll)
def execSleep (i : Site) (rd : Reg5) (consume : Bool) (s : State) : Host.Outcome State Fault Refusal :=
  s.upd fun d => d.issue i (sleepOp rd consume)

end Sys2Proof.Machine
end

