-- ==== Sys2Proof/Machine/Feed.lean ====
section
/-! DEFINITION. The encodings of the Ocnyx instructions (R113 to R117, R146), as the debugger's fed instructions use them, and the
feeding and stepping of a halted berth (R492, R493). -/

namespace Sys2Proof.Machine

/-! ### Encodings -/

def r5 (w lo : Nat) : Reg5 := BitVec.ofNat 5 (bitsOf w lo 5)
def fieldBv (n w lo : Nat) : BitVec n := BitVec.ofNat n (bitsOf w lo n)

/-- The ALU group (Table 4.4). -/
def aluOf (w : Nat) : Option Op :=
  let rd := r5 w 8
  let rs1 := r5 w 13
  let rs2 := r5 w 18
  match bitsOf w 23 9 with
  | 0x000 => some (aluOp addFn rd rs1 rs2)
  | 0x001 => some (aluOp subFn rd rs1 rs2)
  | 0x002 => some (aluOp andFn rd rs1 rs2)
  | 0x003 => some (aluOp orFn rd rs1 rs2)
  | 0x004 => some (aluOp xorFn rd rs1 rs2)
  | 0x005 => some (aluOp andnFn rd rs1 rs2)
  | 0x006 => some (aluOp sllFn rd rs1 rs2)
  | 0x007 => some (aluOp srlFn rd rs1 rs2)
  | 0x008 => some (aluOp sraFn rd rs1 rs2)
  | 0x009 => some (aluOp sltFn rd rs1 rs2)
  | 0x00A => some (aluOp sltuFn rd rs1 rs2)
  | 0x00B => some (aluOp minFn rd rs1 rs2)
  | 0x00C => some (aluOp maxFn rd rs1 rs2)
  | 0x00D => some (aluOp minuFn rd rs1 rs2)
  | 0x00E => some (aluOp maxuFn rd rs1 rs2)
  | 0x010 => some (aluOp mulFn rd rs1 rs2)
  | 0x011 => some (aluOp mulhFn rd rs1 rs2)
  | 0x012 => some (aluOp mulhuFn rd rs1 rs2)
  | 0x013 => if rs2 = 0 then some (unaryOp clzFn rd rs1) else none
  | 0x014 => some (aluOp rorFn rd rs1 rs2)
  | _ => none

/-- SHI and BF (R119). -/
def shiftOf (w : Nat) : Option Op :=
  if 2 ^ 25 ≤ w then none
  else match bitsOf w 23 2 with
    | 0 => some (shiftOp sllFn (r5 w 8) (r5 w 13) (r5 w 18))
    | 1 => some (shiftOp srlFn (r5 w 8) (r5 w 13) (r5 w 18))
    | 2 => some (shiftOp sraFn (r5 w 8) (r5 w 13) (r5 w 18))
    | _ => some (shiftOp rorFn (r5 w 8) (r5 w 13) (r5 w 18))

def fieldOf (w : Nat) : Option Op :=
  match bitsOf w 28 4 with
  | 0 => some (extuOp (r5 w 8) (r5 w 13) (r5 w 18) (r5 w 23))
  | 1 => some (extsOp (r5 w 8) (r5 w 13) (r5 w 18) (r5 w 23))
  | 2 => some (insOp (r5 w 8) (r5 w 13) (r5 w 18) (r5 w 23))
  | _ => none

/-- The register-indirect transfers (R125). -/
def xferOf (w : Nat) : Option Op :=
  let bk := fieldBv 2 w 23
  match bitsOf w 25 7 with
  | 0 => if bitsOf w 13 10 = 0 then some (jmprOp (r5 w 8) bk) else none
  | 1 => if bitsOf w 13 10 = 0 then some (callReg (r5 w 8) bk) else none
  | 2 => if bitsOf w 8 17 = 0 then some retOp else none
  | 3 => some (callFbReg (r5 w 13) (r5 w 18) (r5 w 8) bk)
  | _ => none

/-- LOOP, LOOPI, MACX (R127, R129). -/
def loopOf (w : Nat) : Option Op :=
  if bitsOf w 10 3 = 0 then some (loopOp [bitsOf w 13 5] (fieldBv 2 w 8) (fun x => x.operand (bitsOf w 13 5)) (fieldBv 14 w 18))
  else none

def loopiOf (w : Nat) : Option Op := some (loopOp [] (fieldBv 2 w 8) (fun _ => BitVec.ofNat 32 (bitsOf w 10 8)) (fieldBv 14 w 18))

/-- A buffer size K that MACX admits with an operand size (Table 4.6). -/
def macxSizeOk (k : Nat) (wide : Bool) : Bool := k != 1 && !(wide && k == 2)

def macxOf (w : Nat) : Option Op :=
  let sz := bitsOf w 22 2
  if bitsOf w 26 6 = 0 ∧ sz < 2 ∧ macxSizeOk (bitsOf w 18 4) (sz == 1) then
    some (macxOp (r5 w 8) (r5 w 13) (fieldBv 4 w 18) (sz == 1) (bitOf w 24) (bitOf w 25))
  else none

/-- The image bit operations (Table 4.7), by OP. -/
def bitOpOf (k : Nat) (rd : Reg5) (n : BitName) : Option Op :=
  match k with
  | 0 => some (bldOp rd n)
  | 1 => some (bldnOp rd n)
  | 2 => some (bandOp rd n)
  | 3 => some (bandnOp rd n)
  | 4 => some (borOp rd n)
  | 5 => some (bornOp rd n)
  | 6 => some (bxorOp rd n)
  | 7 => some (bxornOp rd n)
  | 8 => some (bstOp rd n)
  | 9 => some (bsetOp rd n)
  | 10 => some (brstOp rd n)
  | 11 => some (edgrOp rd n)
  | 12 => some (edgfOp rd n)
  | _ => none

/-- BOL (R133). -/
def bolOf (w : Nat) : Option Op :=
  let bk := fieldBv 2 w 23
  match bitsOf w 25 7 with
  | 0 => some (bcasOp (r5 w 8) (r5 w 13) (r5 w 18) bk)
  | 1 => some (btryOp (r5 w 8) (r5 w 13) (r5 w 18) bk)
  | 2 => some (bacqOp (r5 w 8) (r5 w 13) (r5 w 18) bk)
  | 3 => if bitsOf w 18 5 = 0 then some (brelOp (r5 w 8) (r5 w 13) bk) else none
  | _ => none

/-- MFT (R134, Table 4.8): a field that an operation does not use is zero, but for K. -/
def mftOf (w : Nat) : Option Op :=
  let rd := r5 w 8
  let rs1 := r5 w 13
  let rs2 := r5 w 18
  let bk := fieldBv 2 w 23
  let k := fieldBv 3 w 29
  match bitsOf w 25 4 with
  | 0 => if rs2 = 0 ∧ bk = 0 then some (mopenOp rd rs1 k) else none
  | 1 => some (mguardOp rd rs1 rs2 bk k)
  | 2 => some (mputOp rd rs1 rs2 bk k)
  | 3 => if bk = 1 ∧ rs2 ≠ 0 then none else some (mpinOp rd rs1 rs2 bk k)
  | 4 => if rs2 = 0 then some (msendOp rd rs1 bk k) else none
  | 5 => if rs2 = 0 ∧ bk = 0 ∧ (k = 0 → rs1 = 0) then some (mcommitOp rd rs1 k) else none
  | 6 => if rs1 = 0 ∧ rs2 = 0 ∧ bk = 0 then some (mabortOp rd k) else none
  | _ => none

/-- PIN (R136): a field that the operation does not use must be 0 (DEDUCED, notes/assumptions/58.md). -/
def pinOf (w : Nat) : Option Op :=
  if bitsOf w 25 7 ≠ 0 then none
  else match bitsOf w 23 2 with
    | 0 => if bitsOf w 8 5 = 0 then some (outpOp (r5 w 18) (r5 w 13)) else none
    | 1 => if bitsOf w 8 5 = 0 then some (outpmOp (r5 w 13) (r5 w 18)) else none
    | 2 => if bitsOf w 13 10 = 0 then some (inpOp (r5 w 8)) else none
    | _ => none

/-- PEREG (R138). -/
def peregOf (w : Nat) : Option Op :=
  if bitsOf w 23 9 ≠ 0 then none
  else if bitOf w 22 then some (perdOp (r5 w 8) (fieldBv 3 w 13) (fieldBv 6 w 16))
  else some (pewrOp (r5 w 8) (fieldBv 3 w 13) (fieldBv 6 w 16))

/-- SYS (Table 4.9, R140, R141). -/
def sysOf (w : Nat) : Option Op :=
  let rd := r5 w 8
  let rs1 := r5 w 13
  let rs2 := r5 w 18
  match bitsOf w 26 6 with
  | 0 => if bitOf w 25 = false ∧ bitsOf w 13 5 = 0 then some (rdsrOp rd (fieldBv 7 w 18)) else none
  | 1 => if bitOf w 25 = false ∧ bitsOf w 8 5 = 0 then some (wrsrOp (fieldBv 7 w 18) rs1) else none
  | 2 => if bitOf w 25 = false ∧ bitsOf w 8 5 = 0 then some (syscallOp (fieldBv 12 w 13)) else none
  | 3 => if bitsOf w 8 18 = 0 then some retxOp else none
  | 4 => if bitsOf w 17 9 = 0 ∧ bitsOf w 8 5 = 0 ∧ bitsOf w 13 4 ≠ 0 then some (fenceOp (fieldBv 4 w 13)) else none
  | 5 =>
    let m := bitsOf w 23 2
    if m = 3 ∨ (m = 1 ∧ rs1 ≠ 0) ∨ (1 ≤ m ∧ rs2 ≠ 0) then none
    else some (waittOp rd rs1 rs2 (BitVec.ofNat 2 m) (bitOf w 25))
  | 6 => if bitOf w 24 = false ∧ bitsOf w 13 10 = 0 then some (waiteOp rd (bitOf w 25) (bitOf w 23)) else none
  | 7 => if bitsOf w 13 12 = 0 then some (sleepOp rd (bitOf w 25)) else none
  | _ => none

/-- A load or store of format FL. -/
def memOf (w : Nat) : Mem := .base (r5 w 13) (fieldBv 12 w 20) (fieldBv 2 w 18)

/-- A 32-bit instruction (R116, Table 4.12); none raises ILLEGAL. -/
def decode32 (w : Nat) : Option Op :=
  let rd := r5 w 8
  let rs1 := r5 w 13
  let imm := fieldBv 14 w 18
  let u19 := fieldBv 19 w 13
  match bitsOf w 2 6 with
  | 0x00 => aluOf w
  | 0x01 => some (immOp addFn rd rs1 imm)
  | 0x02 => some (immOp andFn rd rs1 imm)
  | 0x03 => some (immOp orFn rd rs1 imm)
  | 0x04 => some (immOp xorFn rd rs1 imm)
  | 0x05 => some (immOp sltFn rd rs1 imm)
  | 0x06 => some (immOp sltuFn rd rs1 imm)
  | 0x07 => shiftOf w
  | 0x08 => some (luiOp rd u19)
  | 0x09 => fieldOf w
  | 0x0A => some (loadOp 1 true rd (memOf w))
  | 0x0B => some (loadOp 1 false rd (memOf w))
  | 0x0C => some (loadOp 2 true rd (memOf w))
  | 0x0D => some (loadOp 2 false rd (memOf w))
  | 0x0E => some (loadOp 4 false rd (memOf w))
  | 0x0F => some (storeOp 1 rd (memOf w))
  | 0x10 => some (storeOp 2 rd (memOf w))
  | 0x11 => some (storeOp 4 rd (memOf w))
  | 0x12 => some (lwiOp rd u19)
  | 0x13 => some (swiOp rd u19)
  | 0x14 => some (regBranch eqCond rd rs1 imm)
  | 0x15 => some (regBranch neCond rd rs1 imm)
  | 0x16 => some (regBranch ltCond rd rs1 imm)
  | 0x17 => some (regBranch geCond rd rs1 imm)
  | 0x18 => some (regBranch ltuCond rd rs1 imm)
  | 0x19 => some (regBranch geuCond rd rs1 imm)
  | 0x1A => some (immBranch eqCond rd rs1 imm)
  | 0x1B => some (immBranch neCond rd rs1 imm)
  | 0x1C => some (immBranch ltCond rd rs1 imm)
  | 0x1D => some (immBranch geCond rd rs1 imm)
  | 0x1E => some (bitBranch true rd rs1 imm)
  | 0x1F => some (bitBranch false rd rs1 imm)
  | 0x20 => some (callRel (fieldBv 24 w 8))
  | 0x21 => some (jmpOp (fieldBv 24 w 8))
  | 0x22 => some (callFbRel rd rs1 imm)
  | 0x23 => xferOf w
  | 0x24 => loopOf w
  | 0x25 => loopiOf w
  | 0x26 => macxOf w
  | 0x27 => bitOpOf (bitsOf w 18 4) rd (.base rs1 (fieldBv 10 w 22))
  | 0x28 => bolOf w
  | 0x29 => mftOf w
  | 0x2A => pinOf w
  | 0x2B => peregOf w
  | 0x2C => sysOf w
  | _ => none

/-- A 3-bit register field: p0 to p3, then k0 to k3 (R115). -/
def r3 (w lo : Nat) : Reg5 :=
  let c := bitsOf w lo 3
  BitVec.ofNat 5 (if c < 4 then 24 + c else 12 + c)

/-- C.ALU (Table 4.3). -/
def shortAlu (w : Nat) : Option Op :=
  let cd := r3 w 10
  let cs := r3 w 7
  if bitsOf w 2 2 ≠ 0 then none
  else match bitsOf w 4 3 with
    | 0 => some (aluOp subFn cd cd cs)
    | 1 => some (aluOp andFn cd cd cs)
    | 2 => some (aluOp orFn cd cd cs)
    | 3 => some (aluOp xorFn cd cd cs)
    | 4 => some (aluOp andnFn cd cd cs)
    | 5 => some (aluOp sllFn cd cd cs)
    | 6 => some (aluOp srlFn cd cd cs)
    | _ => some (aluOp sraFn cd cd cs)

/-- C.SHI and C.SYS. -/
def shortShift (w : Nat) : Option Op :=
  let c := r3 w 10
  if bitsOf w 2 1 ≠ 0 then none
  else match bitsOf w 3 2 with
    | 0 => some (shiftOp sllFn c c (r5 w 5))
    | 1 => some (shiftOp srlFn c c (r5 w 5))
    | 2 => some (shiftOp sraFn c c (r5 w 5))
    | _ => none

def shortSys (w : Nat) : Option Op :=
  if bitsOf w 2 8 ≠ 0 then none
  else match bitsOf w 10 3 with
    | 0 => some cnopOp
    | 1 => some retOp
    | 2 => some (fenceOp 0xF)
    | _ => none

/-- A signed short field as an immediate of 14 bits. -/
def short14 (w : Nat) : BitVec 14 := (fieldBv 8 w 2).signExtend 14

/-- A 16-bit instruction (Table 4.3). -/
def decode16 (w : Nat) : Option Op :=
  let c := r3 w 10
  let page : BitName := .page (fieldBv 8 w 2)
  let word : Mem := .base (r3 w 7) (BitVec.ofNat 12 (4 * bitsOf w 3 4)) 0
  if w % 2 ^ 16 = 0 then none
  else match bitsOf w 0 2, bitsOf w 13 3 with
    | 0, 0 => if bitsOf w 2 2 = 0 then some (loadOp 4 false c (.page (fieldBv 6 w 4))) else none
    | 0, 1 => if bitsOf w 2 2 = 0 then some (storeOp 4 c (.page (fieldBv 6 w 4))) else none
    | 0, 2 => if bitsOf w 2 1 = 0 then some (loadOp 4 false c word) else none
    | 0, 3 => if bitsOf w 2 1 = 0 then some (storeOp 4 c word) else none
    | 0, 4 => some (bldOp c page)
    | 0, 5 => some (bandOp c page)
    | 0, 6 => some (borOp c page)
    | 0, 7 => some (bstOp c page)
    | 1, 0 => some (bandnOp c page)
    | 1, 1 => some (bornOp c page)
    | 1, 2 => some (bsetOp c page)
    | 1, 3 => some (brstOp c page)
    | 1, 4 => some (edgrOp c page)
    | 1, 5 => some (edgfOp c page)
    | 1, 6 => some (regBranch eqCond c 0 (short14 w))
    | 1, 7 => some (regBranch neCond c 0 (short14 w))
    | 2, 0 => some (immOp addFn c c (short14 w))
    | 2, 1 => some (immOp addFn c 0 (short14 w))
    | 2, 2 => if bitsOf w 2 1 = 0 then some (immOp addFn (r5 w 8) (r5 w 3) 0) else none
    | 2, 3 => if bitsOf w 2 1 = 0 then some (aluOp addFn (r5 w 8) (r5 w 8) (r5 w 3)) else none
    | 2, 4 => shortAlu w
    | 2, 5 => some (jmpOp ((fieldBv 11 w 2).signExtend 24))
    | 2, 6 => shortSys w
    | 2, 7 => shortShift w
    | _, _ => none

/-- A fed value (R493): 32 bits where bits [1:0] are 0b11, else its low half. -/
def decodeFed (v : Nat) : Option Op := if v % 4 = 3 then decode32 v else decode16 (v % 2 ^ 16)

/-! ### Feeding (R493) -/

/-- DBG_ITRST takes an outcome; OVR stands. -/
def Device.itrStatus (d : Device) (done : Bool) (status code sub : Nat) : Device :=
  d.wr Reg.DBG_ITRST (bit01 done + 2 * status + 16 * d.fld Reg.DBG_ITRST 4 1 + 2 ^ 8 * code + 2 ^ 13 * sub)

/-- A berth's PL takes a value, for the checks of a fed instruction. -/
def Device.withLevel (d : Device) (b l : Nat) : Device :=
  let x := d.berth b
  d.setBerth b (x.setSr 0 (setBits (x.srN 0) 0 2 l))

/-- A fed instruction has begun: its berth, and the instruction itself where it has still to execute. -/
def Device.feeding (d : Device) (b : Nat) (held : Option Nat) : Device :=
  { d with dbg := { d.dbg with fed := some b, fedHeld := held } }

/-- The wait that a fed instruction leaves: that of an MCOMMIT is kept apart from the berth's own. -/
def Wait.ofCommit (w : Wait) : Wait :=
  match w with
  | .commit rd h => .commit rd h
  | .status rd v => .status rd v
  | _ => .none

/-- What a fed instruction does to its berth, at MONITOR level, without PC, PSR, loops or the load delay, and without the wait in which
the berth stands; DONE is still to come. None where it cannot execute yet. -/
def Device.feedRun (d : Device) (b v : Nat) (op : Op) : Option Device :=
  let x := d.berth b
  let d0 := d.setBerth b { x with shadow := none, wait := .none }
  let d1 := if op.sends then d0.withLevel b 2 else d0
  match op.run ⟨b, x.pc.toNat, if v % 4 = 3 then 4 else 2, 2, true⟩ d1 with
  | .done e _ =>
    let e1 := if op.sends then e.drain b (· == 10) else e
    let y := e1.berth b
    let e2 := e1.setBerth b { y.setSr 0 (x.srN 0) with shadow := x.shadow, wait := x.wait }
    let e3 := (e2.itrStatus false 0 0 0).feeding b none
    some { e3 with dbg := { e3.dbg with fedWait := y.wait.ofCommit } }
  | .exc _ code sub _ => some ((d.itrStatus false 3 code sub).feeding b none)
  | _ => none

/-- A fed instruction executes once what the berth has in flight has completed; none where it cannot yet: an external load is
outstanding, or it finds no room. -/
def Device.feedTry (d : Device) (b v : Nat) (op : Op) : Option Device :=
  if (d.externalLoads b).isEmpty then (d.finish b).feedRun b v op else none

/-- DBG_ITR (R493). An instruction that cannot execute yet is held, with DONE 0, until ITR_DONE; an absent berth is counted (R34). -/
def Device.feedWrite (d : Device) (w : Writer) (v : Nat) : Device :=
  let b := d.fld Reg.DBG_ITRSEL 0 9
  if d.dbgWritable w Reg.DBG_ITR = false ∨ d.authFull = false then d
  else if d.flag Reg.DBG_ITRST 0 = false then d.setFlag Reg.DBG_ITRST 4 true
  else if d.present b = false then (d.countAbsent b).itrStatus true 2 0 0
  else if d.coreHalted (coreOf b) = false then d.itrStatus true 2 0 0
  else match decodeFed v with
    | none => d.itrStatus true 3 1 0
    | some op =>
      if op.feed = false then d.itrStatus true 1 0 0
      else if d.twinDiffers b then (d.twinMismatch (pairOf (coreOf b))).itrStatus true 0 0 0
      else (d.feedTry b v op).getD ((d.itrStatus false 0 0 0).feeding b (some v))

/-- A commit's status that waited for the resume is taken. -/
def Berth.takeStatus (x : Berth) : Berth :=
  match x.wait with
  | .status rd v => { x with wait := .none }.setReg rd (BitVec.ofNat 32 v)
  | _ => x

/-- A fed instruction that was held executes, if it can now. -/
def Device.feedHeld (d : Device) : Device :=
  match d.dbg.fed, d.dbg.fedHeld with
  | some b, some v => ((decodeFed v).bind fun op => d.feedTry b v op).getD d
  | _, _ => d

/-- ITR_DONE: the fed instruction has completed, its load results and the status of an MCOMMIT included; one that was held executes
first. -/
def Device.itrDone (d0 : Device) : Device :=
  let d := d0.feedHeld
  match d.dbg.fed with
  | none => d
  | some b =>
    let d1 := d.finish b
    let busy : Bool := match d.dbg.fedWait with
      | .commit _ _ => true
      | _ => false
    if (d1.externalLoads b).isEmpty = false ∨ busy ∨ d.dbg.fedHeld.isSome then d
    else
      let x := match d.dbg.fedWait with
        | .status rd v => (d1.berth b).setReg rd (BitVec.ofNat 32 v)
        | _ => d1.berth b
      let e := (d1.setBerth b x).setFlag Reg.DBG_ITRST 0 true
      { e with dbg := { e.dbg with fed := none, fedWait := .none } }

/-! ### Stepping (R492) -/

/-- The step ends: its core shows STEP as the cause, and STEPDONE. -/
def Device.stepEnd (d : Device) (b : Nat) : Device :=
  let off := Reg.DBG_CSTAT (coreOf b)
  let d1 := (d.setFld off 0 3 5).setFlag off 4 true
  { d1 with dbg := { d1.dbg with steps := d1.dbg.steps.filter fun s => s.1 != b } }

/-- A step ends if it can: its instruction has completed; a berth that was waiting has completed its wait if it could, and one that is
parked issues nothing. -/
def Device.stepOver (d : Device) (b at_ : Nat) (issued : Bool) : Device :=
  if d.tbNow < (at_ + 11) / 8 * 8 then d
  else
    let y := ((d.berth b).wake).takeStatus
    let d1 := d.setBerth b y
    if issued then (if y.loads.isEmpty && (y.wait == .none || y.wait == .breach) then d1.stepEnd b else d1)
    else if d.mayIssue b || (d.berth b).wait == .breach then d
    else d1.stepEnd b

/-- STEP_DONE: every step whose instruction has completed ends. -/
def Device.stepDone (d : Device) : Device := d.dbg.steps.foldl (fun e s => e.stepOver s.1 s.2.1 s.2.2) d

/-- A write of a control-window register from outside or by a berth, DBG_ITR among them. -/
def Device.regWrite (d : Device) (w : Writer) (off v : Nat) : Device :=
  if off = Reg.DBG_ITR then d.feedWrite w v else d.cwWrite w off v

end Sys2Proof.Machine
end

