-- ==== Sys2Proof/Machine/Ports.lean ====
section
/-! DEFINITION. The Quayside ports (R456 to R465): the checks of a target request and its beats, the answers to the initiator's
requests, and the host-side reset. -/

namespace Sys2Proof.Machine

/-! ### What a target request touches (R457, R458) -/

/-- The byte lanes that an enable word names. -/
def lanesOf (strb : Nat) : List Nat := setPositions 32 strb

/-- A burst keeps what R457 asks of its sender: it begins at a 32-byte-aligned address and stays in one 4 KiB block. -/
def burstOk (addr len : Nat) : Bool :=
  len == 0 || (addr % 32 == 0 && addr / 4096 == (addr + 32 * len + 31) / 4096)

/-- The regions of the target port: those of R151 (the own-tile alias and the external region lie outside it). -/
def targetPlace (c : Straps) (a : Nat) : Option Place := placeOf c none a

/-- A beat touches nothing outside a region. -/
def beatMapped (c : Straps) (base strb : Nat) : Bool := (lanesOf strb).all fun j => (targetPlace c (base + j)).isSome

/-- Non-secure requesters are denied the region in QSP_TACL. -/
def Device.taclDenies (d : Device) (p : Place) : Bool :=
  match p with
  | .sram t _ => d.flag Reg.QSP_TACL t
  | .image _ => d.flag Reg.QSP_TACL 8
  | .imageBit _ => d.flag Reg.QSP_TACL 8
  | .retained _ => d.flag Reg.QSP_TACL 9
  | .window _ => d.flag Reg.QSP_TACL 10
  | .external _ => false

/-- Rights of an outside request from SUPERVISOR up in a place (R151, Table 5.7); the boot ROM is read-only (R152). -/
def outsideRights (c : Straps) (p : Place) (write : Bool) : Bool :=
  match p with
  | .sram _ _ => true
  | .image o => !write || imageWritable c o
  | .imageBit k => !write || imageWritable c (k / 8)
  | .retained o => !write || decide (0x10000 ≤ o)
  | .window o => !(write && decide (0xF00000 ≤ o) && decide (o < 0xF40000))
  | .external _ => false

/-- Rights by req_attr (Table 15.3): USER reaches tile SRAM and the working image only. -/
def targetRights (c : Straps) (attr : Nat) (p : Place) (write : Bool) : Bool :=
  outsideRights c p write &&
  (decide (1 ≤ attr) || match p with
    | .sram _ _ => true
    | .image o => imageWritable c o
    | _ => false)

/-- The bit alias takes whole aligned words only (R161). -/
def bitAliasWhole (strb : Nat) : Bool := (List.range 8).all fun k => bitsOf strb (4 * k) 4 == 0 || bitsOf strb (4 * k) 4 == 15

/-- A beat keeps the rights of R459. -/
def Device.beatAllowed (d : Device) (attr base strb : Nat) (write : Bool) : Bool :=
  match targetPlace d.cfg base with
  | none => strb == 0
  | some p => strb == 0 || (targetRights d.cfg attr p write && (bitOf attr 1 || !d.taclDenies p) &&
      (match p with
       | .imageBit _ => bitAliasWhole strb
       | _ => true))

/-! ### Performing a beat -/

/-- The enabled bytes of one aligned group of a beat. -/
def groupStrb (strb lo n : Nat) : Nat := bitsOf strb lo n

/-- The bytes of one 8-byte word that a read returns; none where the word is uncorrectable. -/
def Device.readWord8 (d : Device) (agent g strb : Nat) : Option Nat × Device :=
  if strb % 256 = 0 then (some 0, d)
  else
    let r := d.checkRead agent g
    let v := (List.range 8).foldl (fun m j => m + (if bitOf strb j then (d.byte (g + j)).toNat else 0) * 2 ^ (8 * j)) 0
    (if r.1 then some v else none, r.2)

/-- A read in one aligned group of 8 bytes of the control window: registers each at its full width or zero (R12, R458), and bytes of
the boot ROM (R152). -/
def Device.readRegs8 (d : Device) (w : Writer) (off strb : Nat) : Nat × Device :=
  if inBootRom off then
    ((List.range 8).foldl (fun m j => m + (if bitOf strb j then (Config.bootRomByte (off - 0xF00000 + j)).toNat else 0) * 2 ^ (8 * j)) 0, d)
  else if reg64 off then (if strb % 256 = 255 then d.cwRead64 w off else (0, d))
  else
    let lo := if strb % 16 = 15 then d.cwRead w off else (0, d)
    let hi := if strb / 16 % 16 = 15 then lo.2.cwRead w (off + 4) else (0, lo.2)
    (lo.1 + 2 ^ 32 * hi.1, hi.2)

/-- The bits of two words of the bit alias. -/
def Device.readBits8 (d : Device) (agent k strb : Nat) : Option Nat × Device :=
  let one (d : Device) (k m : Nat) : Option Nat × Device :=
    if m = 0 then (some 0, d)
    else
      let r := d.checkRead agent (bitAddr k)
      (if r.1 then some (bit01 (d.imageBit k)) else none, r.2)
  let lo := one d k (strb % 16)
  let hi := one lo.2 (k + 1) (strb / 16 % 16)
  (match lo.1, hi.1 with
   | some a, some b => some (a + 2 ^ 32 * b)
   | _, _ => none, hi.2)

/-- An aligned group of 8 bytes is read by an outside agent. -/
def Device.readGroup (d : Device) (agent : Nat) (w : Writer) (a strb : Nat) : Option Nat × Device :=
  match targetPlace d.cfg a with
  | some (.window o) => let r := d.readRegs8 w o strb; (some r.1, r.2)
  | some (.imageBit k) => d.readBits8 agent k strb
  | some p => match p.global with
    | some g => d.readWord8 agent g strb
    | none => (some 0, d)
  | none => (some 0, d)

/-- The span of the enabled bytes of a group: the first, and one past the last. -/
def spanOf (strb : Nat) : Nat × Nat :=
  let l := setPositions 8 strb
  (l.headD 0, (l.getLast?.getD 0) + 1)

/-- The enabled bytes of one 8-byte word are written; bytes between them stand. -/
def Device.writeWord8 (d : Device) (agent path g strb v : Nat) : Device :=
  if strb % 256 = 0 then d
  else
    let s := spanOf strb
    let bs := (List.range' s.1 (s.2 - s.1)).map fun j =>
      if bitOf strb j then BitVec.ofNat 8 (v / 2 ^ (8 * j)) else d.byte (g + j)
    d.wordWrite agent path (g + s.1) (strb % 256 == 255) bs

/-- A write of registers in one aligned group of 8 bytes of the control window (R12). -/
def Device.writeRegs8 (d : Device) (w : Writer) (off strb v : Nat) : Device :=
  if reg64 off then (if strb % 256 = 255 then d.cwWrite64 w off (v % 2 ^ 64) else d)
  else
    let d1 := if strb % 16 = 15 then d.regWrite w off (v % 2 ^ 32) else d
    if strb / 16 % 16 = 15 then d1.regWrite w (off + 4) (v / 2 ^ 32 % 2 ^ 32) else d1

/-- An aligned group of 8 bytes is written by an outside agent on a path of Table 6.10. -/
def Device.writeGroup (d : Device) (agent path : Nat) (w : Writer) (a strb v : Nat) : Device :=
  match targetPlace d.cfg a with
  | some (.window o) => d.writeRegs8 w o strb v
  | some (.imageBit k) =>
    let d1 := if strb % 16 = 0 then d else d.setImageBit agent k (bitOf v 0)
    if strb / 16 % 16 = 0 then d1 else d1.setImageBit agent (k + 1) (bitOf v 32)
  | some p => match p.global with
    | some g => d.writeWord8 agent path g strb v
    | none => d
  | none => d

/-- The check bits of an aligned group of 8 bytes with data: those that the memory stores, where it is a memory word (R460); check bits
in error are a free value. -/
def Device.groupEcc (d : Device) (a v : Nat) : Byte :=
  match (targetPlace d.cfg a).bind Place.global with
  | some g => if d.eccAt g = .check then BitVec.ofNat 8 (Config.freeValue d.draws).toNat
    else Config.checkBits (BitVec.ofNat 64 (d.value (g / 8 * 8) 8))
  | none => Config.checkBits (BitVec.ofNat 64 v)

/-- The check bits of a beat that has been read. -/
def Device.beatEcc (d : Device) (base : Nat) (data : List Byte) : List Byte :=
  (List.range 4).map fun k => d.groupEcc (base + 8 * k) (leValue ((data.drop (8 * k)).take 8))

/-- A beat of 32 bytes is read group by group: its data, or none where a word of it is uncorrectable. -/
def Device.readBeat (d : Device) (agent : Nat) (w : Writer) (base strb : Nat) : Option (List Byte) × Device :=
  (List.range 4).foldl (fun (r : Option (List Byte) × Device) k =>
    let x := r.2.readGroup agent w (base + 8 * k) (groupStrb strb (8 * k) 8)
    (match r.1, x.1 with
     | some l, some v => some (l ++ leBytes 8 v)
     | _, _ => none, x.2)) (some [], d)

/-- A beat of 32 bytes is written group by group. -/
def Device.writeBeat (d : Device) (agent path : Nat) (w : Writer) (base strb data : Nat) : Device :=
  (List.range 4).foldl (fun e k =>
    e.writeGroup agent path w (base + 8 * k) (groupStrb strb (8 * k) 8) (bitsOf data (64 * k) 64)) d

/-! ### The target port (R457 to R461) -/

/-- The target port takes requests: not in host-side reset (R462), before the release of a reset (R516), or in DEEP-SLEEP, where its
clock stands (R520). -/
def Device.targetReady (d : Device) : Bool := !d.qsp.held && !d.isolated && d.mode != Mode.deepSleep

/-- A tile SRAM without power cannot complete an access. -/
def Device.beatPowered (d : Device) (base : Nat) : Bool :=
  match targetPlace d.cfg base with
  | some (.sram t _) => d.tileOn t
  | _ => true

/-- A beat of a write breaks R279. -/
def Device.beatPadRefused (d : Device) (w : Writer) (base strb data : Nat) : Bool :=
  match targetPlace d.cfg base with
  | some (.window o) => (List.range 8).any fun k =>
      groupStrb strb (4 * k) 4 == 15 && d.padRefused (d.identity w) (o + 4 * k) (bitsOf data (32 * k) 32)
  | _ => false

/-- The first check that a request fails (R458, R459, Table 15.4): its response code, 0 where none does. -/
def Device.targetCheck (d : Device) (attr len : Nat) (beats : List (Nat × Nat)) (write : Bool) : Nat :=
  if len ≠ 0 ∧ d.hostFeature 2 = false then 1
  else if beats.all (fun q => beatMapped d.cfg q.1 q.2) = false then 2
  else if beats.all (fun q => d.beatAllowed attr q.1 q.2 write) = false then 3
  else if beats.all (fun q => q.2 == 0 || d.beatPowered q.1) = false then 1
  else 0

/-- The beats of a response: each error counts. -/
def Device.respond (d : Device) (id addr : Nat) (beats : List RespBeat) : Device :=
  let d1 := beats.foldl (fun e q => e.targetSend addr q.resp) d
  { d1 with qsp := { d1.qsp with response := (id, beats) } }

/-- A response beat in error: zero data. -/
def errorBeat (code : Nat) : RespBeat := ⟨code, List.replicate 32 0, none⟩

/-- The response of a write: zero data and check bits (Table 15.1). -/
def writtenBeat : RespBeat := ⟨0, List.replicate 32 0, some (List.replicate 4 0)⟩

/-- A request that is not performed: the same code on every beat; a refused one counts in DENY. -/
def Device.turnAway (d : Device) (id addr code beats : Nat) : Device :=
  (if code = 3 then d.qspDeny else d).respond id addr (List.replicate beats (errorBeat code))

/-- The aligned beats of a request with the bytes each touches. -/
def beatsOf (addr len strb : Nat) : List (Nat × Nat) :=
  if len = 0 then [(addr / 32 * 32, strb)]
  else (List.range (len + 1)).map fun k => (addr / 32 * 32 + 32 * k, 2 ^ 32 - 1)

/-- The beats of a read in order: DEVERR and zero data on one with an uncorrectable word (R460). -/
def Device.readBeats (d : Device) (w : Writer) : List (Nat × Nat) → List RespBeat × Device
  | [] => ([], d)
  | q :: r =>
    let x := d.readBeat 3 w q.1 q.2
    let rest := Device.readBeats x.2 w r
    ((match x.1 with
      | some l => ⟨0, l, some (d.beatEcc q.1 l)⟩
      | none => errorBeat 1) :: rest.1, rest.2)

/-- A request whose burst breaks R457's rule on its sender: the spec says nothing of what the port does with it, so whether it is
performed beat by beat, from the aligned beat that holds its address, or turned away, and with which error, is free
(notes/assumptions/56.md). -/
def Device.targetOdd (d : Device) (addr id len answers : Nat) (go : Device → Device) : Device :=
  if burstOk addr len ∨ d.targetReady = false then go d
  else if Config.freeLevel d.draws then go d.draw
  else (d.draw.draw).turnAway id addr (1 + (Config.freeValue d.draw.draws).toNat % 3) answers

/-- TARGET_READ. -/
def Device.targetRead (d : Device) (addr len id attr strb : Nat) : Device :=
  if d.targetReady = false then d
  else
    let beats := beatsOf addr len strb
    let code := d.targetCheck attr len beats false
    if code ≠ 0 then d.turnAway id addr code (len + 1)
    else
      let r := d.readBeats (.host (bitOf attr 1)) beats
      r.2.respond id addr r.1

/-- Each beat received counts by its check: kind 5 where it is uncorrectable, CE where it was corrected (R460, R465). -/
def Device.countBeat (d : Device) (port addr : Nat) (c : BeatCheck) : Device :=
  match c with
  | .good => d
  | .corrected => d.bump Reg.QSP_STAT 0 8
  | .bad => d.qspError port 5 0 addr

/-- TARGET_WRITE: every beat is received before any is performed (R460); the response is one beat. -/
def Device.targetWrite (d : Device) (addr id attr : Nat) (beats : List Beat) : Device :=
  if d.targetReady = false then d
  else
    let len := beats.length - 1
    let w : Writer := .host (bitOf attr 1)
    let places := (beatsOf addr len 0).map Prod.fst
    let all := places.zip beats
    let code := d.targetCheck attr len (all.map fun q => (q.1, q.2.strb.toNat)) true
    if code ≠ 0 then d.turnAway id addr code 1
    else match all.find? fun q => d.beatPadRefused w q.1 q.2.strb.toNat q.2.data.toNat with
      | some q => (d.padDeny ((q.1 - (windowBase + 0x80000)) / 0x1000)).turnAway id addr 3 1
      | none =>
        let d1 := beats.foldl (fun e b => e.countBeat 0 addr b.check) d
        if beats.any fun b => b.check == .bad then d1.turnAway id addr 1 1
        else
          let d2 := all.foldl (fun e q => e.writeBeat 3 4 w q.1 q.2.strb.toNat q.2.data.toNat) d1
          d2.respond id addr [writtenBeat]

/-! ### The initiator port (R463 to R465) -/

/-- The external load of a berth with a place in program order has failed. -/
def Berth.failLoad (x : Berth) (seq : Nat) : Berth :=
  { x with loads := x.loads.map fun e => if e.seq = seq then { e with failed := true } else e }

/-- A load of a berth ends in error: a fed one reports BUS (R493), another goes back to its instruction once it is the oldest. -/
def Device.loadError (d : Device) (b seq : Nat) : Device :=
  if d.dbg.fed = some b ∧ d.dbg.fedHeld = none ∧ (d.berth b).loads.any (fun e => e.seq == seq) then
    let x := d.berth b
    (d.setBerth b { x with loads := x.loads.filter fun e => e.seq != seq }).itrStatus false 3 6 0
  else (d.setBerth b ((d.berth b).failLoad seq)).loadFault b

/-- The value of `n` bytes at an address in the 32 bytes of its beat. -/
def beatValue (a n data : Nat) : Nat := bitsOf data (8 * (a % 32)) (8 * n)

/-- A load's data arrive: it is delivered and its DATA packet is recorded. -/
def Device.loadData (d : Device) (b seq data : Nat) : Device :=
  match (d.berth b).loads.find? fun e => e.seq == seq with
  | some ⟨_, .memory a n sg, _, _, _, _⟩ =>
    let v := extend n sg (beatValue a n data)
    ((((d.setBerth b ((d.berth b).deliver seq v)).traceData b 1 a n v.toNat).loadFault b).storeFaultNow b).settlePark b
  | _ => d

/-- A store of a berth has its response. -/
def Device.storeDone (d : Device) (b seq : Nat) (ok : Bool) : Device :=
  let x := d.berth b
  match x.stores.find? fun s => s.seq == seq with
  | none => d
  | some s =>
    let y := x.dropStore seq
    let spill := match x.wait with
      | .entering _ _ first => decide (first ≤ seq)
      | _ => false
    if spill then ((d.setBerth b y).entrySpill b (if ok then none else some s.addr)).settlePark b
    else if ok then (((d.setBerth b y).recordDone b).storeFaultNow b).settlePark b
    else ((d.setBerth b { y with faults := y.faults ++ [s.addr] }).recordDone b).storeFaultNow b

/-- A stack word of a berth has its response (R463, R465): it is kept for the RET or RETX that asked for it, which an error makes raise
BUS; one that nothing waits for any more is dropped. -/
def Device.stackDone (d : Device) (b a : Nat) (v : Option Nat) : Device :=
  let x := d.berth b
  if (x.reads.any fun r => r.addr == a && r.sent) = false then d
  else match v with
    | some v =>
      (d.setBerth b { x with reads := x.reads.map fun r => if r.addr = a then { r with value := some v } else r }).settlePark b
    | none =>
      let pc := x.pc.toNat
      ((d.setBerth b { x with reads := [] }).takeException b ⟨6, 0, 0, a, false, pc, pc⟩).settlePark b

/-- A fetch of a berth has its response: the beat is there for its instructions, or BUS is raised where the instruction at PC needs it
(R465), at once where it could issue and otherwise when it could (R100). A fetch that nothing needs any more is dropped. -/
def Device.fetchDone (d : Device) (b a : Nat) (ok : Bool) : Device :=
  let x := d.berth b
  let k := (2 ^ 49 + a) / 32
  if ok then
    d.setBerth b { x with beats := ((x.beats.filter (· != k)) ++ [k]).drop ((x.beats.filter (· != k)).length - 1) }
  else if (d.beatsWanted b (fetchAddrs x.pc.toNat 4)).contains k then
    let d1 := d.setBerth b { x with badBeat := some k }
    if d1.mayIssue b ∧ x.pc.toNat / 32 = k then d1.fetchBus b else d1
  else d

/-- The response of a request: its errors count, and the access completes or faults. -/
def Device.answer (d : Device) (r : InitReq) (resp : Nat) (check : BeatCheck) (data : Nat) : Device :=
  let d1 := if resp = 0 then d else d.qspError 1 4 resp r.addr
  let d2 := if r.write then d1 else d1.countBeat 1 r.addr check
  let ok := resp == 0 && (r.write || check != .bad)
  let d3 := match r.owner with
    | .load b seq => if ok then d2.loadData b seq data else d2.loadError b seq
    | .store b seq => d2.storeDone b seq ok
    | .stack b a => d2.stackDone b a (if ok then some (beatValue a 4 data) else none)
    | .fetch b => d2.fetchDone b r.addr ok
    | .msi => d2
    | .image live => if live then d2.imageBeat r.addr data ok else d2
  d3.sendAll

/-- INITIATOR_RESPONSE. -/
def Device.initiatorResponse (d : Device) (t : Tag) (resp : Nat) (check : BeatCheck) (data : Nat) : Device :=
  if d.qsp.held ∨ d.isolated then d
  else match t with
    | .stray => (d.bump Reg.QSP_STAT 24 8).raise 0x48 13
    | .request i => match d.qsp.requests[i.toNat]? with
      | none => d
      | some r =>
        let left := if r.more = 0 then d.qsp.requests.eraseIdx i.toNat
          else d.qsp.requests.set i.toNat { r with addr := (r.addr / 32 * 32 + 32) % 2 ^ 48, more := r.more - 1 }
        ({ d with qsp := { d.qsp with requests := left } }).answer r resp check data

/-! ### Host-side reset (R462) -/

/-- An outstanding request ends without a response. -/
def Device.endRequest (d : Device) (r : InitReq) : Device :=
  match r.owner with
  | .load b seq => d.loadError b seq
  | .store b seq => d.storeDone b seq false
  | .stack b a => d.stackDone b a none
  | .fetch b => d.fetchDone b r.addr false
  | .msi => d
  | .image live => if live then d.imageEnd d.qsp.got else d

/-- HOST_RESET. -/
def Device.hostReset (d : Device) : Device :=
  let old := d.qsp.requests
  let d1 := { d with qsp := { d.qsp with requests := [], held := true, response := (0, []) } }
  let d2 := ((old.foldl (fun e r => e.endRequest r) d1).abandon (· == .host)).gateDrop 1023
  (((d2.wr Reg.QSP_H2D 0).wr Reg.QSP_D2H 0).wr Reg.QSP_FEAT_ACCEPT2 0).wr Reg.QSP_FEAT_DONE 0

/-- HOST_RESET_RELEASE. -/
def Device.hostRelease (d : Device) : Device := ({ d with qsp := { d.qsp with held := false } }).sendAll

end Sys2Proof.Machine
end

