-- ==== Sys2Proof/Machine/RegisterWrite.lean ====
section
/-! DEFINITION. A write and a read of a register as a command: who reaches the control window at all (R459, R473, R484, R505), and the
register's own rules behind it. A command that names one register's write is that write. -/

namespace Sys2Proof.Machine

/-- An offset among the debug registers, whose writers R505 gives. -/
def inDebug (off : Nat) : Bool := decide (0x300000 ≤ off) && decide (off < 0x340000)

/-- A register begins at the offset (R12): 32 bits at a multiple of 4, 64 bits at a multiple of 8. -/
def regStart (off : Nat) : Bool := if reg64 off then off % 8 == 0 else off % 4 == 0

/-- What carries a writer's access runs: a berth's tile outside DEEP-SLEEP (R520), the target port (R462), the Ndouc link (R502). -/
def Device.pathRuns (d : Device) (w : Writer) : Bool :=
  match w with
  | .berth b => d.tileOn (tileOf b) && d.mode != Mode.deepSleep
  | .host _ => d.targetReady
  | .hostUser => d.targetReady
  | .gangway => d.linkRuns

/-- A berth's level forbids it the register: USER all of the window (Table 5.1), SUPERVISOR most debug registers (R505). -/
def Device.privAt (d : Device) (b off : Nat) : Bool :=
  (d.berth b).pl == 0 ||
  ((d.berth b).pl == 1 && decide (0x300000 ≤ off) && decide (off < 0x380000) && !dbgSupervisor off)

/-- The writer's level or rights reach the register. -/
def Device.entitled (d : Device) (w : Writer) (off : Nat) : Bool :=
  match w with
  | .berth b => d.present b && !d.privAt b off
  | .gangway => d.mayWrite .gangway || inDebug off
  | w => d.mayWrite w

/-- A writer's access arrives at a register: where one begins (R12); not before the release of a reset (R516), nor where its path does
not run; of a berth of the configuration whose level lets it (Table 5.1, R505); of the target port with an attribute where
QSP_TACL.NSCW lets it (R459); of the Gangway at FULL, but for the debug registers. -/
def Device.arrives (d : Device) (w : Writer) (off : Nat) : Bool :=
  regStart off && !d.isolated && d.pathRuns w && d.entitled w off

/-- An access that its writer's rights forbid performs nothing: a berth's instruction raises PRIV with the register's address (R85,
R96), the target port answers REFUSED, counted in QSP_STAT.DENY (R459, R465). -/
def Device.rowRefused (d : Device) (w : Writer) (off : Nat) : Device :=
  if d.isolated ∨ d.pathRuns w = false ∨ d.entitled w off then d
  else match w with
    | .berth b =>
      let pc := (d.berth b).pc.toNat
      if d.mayIssue b then (d.issuedOne b false).takeException b ⟨2, 0, 0, windowBase + off, false, pc, pc⟩ else d
    | .gangway => d
    | _ => d.qspDeny.targetSend (windowBase + off) 3

/-- A write of a 32-bit register. One of LHS_SERVEx by a USER berth is refused as a serve too (R450). -/
def Device.rowWrite (d : Device) (w : Writer) (off v : Nat) : Device :=
  if d.arrives w off then d.regWrite w off v
  else match w with
    | .berth b => (if d.mayIssue b && !d.entitled w off then d.serveRefused b (windowBase + off) v else d).rowRefused w off
    | _ => d.rowRefused w off

/-- A write of a 64-bit register. -/
def Device.rowWrite64 (d : Device) (w : Writer) (off v : Nat) : Device :=
  if d.arrives w off then d.cwWrite64 w off v else d.rowRefused w off

/-- A read of a 32-bit register, for what it does to the device. -/
def Device.rowRead (d : Device) (w : Writer) (off : Nat) : Device :=
  if d.arrives w off then (d.cwRead w off).2 else d.rowRefused w off

/-- A read of a 64-bit register, for what it does to the device. -/
def Device.rowRead64 (d : Device) (w : Writer) (off : Nat) : Device :=
  if d.arrives w off then (d.cwRead64 w off).2 else d.rowRefused w off

/-- Offset of an engine's register by its number (R255). -/
def engOffset (e r : Nat) : Nat := 0x40000 + 0x1000 * e + 4 * r

/-- REGISTER_WRITE (R12, R15): a write of a register at its full width. -/
def execRegisterWrite (w : Writer) (off : BitVec 24) (v : BitVec 64) (s : State) : Host.Outcome State Fault Refusal :=
  s.upd fun d => if reg64 off.toNat then d.rowWrite64 w off.toNat v.toNat else d.rowWrite w off.toNat v.toNat

end Sys2Proof.Machine
end

