-- ==== Sys2Proof/Machine/BerthCmds.lean ====
section
/-! DEFINITION. The commands of the Carousel (chapter 2): timer compares, parking, reclassing, breaches, twin pairs, and the resets
of a core and of a berth (R518). -/

namespace Sys2Proof.Machine

/-- TIMER_COMPARE. R139: the timebase has reached the compare of a berth. -/
def execTimerCompare (b : BitVec 9) (s : State) : Host.Outcome State Fault Refusal := s.upd fun d => d.timerCompare b.toNat

/-- PARK_REQUEST. R31: a write that sets the bit of one berth in CAR_PARKREQ. -/
def execParkRequest (w : Writer) (b : BitVec 9) (s : State) : Host.Outcome State Fault Refusal :=
  s.upd fun d => d.rowWrite w (Reg.CAR_PARKREQ (coreOf b.toNat)) (setBits (d.rd (Reg.CAR_PARKREQ (coreOf b.toNat))) (b.toNat % 16) 1 1)

/-- UNPARK_REQUEST. R31: a write that clears the bit of one berth in CAR_PARKREQ. -/
def execUnparkRequest (w : Writer) (b : BitVec 9) (s : State) : Host.Outcome State Fault Refusal :=
  s.upd fun d => d.rowWrite w (Reg.CAR_PARKREQ (coreOf b.toNat)) (setBits (d.rd (Reg.CAR_PARKREQ (coreOf b.toNat))) (b.toNat % 16) 1 0)

/-- BERTH_PARKED. R31: a berth asked to park whose entries are empty is shown parked. -/
def execBerthParked (b : BitVec 9) (s : State) : Host.Outcome State Fault Refusal := s.upd fun d => d.berthParked b.toNat

/-- RECLASS. R33: a write of CAR_RECLASS of a core. -/
def execReclass (w : Writer) (c : BitVec 5) (v : BitVec 32) (s : State) : Host.Outcome State Fault Refusal :=
  s.upd fun d => d.rowWrite w (Reg.CAR_RECLASS c.toNat) v.toNat

/-- BREACH_CLEAR. R64: a write of CAR_BRCLR of a core. -/
def execBreachClear (w : Writer) (c : BitVec 5) (v : BitVec 32) (s : State) : Host.Outcome State Fault Refusal :=
  s.upd fun d => d.rowWrite w (Reg.CAR_BRCLR c.toNat) v.toNat

/-- TWIN_ACTIVATE. R55: a requested twin enable takes effect on a pair. -/
def execTwinActivate (p : BitVec 4) (s : State) : Host.Outcome State Fault Refusal := s.upd fun d => d.twinActivate p.toNat

/-- TWIN_COPY_DONE. R55: the copy into the higher core of a pair is complete. -/
def execTwinCopyDone (p : BitVec 4) (s : State) : Host.Outcome State Fault Refusal := s.upd fun d => d.twinCopyDone p.toNat

/-- TWIN_DEACTIVATE. R55: a cleared twin enable takes effect on a pair. -/
def execTwinDeactivate (p : BitVec 4) (s : State) : Host.Outcome State Fault Refusal :=
  s.upd fun d => d.twinDeactivate p.toNat

/-- CORE_RESET. R518: a write of PWR_CRST. -/
def execCoreReset (w : Writer) (mask : BitVec 32) (s : State) : Host.Outcome State Fault Refusal :=
  s.upd fun d => d.rowWrite w Reg.PWR_CRST mask.toNat

/-- BERTH_RESET. R518: a write of PWR_BRST. -/
def execBerthReset (w : Writer) (b : BitVec 9) (s : State) : Host.Outcome State Fault Refusal :=
  s.upd fun d => d.rowWrite w Reg.PWR_BRST b.toNat

end Sys2Proof.Machine
end

