-- ==== Sys2Proof/Machine/Ndouc.lean ====
section
/-! DEFINITION. The Ndouc link (R474 to R480): its frames and commands, and the Gangway through which READ and WRITE reach the
device (R484 to R487). -/

namespace Sys2Proof.Machine

/-! ### The berth-state window (R485 to R487) -/

/-- An offset of the control window in the berth-state window. -/
def inBerthWindow (o : Nat) : Bool := decide (0x380000 ≤ o) && decide (o < 0x400000)

def windowBerth (o : Nat) : Nat := (o - 0x380000) / 0x400

/-- What the window shows of a berth at an offset, in an access of 4 or 8 bytes. -/
def Device.berthView (d : Device) (o : Nat) (wide : Bool) : Nat :=
  let b := windowBerth o
  let x := d.berth b
  let k := o % 0x400
  if k = 0x300 then (if wide then x.pc.toNat else 0)
  else if wide then 0
  else if k < 0x80 then (x.reg (k / 4)).toNat
  else if 0x100 ≤ k ∧ k < 0x300 then d.srRead b ((k - 0x100) / 4) x.pc.toNat
  else 0

/-- A register takes a value from the window: the berth's next instruction reads it, in a load-delay position too (R486). -/
def Berth.pokeReg (x : Berth) (r : Nat) (v : Word) : Berth :=
  { x.setReg r v with shadow := x.shadow.map fun q => if q.1 = physReg x.cwp r then (q.1, v) else q }

/-- A write of a berth of a halted core (R486). -/
def Device.berthPoke (d : Device) (o : Nat) (wide : Bool) (v : Nat) : Device :=
  let b := windowBerth o
  let x := d.berth b
  let k := o % 0x400
  if d.present b = false ∨ d.coreHalted (coreOf b) = false then d
  else if k = 0x300 then (if wide ∧ v % 2 = 0 then d.setBerth b { x with pc := BitVec.ofNat 50 v, beats := [], badBeat := none } else d)
  else if wide then d
  else if k < 0x80 then d.setBerth b (x.pokeReg (k / 4) (BitVec.ofNat 32 v))
  else if 0x100 ≤ k ∧ k < 0x300 then d.setBerth b (x.srWrite ((k - 0x100) / 4) v 2)
  else d

/-! ### The Gangway (R484) -/

/-- Bytes of one Gangway access. -/
def gwStep (wide : Bool) : Nat := if wide then 8 else 4

/-- A window offset belongs to a tile that is present but has no power: its engines or its cores. -/
def Device.windowDark (d : Device) (o : Nat) : Bool :=
  if 0x40000 ≤ o ∧ o < 0x80000 then
    let e := (o - 0x40000) / 0x1000
    decide (e < d.cfg.engines) && !d.tileOn (e / 8)
  else if 0x100000 ≤ o ∧ o < 0x120000 then
    let c := (o - 0x100000) / 0x1000
    decide (c < d.cfg.cores) && !d.tileOn (c / 4)
  else if inBerthWindow o then !d.coreOn (coreOf (windowBerth o))
  else false

/-- The status of an access to an address, before any is performed: 3 BUSERR, 6 NOTAVAIL, 0 where it can be made. -/
def Device.gwCheck (d : Device) (wide write : Bool) (a : Nat) : Nat :=
  match targetPlace d.cfg a with
  | none => if 0x100000000 ≤ a ∧ a < 0x108000000 ∧ (a - 0x100000000) % 0x1000000 < 0x200000 then 6 else 3
  | some p =>
    if outsideRights d.cfg p write = false then 3
    else match p with
      | .sram t _ => if d.tileOn t then 0 else 6
      | .imageBit _ => if wide then 3 else 0
      | .window o => if d.windowDark o then 6 else 0
      | _ => 0

/-- A read of this address steals a Midway cycle (R487): the core of its berth runs. -/
def Device.gwSteals (d : Device) (a : Nat) : Bool :=
  match targetPlace d.cfg a with
  | some (.window o) => inBerthWindow o && d.present (windowBerth o) && !d.coreHalted (coreOf (windowBerth o))
  | _ => false

/-- Words of the window that are no registers: the trace buffer and the boot ROM. -/
def windowMemory (o : Nat) : Bool :=
  (decide (0x340000 ≤ o) && decide (o < 0x380000)) || (decide (0xF00000 ≤ o) && decide (o < 0xF40000))

/-- One Gangway read of the control window; a register is read at its full width or reads zero (R12). -/
def Device.gwWindow (d : Device) (o : Nat) (wide : Bool) : Nat × Device :=
  if inBerthWindow o then (d.berthView o wide, d)
  else if wide then
    (if reg64 o then d.cwRead64 .gangway o
     else if windowMemory o then (d.cwView .gangway o + 2 ^ 32 * d.cwView .gangway (o + 4), d)
     else (0, d))
  else d.cwRead .gangway o

/-- One Gangway read: none where it meets an uncorrectable word. -/
def Device.gwRead (d : Device) (wide : Bool) (a : Nat) : Option (List Byte) × Device :=
  match targetPlace d.cfg a with
  | some (.window o) => let r := d.gwWindow o wide; (some (leBytes (gwStep wide) r.1), r.2)
  | _ =>
    let g := a / 8 * 8
    let r := d.readGroup 4 .gangway g (if wide then 255 else if a = g then 15 else 240)
    (r.1.map fun v => leBytes (gwStep wide) (v / 2 ^ (8 * (a - g))), r.2)

/-- One Gangway write. -/
def Device.gwWrite (d : Device) (wide : Bool) (a v : Nat) : Device :=
  match targetPlace d.cfg a with
  | some (.window o) =>
    if inBerthWindow o then d.berthPoke o wide v
    else if wide then (if reg64 o then d.cwWrite64 .gangway o v else d)
    else if reg64 o then d
    else d.regWrite .gangway o v
  | _ =>
    let g := a / 8 * 8
    d.writeGroup 4 5 .gangway g (if wide then 255 else if a = g then 15 else 240) (v * 2 ^ (8 * (a - g)))

/-! ### The link -/

/-- The berth on which the Ndouc monitor runs (R478); it does not run while its core is halted. -/
def Device.monitorBerth (d : Device) : Option Nat :=
  if d.mode = .service ∨ d.mode = .stop then (if d.coreHalted 0 then none else some 0)
  else if d.mode = .run then
    (d.berths.map Prod.fst).find? fun b =>
      d.present b && !d.parked b && !d.coreHalted (coreOf b) && (d.berth b).pl == 2 &&
      decide (windowBase + 0xF01000 ≤ (d.berth b).pc.toNat) && decide ((d.berth b).pc.toNat < windowBase + 0xF40000)
  else none

/-- The core that a UART request must not halt: the monitor's own. -/
def Device.monitorCore (d : Device) : Option Nat := if d.uart then d.monitorBerth.map coreOf else none

/-- A response frame (Table 16.3); one that is not OK carries no payload. -/
def ndoucFrame (status : Nat) (tag : Byte) (payload : List Byte) : List Byte :=
  let p := if status = 0 then payload else []
  let h := [0x5A, BitVec.ofNat 8 status, tag, BitVec.ofNat 8 p.length] ++ p
  h ++ leBytes 4 (crc32c h)

/-- A response is kept, and goes out unless its exchange has been abandoned (R477). -/
def Device.ndoucSend (d : Device) (tag : Byte) (status : Nat) (payload : List Byte) : Device :=
  let f := ndoucFrame status tag payload
  { d with dbg := { d.dbg with lastRsp := f, sending := if d.dbg.mute then [] else f, mute := false, executing := none } }

/-- The response is still to come. -/
def Device.ndoucHold (d : Device) (w : NdoucWait) : Device := { d with dbg := { d.dbg with executing := some w } }

/-! ### Commands (Table 16.4) -/

/-- The addresses of `n` words from an address, by the size of an access. -/
def gwAddrs (wide : Bool) (a n : Nat) : List Nat :=
  (List.range (if wide then n / 2 else n)).map fun k => a + gwStep wide * k

/-- The address field: none where it breaks its format. -/
def gwAddress (p : List Byte) (n : Nat) : Option (Nat × Bool) :=
  let f := fieldAt p 0 8
  let wide := bitOf f 62
  let a := f % 2 ^ 50
  if f ≠ a + 2 ^ 62 * bit01 wide ∨ a % gwStep wide ≠ 0 ∨ (wide ∧ n % 2 = 1) then none else some (a, wide)

/-- The first status other than OK of a range. -/
def Device.gwRange (d : Device) (wide write : Bool) (as : List Nat) : Nat :=
  (as.findSome? fun a => let s := d.gwCheck wide write a; if s = 0 then none else some s).getD 0

/-- A READ goes on over its remaining addresses until one needs a stolen cycle; `have_` says that the first of them has one. -/
def Device.gwReadOn (d : Device) (tag : Byte) (wide : Bool) (got : List Byte) : Bool → List Nat → Device
  | _, [] => d.ndoucSend tag 0 got
  | have_, a :: r =>
    if have_ = false ∧ d.gwSteals a then d.ndoucHold ⟨0x10, tag, 0, a :: r, got, wide⟩
    else
      let x := d.gwRead wide a
      match x.1 with
      | none => x.2.ndoucSend tag 4 []
      | some bs => Device.gwReadOn x.2 tag wide (got ++ bs) false r

/-- READ. -/
def Device.ndRead (d : Device) (tag : Byte) (p : List Byte) : Device :=
  let n := fieldAt p 8 4
  match gwAddress p n with
  | none => d.ndoucSend tag 1 []
  | some (a, wide) =>
    if p.length ≠ 12 ∨ n = 0 ∨ 62 < n then d.ndoucSend tag 1 []
    else
      let as := gwAddrs wide a n
      let s := d.gwRange wide false as
      if s ≠ 0 then d.ndoucSend tag s [] else d.gwReadOn tag wide [] false as

/-- WRITE. -/
def Device.ndWrite (d : Device) (tag : Byte) (p : List Byte) : Device :=
  let n := (p.length - 8) / 4
  match gwAddress p n with
  | none => d.ndoucSend tag 1 []
  | some (a, wide) =>
    if p.length < 12 ∨ p.length % 4 ≠ 0 ∨ 61 < n then d.ndoucSend tag 1 []
    else
      let as := gwAddrs wide a n
      let s := d.gwRange wide true as
      if s ≠ 0 then d.ndoucSend tag s []
      else
        let k := gwStep wide
        (as.foldl (fun e q => e.gwWrite wide q (fieldAt p (8 + (q - a)) k)) d).ndoucSend tag 0 []

/-- STATE_READ_STEAL (R487): the read that waits has found a usable cycle, or none within 1,024 CCLK. Below OBSERVE the Gangway accepts
no access any more (R483). -/
def Device.stateSteal (d : Device) (found : Bool) : Device :=
  match d.dbg.executing with
  | some ⟨0x10, tag, _, as, got, wide⟩ =>
    if d.authLevel = 0 then d.ndoucSend tag 2 [] else if found then d.gwReadOn tag wide got true as else d.ndoucSend tag 5 []
  | _ => d

def Device.ndIdent (d : Device) (tag : Byte) (p : List Byte) : Device :=
  if p.isEmpty = false then d.ndoucSend tag 1 []
  else d.ndoucSend tag 0 (leBytes 8 d.cfg.devid.toNat ++ leBytes 4 (feature d.cfg 0) ++ leBytes 4 (feature d.cfg 7) ++
    leBytes 4 (d.rd Reg.DBG_AUTH))

def Device.ndChal (d : Device) (tag : Byte) (p : List Byte) : Device :=
  if p.isEmpty = false then d.ndoucSend tag 1 []
  else let r := d.newChallenge; r.2.ndoucSend tag 0 (leBytes 8 r.1)

def Device.ndUnlock (d : Device) (tag : Byte) (p : List Byte) : Device :=
  if p.length ≠ 12 ∨ zeroAt p 1 3 = false then d.ndoucSend tag 1 []
  else
    let r := d.unlock (fieldAt p 0 1) (fieldAt p 4 8)
    r.2.ndoucSend tag r.1 (leBytes 4 (r.2.rd Reg.DBG_AUTH))

/-- HALT: a core that is absent or without power answers NOTAVAIL, and the others of the mask halt (R488, R503). -/
def Device.ndHalt (d : Device) (tag : Byte) (p : List Byte) : Device :=
  let cs := coresOf (fieldAt p 0 4)
  if p.length ≠ 4 then d.ndoucSend tag 1 []
  else if cs.any fun c => d.monitorCore == some c then d.ndoucSend tag 6 []
  else
    let d1 := d.haltWith 1 cs
    d1.ndoucSend tag (if cs.all d.coreOn then 0 else 6) (leBytes 4 (d1.rd Reg.DBG_HALTED))

def Device.ndResume (d : Device) (tag : Byte) (p : List Byte) : Device :=
  if p.length ≠ 4 then d.ndoucSend tag 1 []
  else
    let d1 := d.resumeRequest (fieldAt p 0 4)
    d1.ndoucSend tag 0 (leBytes 4 (d1.rd Reg.DBG_HALTED))

/-- The PC of a berth as STEP returns it. -/
def Device.stepAnswer (d : Device) (tag : Byte) (b : Nat) : Device := d.ndoucSend tag 0 (leBytes 8 (d.berth b).pc.toNat)

/-- STEP: the response waits for STEP_DONE. -/
def Device.ndStep (d : Device) (tag : Byte) (p : List Byte) : Device :=
  let b := fieldAt p 0 4
  if p.length ≠ 4 ∨ 512 ≤ b then d.ndoucSend tag 1 []
  else if d.present b = false then (d.countAbsent b).ndoucSend tag 6 []
  else if d.coreOn (coreOf b) = false ∨ d.monitorCore = some (coreOf b) then d.ndoucSend tag 6 []
  else
    let d1 := d.stepRequest b
    if d1.dbg.steps = d.dbg.steps then d1.stepAnswer tag b else d1.ndoucHold ⟨0x22, tag, b, [], [], false⟩

/-- ITR: the response waits for ITR_DONE. -/
def Device.ndItr (d : Device) (tag : Byte) (p : List Byte) : Device :=
  let b := fieldAt p 0 4
  if p.length ≠ 8 ∨ 512 ≤ b then d.ndoucSend tag 1 []
  else if d.present b = false then (d.countAbsent b).ndoucSend tag 6 []
  else if d.coreOn (coreOf b) = false then d.ndoucSend tag 6 []
  else
    let was := d.dbg.fed
    let d1 := (d.wr Reg.DBG_ITRSEL b).feedWrite .gangway (fieldAt p 4 4)
    if was.isNone ∧ d1.dbg.fed.isSome then d1.ndoucHold ⟨0x23, tag, b, [], [], false⟩
    else d1.ndoucSend tag 0 (leBytes 4 (d1.rd Reg.DBG_ITRST))

def Device.ndSnap (d : Device) (tag : Byte) (p : List Byte) : Device :=
  if p.isEmpty = false then d.ndoucSend tag 1 [] else (d.channelFire 3 (2 ^ 31)).ndoucSend tag 0 []

/-- VT: its bytes go to DBG_VRX, and up to 64 bytes of DBG_VTX come back. -/
def Device.ndVt (d : Device) (tag : Byte) (p : List Byte) : Device :=
  let n := fieldAt p 0 4
  if p.length < 4 ∨ 64 < n ∨ p.length ≠ 4 + (n + 3) / 4 * 4 then d.ndoucSend tag 1 []
  else
    let d1 := ((p.drop 4).take n).foldl (fun e c => e.vrxPush c) d
    let out := d1.dbg.vtx.take 64
    let d2 := { d1 with dbg := { d1.dbg with vtx := d1.dbg.vtx.drop 64 } }
    d2.ndoucSend tag 0 (leBytes 4 out.length ++ out ++ List.replicate ((4 - out.length % 4) % 4) 0)

/-- SVC: QSP_CMDADDR and then QSP_CMD are written (R472). -/
def Device.ndSvc (d : Device) (tag : Byte) (p : List Byte) : Device :=
  if p.length ≠ 12 ∨ 4 ≤ fieldAt p 0 4 ∨ 2 ^ 48 ≤ fieldAt p 4 8 then d.ndoucSend tag 1 []
  else
    let d1 := (d.cwWrite64 .gangway Reg.QSP_CMDADDR (fieldAt p 4 8)).cmdWrite .gangway (fieldAt p 0 4)
    d1.ndoucSend tag 0 (leBytes 4 (d1.rd Reg.QSP_CMDST))

/-! ### Requests (R477 to R480) -/

/-- The level of a command; none where the table has no such code. -/
def ndoucLevel (code : Nat) : Option Nat :=
  if code = 0x01 ∨ code = 0x02 ∨ code = 0x03 then some 0
  else if code = 0x10 ∨ code = 0x30 ∨ code = 0x31 then some 1
  else if code = 0x11 ∨ code = 0x20 ∨ code = 0x21 ∨ code = 0x22 ∨ code = 0x23 ∨ code = 0x40 then some 2
  else none

/-- A frame keeps its format (R479). -/
def ndoucGood (f : List Byte) : Bool :=
  let len := fieldAt f 3 1
  fieldAt f 0 1 == 0xA5 && len % 4 == 0 && decide (len ≤ 252) && f.length == len + 8 &&
  crc32c (f.take (4 + len)) == fieldAt f (4 + len) 4

/-- Bytes come to the UART's receiver, which holds 64 until the monitor takes them: those that find it full are dropped (R478). -/
def Device.uartHold (d : Device) (f : List Byte) : Device :=
  let all := d.dbg.uart ++ f
  let lost := all.length - 64
  let d1 := { d with dbg := { d.dbg with uart := all.take 64 } }
  d1.setFld Reg.DBG_NDCNT 16 8 (min (d1.fld Reg.DBG_NDCNT 16 8 + lost) 255)

/-- A request while another executes (R477, R480): the same one again gives an abandoned exchange its response when it is ready; any
other is answered BUSY on the UART, and on the single wire where the exchange had been abandoned, since there none can be sent before. -/
def Device.ndoucBusy (d : Device) (tag : Byte) (f : List Byte) : Device :=
  if f = d.dbg.lastReq ∧ d.uart = false then { d with dbg := { d.dbg with mute := false } }
  else if d.uart ∨ d.dbg.mute then { d with dbg := { d.dbg with sending := ndoucFrame 5 tag [] } }
  else d

/-- A request frame is taken (R477 to R480): one whose CODE has no command, or is not allowed at this level, does nothing. -/
def Device.ndoucServe (d : Device) (f : List Byte) (run : Device → Byte → List Byte → Device) : Device :=
  let tag := BitVec.ofNat 8 (fieldAt f 2 1)
  if ndoucGood f = false then d.bump Reg.DBG_NDCNT 0 8
  else if d.dbg.executing.isSome then d.ndoucBusy tag f
  else if f = d.dbg.lastReq then { d with dbg := { d.dbg with sending := d.dbg.lastRsp } }
  else
    let e := { d with dbg := { d.dbg with lastReq := f } }
    match ndoucLevel (fieldAt f 1 1) with
    | none => e.ndoucSend tag 1 []
    | some l => if e.authLevel < l then e.ndoucSend tag 2 [] else run e tag ((f.drop 4).take (fieldAt f 3 1))

/-- A request frame of a command arrives. On the UART it waits in the receiver while no monitor takes it, or behind bytes that do. -/
def Device.ndoucRequest (d : Device) (code : Nat) (f : List Byte) (run : Device → Byte → List Byte → Device) : Device :=
  let c := fieldAt f 1 1
  if d.linkRuns = false then d
  else if d.uart && (d.monitorBerth.isNone || !d.dbg.uart.isEmpty) then d.uartHold f
  else if ndoucGood f && (ndoucLevel c).isSome && c != code then d
  else d.ndoucServe f run

/-- The commands by their CODE (Table 16.4). -/
def Device.ndoucRun (code : Nat) (d : Device) (tag : Byte) (p : List Byte) : Device :=
  match code with
  | 0x01 => d.ndIdent tag p
  | 0x02 => d.ndChal tag p
  | 0x03 => d.ndUnlock tag p
  | 0x10 => d.ndRead tag p
  | 0x11 => d.ndWrite tag p
  | 0x20 => d.ndHalt tag p
  | 0x21 => d.ndResume tag p
  | 0x22 => d.ndStep tag p
  | 0x23 => d.ndItr tag p
  | 0x30 => d.ndSnap tag p
  | 0x31 => d.ndVt tag p
  | _ => d.ndSvc tag p

/-- The monitor takes the first whole frame that the UART's receiver holds, while no request executes (R478). -/
def Device.uartServe (d : Device) : Device :=
  let n := 8 + fieldAt d.dbg.uart 3 1
  if d.uart = false ∨ d.linkRuns = false ∨ d.monitorBerth.isNone ∨ d.dbg.executing.isSome ∨ d.dbg.uart.length < n then d
  else
    let f := d.dbg.uart.take n
    ({ d with dbg := { d.dbg with uart := d.dbg.uart.drop n } }).ndoucServe f (Device.ndoucRun (fieldAt f 1 1))

/-- A STEP or an ITR that waits has its answer. -/
def Device.ndoucSettle (d : Device) : Device :=
  match d.dbg.executing with
  | some ⟨0x22, tag, b, _, _, _⟩ => if d.dbg.steps.any fun s => s.1 == b then d else d.stepAnswer tag b
  | some ⟨0x23, tag, _, _, _, _⟩ => if d.dbg.fed.isNone then d.ndoucSend tag 0 (leBytes 4 (d.rd Reg.DBG_ITRST)) else d
  | _ => d

/-- NDOUC_IDLE_TIMEOUT (R477): on the single wire, the request or response in progress is abandoned; a response still to come is only
kept. -/
def Device.ndoucIdle (d : Device) : Device :=
  if d.uart then d else { d with dbg := { d.dbg with sending := [], mute := d.dbg.executing.isSome } }

/-- UART_GAP_TIMEOUT (R478). -/
def Device.uartGap (d : Device) : Device := { d with dbg := { d.dbg with uart := [] } }

end Sys2Proof.Machine
end

