-- ==== Sys2Proof/Machine/DebugCmds.lean ====
section
/-! DEFINITION. The commands of the debug logic (chapter 16). A Ndouc request is its whole frame (Table 16.3). -/

namespace Sys2Proof.Machine

/-- IDENT. R480: IDENT. -/
def execIdent (f : List Byte) (s : State) : Host.Outcome State Fault Refusal :=
  s.upd fun d => d.ndoucRequest 0x01 f fun e tag p => e.ndIdent tag p

/-- CHAL. R482: CHAL. -/
def execChal (f : List Byte) (s : State) : Host.Outcome State Fault Refusal :=
  s.upd fun d => d.ndoucRequest 0x02 f fun e tag p => e.ndChal tag p

/-- UNLOCK. R482: UNLOCK. -/
def execUnlock (f : List Byte) (s : State) : Host.Outcome State Fault Refusal :=
  s.upd fun d => d.ndoucRequest 0x03 f fun e tag p => e.ndUnlock tag p

/-- READ. R484: READ. -/
def execRead (f : List Byte) (s : State) : Host.Outcome State Fault Refusal :=
  s.upd fun d => d.ndoucRequest 0x10 f fun e tag p => e.ndRead tag p

/-- WRITE. R484: WRITE. -/
def execWrite (f : List Byte) (s : State) : Host.Outcome State Fault Refusal :=
  s.upd fun d => d.ndoucRequest 0x11 f fun e tag p => e.ndWrite tag p

/-- STATE_READ_STEAL. R487: a berth-state read of a running core has found a usable Midway cycle, or none in 1,024 CCLK. -/
def execStateReadSteal (found : Bool) (s : State) : Host.Outcome State Fault Refusal := s.upd fun d => d.stateSteal found

/-- HALT. R480: HALT. -/
def execHalt (f : List Byte) (s : State) : Host.Outcome State Fault Refusal :=
  s.upd fun d => d.ndoucRequest 0x20 f fun e tag p => e.ndHalt tag p

/-- RESUME. R480: RESUME. -/
def execResume (f : List Byte) (s : State) : Host.Outcome State Fault Refusal :=
  s.upd fun d => d.ndoucRequest 0x21 f fun e tag p => e.ndResume tag p

/-- STEP. R480: STEP. -/
def execStep (f : List Byte) (s : State) : Host.Outcome State Fault Refusal :=
  s.upd fun d => d.ndoucRequest 0x22 f fun e tag p => e.ndStep tag p

/-- ITR. R480: ITR. -/
def execItr (f : List Byte) (s : State) : Host.Outcome State Fault Refusal :=
  s.upd fun d => d.ndoucRequest 0x23 f fun e tag p => e.ndItr tag p

/-- SNAP. R480: SNAP. -/
def execSnap (f : List Byte) (s : State) : Host.Outcome State Fault Refusal :=
  s.upd fun d => d.ndoucRequest 0x30 f fun e tag p => e.ndSnap tag p

/-- VT. R480: VT. -/
def execVt (f : List Byte) (s : State) : Host.Outcome State Fault Refusal :=
  s.upd fun d => d.ndoucRequest 0x31 f fun e tag p => e.ndVt tag p

/-- SVC. R480: SVC. -/
def execSvc (f : List Byte) (s : State) : Host.Outcome State Fault Refusal :=
  s.upd fun d => d.ndoucRequest 0x40 f fun e tag p => e.ndSvc tag p

/-- NDOUC_IDLE_TIMEOUT. R477: the line has stayed high for more than 4 µs. -/
def execNdoucIdleTimeout (s : State) : Host.Outcome State Fault Refusal := s.upd fun d => d.ndoucIdle

/-- UART_GAP_TIMEOUT. R478: a gap of more than 10 ms. -/
def execUartGapTimeout (s : State) : Host.Outcome State Fault Refusal := s.upd fun d => d.uartGap

/-- DBG_HALT. R488: a write of DBG_HALT. -/
def execDbgHalt (w : Writer) (mask : BitVec 32) (s : State) : Host.Outcome State Fault Refusal :=
  s.upd fun d => d.rowWrite w Reg.DBG_HALT mask.toNat

/-- DBG_RESUME. R491: a write of DBG_RESUME. -/
def execDbgResume (w : Writer) (mask : BitVec 32) (s : State) : Host.Outcome State Fault Refusal :=
  s.upd fun d => d.rowWrite w Reg.DBG_RESUME mask.toNat

/-- RESUME_INSTANT. R491: the TCLK edge of a requested resume. -/
def execResumeInstant (s : State) : Host.Outcome State Fault Refusal := s.upd fun d => d.resumeInstant

/-- DBG_STEP. R492: a write of DBG_STEP. -/
def execDbgStep (w : Writer) (b : BitVec 9) (s : State) : Host.Outcome State Fault Refusal :=
  s.upd fun d => d.rowWrite w Reg.DBG_STEP b.toNat

/-- STEP_DONE. R492: the stepped instruction has completed. -/
def execStepDone (s : State) : Host.Outcome State Fault Refusal := s.upd fun d => d.stepDone.ndoucSettle

/-- DBG_ITR. R493: a write of DBG_ITR. -/
def execDbgItr (w : Writer) (v : BitVec 32) (s : State) : Host.Outcome State Fault Refusal :=
  s.upd fun d => d.rowWrite w Reg.DBG_ITR v.toNat

/-- ITR_DONE. R493: the fed instruction has completed. -/
def execItrDone (s : State) : Host.Outcome State Fault Refusal := s.upd fun d => d.itrDone.ndoucSettle

/-- UNLOCK_REQUEST. R482: a write of DBG_UNLKREQ. -/
def execUnlockRequest (w : Writer) (level : BitVec 2) (s : State) : Host.Outcome State Fault Refusal :=
  s.upd fun d => d.rowWrite w Reg.DBG_UNLKREQ level.toNat

/-- CHALLENGE_READ. R482: a read of DBG_CHAL. -/
def execChallengeRead (w : Writer) (s : State) : Host.Outcome State Fault Refusal :=
  s.upd fun d => d.rowRead64 w Reg.DBG_CHAL

/-- LIFECYCLE_CHANGE. R481: qs_dbg_lc changes. -/
def execLifecycleChange (lc : BitVec 2) (s : State) : Host.Outcome State Fault Refusal :=
  s.upd fun d => d.lifecycleChange lc.toNat

/-- VTX_WRITE. R497: a write of DBG_VTX. -/
def execVtxWrite (w : Writer) (v : BitVec 32) (s : State) : Host.Outcome State Fault Refusal :=
  s.upd fun d => d.rowWrite w Reg.DBG_VTX v.toNat

/-- VRX_READ. R497: a read of DBG_VRX. -/
def execVrxRead (w : Writer) (s : State) : Host.Outcome State Fault Refusal := s.upd fun d => d.rowRead w Reg.DBG_VRX

/-- TRACE_SOFT. R499: a write of DBG_TSW. -/
def execTraceSoft (w : Writer) (v : BitVec 32) (s : State) : Host.Outcome State Fault Refusal :=
  s.upd fun d => d.rowWrite w Reg.DBG_TSW v.toNat

/-- TRACE_CLEAR. R505: a write of DBG_TCTL with CLR 1. -/
def execTraceClear (w : Writer) (v : BitVec 32) (s : State) : Host.Outcome State Fault Refusal :=
  s.upd fun d => d.rowWrite w Reg.DBG_TCTL (setBits v.toNat 7 1 1)

end Sys2Proof.Machine
end

