-- ==== Sys2Proof/Machine/EngineCmds.lean ====
section
/-! DEFINITION. The commands of the pin engines (chapters 7 and 8): each engine instruction as engine e executes it at a tick where its
program word is one, what completes later, and the writes of engine and tile registers. -/

namespace Sys2Proof.Machine

/-- NOP. R221: NOP. -/
def execPeNop (e : BitVec 6) (s : State) : Host.Outcome State Fault Refusal := s.upd fun d => d.peCommand e.toNat .nop

/-- STOP. R231: STOP. -/
def execPeStop (e : BitVec 6) (s : State) : Host.Outcome State Fault Refusal := s.upd fun d => d.peCommand e.toNat .stop

/-- PE_JMP. R223: JMP. -/
def execPeJmp (e : BitVec 6) (s : State) : Host.Outcome State Fault Refusal := s.upd fun d => d.peCommand e.toNat .jmp

/-- WAIT. R224: WAIT. -/
def execPeWait (e : BitVec 6) (s : State) : Host.Outcome State Fault Refusal := s.upd fun d => d.peCommand e.toNat .wait

/-- WAIT_COMPLETE. R224: the condition of a WAIT holds at the n-th ECLK edge on. -/
def execPeWaitComplete (e : BitVec 6) (n : BitVec 32) (s : State) : Host.Outcome State Fault Refusal :=
  s.upd fun d => d.waitComplete e.toNat n.toNat

/-- IN. R225: IN. -/
def execPeIn (e : BitVec 6) (s : State) : Host.Outcome State Fault Refusal := s.upd fun d => d.peCommand e.toNat .shiftIn

/-- OUT. R225: OUT. -/
def execPeOut (e : BitVec 6) (s : State) : Host.Outcome State Fault Refusal := s.upd fun d => d.peCommand e.toNat .shiftOut

/-- PUSH. R226: PUSH. -/
def execPePush (e : BitVec 6) (s : State) : Host.Outcome State Fault Refusal := s.upd fun d => d.peCommand e.toNat .push

/-- PULL. R226: PULL. -/
def execPePull (e : BitVec 6) (s : State) : Host.Outcome State Fault Refusal := s.upd fun d => d.peCommand e.toNat .pull

/-- STALL_END. R238: a stalled PULL or PUSH completes at the n-th tick on. -/
def execPeStallEnd (e : BitVec 6) (n : BitVec 32) (s : State) : Host.Outcome State Fault Refusal :=
  s.upd fun d => d.stallEnd e.toNat n.toNat

/-- MOV. R227: MOV. -/
def execPeMov (e : BitVec 6) (s : State) : Host.Outcome State Fault Refusal := s.upd fun d => d.peCommand e.toNat .mov

/-- SET. R228: SET. -/
def execPeSet (e : BitVec 6) (s : State) : Host.Outcome State Fault Refusal := s.upd fun d => d.peCommand e.toNat .set

/-- EDGE. R219: EDGE. -/
def execPeEdge (e : BitVec 6) (s : State) : Host.Outcome State Fault Refusal := s.upd fun d => d.peCommand e.toNat .edge

/-- CNT_CLR. R229: CNT CLR. A CNT with OP 3 also comes here and stops the engine (R232). -/
def execPeCntClr (e : BitVec 6) (s : State) : Host.Outcome State Fault Refusal := s.upd fun d => d.peCommand e.toNat .cntClr

/-- CNT_INC. R229: CNT INC. -/
def execPeCntInc (e : BitVec 6) (s : State) : Host.Outcome State Fault Refusal := s.upd fun d => d.peCommand e.toNat .cntInc

/-- CNT_ARM. R229: CNT ARM. -/
def execPeCntArm (e : BitVec 6) (s : State) : Host.Outcome State Fault Refusal := s.upd fun d => d.peCommand e.toNat .cntArm

/-- FLAG. R230: FLAG. -/
def execPeFlag (e : BitVec 6) (s : State) : Host.Outcome State Fault Refusal := s.upd fun d => d.peCommand e.toNat .flag

/-- FLAG_WAIT_COMPLETE. R230: a FLAG with W set completes at the n-th tick on. -/
def execPeFlagWaitComplete (e : BitVec 6) (n : BitVec 32) (s : State) : Host.Outcome State Fault Refusal :=
  s.upd fun d => d.flagWaitComplete e.toNat n.toNat

/-- DLY. R231: DLY. -/
def execPeDly (e : BitVec 6) (s : State) : Host.Outcome State Fault Refusal := s.upd fun d => d.peCommand e.toNat .dly

/-- DLY_COMPLETE. R231: the count of a DLY expires. -/
def execPeDlyComplete (e : BitVec 6) (s : State) : Host.Outcome State Fault Refusal := s.upd fun d => d.dlyComplete e.toNat

/-- ENGINE_START. R239: a write of PE_CTRL with EN 1. -/
def execEngineStart (w : Writer) (e : BitVec 6) (v : BitVec 32) (s : State) : Host.Outcome State Fault Refusal :=
  s.upd fun d => d.rowWrite w (engOffset e.toNat 2) (setBits v.toNat 0 1 1)

/-- ENGINE_STOP. R239: a write of PE_CTRL with EN 0. -/
def execEngineStop (w : Writer) (e : BitVec 6) (v : BitVec 32) (s : State) : Host.Outcome State Fault Refusal :=
  s.upd fun d => d.rowWrite w (engOffset e.toNat 2) (setBits v.toNat 0 1 0)

/-- PROGRAM_RESTART. R239: a write of PE_CTRL with EN and RESTART 1. -/
def execProgramRestart (w : Writer) (e : BitVec 6) (v : BitVec 32) (s : State) : Host.Outcome State Fault Refusal :=
  s.upd fun d => d.rowWrite w (engOffset e.toNat 2) (setBits v.toNat 0 2 3)

/-- DIVIDER_RESTART. R217: a write of PE_CTRL with CLKR 1. -/
def execDividerRestart (w : Writer) (e : BitVec 6) (v : BitVec 32) (s : State) : Host.Outcome State Fault Refusal :=
  s.upd fun d => d.rowWrite w (engOffset e.toNat 2) (setBits v.toNat 2 1 1)

/-- TX_CLEAR. R255: a write of PE_CTRL with TXCLR 1. -/
def execTxClear (w : Writer) (e : BitVec 6) (v : BitVec 32) (s : State) : Host.Outcome State Fault Refusal :=
  s.upd fun d => d.rowWrite w (engOffset e.toNat 2) (setBits v.toNat 3 1 1)

/-- RX_CLEAR. R255: a write of PE_CTRL with RXCLR 1. -/
def execRxClear (w : Writer) (e : BitVec 6) (v : BitVec 32) (s : State) : Host.Outcome State Fault Refusal :=
  s.upd fun d => d.rowWrite w (engOffset e.toNat 2) (setBits v.toNat 4 1 1)

/-- STALL_CLEAR. R255: a write of PE_CTRL with SCLR 1. -/
def execStallClear (w : Writer) (e : BitVec 6) (v : BitVec 32) (s : State) : Host.Outcome State Fault Refusal :=
  s.upd fun d => d.rowWrite w (engOffset e.toNat 2) (setBits v.toNat 5 1 1)

/-- GROUP_START. R240: a write of PE_GSTART of a tile. -/
def execGroupStart (w : Writer) (t : BitVec 3) (mask : BitVec 8) (restart clkr : Bool) (s : State) :
    Host.Outcome State Fault Refusal :=
  s.upd fun d => d.rowWrite w (engOffset (8 * t.toNat) 51) (mask.toNat + 2 ^ 8 * bit01 clkr + 2 ^ 9 * bit01 restart)

/-- GROUP_STOP. R240: a write of PE_GSTOP of a tile. -/
def execGroupStop (w : Writer) (t : BitVec 3) (mask : BitVec 8) (s : State) : Host.Outcome State Fault Refusal :=
  s.upd fun d => d.rowWrite w (engOffset (8 * t.toNat) 52) mask.toNat

/-- TILE_FLAG_SET. R245: a write of PE_TSET of a tile. -/
def execTileFlagSet (w : Writer) (t : BitVec 3) (v : BitVec 32) (s : State) : Host.Outcome State Fault Refusal :=
  s.upd fun d => d.rowWrite w (engOffset (8 * t.toNat) 49) v.toNat

/-- TILE_FLAG_CLEAR. R245: a write of PE_TCLR of a tile. -/
def execTileFlagClear (w : Writer) (t : BitVec 3) (v : BitVec 31) (s : State) : Host.Outcome State Fault Refusal :=
  s.upd fun d => d.rowWrite w (engOffset (8 * t.toNat) 50) v.toNat

/-- TSTAT_CLEAR. R255: PE_TCLR.CNT of a tile. -/
def execTstatClear (w : Writer) (t : BitVec 3) (s : State) : Host.Outcome State Fault Refusal :=
  s.upd fun d => d.rowWrite w (engOffset (8 * t.toNat) 50) (2 ^ 31)

/-- PROGRAM_WORD_WRITE. R253: a write of PE_PROGw. -/
def execProgramWordWrite (w : Writer) (e : BitVec 6) (k : BitVec 6) (v : BitVec 16) (s : State) :
    Host.Outcome State Fault Refusal :=
  s.upd fun d => d.rowWrite w (0x40000 + 0x1000 * e.toNat + 0x100 + 4 * k.toNat) v.toNat

/-- MIGRATION_REQUEST. R248: a write of PE_MIG of a tile without CANCEL. -/
def execMigrationRequest (w : Writer) (t : BitVec 3) (v : BitVec 15) (s : State) : Host.Outcome State Fault Refusal :=
  s.upd fun d => d.rowWrite w (engOffset (8 * t.toNat) 53) v.toNat

/-- MIGRATION_CANCEL. R249: a write of PE_MIG of a tile with CANCEL. -/
def execMigrationCancel (w : Writer) (t : BitVec 3) (s : State) : Host.Outcome State Fault Refusal :=
  s.upd fun d => d.rowWrite w (engOffset (8 * t.toNat) 53) (2 ^ 15)

/-- MIGRATION_FENCE. R249: the source of the migration in a tile stops at its fence. -/
def execMigrationFence (t : BitVec 3) (s : State) : Host.Outcome State Fault Refusal := s.upd fun d => d.migFence t.toNat

/-- MIGRATION_COPY. R250: the state moves to the destination, which starts. -/
def execMigrationCopy (t : BitVec 3) (s : State) : Host.Outcome State Fault Refusal := s.upd fun d => d.migCopy t.toNat

/-- MIGRATION_DONE. R251: the source's RX FIFO is drained and the handle is bound anew. -/
def execMigrationDone (t : BitVec 3) (s : State) : Host.Outcome State Fault Refusal := s.upd fun d => d.migDone t.toNat

/-- ENGINE_UNDEFINED_OPCODE. R232: an engine reaches a word with opcode 0xC to 0xF. -/
def execPeUndefined (e : BitVec 6) (s : State) : Host.Outcome State Fault Refusal :=
  s.upd fun d => d.peCommand e.toNat .undefined

end Sys2Proof.Machine
end

