-- ==== Sys2Proof/Machine/EventCmds.lean ====
section
/-! DEFINITION. The commands of the event fabric, the timebase and the line-phase tracker (chapter 10). -/

namespace Sys2Proof.Machine

/-- CHANNEL_ASSERTION. R304: an event channel's gated level rises. -/
def execChannelAssertion (n : BitVec 7) (s : State) : Host.Outcome State Fault Refusal :=
  s.upd fun d => d.channelAssert n.toNat

/-- CHANNEL_FIRE. R307: a write of EVF_FIREw. -/
def execChannelFire (w : Writer) (k : BitVec 2) (v : BitVec 32) (s : State) : Host.Outcome State Fault Refusal :=
  s.upd fun d => d.rowWrite w (Reg.EVF_FIRE k.toNat) v.toNat

/-- CHANNEL_CONFIG. R308: a write of EVF_CHCFGn. -/
def execChannelConfig (w : Writer) (n : BitVec 7) (v : BitVec 32) (s : State) : Host.Outcome State Fault Refusal :=
  s.upd fun d => d.rowWrite w (Reg.EVF_CHCFG n.toNat) v.toNat

/-- CHANNEL_HOLD_END. R308: the 8 ns hold of a channel ends. -/
def execChannelHoldEnd (n : BitVec 7) (s : State) : Host.Outcome State Fault Refusal :=
  s.upd fun d => d.channelHoldEnd n.toNat

/-- GROUP_WRITE. R310: a software write of EVF_GRPg. -/
def execGroupWrite (w : Writer) (g : BitVec 4) (v : BitVec 32) (s : State) : Host.Outcome State Fault Refusal :=
  s.upd fun d => d.rowWrite w (Reg.EVF_GRP g.toNat) v.toNat

/-- SOFTWARE_INTERRUPT. R316: a write of EVF_SWI. -/
def execSoftwareInterrupt (w : Writer) (b : BitVec 9) (s : State) : Host.Outcome State Fault Refusal :=
  s.upd fun d => d.rowWrite w Reg.EVF_SWI b.toNat

/-- TIMEBASE_STEP_REQUEST. R321: a write of TB_STEP. -/
def execTimebaseStepRequest (w : Writer) (v : BitVec 32) (s : State) : Host.Outcome State Fault Refusal :=
  s.upd fun d => d.rowWrite w Reg.TB_STEP v.toNat

/-- TIMEBASE_STEP. R321: a pending step meets its TCLK edge. -/
def execTimebaseStep (s : State) : Host.Outcome State Fault Refusal := s.upd fun d => d.tbStep.stepPassed d.tbNow

/-- TIMEBASE_COMPARE_ARM. R322: a write of TB_CMPn, or of the register that holds its EN. -/
def execTimebaseCompareArm (w : Writer) (n : BitVec 4) (k : CompareWrite) (s : State) : Host.Outcome State Fault Refusal :=
  s.upd fun d => match k with
    | .value v => d.rowWrite64 w (Reg.TB_CMP n.toNat) v.toNat
    | .period v => d.rowWrite w (Reg.TB_CMPPER n.toNat) v.toNat

/-- TIMEBASE_COMPARE. R322: the timebase reaches TB_CMPn. -/
def execTimebaseCompare (n : BitVec 4) (s : State) : Host.Outcome State Fault Refusal := s.upd fun d => d.tbCompare n.toNat

/-- PPS_CAPTURE. R323: a sampled rising edge of TB_PPS is captured. -/
def execPpsCapture (s : State) : Host.Outcome State Fault Refusal := s.upd fun d => d.ppsCapture

/-- LINE_CROSSING. R327: a sampled zero crossing reaches the tracker. -/
def execLineCrossing (s : State) : Host.Outcome State Fault Refusal := s.upd fun d => d.lptCrossing

/-- TRACKER_TIMEOUT. R328: 1.5 periods without a crossing. -/
def execTrackerTimeout (s : State) : Host.Outcome State Fault Refusal := s.upd fun d => d.lptTimeout

/-- TRACKER_HOLD_EXPIRY. R328: HOLD has lasted its periods. -/
def execTrackerHoldExpiry (s : State) : Host.Outcome State Fault Refusal := s.upd fun d => d.lptHoldExpiry

/-- TRACKER_CONFIG. R328: a write of LPT_CFG. -/
def execTrackerConfig (w : Writer) (v : BitVec 32) (s : State) : Host.Outcome State Fault Refusal :=
  s.upd fun d => d.rowWrite w Reg.LPT_CFG v.toNat

/-- TRACKER_COUNT_CLEAR. R330: LPT_STAT.CLR. -/
def execTrackerCountClear (w : Writer) (s : State) : Host.Outcome State Fault Refusal :=
  s.upd fun d => d.rowWrite w Reg.LPT_STAT (2 ^ 31)

/-- LINE_PHASE_WRAP. R330: a carry out of the phase accumulator. -/
def execLinePhaseWrap (s : State) : Host.Outcome State Fault Refusal := s.upd fun d => d.lptWrap

end Sys2Proof.Machine
end

