-- ==== Sys2Proof/Machine/LinkCmds.lean ====
section
/-! DEFINITION. The commands of the Beyram link and of the Ethernet MACs (chapter 12). A received frame is its bytes as the lane
delivered them and how the lane ended it. -/

namespace Sys2Proof.Machine

/-- BLOCK_LOCK. R370, R414: receive lane 0 or 1 (Beyram ports) or 2 (Safety Net) gains block lock. -/
def execBlockLock (lane : BitVec 2) (s : State) : Host.Outcome State Fault Refusal :=
  s.upd fun d => if lane.toNat < 3 then d.laneLock lane.toNat else d

/-- BLOCK_LOCK_LOSS. R371, R414: a receive lane loses block lock. -/
def execBlockLockLoss (lane : BitVec 2) (s : State) : Host.Outcome State Fault Refusal :=
  s.upd fun d => if lane.toNat < 3 then d.laneUnlock lane.toNat else d

/-- HELLO_INTERVAL. R371: a port sends HELLO. -/
def execHelloInterval (p : BitVec 1) (s : State) : Host.Outcome State Fault Refusal := s.upd fun d => d.helloInterval p.toNat

/-- HELLO. R371: a HELLO is received. -/
def execHello (p : BitVec 1) (f : List Byte) (err : FrameEnd) (s : State) : Host.Outcome State Fault Refusal :=
  s.upd fun d => d.hello p.toNat (f, err)

/-- DATA. R388: a DATA frame is received. -/
def execData (p : BitVec 1) (f : List Byte) (err : FrameEnd) (s : State) : Host.Outcome State Fault Refusal :=
  s.upd fun d => d.dataFrame p.toNat (f, err)

/-- FRAME_TRANSMIT. R377: the next frame starts on a transmit lane. -/
def execFrameTransmit (r : BitVec 1) (s : State) : Host.Outcome State Fault Refusal := s.upd fun d => d.frameTransmit r.toNat

/-- DREQ_INTERVAL. R380: a port sends DREQ; ph is the SerDes phase of its stamp. -/
def execDreqInterval (p : BitVec 1) (ph : BitVec 4) (s : State) : Host.Outcome State Fault Refusal :=
  s.upd fun d => d.dreqInterval p.toNat ph.toNat

/-- DREQ. R380: a DREQ is received and answered `res` stamp units later. -/
def execDreq (p : BitVec 1) (f : List Byte) (err : FrameEnd) (ph : BitVec 4) (res : BitVec 32) (s : State) :
    Host.Outcome State Fault Refusal :=
  s.upd fun d => d.dreq p.toNat (f, err) ph.toNat res.toNat

/-- DRSP. R380: a DRSP is received. -/
def execDrsp (p : BitVec 1) (f : List Byte) (err : FrameEnd) (ph : BitVec 4) (s : State) : Host.Outcome State Fault Refusal :=
  s.upd fun d => d.drsp p.toNat (f, err) ph.toNat

/-- SYNC_INTERVAL. R381, R384: the time master sends SYNC and RTTP. -/
def execSyncInterval (ph : SyncTimes) (s : State) : Host.Outcome State Fault Refusal :=
  s.upd fun d => d.syncInterval ph

/-- SYNC. R382: a SYNC is received, and goes on `res` stamp units later. -/
def execSync (p : BitVec 1) (f : List Byte) (err : FrameEnd) (ph : BitVec 4) (res : BitVec 32) (s : State) :
    Host.Outcome State Fault Refusal :=
  s.upd fun d => d.sync p.toNat (f, err) ph.toNat res.toNat

/-- SYNC_TIMEOUT. R385: no SYNC for three intervals. -/
def execSyncTimeout (s : State) : Host.Outcome State Fault Refusal := s.upd fun d => d.syncTimeout

/-- ELECT. R385: an ELECT is received. -/
def execElect (p : BitVec 1) (f : List Byte) (err : FrameEnd) (s : State) : Host.Outcome State Fault Refusal :=
  s.upd fun d => d.electFrame p.toNat (f, err)

/-- ELECTION_TIMEOUT. R385: no better candidate within two intervals. -/
def execElectionTimeout (s : State) : Host.Outcome State Fault Refusal := s.upd fun d => d.electionTimeout

/-- RTTP. R384: an RTTP is received. -/
def execRttp (p : BitVec 1) (f : List Byte) (err : FrameEnd) (ph : BitVec 4) (s : State) : Host.Outcome State Fault Refusal :=
  s.upd fun d => d.rttpFrame p.toNat (f, err) ph.toNat

/-- RTT_TIMEOUT. R384: an RTTP has not returned within 2 ms. -/
def execRttTimeout (s : State) : Host.Outcome State Fault Refusal := s.upd fun d => d.rttTimeout

/-- LINK. R400: a LINK frame is received. -/
def execLink (p : BitVec 1) (f : List Byte) (err : FrameEnd) (s : State) : Host.Outcome State Fault Refusal :=
  s.upd fun d => d.linkReceive p.toNat (f, err)

/-- DUP_EXPIRY. R387: the kept TXTIME of a source expires. -/
def execDupExpiry (src : BitVec 10) (s : State) : Host.Outcome State Fault Refusal := s.upd fun d => d.dupExpiry src.toNat

/-- ROUND_START. R396: t_r of the group in a slot. -/
def execRoundStart (j : BitVec 4) (s : State) : Host.Outcome State Fault Refusal := s.upd fun d => d.sgRoundStart j.toNat

/-- PREPARE. R397: a PREPARE is received. -/
def execPrepare (p : BitVec 1) (f : List Byte) (err : FrameEnd) (s : State) : Host.Outcome State Fault Refusal :=
  s.upd fun d => d.sgRound p.toNat 0x10 (f, err)

/-- VOTE. R398: a VOTE is received. -/
def execVote (p : BitVec 1) (f : List Byte) (err : FrameEnd) (s : State) : Host.Outcome State Fault Refusal :=
  s.upd fun d => d.sgVoteFrame p.toNat (f, err)

/-- VOTE_DEADLINE. R397: VD_r of the group in a slot. -/
def execVoteDeadline (j : BitVec 4) (s : State) : Host.Outcome State Fault Refusal := s.upd fun d => d.sgVoteDeadline j.toNat

/-- COLLECTION_DEADLINE. R398: CD_r of the group in a slot. -/
def execCollectionDeadline (j : BitVec 4) (s : State) : Host.Outcome State Fault Refusal :=
  s.upd fun d => d.sgCollect j.toNat

/-- DECIDE. R399: a DECIDE is received. -/
def execDecideFrame (p : BitVec 1) (f : List Byte) (err : FrameEnd) (s : State) : Host.Outcome State Fault Refusal :=
  s.upd fun d => d.sgRound p.toNat 0x12 (f, err)

/-- TOKEN_DEADLINE. R400: TD_r of the group in a slot. -/
def execTokenDeadline (j : BitVec 4) (s : State) : Host.Outcome State Fault Refusal := s.upd fun d => d.sgToken j.toNat

/-- XEV. R404: an XEV block is received. -/
def execXev (p : BitVec 1) (code : BitVec 8) (src : BitVec 10) (hops : BitVec 10) (s : State) :
    Host.Outcome State Fault Refusal :=
  s.upd fun d => d.xevReceive p.toNat code.toNat src.toNat hops.toNat

/-- BEY_COUNT_CLEAR. R409: BEY_CLR.CNT. -/
def execBeyCountClear (w : Writer) (s : State) : Host.Outcome State Fault Refusal :=
  s.upd fun d => d.rowWrite w Reg.BEY_CLR 1

/-- MAC_FRAME_RECEIVE. R408: an Ethernet frame is received, from its destination address to its FCS. -/
def execMacFrameReceive (m : BitVec 1) (f : List Byte) (s : State) : Host.Outcome State Fault Refusal :=
  s.upd fun d => d.macReceive m.toNat f

/-- MAC_TRANSMIT. R407: the first queued frame whose gate admits it starts. -/
def execMacTransmit (m : BitVec 1) (s : State) : Host.Outcome State Fault Refusal := s.upd fun d => d.macTransmit m.toNat

/-- GATE_INTERVAL. R407: an interval of the gate list ends. -/
def execGateInterval (m : BitVec 1) (s : State) : Host.Outcome State Fault Refusal := s.upd fun d => d.gateInterval m.toNat

end Sys2Proof.Machine
end

