-- ==== Sys2Proof/Machine/NetCmds.lean ====
section
/-! DEFINITION. The commands of the Safety Net (chapter 13). -/

namespace Sys2Proof.Machine

/-- HB_INTERVAL. R414: an HB is sent. -/
def execHbInterval (s : State) : Host.Outcome State Fault Refusal := s.upd fun d => d.hbInterval

/-- HB. R414: an HB is received. -/
def execHb (f : List Byte) (err : FrameEnd) (s : State) : Host.Outcome State Fault Refusal := s.upd fun d => d.heartbeat (f, err)

/-- HEARTBEAT_MISS. R414: 2,500 units without a valid HB. -/
def execHeartbeatMiss (s : State) : Host.Outcome State Fault Refusal := s.upd fun d => d.heartbeatMiss

/-- PAIR_REQUEST. R415: NET_SNCTL.PAIR. -/
def execPairRequest (w : Writer) (standby : Bool) (s : State) : Host.Outcome State Fault Refusal :=
  s.upd fun d => d.rowWrite w Reg.NET_SNCTL (1 + 2 * bit01 standby)

/-- PAIR. R415: a PAIR frame is received. -/
def execPair (f : List Byte) (err : FrameEnd) (s : State) : Host.Outcome State Fault Refusal :=
  s.upd fun d => d.pairFrame (f, err)

/-- PAIR_INTERVAL. R415: a PAIRING device sends PAIR. -/
def execPairInterval (s : State) : Host.Outcome State Fault Refusal := s.upd fun d => d.pairInterval

/-- UNPAIR_REQUEST. R416: NET_SNCTL.UNPAIR. -/
def execUnpairRequest (w : Writer) (s : State) : Host.Outcome State Fault Refusal :=
  s.upd fun d => d.rowWrite w Reg.NET_SNCTL 4

/-- RESYNC_REQUEST. R431: NET_SNCTL.RESYNC. -/
def execResyncRequest (w : Writer) (s : State) : Host.Outcome State Fault Refusal :=
  s.upd fun d => d.rowWrite w Reg.NET_SNCTL 8

/-- LOG_TRANSMIT. R420: the active sends the log of a cycle. -/
def execLogTransmit (s : State) : Host.Outcome State Fault Refusal := s.upd fun d => d.logTransmit

/-- LOGOPEN. R422: a LOGOPEN is received. -/
def execLogOpen (f : List Byte) (err : FrameEnd) (s : State) : Host.Outcome State Fault Refusal :=
  s.upd fun d => d.logOpen (f, err)

/-- LINES. R422: a LINES frame is received. -/
def execLines (f : List Byte) (err : FrameEnd) (s : State) : Host.Outcome State Fault Refusal :=
  s.upd fun d => d.linesFrame (f, err)

/-- COMMITREC. R422: a COMMITREC is received. -/
def execCommitRec (f : List Byte) (err : FrameEnd) (s : State) : Host.Outcome State Fault Refusal :=
  s.upd fun d => d.commitRec (f, err)

/-- CYCLE_APPLY. R424: the standby writes the lines of a complete cycle. -/
def execCycleApply (s : State) : Host.Outcome State Fault Refusal := s.upd fun d => d.cycleApply

/-- APPLY_COMPLETE. R424: the application of a cycle ends. -/
def execApplyComplete (s : State) : Host.Outcome State Fault Refusal := s.upd fun d => d.applyComplete

/-- ACK. R427: an ACK is received. -/
def execAck (f : List Byte) (err : FrameEnd) (s : State) : Host.Outcome State Fault Refusal := s.upd fun d => d.ackFrame (f, err)

/-- NAK. R423: a NAK is received. -/
def execNak (f : List Byte) (err : FrameEnd) (s : State) : Host.Outcome State Fault Refusal := s.upd fun d => d.nakFrame (f, err)

/-- LOCKED_TIMEOUT. R427: the ACK wait in LOCKED exceeds LKTMO. -/
def execLockedTimeout (s : State) : Host.Outcome State Fault Refusal := s.upd fun d => d.lockedTimeout

/-- FAULT. R429: a FAULT frame is received. -/
def execFault (f : List Byte) (err : FrameEnd) (s : State) : Host.Outcome State Fault Refusal :=
  s.upd fun d => d.faultFrame (f, err)

/-- PSENSE_FALL. R429: SN_PSENSE falls. -/
def execPsenseFall (s : State) : Host.Outcome State Fault Refusal := s.upd fun d => d.psenseFall

/-- PSENSE_WAIT_TIMEOUT. R429: SN_PSENSE has stayed 1 for PSWAIT. -/
def execPsenseWaitTimeout (s : State) : Host.Outcome State Fault Refusal := s.upd fun d => d.psenseTimeout

/-- TAKEOVER_COMMIT. R429: the standby commits and enters RUN as SOLO. -/
def execTakeoverCommit (s : State) : Host.Outcome State Fault Refusal := s.upd fun d => d.takeover

/-- RSLINES. R432: an RSLINES frame is received. -/
def execRsLines (f : List Byte) (err : FrameEnd) (s : State) : Host.Outcome State Fault Refusal :=
  s.upd fun d => d.rsLines (f, err)

/-- RSDONE. R432: an RSDONE frame is received. -/
def execRsDone (f : List Byte) (err : FrameEnd) (s : State) : Host.Outcome State Fault Refusal :=
  s.upd fun d => d.rsDoneFrame (f, err)

/-- RESYNC_TRANSMIT. R432: the active sends the next RSLINES frame, or RSDONE. -/
def execResyncTransmit (s : State) : Host.Outcome State Fault Refusal := s.upd fun d => d.resyncTransmit

/-- SN_COUNT_CLEAR. R434: NET_SNCLR.CNT. -/
def execSnCountClear (w : Writer) (s : State) : Host.Outcome State Fault Refusal :=
  s.upd fun d => d.rowWrite w Reg.NET_SNCLR 1

end Sys2Proof.Machine
end

