-- ==== Sys2Proof/Machine/PadCmds.lean ====
section
/-! DEFINITION. The commands of the pads (chapter 9). -/

namespace Sys2Proof.Machine

/-- PAD_INPUT_CHANGE. R283: what the outside drives on a pad changes. -/
def execPadInputChange (t : BitVec 3) (i : BitVec 5) (l : PinLevel) (s : State) : Host.Outcome State Fault Refusal :=
  s.upd fun d => d.padInput t.toNat i.toNat l

/-- PAD_CONFIG_WRITE. R279: a write of PAD_CFGi. -/
def execPadConfigWrite (w : Writer) (t : BitVec 3) (i : BitVec 5) (v : BitVec 32) (s : State) :
    Host.Outcome State Fault Refusal :=
  s.upd fun d => d.rowWrite w (Reg.PAD_CFG t.toNat i.toNat) v.toNat

/-- PAD_DOUT_WRITE. R286: a write of PAD_DOUT. -/
def execPadDoutWrite (w : Writer) (t : BitVec 3) (v : BitVec 32) (s : State) : Host.Outcome State Fault Refusal :=
  s.upd fun d => d.rowWrite w (Reg.PAD_DOUT t.toNat) v.toNat

/-- PAD_OWNER_WRITE. R300: a write of PAD_OWNi. -/
def execPadOwnerWrite (w : Writer) (t : BitVec 3) (i : BitVec 5) (v : BitVec 32) (s : State) :
    Host.Outcome State Fault Refusal :=
  s.upd fun d => d.rowWrite w (Reg.PAD_OWN t.toNat i.toNat) v.toNat

/-- SAFE_FORCE_CLEAR. R289: a write of PAD_SFST. -/
def execSafeForceClear (w : Writer) (t : BitVec 3) (v : BitVec 32) (s : State) : Host.Outcome State Fault Refusal :=
  s.upd fun d => d.rowWrite w (Reg.PAD_SFST t.toNat) v.toNat

/-- IMAGE_WORD_SELECT. R284: a write of PAD_IMGB. -/
def execImageWordSelect (w : Writer) (t : BitVec 3) (v : BitVec 32) (s : State) : Host.Outcome State Fault Refusal :=
  s.upd fun d => d.rowWrite w (Reg.PAD_IMGB t.toNat) v.toNat

/-- LATCH_RELEASE. R294: PAD_LATCH.REL. -/
def execLatchRelease (w : Writer) (t : BitVec 3) (s : State) : Host.Outcome State Fault Refusal :=
  s.upd fun d => d.rowWrite w (Reg.PAD_LATCH t.toNat) (2 ^ 8)

/-- DENY_CLEAR. R302: PAD_STAT.CLR. -/
def execDenyClear (w : Writer) (t : BitVec 3) (s : State) : Host.Outcome State Fault Refusal :=
  s.upd fun d => d.rowWrite w (Reg.PAD_STAT t.toNat) (2 ^ 31)

/-- COMPARATOR_CONFIG. R292: a write of PAD_CMPk, of comparator c of the device. -/
def execComparatorConfig (w : Writer) (c : BitVec 4) (v : BitVec 32) (s : State) : Host.Outcome State Fault Refusal :=
  s.upd fun d => d.rowWrite w (Reg.PAD_CMP (c.toNat / 2) (c.toNat % 2)) v.toNat

/-- COMPARATOR_TRIP. R291: the input of comparator c of the device reaches a voltage, in microvolts. -/
def execComparatorTrip (c : BitVec 4) (u : BitVec 21) (s : State) : Host.Outcome State Fault Refusal :=
  s.upd fun d => d.cmpInput c.toNat u.toNat

end Sys2Proof.Machine
end

