-- ==== Sys2Proof/Machine/PowerCmds.lean ====
section
/-! DEFINITION. The commands of the supplies, the clocks, the resets and the modes (chapter 17). -/

namespace Sys2Proof.Machine

/-- SUPPLY_RISE. R506: every supply has risen above its rising threshold. -/
def execSupplyRise (s : State) : Host.Outcome State Fault Refusal := s.upd fun d => d.supplyRise

/-- BANK_CLASSIFY. R506: the window of a bank ends: the highest voltage in it (mV), and 100 µs above 1.60 V. -/
def execBankClassify (t : BitVec 3) (peak : BitVec 16) (steady : Bool) (s : State) : Host.Outcome State Fault Refusal :=
  s.upd fun d => d.bankClassify t.toNat peak.toNat steady

/-- SUPPLY_GOOD. R506: every supply has stayed good for 100 µs. -/
def execSupplyGood (s : State) : Host.Outcome State Fault Refusal := s.upd fun d => d.supplyGood

/-- SUPPLY_FAIL. R506: supply 0 VDDA, 1 VDD, 2 + t the bank of tile t falls below its falling threshold. -/
def execSupplyFail (k : BitVec 4) (s : State) : Host.Outcome State Fault Refusal := s.upd fun d => d.supplyFail k.toNat

/-- RESET_RELEASE. R531: every release condition holds. -/
def execResetRelease (s : State) : Host.Outcome State Fault Refusal := s.upd fun d => d.release

/-- RESET_N_RESET. R475: RESET_N has been low for 10.5 µs. -/
def execResetNReset (s : State) : Host.Outcome State Fault Refusal := s.upd fun d => d.resetN

/-- RESET_N_PULSE. R475: a low level of RESET_N of so many nanoseconds has ended. -/
def execResetNPulse (ns : BitVec 16) (s : State) : Host.Outcome State Fault Refusal := s.upd fun d => d.resetPulse ns.toNat

/-- SOFTWARE_RESET. R516: a write of PWR_RST with DEV 1. -/
def execSoftwareReset (w : Writer) (v : BitVec 32) (s : State) : Host.Outcome State Fault Refusal :=
  s.upd fun d => d.rowWrite w Reg.PWR_RST (setBits v.toNat 16 1 1)

/-- DEBUG_RESET. R516: a write of PWR_RST with DBG 1. -/
def execDebugReset (w : Writer) (v : BitVec 32) (s : State) : Host.Outcome State Fault Refusal :=
  s.upd fun d => d.rowWrite w Reg.PWR_RST (setBits v.toNat 17 1 1)

/-- DOZE_ENTRY. R519: every present core is clock-gated. -/
def execDozeEntry (s : State) : Host.Outcome State Fault Refusal := s.upd fun d => d.dozeEntry

/-- DEEP_SLEEP_REQUEST. R520: a write of 1 to PWR_SLEEP.DEEP, RETSRAM as it stands. -/
def execDeepSleepRequest (w : Writer) (s : State) : Host.Outcome State Fault Refusal :=
  s.upd fun d => d.rowWrite w Reg.PWR_SLEEP (setBits (d.rd Reg.PWR_SLEEP) 0 1 1)

/-- DEEP_SLEEP_ENTRY. R520: every berth is parked or asleep. -/
def execDeepSleepEntry (s : State) : Host.Outcome State Fault Refusal := s.upd fun d => d.deepEntry

/-- WAKE_COMPLETE. R521: the last tile is ready. -/
def execWakeComplete (s : State) : Host.Outcome State Fault Refusal := s.upd fun d => d.wakeComplete

/-- RECOVER. R523: a write of PWR_RECOVER. -/
def execRecover (w : Writer) (v : BitVec 32) (s : State) : Host.Outcome State Fault Refusal :=
  s.upd fun d => d.rowWrite w Reg.PWR_RECOVER v.toNat

/-- DIVIDER_REQUEST. R511: a write of CLK_DIV. -/
def execDividerRequest (w : Writer) (v : BitVec 32) (s : State) : Host.Outcome State Fault Refusal :=
  s.upd fun d => d.rowWrite w Reg.CLK_DIV v.toNat

/-- DIVIDER_CHANGE. R511: the TCLK edge of a requested divider. -/
def execDividerChange (s : State) : Host.Outcome State Fault Refusal := s.upd fun d => d.divChange

/-- RELOCK_REQUEST. R512: a write of CLK_RELOCK. -/
def execRelockRequest (w : Writer) (v : BitVec 32) (s : State) : Host.Outcome State Fault Refusal :=
  s.upd fun d => d.rowWrite w Reg.CLK_RELOCK v.toNat

/-- RELOCK_SWITCH. R513: the clocks switch to BOSC. -/
def execRelockSwitch (s : State) : Host.Outcome State Fault Refusal := s.upd fun d => d.relockSwitch

/-- RELOCK_PLL_RESET. R513: the PLL is reset onto the named reference. -/
def execRelockPllReset (s : State) : Host.Outcome State Fault Refusal := s.upd fun d => d.relockReset

/-- PLL_LOCK. R513: the lock detector asserts or drops. -/
def execPllLock (lock : Bool) (s : State) : Host.Outcome State Fault Refusal := s.upd fun d => d.pllLock lock

/-- RELOCK_RETURN. R513: the PLL has stayed locked for 64 µs. -/
def execRelockReturn (s : State) : Host.Outcome State Fault Refusal := s.upd fun d => d.relockReturn

/-- RELOCK_TIMEOUT. R515: the PLL has failed to lock within 10 ms. -/
def execRelockTimeout (s : State) : Host.Outcome State Fault Refusal := s.upd fun d => d.relockTimeout

/-- PLL_UNLOCK. R510: the PLL loses lock; ref says that its reference is present. -/
def execPllUnlock (ref : Bool) (s : State) : Host.Outcome State Fault Refusal := s.upd fun d => d.pllUnlock ref

/-- SENSOR_READ. R524: the sensors are read: 8 × tile + sensor, and the reading in 0.25 °C. -/
def execSensorRead (rs : List (Nat × Int)) (s : State) : Host.Outcome State Fault Refusal := s.upd fun d => d.sensorRead rs

/-- THERMAL_POWER_OFF. R525: 10 µs after the thermal trip. -/
def execThermalPowerOff (s : State) : Host.Outcome State Fault Refusal := s.upd fun d => d.thermalOff

/-- GOVERNOR_PERIOD. R524: a period of the governor. -/
def execGovernorPeriod (s : State) : Host.Outcome State Fault Refusal := s.upd fun d => d.governor

/-- PEAK_CLEAR. R526: THM_PEAK.CLR. -/
def execPeakClear (w : Writer) (s : State) : Host.Outcome State Fault Refusal :=
  s.upd fun d => d.rowWrite w Reg.THM_PEAK (2 ^ 31)

/-- VDD_MONITOR. R436: the internal sensor sees VDD inside (0), below (1) or above (2) its range. -/
def execVddMonitor (k : BitVec 2) (s : State) : Host.Outcome State Fault Refusal := s.upd fun d => d.vddMonitor k.toNat

/-- BANK_OVERVOLTAGE. R506: a good 1.8 V bank rises above 2.50 V. -/
def execBankOvervoltage (t : BitVec 3) (s : State) : Host.Outcome State Fault Refusal := s.upd fun d => d.bankOver t.toNat

end Sys2Proof.Machine
end

