-- ==== Sys2Proof/Machine/QuaysideCmds.lean ====
section
/-! DEFINITION. The commands of Quayside (chapter 15). -/

namespace Sys2Proof.Machine

/-- TARGET_READ. R458 to R461: a read request; `len` is beats less one, and `strb` the bytes that a single beat reads. -/
def execTargetRead (addr : BitVec 35) (len : BitVec 4) (id : BitVec 8) (attr : BitVec 2) (strb : BitVec 32) (s : State) :
    Host.Outcome State Fault Refusal :=
  s.upd fun d =>
    d.targetOdd addr.toNat id.toNat len.toNat (len.toNat + 1) fun e =>
      e.targetRead addr.toNat len.toNat id.toNat attr.toNat strb.toNat

/-- TARGET_WRITE. R460: a write request with all its beats, at most the 16 that req_len can give; without beats no request is there. -/
def execTargetWrite (addr : BitVec 35) (id : BitVec 8) (attr : BitVec 2) (beats : List Beat) (s : State) :
    Host.Outcome State Fault Refusal :=
  s.upd fun d =>
    if beats.isEmpty then d
    else d.targetOdd addr.toNat id.toNat ((beats.take 16).length - 1) 1 fun e =>
      e.targetWrite addr.toNat id.toNat attr.toNat (beats.take 16)

/-- INITIATOR_RESPONSE. R465: a response beat arrives on the initiator port. -/
def execInitiatorResponse (tag : Tag) (resp : BitVec 2) (check : BeatCheck) (data : BitVec 256) (s : State) :
    Host.Outcome State Fault Refusal :=
  s.upd fun d => d.initiatorResponse tag resp.toNat check data.toNat

/-- HOST_RESET. R462: qs_hrst_n goes low. -/
def execHostReset (s : State) : Host.Outcome State Fault Refusal := s.upd fun d => d.hostReset

/-- HOST_RESET_RELEASE. R462: qs_hrst_n rises. -/
def execHostResetRelease (s : State) : Host.Outcome State Fault Refusal := s.upd fun d => d.hostRelease

/-- MAILBOX_H2D. R466: a write of QSP_H2D. -/
def execMailboxH2d (w : Writer) (v : BitVec 32) (s : State) : Host.Outcome State Fault Refusal :=
  s.upd fun d => d.rowWrite w Reg.QSP_H2D v.toNat

/-- DOORBELL. R466: a write of QSP_DBELL. -/
def execDoorbell (w : Writer) (v : BitVec 32) (s : State) : Host.Outcome State Fault Refusal :=
  s.upd fun d => d.rowWrite w Reg.QSP_DBELL v.toNat

/-- MAILBOX_D2H. R466: a write of QSP_D2H. -/
def execMailboxD2h (w : Writer) (v : BitVec 32) (s : State) : Host.Outcome State Fault Refusal :=
  s.upd fun d => d.rowWrite w Reg.QSP_D2H v.toNat

/-- HOST_SOFTWARE_INTERRUPT. R466: QSP_HSWI.SET. -/
def execHostSoftwareInterrupt (w : Writer) (s : State) : Host.Outcome State Fault Refusal :=
  s.upd fun d => d.rowWrite w Reg.QSP_HSWI 1

/-- FEATURE_DONE. R467: QSP_FEAT_DONE.DONE. -/
def execFeatureDone (w : Writer) (s : State) : Host.Outcome State Fault Refusal :=
  s.upd fun d => d.rowWrite w Reg.QSP_FEAT_DONE 1

/-- LOAD. R472: QSP_CMD LOAD. -/
def execLoad (w : Writer) (s : State) : Host.Outcome State Fault Refusal := s.upd fun d => d.rowWrite w Reg.QSP_CMD 1

/-- START. R471, R472: QSP_CMD START. -/
def execStart (w : Writer) (s : State) : Host.Outcome State Fault Refusal := s.upd fun d => d.rowWrite w Reg.QSP_CMD 2

/-- QSP_STOP. R472: QSP_CMD STOP. -/
def execQspStop (w : Writer) (s : State) : Host.Outcome State Fault Refusal := s.upd fun d => d.rowWrite w Reg.QSP_CMD 3

/-- IMAGE_LOAD_DONE. R470: a boot load or a LOAD ends, its reads having returned this. -/
def execImageLoadDone (img : ImageReads) (s : State) : Host.Outcome State Fault Refusal := s.upd fun d => d.imageLoadDone img

end Sys2Proof.Machine
end

