-- ==== Sys2Proof/Machine/RingmasterCmds.lean ====
section
/-! DEFINITION. The commands of Ringmaster and the Lighthouses (chapter 14). -/

namespace Sys2Proof.Machine

/-- SOURCE_CLEAR. R440: a write of RMS_CLEAR. -/
def execSourceClear (w : Writer) (n : BitVec 8) (s : State) : Host.Outcome State Fault Refusal :=
  s.upd fun d => d.rowWrite w Reg.RMS_CLEAR n.toNat

/-- FAULT_INJECT. R446: a write of RMS_INJ. -/
def execFaultInject (w : Writer) (v : BitVec 32) (s : State) : Host.Outcome State Fault Refusal :=
  s.upd fun d => d.rowWrite w Reg.RMS_INJ v.toNat

/-- SOFTWARE_RAISE. R447: a write of RMS_RAISE. -/
def execSoftwareRaise (w : Writer) (v : BitVec 32) (s : State) : Host.Outcome State Fault Refusal :=
  s.upd fun d => d.rowWrite w Reg.RMS_RAISE v.toNat

/-- LOG_ENTRY_DURABLE. R445: the entry or record being written is durable. -/
def execLogEntryDurable (s : State) : Host.Outcome State Fault Refusal := s.upd fun d => d.logDurable

/-- LOG_SEARCH_DONE. R444: the search for the newest entry ends. -/
def execLogSearchDone (s : State) : Host.Outcome State Fault Refusal := s.upd fun d => d.logSearch

/-- LIGHTHOUSE_CONFIG. R448: a write of LHS_CFGx. -/
def execLighthouseConfig (w : Writer) (x : BitVec 4) (v : BitVec 32) (s : State) : Host.Outcome State Fault Refusal :=
  s.upd fun d => d.rowWrite w (Reg.LHS_CFG x.toNat) v.toNat

/-- LIGHTHOUSE_SERVE. R450: a write of LHS_SERVEx. -/
def execLighthouseServe (w : Writer) (x : BitVec 4) (v : BitVec 32) (s : State) : Host.Outcome State Fault Refusal :=
  s.upd fun d => d.rowWrite w (Reg.LHS_SERVE x.toNat) v.toNat

/-- LIGHTHOUSE_EXPIRY. R451: the device Lighthouse reaches its timeout. -/
def execLighthouseExpiry (s : State) : Host.Outcome State Fault Refusal := s.upd fun d => d.lhsExpiry

/-- TILE_LIGHTHOUSE_EXPIRY. R452: a tile Lighthouse reaches its timeout. -/
def execTileLighthouseExpiry (t : BitVec 3) (s : State) : Host.Outcome State Fault Refusal :=
  s.upd fun d => d.tileExpiry t.toNat

/-- CLOCK_STOP_TRIP. R453: the monitor of CCLK, or of BOSC, finds it stopped. -/
def execClockStopTrip (bosc : Bool) (s : State) : Host.Outcome State Fault Refusal := s.upd fun d => d.clockStop bosc

/-- RESET_COUNT_CLEAR. R454: a write of LHS_RCCLR. -/
def execResetCountClear (w : Writer) (v : BitVec 32) (s : State) : Host.Outcome State Fault Refusal :=
  s.upd fun d => d.rowWrite w Reg.LHS_RCCLR v.toNat

end Sys2Proof.Machine
end

