-- ==== Sys2Proof/Machine/ScanCmds.lean ====
section
/-! DEFINITION. The commands of the scan sequencer and the manifest unit (chapter 11). -/

namespace Sys2Proof.Machine

/-- CLASS_ENABLE. R331: a write of SCN_CLSc with EN 1. -/
def execClassEnable (w : Writer) (c : BitVec 4) (v : BitVec 32) (s : State) : Host.Outcome State Fault Refusal :=
  s.upd fun d => d.rowWrite w (Reg.SCN_CLS c.toNat) (setBits v.toNat 0 1 1)

/-- CLASS_DISABLE. R332: a write of SCN_CLSc with EN 0. -/
def execClassDisable (w : Writer) (c : BitVec 4) (v : BitVec 32) (s : State) : Host.Outcome State Fault Refusal :=
  s.upd fun d => d.rowWrite w (Reg.SCN_CLS c.toNat) (setBits v.toNat 0 1 0)

/-- CLASS_TICK. R333: the timebase reaches a tick instant of a class. -/
def execClassTick (c : BitVec 4) (s : State) : Host.Outcome State Fault Refusal := s.upd fun d => d.ownTick c.toNat

/-- LATCH_TRANSFER. R342: the latch buffers that a class assembled are committed. -/
def execLatchTransfer (c : BitVec 4) (s : State) : Host.Outcome State Fault Refusal := s.upd fun d => d.latchTransfer c.toNat

/-- SCHEDULED_COMMIT_JOIN. R358: V less LEAD has come for the manifest of a handle. -/
def execScheduledCommitJoin (h : BitVec 4) (s : State) : Host.Outcome State Fault Refusal :=
  s.upd fun d => d.commitDue h.toNat

/-- COMMIT_START. R357: the manifest unit begins the first queued commit that may begin. -/
def execCommitStart (s : State) : Host.Outcome State Fault Refusal := s.upd fun d => d.commitStart

/-- EDIT_WINDOW_OPEN. R361: the edit window opens. -/
def execEditWindowOpen (s : State) : Host.Outcome State Fault Refusal := s.upd fun d => d.editOpen

/-- CHECKPOINT_RETENTIVE. R363: SCN_CKPT with MODE 1. -/
def execCheckpointRetentive (w : Writer) (c : BitVec 4) (s : State) : Host.Outcome State Fault Refusal :=
  s.upd fun d => d.rowWrite w Reg.SCN_CKPT (1 + 16 * c.toNat)

/-- CHECKPOINT_INSTANCE. R363: SCN_CKPT with MODE 2. -/
def execCheckpointInstance (w : Writer) (c : BitVec 4) (s : State) : Host.Outcome State Fault Refusal :=
  s.upd fun d => d.rowWrite w Reg.SCN_CKPT (2 + 16 * c.toNat)

/-- CHECKPOINT_WRITE_DONE. R364: the checkpoint record is durable. -/
def execCheckpointWriteDone (s : State) : Host.Outcome State Fault Refusal := s.upd fun d => d.captureDone

/-- MAINT_REQUEST. R366: a write of SCN_MNT with an activity. -/
def execMaintRequest (w : Writer) (act : BitVec 3) (s : State) : Host.Outcome State Fault Refusal :=
  s.upd fun d => d.rowWrite w Reg.SCN_MNT act.toNat

/-- MAINT_RELEASE. R366: a write of SCN_MNT with ACT 0. -/
def execMaintRelease (w : Writer) (s : State) : Host.Outcome State Fault Refusal := s.upd fun d => d.rowWrite w Reg.SCN_MNT 0

/-- OVERRUN_CLEAR. R367: SCN_OVRc.CLR. -/
def execOverrunClear (w : Writer) (c : BitVec 4) (s : State) : Host.Outcome State Fault Refusal :=
  s.upd fun d => d.rowWrite w (Reg.SCN_OVR c.toNat) (2 ^ 31)

/-- MFT_COUNT_CLEAR. R367: MFT_CLR.CNT. -/
def execMftCountClear (w : Writer) (s : State) : Host.Outcome State Fault Refusal :=
  s.upd fun d => d.rowWrite w Reg.MFT_CLR 1

/-- SERVICE_SAMPLE. R469: the 1 kHz sample in SERVICE. -/
def execServiceSample (s : State) : Host.Outcome State Fault Refusal := s.upd fun d => d.serviceSample

end Sys2Proof.Machine
end

