-- ==== Sys2Proof/Machine/StoreCmds.lean ====
section
/-! DEFINITION. The commands of the memories and of the bollards (chapters 5 and 6): scrubbing, clears, force and hand-over, and the
host's and the Gangway's own bollard operations. -/

namespace Sys2Proof.Machine

/-- SCRUB_WORD. R171: scrubber m (0 to 7 the tiles, 8 the Image Store) handles its next word. -/
def execScrubWord (m : BitVec 4) (s : State) : Host.Outcome State Fault Refusal := s.upd fun d => d.scrubWord m.toNat

/-- MEM_CLR_CE. R178: MEM_CLR.CE. -/
def execMemClrCe (w : Writer) (s : State) : Host.Outcome State Fault Refusal := s.upd fun d => d.rowWrite w Reg.MEM_CLR 1

/-- MEM_CLR_UE. R178: MEM_CLR.UE. -/
def execMemClrUe (w : Writer) (s : State) : Host.Outcome State Fault Refusal := s.upd fun d => d.rowWrite w Reg.MEM_CLR 2

/-- MEM_CLR_PEAK. R178: MEM_CLR.PEAK. -/
def execMemClrPeak (w : Writer) (s : State) : Host.Outcome State Fault Refusal := s.upd fun d => d.rowWrite w Reg.MEM_CLR 4

/-- BOL_FORCED_RELEASE. R204: BOL_FORCE with MODE 0, of the word at BOL_FADDR. -/
def execBolForcedRelease (w : Writer) (s : State) : Host.Outcome State Fault Refusal :=
  s.upd fun d => d.rowWrite w Reg.BOL_FORCE 0

/-- BOL_HAND_OVER. R204: BOL_FORCE with MODE 1, which hands the word at BOL_FADDR to a berth. -/
def execBolHandOver (w : Writer) (b : BitVec 9) (s : State) : Host.Outcome State Fault Refusal :=
  s.upd fun d => d.rowWrite w Reg.BOL_FORCE (1 + 2 ^ 16 * b.toNat)

/-- HOST_TRY. R205: BOL_HOP with OP 1. -/
def execHostTry (w : Writer) (inh : Bool) (user : BitVec 15) (s : State) : Host.Outcome State Fault Refusal :=
  s.upd fun d => d.rowWrite w Reg.BOL_HOP (1 + 2 ^ 15 * bit01 inh + 2 ^ 16 * user.toNat)

/-- HOST_REL. R205: BOL_HOP with OP 2. -/
def execHostRel (w : Writer) (s : State) : Host.Outcome State Fault Refusal := s.upd fun d => d.rowWrite w Reg.BOL_HOP 2

/-- BOL_CLR_CNT. R207: BOL_CLR.CNT. -/
def execBolClrCnt (w : Writer) (s : State) : Host.Outcome State Fault Refusal := s.upd fun d => d.rowWrite w Reg.BOL_CLR 1

/-- BOL_CLR_PEAK. R207: BOL_CLR.PEAK. -/
def execBolClrPeak (w : Writer) (s : State) : Host.Outcome State Fault Refusal := s.upd fun d => d.rowWrite w Reg.BOL_CLR 2

end Sys2Proof.Machine
end

