-- ==== Sys2Proof/Machine/Dispatch.lean ====
section
/-! DEFINITION. The meaning of each command: one arm for each constructor of Instr, each a call of its own meaning. -/

namespace Sys2Proof.Machine

def exec (i : Instr) (s : State) : Host.Outcome State Fault Refusal :=
  match i with
  | .add i1 rd rs1 rs2 => Sys2Proof.Machine.execAdd i1 rd rs1 rs2 s
  | .sub i1 rd rs1 rs2 => Sys2Proof.Machine.execSub i1 rd rs1 rs2 s
  | .and i1 rd rs1 rs2 => Sys2Proof.Machine.execAnd i1 rd rs1 rs2 s
  | .or i1 rd rs1 rs2 => Sys2Proof.Machine.execOr i1 rd rs1 rs2 s
  | .xor i1 rd rs1 rs2 => Sys2Proof.Machine.execXor i1 rd rs1 rs2 s
  | .andn i1 rd rs1 rs2 => Sys2Proof.Machine.execAndn i1 rd rs1 rs2 s
  | .sll i1 rd rs1 rs2 => Sys2Proof.Machine.execSll i1 rd rs1 rs2 s
  | .srl i1 rd rs1 rs2 => Sys2Proof.Machine.execSrl i1 rd rs1 rs2 s
  | .sra i1 rd rs1 rs2 => Sys2Proof.Machine.execSra i1 rd rs1 rs2 s
  | .slt i1 rd rs1 rs2 => Sys2Proof.Machine.execSlt i1 rd rs1 rs2 s
  | .sltu i1 rd rs1 rs2 => Sys2Proof.Machine.execSltu i1 rd rs1 rs2 s
  | .min i1 rd rs1 rs2 => Sys2Proof.Machine.execMin i1 rd rs1 rs2 s
  | .max i1 rd rs1 rs2 => Sys2Proof.Machine.execMax i1 rd rs1 rs2 s
  | .minu i1 rd rs1 rs2 => Sys2Proof.Machine.execMinu i1 rd rs1 rs2 s
  | .maxu i1 rd rs1 rs2 => Sys2Proof.Machine.execMaxu i1 rd rs1 rs2 s
  | .mul i1 rd rs1 rs2 => Sys2Proof.Machine.execMul i1 rd rs1 rs2 s
  | .mulh i1 rd rs1 rs2 => Sys2Proof.Machine.execMulh i1 rd rs1 rs2 s
  | .mulhu i1 rd rs1 rs2 => Sys2Proof.Machine.execMulhu i1 rd rs1 rs2 s
  | .clz i1 rd rs1 => Sys2Proof.Machine.execClz i1 rd rs1 s
  | .ror i1 rd rs1 rs2 => Sys2Proof.Machine.execRor i1 rd rs1 rs2 s
  | .addi i1 rd rs1 imm => Sys2Proof.Machine.execAddi i1 rd rs1 imm s
  | .andi i1 rd rs1 imm => Sys2Proof.Machine.execAndi i1 rd rs1 imm s
  | .ori i1 rd rs1 imm => Sys2Proof.Machine.execOri i1 rd rs1 imm s
  | .xori i1 rd rs1 imm => Sys2Proof.Machine.execXori i1 rd rs1 imm s
  | .slti i1 rd rs1 imm => Sys2Proof.Machine.execSlti i1 rd rs1 imm s
  | .sltiu i1 rd rs1 imm => Sys2Proof.Machine.execSltiu i1 rd rs1 imm s
  | .lui i1 rd imm => Sys2Proof.Machine.execLui i1 rd imm s
  | .slli i1 rd rs1 sh => Sys2Proof.Machine.execSlli i1 rd rs1 sh s
  | .srli i1 rd rs1 sh => Sys2Proof.Machine.execSrli i1 rd rs1 sh s
  | .srai i1 rd rs1 sh => Sys2Proof.Machine.execSrai i1 rd rs1 sh s
  | .rori i1 rd rs1 sh => Sys2Proof.Machine.execRori i1 rd rs1 sh s
  | .extu i1 rd rs1 pos len1 => Sys2Proof.Machine.execExtu i1 rd rs1 pos len1 s
  | .exts i1 rd rs1 pos len1 => Sys2Proof.Machine.execExts i1 rd rs1 pos len1 s
  | .ins i1 rd rs1 pos len1 => Sys2Proof.Machine.execIns i1 rd rs1 pos len1 s
  | .lb i1 rd m => Sys2Proof.Machine.execLb i1 rd m s
  | .lbu i1 rd m => Sys2Proof.Machine.execLbu i1 rd m s
  | .lh i1 rd m => Sys2Proof.Machine.execLh i1 rd m s
  | .lhu i1 rd m => Sys2Proof.Machine.execLhu i1 rd m s
  | .lw i1 rd m => Sys2Proof.Machine.execLw i1 rd m s
  | .sb i1 rs2 m => Sys2Proof.Machine.execSb i1 rs2 m s
  | .sh i1 rs2 m => Sys2Proof.Machine.execSh i1 rs2 m s
  | .sw i1 rs2 m => Sys2Proof.Machine.execSw i1 rs2 m s
  | .lwi i1 rd u19 => Sys2Proof.Machine.execLwi i1 rd u19 s
  | .swi i1 rs u19 => Sys2Proof.Machine.execSwi i1 rs u19 s
  | .loadReturn b i1 => Sys2Proof.Machine.execLoadReturn b i1 s
  | .storePerformed b i1 => Sys2Proof.Machine.execStorePerformed b i1 s
  | .beq i1 rs1 rs2 disp => Sys2Proof.Machine.execBeq i1 rs1 rs2 disp s
  | .bne i1 rs1 rs2 disp => Sys2Proof.Machine.execBne i1 rs1 rs2 disp s
  | .blt i1 rs1 rs2 disp => Sys2Proof.Machine.execBlt i1 rs1 rs2 disp s
  | .bge i1 rs1 rs2 disp => Sys2Proof.Machine.execBge i1 rs1 rs2 disp s
  | .bltu i1 rs1 rs2 disp => Sys2Proof.Machine.execBltu i1 rs1 rs2 disp s
  | .bgeu i1 rs1 rs2 disp => Sys2Proof.Machine.execBgeu i1 rs1 rs2 disp s
  | .beqi i1 rs1 imm disp => Sys2Proof.Machine.execBeqi i1 rs1 imm disp s
  | .bnei i1 rs1 imm disp => Sys2Proof.Machine.execBnei i1 rs1 imm disp s
  | .blti i1 rs1 imm disp => Sys2Proof.Machine.execBlti i1 rs1 imm disp s
  | .bgei i1 rs1 imm disp => Sys2Proof.Machine.execBgei i1 rs1 imm disp s
  | .bbs i1 rs1 bit disp => Sys2Proof.Machine.execBbs i1 rs1 bit disp s
  | .bbc i1 rs1 bit disp => Sys2Proof.Machine.execBbc i1 rs1 bit disp s
  | .jmp i1 disp => Sys2Proof.Machine.execJmp i1 disp s
  | .call i1 disp => Sys2Proof.Machine.execCall i1 disp s
  | .jmpr i1 rt bk => Sys2Proof.Machine.execJmpr i1 rt bk s
  | .callr i1 rt bk => Sys2Proof.Machine.execCallr i1 rt bk s
  | .ret i1 => Sys2Proof.Machine.execRet i1 s
  | .callfb i1 rs1 rs2 disp => Sys2Proof.Machine.execCallfb i1 rs1 rs2 disp s
  | .callfbr i1 rs1 rs2 rt bk => Sys2Proof.Machine.execCallfbr i1 rs1 rs2 rt bk s
  | .loop i1 n rs1 disp => Sys2Proof.Machine.execLoop i1 n rs1 disp s
  | .loopi i1 n count disp => Sys2Proof.Machine.execLoopi i1 n count disp s
  | .macx i1 rx ry k wide neg clr => Sys2Proof.Machine.execMacx i1 rx ry k wide neg clr s
  | .bld i1 rd n => Sys2Proof.Machine.execBld i1 rd n s
  | .bldn i1 rd n => Sys2Proof.Machine.execBldn i1 rd n s
  | .band i1 rd n => Sys2Proof.Machine.execBand i1 rd n s
  | .bandn i1 rd n => Sys2Proof.Machine.execBandn i1 rd n s
  | .bor i1 rd n => Sys2Proof.Machine.execBor i1 rd n s
  | .born i1 rd n => Sys2Proof.Machine.execBorn i1 rd n s
  | .bxor i1 rd n => Sys2Proof.Machine.execBxor i1 rd n s
  | .bxorn i1 rd n => Sys2Proof.Machine.execBxorn i1 rd n s
  | .bst i1 rd n => Sys2Proof.Machine.execBst i1 rd n s
  | .bset i1 rd n => Sys2Proof.Machine.execBset i1 rd n s
  | .brst i1 rd n => Sys2Proof.Machine.execBrst i1 rd n s
  | .edgr i1 rd n => Sys2Proof.Machine.execEdgr i1 rd n s
  | .edgf i1 rd n => Sys2Proof.Machine.execEdgf i1 rd n s
  | .cNop i1 => Sys2Proof.Machine.execCNop i1 s
  | .bcas i1 rd rs1 rs2 bk => Sys2Proof.Machine.execBcas i1 rd rs1 rs2 bk s
  | .btry i1 rd rs1 rs2 bk => Sys2Proof.Machine.execBtry i1 rd rs1 rs2 bk s
  | .bacq i1 rd rs1 rs2 bk => Sys2Proof.Machine.execBacq i1 rd rs1 rs2 bk s
  | .brel i1 rd rs1 bk => Sys2Proof.Machine.execBrel i1 rd rs1 bk s
  | .bollardTimeout b => Sys2Proof.Machine.execBollardTimeout b s
  | .mopen i1 rd rs1 k => Sys2Proof.Machine.execMopen i1 rd rs1 k s
  | .mguard i1 rd rs1 rs2 bk k => Sys2Proof.Machine.execMguard i1 rd rs1 rs2 bk k s
  | .mput i1 rd rs1 rs2 bk k => Sys2Proof.Machine.execMput i1 rd rs1 rs2 bk k s
  | .mpin i1 rd rs1 rs2 bk k => Sys2Proof.Machine.execMpin i1 rd rs1 rs2 bk k s
  | .msend i1 rd rs1 bk k => Sys2Proof.Machine.execMsend i1 rd rs1 bk k s
  | .mcommit i1 rd rs1 k => Sys2Proof.Machine.execMcommit i1 rd rs1 k s
  | .mabort i1 rd k => Sys2Proof.Machine.execMabort i1 rd k s
  | .outp i1 pad rs1 => Sys2Proof.Machine.execOutp i1 pad rs1 s
  | .outpm i1 rs1 rs2 => Sys2Proof.Machine.execOutpm i1 rs1 rs2 s
  | .inp i1 rd => Sys2Proof.Machine.execInp i1 rd s
  | .pewr i1 rs e r => Sys2Proof.Machine.execPewr i1 rs e r s
  | .perd i1 rd e r => Sys2Proof.Machine.execPerd i1 rd e r s
  | .rdsr i1 rd sr => Sys2Proof.Machine.execRdsr i1 rd sr s
  | .wrsr i1 sr rs1 => Sys2Proof.Machine.execWrsr i1 sr rs1 s
  | .syscall i1 code => Sys2Proof.Machine.execSyscall i1 code s
  | .retx i1 => Sys2Proof.Machine.execRetx i1 s
  | .fence i1 mask => Sys2Proof.Machine.execFence i1 mask s
  | .waitt i1 rd rs1 rs2 mode consume => Sys2Proof.Machine.execWaitt i1 rd rs1 rs2 mode consume s
  | .waite i1 rd consume poll => Sys2Proof.Machine.execWaite i1 rd consume poll s
  | .sleep i1 rd consume => Sys2Proof.Machine.execSleep i1 rd consume s
  | .interruptEntry b => Sys2Proof.Machine.execInterruptEntry b s
  | .timerCompare b => Sys2Proof.Machine.execTimerCompare b s
  | .parkRequest w b => Sys2Proof.Machine.execParkRequest w b s
  | .unparkRequest w b => Sys2Proof.Machine.execUnparkRequest w b s
  | .berthParked b => Sys2Proof.Machine.execBerthParked b s
  | .reclass w c v => Sys2Proof.Machine.execReclass w c v s
  | .breachClear w c v => Sys2Proof.Machine.execBreachClear w c v s
  | .twinActivate p => Sys2Proof.Machine.execTwinActivate p s
  | .twinCopyDone p => Sys2Proof.Machine.execTwinCopyDone p s
  | .twinDeactivate p => Sys2Proof.Machine.execTwinDeactivate p s
  | .scrubWord m => Sys2Proof.Machine.execScrubWord m s
  | .memClrCe w => Sys2Proof.Machine.execMemClrCe w s
  | .memClrUe w => Sys2Proof.Machine.execMemClrUe w s
  | .memClrPeak w => Sys2Proof.Machine.execMemClrPeak w s
  | .bolForcedRelease w => Sys2Proof.Machine.execBolForcedRelease w s
  | .bolHandOver w b => Sys2Proof.Machine.execBolHandOver w b s
  | .hostTry w inh user => Sys2Proof.Machine.execHostTry w inh user s
  | .hostRel w => Sys2Proof.Machine.execHostRel w s
  | .bolClrCnt w => Sys2Proof.Machine.execBolClrCnt w s
  | .bolClrPeak w => Sys2Proof.Machine.execBolClrPeak w s
  | .peNop e => Sys2Proof.Machine.execPeNop e s
  | .peStop e => Sys2Proof.Machine.execPeStop e s
  | .peJmp e => Sys2Proof.Machine.execPeJmp e s
  | .peWait e => Sys2Proof.Machine.execPeWait e s
  | .peWaitComplete e n => Sys2Proof.Machine.execPeWaitComplete e n s
  | .peIn e => Sys2Proof.Machine.execPeIn e s
  | .peOut e => Sys2Proof.Machine.execPeOut e s
  | .pePush e => Sys2Proof.Machine.execPePush e s
  | .pePull e => Sys2Proof.Machine.execPePull e s
  | .peStallEnd e n => Sys2Proof.Machine.execPeStallEnd e n s
  | .peMov e => Sys2Proof.Machine.execPeMov e s
  | .peSet e => Sys2Proof.Machine.execPeSet e s
  | .peEdge e => Sys2Proof.Machine.execPeEdge e s
  | .peCntClr e => Sys2Proof.Machine.execPeCntClr e s
  | .peCntInc e => Sys2Proof.Machine.execPeCntInc e s
  | .peCntArm e => Sys2Proof.Machine.execPeCntArm e s
  | .peFlag e => Sys2Proof.Machine.execPeFlag e s
  | .peFlagWaitComplete e n => Sys2Proof.Machine.execPeFlagWaitComplete e n s
  | .peDly e => Sys2Proof.Machine.execPeDly e s
  | .peDlyComplete e => Sys2Proof.Machine.execPeDlyComplete e s
  | .engineStart w e v => Sys2Proof.Machine.execEngineStart w e v s
  | .engineStop w e v => Sys2Proof.Machine.execEngineStop w e v s
  | .programRestart w e v => Sys2Proof.Machine.execProgramRestart w e v s
  | .dividerRestart w e v => Sys2Proof.Machine.execDividerRestart w e v s
  | .txClear w e v => Sys2Proof.Machine.execTxClear w e v s
  | .rxClear w e v => Sys2Proof.Machine.execRxClear w e v s
  | .stallClear w e v => Sys2Proof.Machine.execStallClear w e v s
  | .groupStart w t mask restart clkr => Sys2Proof.Machine.execGroupStart w t mask restart clkr s
  | .groupStop w t mask => Sys2Proof.Machine.execGroupStop w t mask s
  | .tileFlagSet w t v => Sys2Proof.Machine.execTileFlagSet w t v s
  | .tileFlagClear w t v => Sys2Proof.Machine.execTileFlagClear w t v s
  | .tstatClear w t => Sys2Proof.Machine.execTstatClear w t s
  | .programWordWrite w e k v => Sys2Proof.Machine.execProgramWordWrite w e k v s
  | .migrationRequest w t v => Sys2Proof.Machine.execMigrationRequest w t v s
  | .migrationCancel w t => Sys2Proof.Machine.execMigrationCancel w t s
  | .migrationFence t => Sys2Proof.Machine.execMigrationFence t s
  | .migrationCopy t => Sys2Proof.Machine.execMigrationCopy t s
  | .migrationDone t => Sys2Proof.Machine.execMigrationDone t s
  | .padInputChange t i1 l => Sys2Proof.Machine.execPadInputChange t i1 l s
  | .padConfigWrite w t i1 v => Sys2Proof.Machine.execPadConfigWrite w t i1 v s
  | .padDoutWrite w t v => Sys2Proof.Machine.execPadDoutWrite w t v s
  | .padOwnerWrite w t i1 v => Sys2Proof.Machine.execPadOwnerWrite w t i1 v s
  | .safeForceClear w t v => Sys2Proof.Machine.execSafeForceClear w t v s
  | .imageWordSelect w t v => Sys2Proof.Machine.execImageWordSelect w t v s
  | .latchRelease w t => Sys2Proof.Machine.execLatchRelease w t s
  | .denyClear w t => Sys2Proof.Machine.execDenyClear w t s
  | .comparatorConfig w c v => Sys2Proof.Machine.execComparatorConfig w c v s
  | .comparatorTrip c v => Sys2Proof.Machine.execComparatorTrip c v s
  | .channelAssertion n => Sys2Proof.Machine.execChannelAssertion n s
  | .channelFire w k v => Sys2Proof.Machine.execChannelFire w k v s
  | .channelConfig w n v => Sys2Proof.Machine.execChannelConfig w n v s
  | .channelHoldEnd n => Sys2Proof.Machine.execChannelHoldEnd n s
  | .groupWrite w g v => Sys2Proof.Machine.execGroupWrite w g v s
  | .softwareInterrupt w b => Sys2Proof.Machine.execSoftwareInterrupt w b s
  | .timebaseStepRequest w v => Sys2Proof.Machine.execTimebaseStepRequest w v s
  | .timebaseCompareArm w n k => Sys2Proof.Machine.execTimebaseCompareArm w n k s
  | .timebaseCompare n => Sys2Proof.Machine.execTimebaseCompare n s
  | .trackerConfig w v => Sys2Proof.Machine.execTrackerConfig w v s
  | .trackerCountClear w => Sys2Proof.Machine.execTrackerCountClear w s
  | .classEnable w c v => Sys2Proof.Machine.execClassEnable w c v s
  | .classDisable w c v => Sys2Proof.Machine.execClassDisable w c v s
  | .classTick c => Sys2Proof.Machine.execClassTick c s
  | .latchTransfer c => Sys2Proof.Machine.execLatchTransfer c s
  | .scheduledCommitJoin h => Sys2Proof.Machine.execScheduledCommitJoin h s
  | .checkpointRetentive w c => Sys2Proof.Machine.execCheckpointRetentive w c s
  | .checkpointInstance w c => Sys2Proof.Machine.execCheckpointInstance w c s
  | .maintRequest w act => Sys2Proof.Machine.execMaintRequest w act s
  | .maintRelease w => Sys2Proof.Machine.execMaintRelease w s
  | .overrunClear w c => Sys2Proof.Machine.execOverrunClear w c s
  | .mftCountClear w => Sys2Proof.Machine.execMftCountClear w s
  | .sourceClear w n => Sys2Proof.Machine.execSourceClear w n s
  | .faultInject w v => Sys2Proof.Machine.execFaultInject w v s
  | .softwareRaise w v => Sys2Proof.Machine.execSoftwareRaise w v s
  | .lighthouseConfig w x v => Sys2Proof.Machine.execLighthouseConfig w x v s
  | .lighthouseServe w x v => Sys2Proof.Machine.execLighthouseServe w x v s
  | .tileLighthouseExpiry t => Sys2Proof.Machine.execTileLighthouseExpiry t s
  | .clockStopTrip bosc => Sys2Proof.Machine.execClockStopTrip bosc s
  | .resetCountClear w v => Sys2Proof.Machine.execResetCountClear w v s
  | .targetRead addr len id attr strb => Sys2Proof.Machine.execTargetRead addr len id attr strb s
  | .targetWrite addr id attr beats => Sys2Proof.Machine.execTargetWrite addr id attr beats s
  | .initiatorResponse tag resp check data => Sys2Proof.Machine.execInitiatorResponse tag resp check data s
  | .mailboxH2d w v => Sys2Proof.Machine.execMailboxH2d w v s
  | .doorbell w v => Sys2Proof.Machine.execDoorbell w v s
  | .mailboxD2h w v => Sys2Proof.Machine.execMailboxD2h w v s
  | .hostSoftwareInterrupt w => Sys2Proof.Machine.execHostSoftwareInterrupt w s
  | .featureDone w => Sys2Proof.Machine.execFeatureDone w s
  | .load w => Sys2Proof.Machine.execLoad w s
  | .start w => Sys2Proof.Machine.execStart w s
  | .qspStop w => Sys2Proof.Machine.execQspStop w s
  | .imageLoadDone img => Sys2Proof.Machine.execImageLoadDone img s
  | .bankClassify t peak steady => Sys2Proof.Machine.execBankClassify t peak steady s
  | .supplyFail k => Sys2Proof.Machine.execSupplyFail k s
  | .resetNPulse ns => Sys2Proof.Machine.execResetNPulse ns s
  | .softwareReset w v => Sys2Proof.Machine.execSoftwareReset w v s
  | .debugReset w v => Sys2Proof.Machine.execDebugReset w v s
  | .coreReset w mask => Sys2Proof.Machine.execCoreReset w mask s
  | .berthReset w b => Sys2Proof.Machine.execBerthReset w b s
  | .deepSleepRequest w => Sys2Proof.Machine.execDeepSleepRequest w s
  | .recover w v => Sys2Proof.Machine.execRecover w v s
  | .dividerRequest w v => Sys2Proof.Machine.execDividerRequest w v s
  | .relockRequest w v => Sys2Proof.Machine.execRelockRequest w v s
  | .pllLock lock => Sys2Proof.Machine.execPllLock lock s
  | .pllUnlock ref => Sys2Proof.Machine.execPllUnlock ref s
  | .sensorRead rs => Sys2Proof.Machine.execSensorRead rs s
  | .peakClear w => Sys2Proof.Machine.execPeakClear w s
  | .registerWrite w off v => Sys2Proof.Machine.execRegisterWrite w off v s
  | .undefinedInstruction i1 => Sys2Proof.Machine.execUndefinedInstruction i1 s
  | .peUndefined e => Sys2Proof.Machine.execPeUndefined e s
  | .vddMonitor k => Sys2Proof.Machine.execVddMonitor k s
  | .bankOvervoltage t => Sys2Proof.Machine.execBankOvervoltage t s
  | .blockLock lane => Sys2Proof.Machine.execBlockLock lane s
  | .blockLockLoss lane => Sys2Proof.Machine.execBlockLockLoss lane s
  | .helloInterval p => Sys2Proof.Machine.execHelloInterval p s
  | .hello p f err => Sys2Proof.Machine.execHello p f err s
  | .data p f err => Sys2Proof.Machine.execData p f err s
  | .frameTransmit r => Sys2Proof.Machine.execFrameTransmit r s
  | .dreqInterval p ph => Sys2Proof.Machine.execDreqInterval p ph s
  | .dreq p f err ph res => Sys2Proof.Machine.execDreq p f err ph res s
  | .drsp p f err ph => Sys2Proof.Machine.execDrsp p f err ph s
  | .syncInterval ph => Sys2Proof.Machine.execSyncInterval ph s
  | .sync p f err ph res => Sys2Proof.Machine.execSync p f err ph res s
  | .elect p f err => Sys2Proof.Machine.execElect p f err s
  | .rttp p f err ph => Sys2Proof.Machine.execRttp p f err ph s
  | .link p f err => Sys2Proof.Machine.execLink p f err s
  | .dupExpiry src => Sys2Proof.Machine.execDupExpiry src s
  | .roundStart j => Sys2Proof.Machine.execRoundStart j s
  | .prepare p f err => Sys2Proof.Machine.execPrepare p f err s
  | .vote p f err => Sys2Proof.Machine.execVote p f err s
  | .voteDeadline j => Sys2Proof.Machine.execVoteDeadline j s
  | .collectionDeadline j => Sys2Proof.Machine.execCollectionDeadline j s
  | .decideFrame p f err => Sys2Proof.Machine.execDecideFrame p f err s
  | .tokenDeadline j => Sys2Proof.Machine.execTokenDeadline j s
  | .xev p code src hops => Sys2Proof.Machine.execXev p code src hops s
  | .beyCountClear w => Sys2Proof.Machine.execBeyCountClear w s
  | .macFrameReceive m f => Sys2Proof.Machine.execMacFrameReceive m f s
  | .macTransmit m => Sys2Proof.Machine.execMacTransmit m s
  | .gateInterval m => Sys2Proof.Machine.execGateInterval m s
  | .hb f err => Sys2Proof.Machine.execHb f err s
  | .pairRequest w standby => Sys2Proof.Machine.execPairRequest w standby s
  | .pair f err => Sys2Proof.Machine.execPair f err s
  | .unpairRequest w => Sys2Proof.Machine.execUnpairRequest w s
  | .resyncRequest w => Sys2Proof.Machine.execResyncRequest w s
  | .logOpen f err => Sys2Proof.Machine.execLogOpen f err s
  | .lines f err => Sys2Proof.Machine.execLines f err s
  | .commitRec f err => Sys2Proof.Machine.execCommitRec f err s
  | .ack f err => Sys2Proof.Machine.execAck f err s
  | .nak f err => Sys2Proof.Machine.execNak f err s
  | .fault f err => Sys2Proof.Machine.execFault f err s
  | .rsLines f err => Sys2Proof.Machine.execRsLines f err s
  | .rsDone f err => Sys2Proof.Machine.execRsDone f err s
  | .snCountClear w => Sys2Proof.Machine.execSnCountClear w s
  | .ident f => Sys2Proof.Machine.execIdent f s
  | .chal f => Sys2Proof.Machine.execChal f s
  | .unlock f => Sys2Proof.Machine.execUnlock f s
  | .read f => Sys2Proof.Machine.execRead f s
  | .write f => Sys2Proof.Machine.execWrite f s
  | .stateReadSteal found => Sys2Proof.Machine.execStateReadSteal found s
  | .halt f => Sys2Proof.Machine.execHalt f s
  | .resume f => Sys2Proof.Machine.execResume f s
  | .step f => Sys2Proof.Machine.execStep f s
  | .itr f => Sys2Proof.Machine.execItr f s
  | .snap f => Sys2Proof.Machine.execSnap f s
  | .vt f => Sys2Proof.Machine.execVt f s
  | .svc f => Sys2Proof.Machine.execSvc f s
  | .dbgHalt w mask => Sys2Proof.Machine.execDbgHalt w mask s
  | .dbgResume w mask => Sys2Proof.Machine.execDbgResume w mask s
  | .dbgStep w b => Sys2Proof.Machine.execDbgStep w b s
  | .dbgItr w v => Sys2Proof.Machine.execDbgItr w v s
  | .unlockRequest w level => Sys2Proof.Machine.execUnlockRequest w level s
  | .challengeRead w => Sys2Proof.Machine.execChallengeRead w s
  | .lifecycleChange lc => Sys2Proof.Machine.execLifecycleChange lc s
  | .vtxWrite w v => Sys2Proof.Machine.execVtxWrite w v s
  | .vrxRead w => Sys2Proof.Machine.execVrxRead w s
  | .traceSoft w v => Sys2Proof.Machine.execTraceSoft w v s
  | .traceClear w v => Sys2Proof.Machine.execTraceClear w v s
  | .timebaseStep => Sys2Proof.Machine.execTimebaseStep s
  | .ppsCapture => Sys2Proof.Machine.execPpsCapture s
  | .lineCrossing => Sys2Proof.Machine.execLineCrossing s
  | .trackerTimeout => Sys2Proof.Machine.execTrackerTimeout s
  | .trackerHoldExpiry => Sys2Proof.Machine.execTrackerHoldExpiry s
  | .linePhaseWrap => Sys2Proof.Machine.execLinePhaseWrap s
  | .commitStart => Sys2Proof.Machine.execCommitStart s
  | .editWindowOpen => Sys2Proof.Machine.execEditWindowOpen s
  | .checkpointWriteDone => Sys2Proof.Machine.execCheckpointWriteDone s
  | .serviceSample => Sys2Proof.Machine.execServiceSample s
  | .syncTimeout => Sys2Proof.Machine.execSyncTimeout s
  | .electionTimeout => Sys2Proof.Machine.execElectionTimeout s
  | .rttTimeout => Sys2Proof.Machine.execRttTimeout s
  | .hbInterval => Sys2Proof.Machine.execHbInterval s
  | .heartbeatMiss => Sys2Proof.Machine.execHeartbeatMiss s
  | .pairInterval => Sys2Proof.Machine.execPairInterval s
  | .logTransmit => Sys2Proof.Machine.execLogTransmit s
  | .cycleApply => Sys2Proof.Machine.execCycleApply s
  | .applyComplete => Sys2Proof.Machine.execApplyComplete s
  | .lockedTimeout => Sys2Proof.Machine.execLockedTimeout s
  | .psenseFall => Sys2Proof.Machine.execPsenseFall s
  | .psenseWaitTimeout => Sys2Proof.Machine.execPsenseWaitTimeout s
  | .takeoverCommit => Sys2Proof.Machine.execTakeoverCommit s
  | .logEntryDurable => Sys2Proof.Machine.execLogEntryDurable s
  | .logSearchDone => Sys2Proof.Machine.execLogSearchDone s
  | .lighthouseExpiry => Sys2Proof.Machine.execLighthouseExpiry s
  | .hostReset => Sys2Proof.Machine.execHostReset s
  | .hostResetRelease => Sys2Proof.Machine.execHostResetRelease s
  | .ndoucIdleTimeout => Sys2Proof.Machine.execNdoucIdleTimeout s
  | .uartGapTimeout => Sys2Proof.Machine.execUartGapTimeout s
  | .resumeInstant => Sys2Proof.Machine.execResumeInstant s
  | .stepDone => Sys2Proof.Machine.execStepDone s
  | .itrDone => Sys2Proof.Machine.execItrDone s
  | .supplyRise => Sys2Proof.Machine.execSupplyRise s
  | .supplyGood => Sys2Proof.Machine.execSupplyGood s
  | .resetRelease => Sys2Proof.Machine.execResetRelease s
  | .resetNReset => Sys2Proof.Machine.execResetNReset s
  | .dozeEntry => Sys2Proof.Machine.execDozeEntry s
  | .deepSleepEntry => Sys2Proof.Machine.execDeepSleepEntry s
  | .wakeComplete => Sys2Proof.Machine.execWakeComplete s
  | .dividerChange => Sys2Proof.Machine.execDividerChange s
  | .relockSwitch => Sys2Proof.Machine.execRelockSwitch s
  | .relockPllReset => Sys2Proof.Machine.execRelockPllReset s
  | .relockReturn => Sys2Proof.Machine.execRelockReturn s
  | .relockTimeout => Sys2Proof.Machine.execRelockTimeout s
  | .thermalPowerOff => Sys2Proof.Machine.execThermalPowerOff s
  | .governorPeriod => Sys2Proof.Machine.execGovernorPeriod s
  | .resyncTransmit => Sys2Proof.Machine.execResyncTransmit s

end Sys2Proof.Machine
end

