-- ==== Sys2Proof/Machine/Idle.lean ====
section
/-! DEFINITION. What passes on its own: one edge of the timebase clock, and the start of the boot ROM. -/

namespace Sys2Proof.Machine

/-- One TCLK cycle ends: the trace buffer has accepted three units, one per MCLK (R500), and the engines' own time passes (R244); then its
edge comes (R318, R319, R324, R448), with the pin edges of the commits scheduled for it (R358); the read-back of the pads has followed what
drives them, and a capture that has outrun the manifest store ends (R363); at the first after a release into SERVICE come the boot ROM's
first steps and the first read of an image (R468); the monitor takes what the UART holds (R478). Nothing counts in OFF, RAMP and RESET. -/
def Device.idle (d : Device) : Device :=
  if d.isolated then d
  else
    let d1 := d.actAgain
    let n := d1.eclkEdges
    let d2 := if d1.flag Reg.CLK_STAT 2 then d1.draw else d1
    (((((((if d2.qsp.boot then d2.bootRom.sendImage else d2).traceDrain n).engIdle n).tclk.cclkTick).boscTick).cmpTick).pinEdges)
      |>.settlePads.captureRoom.writesIdle.uartServe

end Sys2Proof.Machine
end

