-- ==== Sys2Proof/Machine/Step.lean ====
section
/-! DEFINITION. One step of the block: the command at the front of the queue, or, on an empty queue, one edge of the timebase clock. -/

namespace Sys2Proof.Machine

/-- A step with a command at the front: its meaning, on the rest of the queue. On an empty queue time passes (DESIGN CHOICE,
notes/assumptions/2.md). -/
def step (s : State) : Host.Outcome State Fault Refusal :=
  match s.pending with
  | c :: r => exec c { s with pending := r }
  | [] => s.upd Device.idle

/-- The command that a word spells goes to the front of the queue. No row of the table has bits, so no word spells one and the
state stands. -/
def State.withFetchWord (s : State) (nbits w : Nat) : State :=
  match decodeTableWord nbits w with
  | some c => { s with pending := c :: s.pending }
  | none => s

end Sys2Proof.Machine
end

