-- ==== Sys2Proof/Safety.lean ====
section
/-! DEFINITION. What a claim takes a safe state and a safe run to be: the canonical form of memory, a command that completes, and a berth
that stands ready to issue. -/

namespace Sys2Proof

/-- Bytes of the instruction that a fetch delivers (R113). -/
def Site.len (i : Site) : Nat := if i.short then 2 else 4

/-- The berth of an instruction. -/
def Site.b (i : Site) : Nat := i.berth.toNat

end Sys2Proof

namespace Sys2Proof.Machine

/-- The memory keeps its canonical form: addresses rising, and no entry equal to the zero that an unlisted address reads as. -/
def Memory.wf (m : MemSys) : Bool := Store.wf m.bytes fun _ => (0 : Byte)

/-- A command runs: its step answers a next state. -/
def Runs (s : State) : Prop := ∃ t, step s = .next t

/-- A command completes: its meaning answers a next state, which keeps the waiting commands and the configuration, and whose device
has a property. -/
def Completes (i : Instr) (s : State) (P : Device → Prop) : Prop :=
  ∃ t, exec i s = .next t ∧ t.pending = s.pending ∧ t.dev.cfg = s.dev.cfg ∧ P t.dev

/-- The words that hold an instruction's halfwords have no error (R169). -/
def Device.codeClean (d : Device) (b pc len : Nat) : Bool :=
  (fetchAddrs pc len).all fun a => match (d.placeFor b a).global with
    | some g => d.eccAt g == .clean
    | none => true

/-- A berth stands at an instruction boundary where its next instruction issues and nothing else happens: it may issue (R31), no
interrupt or store fault is to be taken (R93, R100), no load is in flight (R49) and no stack word waits for a store-buffer entry (R45), its
fetch is on chip or has come (R463), raises nothing and breaks no timing (R50, R96), its twin agrees (R57), and no comparator or trace
watches it (R494, R498). -/
def Device.ready (d : Device) (i : Site) : Bool :=
  let x := d.berth i.b
  d.mayIssue i.b && x.faults.isEmpty && (d.interruptLine i.b).isNone && x.loads.isEmpty && x.writes.isEmpty && !d.watched &&
  (d.fetchExc i.b x.pl x.pc.toNat i.len).isNone && d.codeClean i.b x.pc.toNat i.len &&
  (d.beatsWanted i.b (fetchAddrs x.pc.toNat i.len)).isEmpty && !d.twinDiffers i.b &&
  (!d.timed i.b || !d.fetchBreach i.b x.pc.toNat)

/-- A berth would stand ready if no load of it were in flight. -/
def Device.readyButLoads (d : Device) (i : Site) : Bool := (d.setBerth i.b { d.berth i.b with loads := [] }).ready i

/-- What the instruction at the boundary knows of its place. -/
def Device.ctx (d : Device) (i : Site) : Ctx := ⟨i.b, (d.berth i.b).pc.toNat, i.len, (d.berth i.b).pl, false⟩

/-- Only berth b, the peak of MEM_INFLT, the debugger's own record of a step and the berth's place among those that wait for a queue
entry (R45) have changed: every other berth and register, the memories and every other part of the device stand. -/
def Device.OnlyBerth (d : Device) (b : Nat) (e : Device) : Prop :=
  (∀ c, c ≠ b → e.berth c = d.berth c) ∧ (∀ off, off ≠ Reg.MEM_INFLT → e.rd off = d.rd off) ∧
  e = { d with
    regs := e.regs, berths := e.berths
    dbg := { d.dbg with steps := e.dbg.steps, extra := e.dbg.extra }
    car := { d.car with needLoad := d.car.needLoad.filter (· != b), needStore := d.car.needStore.filter (· != b) } }

/-- Every byte of memory reads as before. -/
def Device.SameBytes (d e : Device) : Prop := ∀ a, e.byte a = d.byte a

/-- The berth after an issue: what it held for that instruction alone has ended (R54, R463). -/
def Berth.issued (x : Berth) : Berth := { x with woke := none, reads := [] }

/-- The berth at its next instruction, with the zero-overhead loops (R127): what an instruction of some length leaves of it that
transfers no control and has no other effect. -/
def Berth.goesOn (x : Berth) (i : Site) : Berth := (x.advance x.pc.toNat i.len Effect.next).issued

/-- The berth at an address it goes on to without a transfer of control. -/
def Berth.movesTo (x : Berth) (t : Nat) : Berth := { x.issued with pc := BitVec.ofNat 50 t, shadow := none }

/-- The berth at the target of a transfer of control, from which it fetches anew (R176). -/
def Berth.goesTo (x : Berth) (t : Nat) : Berth := { x.movesTo t with beats := [], badBeat := none }

/-- An instruction leaves the berth as given, and nothing else of the device. -/
def Device.Leaves (d : Device) (i : Site) (y : Berth) (e : Device) : Prop := e.berth i.b = y ∧ d.OnlyBerth i.b e

/-- The berth that goes on with one register written. -/
def Berth.wrote (x : Berth) (i : Site) (rd : Reg5) (v : Word) : Berth :=
  { x.goesOn i with gpr := (x.setPhys (physReg x.cwp rd.toNat) v).gpr }

end Sys2Proof.Machine
end

