-- ==== Sys2Proof/Certificates/Slice0/Obligations.lean ====
section
/-! DEFINITION. The statements for the provers, from the numbered rules of the spec. What several of them share stands first. -/

open Sys2Proof Sys2Proof.Machine

/-! ### What several families share -/

namespace Sys2Proof.Claims

/-- Of the registers, only those of the list change. -/
def onlyRegs (d e : Device) (offs : List Nat) : Prop := ∀ o, o ∉ offs → e.rd o = d.rd o

/-- Every berth stands. -/
def sameBerths (d e : Device) : Prop := ∀ b, e.berth b = d.berth b

/-- R437, R438, R445: the first event of a source whose reaction is none, of base class c (1 MINOR to 2 SEVERE), with room in the log:
both counts, the class, and one log entry behind the others. -/
def logged (d : Device) (n detail flags : Nat) (e : Device) : Prop :=
  let st := Reg.RMS_STATN n
  let c := d.fld (Reg.RMS_CFG n) 0 2
  e.fld st 8 8 = 1 ∧ e.fld st 16 16 = min (d.fld st 16 16 + 1) 0xFFFF ∧ e.rmsClass n = max (d.rmsClass n) (c + 1) ∧
  e.rms.queue = d.rms.queue ++ [.entry n (c + 1) 0 flags 1 d.mode.code detail d.tbNow] ∧ e.mode = d.mode

/-- Such an event alone: the berths and the memories stand. -/
def classified (d : Device) (n detail flags : Nat) (e : Device) : Prop :=
  logged d n detail flags e ∧ sameBerths d e ∧ e.mem = d.mem

/-- The source exists here and is enabled, has a class that is logged and no reaction, and has had no event in its window. -/
abbrev quietSource (d : Device) (n : Nat) : Prop :=
  let cfg := Reg.RMS_CFG n
  rmsExists n = true ∧ d.rmsHere n = true ∧ n ≠ 0x3A ∧ n ≠ 0x3E ∧ d.flag cfg 12 = true ∧ (d.fld cfg 0 2 = 1 ∨ d.fld cfg 0 2 = 2) ∧
    d.fld cfg 4 3 = 0 ∧ 2 ≤ d.fld cfg 16 8 ∧
  d.fld (Reg.RMS_STATN n) 8 8 = 0 ∧ (d.rms.queue.filter fun i => i != LogItem.count).length < 32

end Sys2Proof.Claims

open Sys2Proof.Claims

/-! ### The queue and reset -/

/-- A step with a command in front is that command's meaning on the rest of the queue. -/
def Obligations.StepRunsFront : Prop :=
  ∀ (c : Instr) (s : State), step { s with pending := c :: s.pending } = exec c s

/-! ### Integer instructions (R118, R119) -/

namespace Sys2Proof.Claims

/-- Leading zeros of a word, 32 for zero. -/
def leading (a : Word) : Nat := if a = 0 then 32 else 31 - Nat.log2 a.toNat

/-- Table 4.4: the instructions of three registers with their functions. -/
def aluTable : List ((Site → Reg5 → Reg5 → Reg5 → Instr) × (Word → Word → Word)) := [
  (.add, fun a b => a + b),
  (.sub, fun a b => a - b),
  (.and, fun a b => a &&& b),
  (.or, fun a b => a ||| b),
  (.xor, fun a b => a ^^^ b),
  (.andn, fun a b => a &&& ~~~b),
  (.sll, fun a b => a <<< (b.toNat % 32)),
  (.srl, fun a b => a >>> (b.toNat % 32)),
  (.sra, fun a b => a.sshiftRight (b.toNat % 32)),
  (.slt, fun a b => if a.slt b then 1 else 0),
  (.sltu, fun a b => if a.ult b then 1 else 0),
  (.min, fun a b => if a.slt b then a else b),
  (.max, fun a b => if a.slt b then b else a),
  (.minu, fun a b => if a.ult b then a else b),
  (.maxu, fun a b => if a.ult b then b else a),
  (.mul, fun a b => a * b),
  (.mulh, fun a b => (a.signExtend 64 * b.signExtend 64).extractLsb' 32 32),
  (.mulhu, fun a b => (a.zeroExtend 64 * b.zeroExtend 64).extractLsb' 32 32),
  (.ror, fun a b => a.rotateRight (b.toNat % 32))]

/-- The immediate forms of R119 with a sign-extended 14-bit immediate. -/
def immTable : List ((Site → Reg5 → Reg5 → BitVec 14 → Instr) × (Word → Word → Word)) := [
  (.addi, fun a b => a + b),
  (.andi, fun a b => a &&& b),
  (.ori, fun a b => a ||| b),
  (.xori, fun a b => a ^^^ b),
  (.slti, fun a b => if a.slt b then 1 else 0),
  (.sltiu, fun a b => if a.ult b then 1 else 0)]

/-- The shifts by an amount in the instruction. -/
def shiftTable : List ((Site → Reg5 → Reg5 → Reg5 → Instr) × (Word → Nat → Word)) := [
  (.slli, fun a n => a <<< n),
  (.srli, fun a n => a >>> n),
  (.srai, fun a n => a.sshiftRight n),
  (.rori, fun a n => a.rotateRight n)]

/-- The field of R119's BF: (rs1 >> pos) and m, for a length of len1 + 1. -/
def field (a pos len1 : Nat) : Nat := a / 2 ^ pos % 2 ^ (len1 + 1)

end Sys2Proof.Claims

/-- R118, R119: rd takes the function of its operands in every instruction of three registers, in CLZ, the immediate forms, LUI and the
shifts by an immediate; g0 keeps zero, the berth goes on, and nothing else changes.
It rests on choices of the model: notes/assumptions/58.md. -/
def Obligations.IntegerResults : Prop :=
  (∀ (s : State) (i : Site) (rd rs1 rs2 : Reg5), s.dev.ready i = true → ∀ q ∈ aluTable,
    Completes (q.1 i rd rs1 rs2) s fun e =>
      let x := s.dev.berth i.b
      let v := q.2 (x.operand rs1.toNat) (x.operand rs2.toNat)
      s.dev.Leaves i (x.wrote i rd v) e ∧ (e.berth i.b).reg rd.toNat = if rd = 0 then 0 else v) ∧
  ∀ (s : State) (i : Site) (rd rs1 : Reg5), s.dev.ready i = true →
    let x := s.dev.berth i.b
    let a := x.operand rs1.toNat
    let writes (c : Instr) (v : Word) : Prop := Completes c s fun e =>
      s.dev.Leaves i (x.wrote i rd v) e ∧ (e.berth i.b).reg rd.toNat = if rd = 0 then 0 else v
    writes (.clz i rd rs1) (BitVec.ofNat 32 (leading a)) ∧
    (∀ q ∈ immTable, ∀ m : BitVec 14, writes (q.1 i rd rs1 m) (q.2 a (m.signExtend 32))) ∧
    (∀ q ∈ shiftTable, ∀ n : Reg5, writes (q.1 i rd rs1 n) (q.2 a n.toNat)) ∧
    ∀ u : BitVec 19, writes (.lui i rd u) (u.zeroExtend 32 <<< 13)

/-- R119: EXTU takes a field, EXTS its sign-extended value, INS puts the low bits of rs1 into a field of rd; R117: C.NOP has no
effect.
It rests on choices of the model: notes/assumptions/58.md. -/
def Obligations.BitFieldResults : Prop :=
  ∀ (s : State) (i : Site) (rd rs1 pos len1 : Reg5), s.dev.ready i = true →
    let x := s.dev.berth i.b
    let a := (x.operand rs1.toNat).toNat
    let writes (c : Instr) (v : Word) : Prop := Completes c s fun e =>
      s.dev.Leaves i (x.wrote i rd v) e ∧ (e.berth i.b).reg rd.toNat = if rd = 0 then 0 else v
    let f := field a pos.toNat len1.toNat
    writes (.extu i rd rs1 pos len1) (BitVec.ofNat 32 f) ∧
    writes (.exts i rd rs1 pos len1)
      (BitVec.ofInt 32 (if 2 ^ len1.toNat ≤ f then (f : Int) - 2 ^ (len1.toNat + 1) else f)) ∧
    (∃ v : Word, writes (.ins i rd rs1 pos len1) v ∧ ∀ k, k < 32 → v.getLsbD k =
      if pos.toNat ≤ k ∧ k ≤ pos.toNat + len1.toNat then (x.operand rs1.toNat).getLsbD (k - pos.toNat)
      else (x.operand rd.toNat).getLsbD k) ∧
    Completes (.cNop i) s fun e => s.dev.Leaves i (x.goesOn i) e

/-! ### Branches, jumps and loops (R84, R117, R124, R125, R127) -/

namespace Sys2Proof.Claims

/-- The compare-and-branch instructions of two registers with their conditions. -/
def branchTable : List ((Site → Reg5 → Reg5 → BitVec 14 → Instr) × (Word → Word → Bool)) := [
  (.beq, fun a b => a == b),
  (.bne, fun a b => a != b),
  (.blt, fun a b => a.slt b),
  (.bge, fun a b => !a.slt b),
  (.bltu, fun a b => a.ult b),
  (.bgeu, fun a b => !a.ult b)]

/-- The branches that compare a register with a sign-extended 5-bit immediate. -/
def branchImmTable : List ((Site → Reg5 → BitVec 5 → BitVec 14 → Instr) × (Word → Word → Bool)) := [
  (.beqi, fun a b => a == b),
  (.bnei, fun a b => a != b),
  (.blti, fun a b => a.slt b),
  (.bgei, fun a b => !a.slt b)]

/-- PC + disp × 2 modulo 2^32 under PC[49:32] (R84). -/
def relative (pc : Addr) (disp : Int) : Nat := pc.toNat / 2 ^ 32 * 2 ^ 32 + (((pc.toNat : Int) + 2 * disp) % 2 ^ 32).toNat

/-- A branch leaves the berth at its target where its condition holds, and else at its next instruction. -/
def branches (s : State) (i : Site) (c : Instr) (taken : Bool) (disp : BitVec 14) : Prop :=
  let x := s.dev.berth i.b
  Completes c s fun e => s.dev.Leaves i (if taken then x.goesTo (relative x.pc disp.toInt) else x.goesOn i) e

end Sys2Proof.Claims

/-- R84, R124, R125: a branch goes to PC + disp × 2 when its condition holds, JMP always, and JMPR to the register under its bank where
bit 0 of the target is 0; none writes a register or memory.
It rests on choices of the model: notes/assumptions/58.md. -/
def Obligations.TransfersGoWhereTheySay : Prop :=
  (∀ (s : State) (i : Site) (rs1 rs2 : Reg5) (m : BitVec 5) (disp : BitVec 14), s.dev.ready i = true →
    let x := s.dev.berth i.b
    let a := x.operand rs1.toNat
    (∀ q ∈ branchTable, branches s i (q.1 i rs1 rs2 disp) (q.2 a (x.operand rs2.toNat)) disp) ∧
    (∀ q ∈ branchImmTable, branches s i (q.1 i rs1 m disp) (q.2 a (m.signExtend 32)) disp) ∧
    branches s i (.bbs i rs1 m disp) (a.getLsbD m.toNat) disp ∧
    branches s i (.bbc i rs1 m disp) (!a.getLsbD m.toNat) disp) ∧
  ∀ (s : State) (i : Site) (rt : Reg5) (bk : BitVec 2) (disp : BitVec 24), s.dev.ready i = true →
    let x := s.dev.berth i.b
    let t := x.srN (12 + bk.toNat) * 2 ^ 32 + (x.operand rt.toNat).toNat
    (Completes (.jmp i disp) s fun e => s.dev.Leaves i (x.goesTo (relative x.pc disp.toInt)) e) ∧
    (t % 2 = 0 → Completes (.jmpr i rt bk) s fun e => s.dev.Leaves i (x.goesTo t) e)

/-- R127: LOOP and LOOPI set the start, the end and the count of a level, and a count of zero skips the body; at the end of a level with a
count of more than 1 the count goes down and the berth goes back to the start; where no count is left the berth goes on.
It rests on choices of the model: notes/assumptions/58.md. -/
def Obligations.LoopsRepeat : Prop :=
  (∀ (s : State) (i : Site) (n : BitVec 2) (rs1 : Reg5) (k : BitVec 8) (disp : BitVec 14), s.dev.ready i = true →
    let x := s.dev.berth i.b
    let fin := relative x.pc disp.toInt
    let sets (c : Instr) (count : Word) : Prop := Completes c s fun e =>
      let y := ((x.setSr (24 + n.toNat) ((x.pc.toNat + 4) % 2 ^ 32)).setSr (28 + n.toNat) (fin % 2 ^ 32)).setSr (32 + n.toNat)
        count.toNat
      s.dev.Leaves i (if count = 0 then y.goesTo fin else y.goesOn i) e
    sets (.loop i n rs1 disp) (x.operand rs1.toNat) ∧ sets (.loopi i n k disp) (k.zeroExtend 32)) ∧
  (∀ (x : Berth) (i : Site) (n : BitVec 2),
    let next := (x.pc.toNat + i.len) % 2 ^ 32
    x.srN (28 + n.toNat) = next → 1 < x.srN (32 + n.toNat) → (∀ m : BitVec 2, n < m → x.srN (32 + m.toNat) = 0) →
    x.goesOn i = (x.setSr (32 + n.toNat) (x.srN (32 + n.toNat) - 1)).movesTo (x.pc.toNat / 2 ^ 32 * 2 ^ 32 + x.srN (24 + n.toNat))) ∧
  ∀ (x : Berth) (i : Site), (∀ m : BitVec 2, x.srN (32 + m.toNat) = 0) →
    x.goesOn i = x.movesTo (x.pc.toNat / 2 ^ 32 * 2 ^ 32 + (x.pc.toNat + i.len) % 2 ^ 32)

/-! ### Loads and stores (R80, R81, R83, R121, R123, R528) -/

namespace Sys2Proof.Claims

/-- The loads with a memory operand: bytes and sign extension. -/
def loadTable : List ((Site → Reg5 → Mem → Instr) × Nat × Bool) :=
  [(.lb, 1, true), (.lbu, 1, false), (.lh, 2, true), (.lhu, 2, false), (.lw, 4, false)]

/-- The stores with a memory operand and their bytes. -/
def storeTable : List ((Site → Reg5 → Mem → Instr) × Nat) := [(.sb, 1), (.sh, 2), (.sw, 4)]

/-- The effective address of a memory operand: {BANK[BK][17:0], rs1 + sext(s12)} (R121), or the direct page (R81, R117). -/
def address (x : Berth) : Mem → Nat
  | .base rs1 disp bk => x.srN (12 + bk.toNat) * 2 ^ 32 + (x.operand rs1.toNat + disp.signExtend 32).toNat
  | .page u6 => x.srN 12 * 2 ^ 32 + (x.srN 9 / 256 * 256 + 4 * u6.toNat) % 2 ^ 32

/-- The address of LWI and SWI: {BANK3[17:0], INST + u19 × 4}. -/
def instAddress (x : Berth) (u : BitVec 19) : Nat := x.srN 15 * 2 ^ 32 + (x.srN 11 + 4 * u.toNat) % 2 ^ 32

/-- An access of berth b to an address is permitted, and lies at global address g of a memory whose word is not uncorrectable. A timed
berth keeps to its own tile SRAM (R50). -/
def reaches (d : Device) (b a n : Nat) (write : Bool) (g : Nat) : Prop :=
  ∃ p, d.access b (d.berth b).pl a n write = .ok p ∧ p.global = some g ∧ d.eccAt g ≠ .uncorrectable ∧
    (d.timed b = false ∨ placeBreach b p = 0)

/-- A load issues: its entry goes into the load queue, and its destination is in the load-delay position. -/
def loads (s : State) (i : Site) (c : Instr) (rd : Reg5) (a n : Nat) (signed : Bool) : Prop :=
  let x := s.dev.berth i.b
  ∀ g, s.dev.loadFree i.b = true → reaches s.dev i.b a n false g →
    Completes c s fun e => s.dev.Leaves i { x.goesOn i with
      loads := [⟨if rd = 0 then none else some (physReg x.cwp rd.toNat), .memory a n signed, x.pc, x.seq, none, false⟩]
      seq := x.seq + 1
      shadow := some (physReg x.cwp rd.toNat, x.reg rd.toNat) } e

/-- A store issues: its entry goes into the store buffer with the low bytes of the register. -/
def stores (s : State) (i : Site) (c : Instr) (r : Reg5) (a n : Nat) : Prop :=
  let x := s.dev.berth i.b
  ∀ g, s.dev.storeFree i.b = true → reaches s.dev i.b a n true g →
    Completes c s fun e => s.dev.Leaves i { x.goesOn i with
      stores := x.stores ++ [⟨a, n, (x.operand r.toNat).toNat % 2 ^ (8 * n), x.seq, x.pl, false⟩]
      seq := x.seq + 1 } e

end Sys2Proof.Claims

/-- R121, R83: every load and store forms its address; a load enters the load queue and its destination keeps its value until it returns,
and a store enters the store buffer with the low 8, 16 or 32 bits of its register. (The halfword 0x0000, which would be a short load, is
ILLEGAL: ExceptionsAndInterruptsEnter.)
It rests on choices of the model: notes/assumptions/58.md. -/
def Obligations.AccessesEnterTheirQueues : Prop :=
  (∀ (s : State) (i : Site) (rd : Reg5), s.dev.ready i = true →
    let x := s.dev.berth i.b
    (∀ q ∈ loadTable, ∀ m : Mem, (i.short = true → zeroHalf rd m = false) → loads s i (q.1 i rd m) rd (address x m) q.2.1 q.2.2) ∧
    ∀ u : BitVec 19, loads s i (.lwi i rd u) rd (instAddress x u) 4 false) ∧
  ∀ (s : State) (i : Site) (r : Reg5), s.dev.ready i = true →
    let x := s.dev.berth i.b
    (∀ q ∈ storeTable, ∀ m : Mem, stores s i (q.1 i r m) r (address x m) q.2) ∧
    ∀ u : BitVec 19, stores s i (.swi i r u) r (instAddress x u) 4

namespace Sys2Proof.Claims

/-- The first of the exception registers of a level (Table 3.5): EPCL, EPCH, ESTAT, ECAUSE, EADDRL, EADDRH, EVBL, EVBH. -/
def level (t : Nat) : Nat := if t = 1 then 40 else 56

/-- The berth stands at a boundary from which an exception enters level t without a spill: the level's EXL is 0 and the window has a
frame left. -/
abbrev enters (d : Device) (i : Site) (t : Nat) : Prop :=
  let x := d.berth i.b
  d.ready i = true ∧ x.stores = [] ∧ x.nres < 5 ∧ bitOf (x.srN 0) (2 + t) = false

/-- R97: what an exception's entry to level t leaves. EPC, ESTAT, ECAUSE (code, subcode, line) and EADDR are saved, PSR has PL = t,
IE = 0 and EXL = 1, the window has slid, the PC is the handler's, and every other register and every byte of memory stands. -/
def enteredWith (d : Device) (i : Site) (t code sub line epc addr : Nat) (e : Device) : Prop :=
  let x := d.berth i.b
  let y := e.berth i.b
  let k := level t
  y.srPair k = epc ∧ y.srN (k + 2) = x.srN 0 ∧ y.srN (k + 3) = code + 2 ^ 8 * sub + 2 ^ 16 * line ∧ y.srPair (k + 4) = addr ∧
  bitsOf (y.srN 0) 0 2 = t ∧ bitOf (y.srN 0) 2 = false ∧ bitOf (y.srN 0) (2 + t) = true ∧
  y.pc = BitVec.ofNat 50 (x.srPair (k + 6) + 0x40 * code) ∧
  y.cwp = (x.cwp + 1) % 6 ∧ y.nres = x.nres + 1 ∧ y.gpr = x.gpr ∧ y.wait = .none ∧ y.shadow = none ∧
  (∀ n, n ≠ 0 → n ≠ 4 → n < k ∨ k + 5 < n → y.srN n = x.srN n) ∧ d.OnlyBerth i.b e

/-- An entry whose cause has no subcode. -/
abbrev entered (d : Device) (i : Site) (t code line epc addr : Nat) (e : Device) : Prop := enteredWith d i t code 0 line epc addr e

/-- Nothing stands at the address for an access of n bytes at the berth's level, or the access is not permitted there (R85). -/
abbrev noAccess (d : Device) (b a n : Nat) (write : Bool) : Prop := d.access b (d.berth b).pl a n write = .error 4

end Sys2Proof.Claims

/-- R85, R96, R97, R121: a load or a store whose address is no multiple of its bytes raises ALIGN, and one to an address that nothing stands
at, or that does not permit it, ACCESS; ALIGN prevails. Bytes, halfwords and words, at every address outside the control window, the
external region among them: no queue is entered, and the berth enters SUPERVISOR (MONITOR from MONITOR) with the instruction's address in
EPC and the access's in EADDR.
It rests on choices of the model: notes/assumptions/9.md. -/
def Obligations.AccessFaults : Prop :=
  ∀ (s : State) (i : Site) (rd : Reg5) (m : Mem) (u : BitVec 19) (t code : Nat), enters s.dev i t →
    let d := s.dev
    let x := d.berth i.b
    let traps (c : Instr) (a : Nat) : Prop := Completes c s fun e => entered d i t code 0 x.pc.toNat a e
    let faulty (a n : Nat) (write : Bool) : Prop :=
      inWindow a = false ∧ (code = 3 ∧ a % n ≠ 0 ∨ code = 4 ∧ a % n = 0 ∧ noAccess d i.b a n write)
    t = (if x.pl = 2 then 2 else 1) →
      (∀ q ∈ loadTable, (i.short = true → zeroHalf rd m = false) → faulty (address x m) q.2.1 false →
        traps (q.1 i rd m) (address x m)) ∧
      (∀ q ∈ storeTable, faulty (address x m) q.2 true → traps (q.1 i rd m) (address x m)) ∧
      (faulty (instAddress x u) 4 false → traps (.lwi i rd u) (instAddress x u)) ∧
      (faulty (instAddress x u) 4 true → traps (.swi i rd u) (instAddress x u))

/-- R49: the instruction in the load-delay position reads the old value of the load's destination, and every other register as it stands.
R121, R123, R173: a load whose turn has come delivers the bytes of memory, sign- or zero-extended, to its destination and leaves the
queue; g0 discards them. Memory reads as before. R528, R163: a store whose turn has come writes its bytes to memory and leaves the store
buffer; every other byte of memory reads as before. The word it writes is no tracked bollard (R185) and holds no error.
It rests on choices of the model: notes/assumptions/9.md. -/
def Obligations.AccessesComplete : Prop :=
  (∀ (x : Berth) (p : Nat) (old : Word) (r : Reg5), x.shadow = some (p, old) →
    x.operand r.toNat = if r = 0 then 0 else if physReg x.cwp r.toNat = p then old else x.reg r.toNat) ∧
  (∀ (s : State) (b : BitVec 9) (k : BitVec 6) (e : LoadEntry) (a n : Nat) (sg : Bool) (g : Nat),
    let d := s.dev
    let x := d.berth b.toNat
    x.loads[k.toNat]? = some e → e.src = .memory a n sg → n = 1 ∨ n = 2 ∨ n = 4 → (x.loads.filter fun f => f.seq = e.seq) = [e] →
    d.loadReady b.toNat e = true → (d.placeFor b.toNat a).global = some g → d.eccAt g = .clean → d.parkAsked b.toNat = false →
    d.watched = false →
    Completes (.loadReturn b k) s fun t =>
      let y := t.berth b.toNat
      let v := if sg then BitVec.ofInt 32 (signedOf (8 * n) (d.value g n)) else BitVec.ofNat 32 (d.value g n)
      (∀ p, y.phys p = if p ≠ 0 ∧ e.dest = some p then v else x.phys p) ∧
      y.loads.map LoadEntry.seq = (x.loads.filter fun f => f.seq != e.seq).map LoadEntry.seq ∧
      y.sr = x.sr ∧ y.pc = x.pc ∧ y.stores = x.stores ∧ y.wait = x.wait ∧
      (∀ c, c ≠ b.toNat → t.berth c = d.berth c) ∧ t = { d with berths := t.berths }) ∧
  ∀ (s : State) (b : BitVec 9) (k : BitVec 6) (st : StoreEntry) (g : Nat),
    let d := s.dev
    let x := d.berth b.toNat
    x.stores[k.toNat]? = some st → st.size = 1 ∨ st.size = 2 ∨ st.size = 4 → st.addr % st.size = 0 → d.storeReady b.toNat st = true →
    (d.placeFor b.toNat st.addr).global = some g → d.eccAt g = .clean → d.tracked (g / 4 * 4) = none →
    Completes (.storePerformed b k) s fun t =>
      (∀ a, t.byte a = if g ≤ a ∧ a < g + st.size then BitVec.ofNat 8 (st.value / 256 ^ (a - g)) else d.byte a) ∧
      (t.berth b.toNat).stores = (x.stores.filter fun f => f.seq != st.seq) ∧ (t.berth b.toNat).gpr = x.gpr ∧
      (t.berth b.toNat).sr = x.sr ∧ (t.berth b.toNat).pc = x.pc ∧ (t.berth b.toNat).loads = x.loads ∧
      (∀ c, c ≠ b.toNat → t.berth c = d.berth c) ∧ t.bol = d.bol ∧ t.eng = d.eng ∧ t.scn = d.scn

/-! ### Calls and returns (R71 to R79, R126) -/

namespace Sys2Proof.Claims

/-- The 16 bytes from an address lie in a memory at global address g, hold no error and no tracked bollard, and the berth may access
them at its level. -/
def recordAt (d : Device) (b off : Nat) (write : Bool) (g : Nat) : Prop :=
  let x := d.berth b
  (∀ k, k < 4 → ∃ p, d.access b x.pl (x.stackAddr (off + 4 * k)) 4 write = .ok p ∧ p.global = some (g + 4 * k)) ∧
  (∀ k, k < 16 → d.eccAt (g + k) = .clean ∧ (write = true → d.tracked (g + k) = none)) ∧
  (d.timed b = false ∨ d.stackBreach b off = 0)

/-- The same of the 16 words of a frame (R72). -/
def frameAt (d : Device) (b off : Nat) (write : Bool) (h : Nat) : Prop :=
  ∀ q, q < 4 → recordAt d b (off + 16 * q) write (h + 16 * q)

/-- The bytes of a call record (Table 3.2). -/
def recordBytes (x : Berth) (ret : Nat) (fb : Bool) : List Byte :=
  leBytes 4 ret ++ leBytes 4 (frameWord ret fb) ++ leBytes 4 (x.srN 11) ++ leBytes 4 (x.srN 15)

/-- The bytes of frame f as the spill writes them, a0 to k7 (R72). -/
def frameBytes (x : Berth) (f : Nat) : List Byte := (List.range 16).flatMap fun k => leBytes 4 (x.phys (8 + 16 * f + k)).toNat

/-- A byte of memory with the bytes `bs` written from g on. -/
def overlay (g : Nat) (bs : List Byte) (old : Nat → Byte) (a : Nat) : Byte := if g ≤ a ∧ a < g + bs.length then bs.getD (a - g) 0 else old a

/-- The berth whose frame f takes sixteen words. -/
def refilled (x : Berth) (f : Nat) (word : Nat → Nat) : Berth :=
  (List.range 16).foldl (fun y k => y.setPhys (8 + 16 * f + k) (BitVec.ofNat 32 (word k))) x

/-- A call to a target: the record of Table 3.2 lies below the old SP, SP names it, a function block's INST and BANK3 are taken, and the
window slides; with NRES 5 the frame it comes to is spilled at WSP, WSP goes on by 64, and SPILLS counts it (R72). -/
def calls (s : State) (i : Site) (c : Instr) (target : Nat) (fb : Option (Word × Word)) : Prop :=
  let d := s.dev
  let x := d.berth i.b
  let sp := (x.operand 7).toNat
  let off := sp - 16
  let wsp := x.srN 5
  let ret := x.pc.toNat / 2 ^ 32 * 2 ^ 32 + (x.pc.toNat + i.len) % 2 ^ 32
  let record := recordBytes x ret fb.isSome
  let y := x.setReg 7 (BitVec.ofNat 32 off)
  let z := match fb with
    | some (inst, bank) => (y.setSr 11 inst.toNat).setSr 15 (bank.toNat % 2 ^ 18)
    | none => y
  let after (w : Berth) (byte : Nat → Byte) : Prop := Completes c s fun e =>
    e.berth i.b = w.goesTo target ∧ (∀ a, e.byte a = byte a) ∧
    (∀ b, b ≠ i.b → e.berth b = d.berth b) ∧ e.bol = d.bol ∧ e.eng = d.eng ∧ e.pad = d.pad ∧ e.scn = d.scn
  ∀ g, x.stores = [] → sp % 16 = 0 → x.srN 8 + 16 ≤ sp → target % 2 = 0 → recordAt d i.b off true g →
    (x.nres < 5 → after (z.setWindow ((x.cwp + 1) % 6) (x.nres + 1)) (overlay g record d.byte)) ∧
    ∀ h, x.nres = 5 → wsp % 8 = 0 → wsp + 64 ≤ x.srN 6 → frameAt d i.b wsp true h →
      let w := (z.setWindow ((x.cwp + 1) % 6) 5).setSr 5 (wsp + 64)
      after (w.setSr 4 (setBits (w.srN 4) 8 16 (min (bitsOf (w.srN 4) 8 16 + 1) 0xFFFF)))
        (overlay h (frameBytes x ((x.cwp + 2) % 6)) (overlay g record d.byte))

/-- What a slide back to the caller leaves of the berth (R73): with NRES 1 the frame is refilled from the 16 words below WSP, which lie at
h, and WSP goes back by 64. -/
def slidBack (d : Device) (x y : Berth) (h : Nat) : Berth :=
  let f := (x.cwp + 5) % 6
  if x.nres = 1 then (refilled (y.setSr 5 (x.srN 5 - 64)) f fun k => d.value (h + 4 * k) 4).setWindow f 1
  else y.setWindow f (x.nres - 1)

/-- The slide back raises nothing. -/
def slidesBack (d : Device) (b h : Nat) : Prop :=
  let x := d.berth b
  1 ≤ x.nres ∧ (x.nres = 1 → x.srN 5 % 8 = 0 ∧ 64 ≤ x.srN 5 ∧ frameAt d b (x.srN 5 - 64) false h)

end Sys2Proof.Claims

/-- R72, R75, R76, R126: the four calls, with a frame left and with a full window, whose oldest frame is spilled. R73, R78, R79: RET goes
to the record's return address, restores INST and BANK3 where the record is a function block's, slides the window back, refilling the
caller's frame where it is no longer in the window file, and frees the record; memory reads as before.
It rests on choices of the model: notes/assumptions/9.md, notes/assumptions/10.md, notes/assumptions/58.md. -/
def Obligations.CallsAndReturns : Prop :=
  (∀ (s : State) (i : Site) (rs1 rs2 rt : Reg5) (bk : BitVec 2) (d24 : BitVec 24) (d14 : BitVec 14), s.dev.ready i = true →
    let x := s.dev.berth i.b
    let t := x.srN (12 + bk.toNat) * 2 ^ 32 + (x.operand rt.toNat).toNat
    let fb := some (x.operand rs1.toNat, x.operand rs2.toNat)
    calls s i (.call i d24) (relative x.pc d24.toInt) none ∧
    calls s i (.callr i rt bk) t none ∧
    calls s i (.callfb i rs1 rs2 d14) (relative x.pc d14.toInt) fb ∧
    calls s i (.callfbr i rs1 rs2 rt bk) t fb) ∧
  ∀ (s : State) (i : Site) (g h : Nat), s.dev.ready i = true →
    let d := s.dev
    let x := d.berth i.b
    let sp := (x.operand 7).toNat
    let lo := d.value g 4
    let frame := d.value (g + 4) 4
    let target := lo + 2 ^ 32 * (frame % 2 ^ 18)
    let fb := bitOf frame 18
    x.stores = [] → slidesBack d i.b h → sp + 16 < 2 ^ 32 → sp % 4 = 0 → recordAt d i.b sp false g →
    frame / 2 ^ 24 = frameCheck lo (frame % 2 ^ 18) fb → target % 2 = 0 →
    Completes (.ret i) s fun e =>
      let y := if fb then (x.setSr 11 (d.value (g + 8) 4)).setSr 15 (d.value (g + 12) 4 % 2 ^ 18) else x
      s.dev.Leaves i (((slidBack d x y h).setReg 7 (BitVec.ofNat 32 (sp + 16))).goesTo target) e

/-- R71: across a slide forward p0 to p7 of the caller are a0 to a7 of the callee and the globals stand; a slide back names the caller's
registers again. -/
def Obligations.WindowsOverlap : Prop :=
  ∀ (x : Berth) (n m : Nat), x.cwp < 6 →
    let y := x.setWindow ((x.cwp + 1) % 6) n
    (∀ r, 24 ≤ r → r < 32 → y.reg (r - 16) = x.reg r) ∧ (∀ r, r < 8 → y.reg r = x.reg r) ∧
    ∀ r, r < 32 → (y.setWindow ((y.cwp + 5) % 6) m).reg r = x.reg r

/-! ### MACX and the image bit operations (R82, R92, R129 to R132) -/

namespace Sys2Proof.Claims

/-- A pointer of MACX after its step: it wraps inside its aligned block of 2^k bytes, or modulo 2^32 where k is 0. -/
def stepped (k size p : Nat) : Nat := if k = 0 then (p + size) % 2 ^ 32 else p / 2 ^ k * 2 ^ k + (p + size) % 2 ^ k

/-- The image bit operations that only write rd, by rd[0] and m. -/
def bitReads : List ((Site → Reg5 → BitName → Instr) × (Bool → Bool → Bool)) := [
  (.bld, fun _ m => m),
  (.bldn, fun _ m => !m),
  (.band, fun r m => r && m),
  (.bandn, fun r m => r && !m),
  (.bor, fun r m => r || m),
  (.born, fun r m => r || !m),
  (.bxor, fun r m => r != m),
  (.bxorn, fun r m => r == m)]

/-- Those that write the image bit: the value, by rd[0] and m; and what those that also write rd write to it. -/
def bitWrites : List ((Site → Reg5 → BitName → Instr) × (Bool → Bool → Bool) × Option (Bool → Bool → Bool)) := [
  (.bst, fun r _ => r, none),
  (.bset, fun r m => r || m, none),
  (.brst, fun r m => !r && m, none),
  (.edgr, fun r _ => r, some fun r m => r && !m),
  (.edgf, fun r _ => r, some fun r m => !r && m)]

/-- The bit an operand names (R82, R117). -/
def bitNumber (x : Berth) : BitName → Nat
  | .base rs1 disp => (x.operand rs1.toNat + disp.signExtend 32).toNat
  | .page u8 => x.srN 10 / 256 * 256 + u8.toNat

/-- The berth after an instruction whose result, known at issue, comes through the load queue. -/
def queued (x : Berth) (i : Site) (rd : Reg5) (v : Word) : Berth :=
  { x.goesOn i with
    loads := [⟨if rd = 0 then none else some (physReg x.cwp rd.toNat), .value v, x.pc, x.seq, none, false⟩]
    seq := x.seq + 1
    shadow := some (physReg x.cwp rd.toNat, x.reg rd.toNat) }

end Sys2Proof.Claims

/-- R92, R129, R130: MACX with a buffer size of Table 4.6 adds (or with CLR takes, with NEG negates) the product of two words of the
berth's tile SRAM into ACC, sets OV where the sum leaves 72 bits, and steps each pointer, one that both operands name twice; g0 stays zero.
Every other register of the window stands, and, unless a timed berth takes both operands from one half, only the berth changes.
It rests on choices of the model: notes/assumptions/12.md, notes/assumptions/14.md, notes/assumptions/58.md. -/
def Obligations.MacxAccumulates : Prop :=
  ∀ (s : State) (i : Site) (rx ry : Reg5) (k : BitVec 4) (wide neg clr : Bool), s.dev.ready i = true → macxSizes k wide = true →
    let d := s.dev
    let x := d.berth i.b
    let n := if wide then 4 else 2
    let p := (x.operand rx.toNat).toNat
    let q := (x.operand ry.toNat).toNat
    let base := sramBase (tileOf i.b)
    x.stores = [] → p % n = 0 → q % n = 0 → p < 0x200000 → q < 0x200000 →
    d.eccAt (base + p) = .clean → d.eccAt (base + q) = .clean →
    Completes (.macx i rx ry k wide neg clr) s fun e =>
      let prod := signedOf (8 * n) (d.value (base + p) n) * signedOf (8 * n) (d.value (base + q) n)
      let sum := (if clr then 0 else x.acc) + (if neg then -prod else prod)
      let ovf := decide (sum < -(2 ^ 71)) || decide (2 ^ 71 ≤ sum)
      let holds (r : Reg5) (v : Nat) : Prop := (e.berth i.b).reg r.toNat = if r = 0 then 0 else BitVec.ofNat 32 v
      (e.berth i.b).acc = signedOf 72 (patternOf 72 sum) ∧
      bitOf ((e.berth i.b).srN 18) 8 = (!clr && (bitOf (x.srN 18) 8 || ovf)) ∧
      (rx ≠ ry → holds rx (stepped k.toNat n p) ∧ holds ry (stepped k.toNat n q)) ∧
      (rx = ry → holds rx (stepped k.toNat n (stepped k.toNat n p))) ∧
      (∀ r, r < 32 → r ≠ rx.toNat → r ≠ ry.toNat → (e.berth i.b).reg r = x.reg r) ∧ (e.berth i.b).pc = (x.goesOn i).pc ∧
      (d.timed i.b = false ∨ bitOf p 20 ≠ bitOf q 20 → d.OnlyBerth i.b e)

/-- R82, R131: the image bit operations that write rd deliver a word of 0 or 1 by rd[0] and the image bit; the image is unchanged. R131,
R132: the image bit operations that write the image change that one bit, and every other bit of memory stands; EDGR and EDGF also deliver
the edge.
It rests on choices of the model: notes/assumptions/12.md, notes/assumptions/14.md, notes/assumptions/58.md. -/
def Obligations.ImageBitAccess : Prop :=
  (∀ (s : State) (i : Site) (rd : Reg5) (n : BitName), s.dev.ready i = true →
    let d := s.dev
    let x := d.berth i.b
    let k := bitNumber x n
    x.stores = [] → d.timed i.b = false → d.loadFree i.b = true → d.bitFault x.pl k false = none → d.eccAt (bitAddr k) = .clean →
    ∀ q ∈ bitReads, Completes (q.1 i rd n) s fun e =>
      s.dev.Leaves i (queued x i rd (if q.2 ((x.operand rd.toNat).getLsbD 0) (d.imageBit k) then 1 else 0)) e) ∧
  ∀ (s : State) (i : Site) (rd : Reg5) (n : BitName), s.dev.ready i = true →
    let d := s.dev
    let x := d.berth i.b
    let k := bitNumber x n
    let r := (x.operand rd.toNat).getLsbD 0
    x.stores = [] → d.timed i.b = false → d.loadFree i.b = true → d.bitFault x.pl k true = none → d.eccAt (bitAddr k) = .clean →
    d.tracked (bitAddr k / 4 * 4) = none →
    ∀ q ∈ bitWrites, Completes (q.1 i rd n) s fun e =>
      (e.berth i.b = match q.2.2 with
        | some f => queued x i rd (if f r (d.imageBit k) then 1 else 0)
        | none => x.goesOn i) ∧
      e.imageBit k = q.2.1 r (d.imageBit k) ∧
      (∀ a, a ≠ bitAddr k → e.byte a = d.byte a) ∧ (∀ j, j ≠ k → e.imageBit j = d.imageBit j) ∧
      (∀ b, b ≠ i.b → e.berth b = d.berth b)

/-! ### Exceptions, system registers and waits (R87 to R98, R139 to R143) -/

namespace Sys2Proof.Claims

/-- Forms of an instruction with a field value that R114, R129, R134, R140, R143 or Table 4.3 makes ILLEGAL. -/
def illegalForm (i : Site) (c : Instr) : Prop :=
  (∃ rx ry k w n l, c = .macx i rx ry k w n l ∧ macxSizes k w = false) ∨ c = .fence i 0 ∨
  (∃ rd rs1 rs2 m l, c = .waitt i rd rs1 rs2 m l ∧ (m = 3 ∨ m = 1 ∧ rs1 ≠ 0 ∨ m ≠ 0 ∧ rs2 ≠ 0)) ∨
  (∃ rd rs1 rs2 k, c = .mpin i rd rs1 rs2 1 k ∧ rs2 ≠ 0) ∨ (∃ rd rs1, c = .mcommit i rd rs1 0 ∧ rs1 ≠ 0) ∨
  ∃ rd m, c = .lw i rd m ∧ i.short = true ∧ zeroHalf rd m = true

/-- Table 3.5: the plain special registers with the level a write needs and the bits it replaces. -/
def plainSrs : List (Nat × Nat × Nat) := [
  (5, 1, 0xFFFFFFFF), (6, 1, 0xFFFFFFFF), (7, 1, 0x3FFFF), (8, 1, 0xFFFFFFFF), (9, 0, 0xFFFFFF00), (10, 0, 0xFFFFFF00),
  (11, 0, 0xFFFFFFFF), (12, 0, 0x3FFFF), (13, 0, 0x3FFFF), (14, 0, 0x3FFFF), (15, 0, 0x3FFFF), (16, 0, 0xFFFFFFFF),
  (17, 0, 0xFFFFFFFF), (19, 1, 0xFFFFFFFF), (24, 0, 0xFFFFFFFF), (25, 0, 0xFFFFFFFF), (26, 0, 0xFFFFFFFF), (27, 0, 0xFFFFFFFF),
  (28, 0, 0xFFFFFFFF), (29, 0, 0xFFFFFFFF), (30, 0, 0xFFFFFFFF), (31, 0, 0xFFFFFFFF), (32, 0, 0xFFFFFFFF), (33, 0, 0xFFFFFFFF),
  (34, 0, 0xFFFFFFFF), (35, 0, 0xFFFFFFFF), (40, 1, 0xFFFFFFFF), (41, 1, 0x3FFFF), (44, 1, 0xFFFFFFFF), (45, 1, 0x3FFFF),
  (46, 1, 0xFFFFFC00), (47, 1, 0x3FFFF), (48, 1, 0xFFFFFFFF), (56, 2, 0xFFFFFFFF), (57, 2, 0x3FFFF), (60, 2, 0xFFFFFFFF),
  (61, 2, 0x3FFFF), (62, 2, 0xFFFFFC00), (63, 2, 0x3FFFF), (64, 2, 0xFFFFFFFF)]

/-- Table 3.5 does not list the number. -/
abbrev unlistedSr (n : Nat) : Prop :=
  (21 ≤ n ∧ n ≤ 23) ∨ (36 ≤ n ∧ n ≤ 39) ∨ (49 ≤ n ∧ n ≤ 55) ∨ (65 ≤ n ∧ n ≤ 111) ∨ 120 ≤ n

/-- The level a read of a special register needs (Table 3.5). -/
def readLevel (n : Nat) : Nat :=
  if n = 5 ∨ n = 6 ∨ n = 7 ∨ n = 8 ∨ n = 20 ∨ (40 ≤ n ∧ n ≤ 48) then 1 else if 56 ≤ n ∧ n ≤ 64 then 2 else 0

/-- A wait reports the lines of m in rd; with C it consumes them (R141). -/
def reported (x : Berth) (rd : Reg5) (consume : Bool) (m : Nat) : Berth :=
  let y := x.setReg rd.toNat (BitVec.ofNat 32 m)
  if consume then y.setSr 20 (x.srN 20 - m) else y

/-- A wait on the lines of M ends at once where some pending line is in M, and else the berth waits (R139). -/
def waits (x : Berth) (w : Wait) (rd : Reg5) (consume : Bool) (mask : Nat) : Berth :=
  if x.srN 20 &&& mask = 0 then { x with wait := w } else reported x rd consume (x.srN 20 &&& mask)

end Sys2Proof.Claims

/-- R94, R95, R97, R114: SYSCALL with a code below 0x800 enters SUPERVISOR (MONITOR from MONITOR), any other MONITOR, each with the next
instruction's address; an undefined instruction, and a field value that is ILLEGAL, raises ILLEGAL at its own. R93, R97: at a boundary the
lowest-numbered line that is pending and enabled is taken as an interrupt at SUPERVISOR, with IE 1, PL below MONITOR and EXL_S 0;
ECAUSE.LINE names it and EPC is the next instruction.
It rests on choices of the model: notes/assumptions/9.md. -/
def Obligations.ExceptionsAndInterruptsEnter : Prop :=
  (∀ (s : State) (i : Site) (code : BitVec 12) (t : Nat),
    let d := s.dev
    let x := d.berth i.b
    let pc := x.pc.toNat
    let next := pc / 2 ^ 32 * 2 ^ 32 + (pc + i.len) % 2 ^ 32
    enters d i t →
    (code.toNat < 0x800 → t = (if x.pl = 2 then 2 else 1) →
      Completes (.syscall i code) s fun e => entered d i t 9 0 next 0 e) ∧
    (0x800 ≤ code.toNat → t = 2 → Completes (.syscall i code) s fun e => entered d i t 10 0 next 0 e) ∧
    (t = (if x.pl = 2 then 2 else 1) → ∀ c, c = .undefinedInstruction i ∨ illegalForm i c →
      Completes c s fun e => entered d i t 1 0 pc 0 e)) ∧
  ∀ (s : State) (b : BitVec 9) (k : Nat),
    let d := s.dev
    let x := d.berth b.toNat
    d.mayIssue b.toNat = true → x.faults = [] → x.loads = [] → x.stores = [] → x.writes = [] → x.shadow = none → x.nres < 5 →
      d.watched = false →
    bitOf (x.srN 0) 2 = true → x.pl < 2 → bitOf (x.srN 0) 3 = false → k < 32 → bitOf (x.srN 20) k = true → bitOf (x.srN 19) k = true →
    (∀ j, j < k → ¬ (bitOf (x.srN 20) j = true ∧ bitOf (x.srN 19) j = true)) →
    Completes (.interruptEntry b) s fun e => entered d ⟨b, false⟩ 1 12 k x.pc.toNat 0 e

/-- R98, R73, R128: RETX at a level whose EXL is 1, with an even EPC, takes PSR from ESTAT with PL no higher than the level, slides the
window back, refilling the frame where it is not in the window file, and goes to EPC. R98, R95: with EXL 0 it raises ILLEGAL. R84, R99:
with an odd EPC it raises ALIGN, which, EXL of its level being 1, becomes DOUBLE at MONITOR with subcode 3 and no EADDR, or, where EXL of
MONITOR is 1 too, parks the berth at the instruction and raises OCX_MONFAULT with its number.
It rests on choices of the model: notes/assumptions/9.md, notes/assumptions/10.md. -/
def Obligations.RetxRestores : Prop :=
  ∀ (s : State) (i : Site) (h : Nat), s.dev.ready i = true →
    let d := s.dev
    let x := d.berth i.b
    let t := x.pl
    let est := x.srN (level t + 2)
    let to_ := x.srPair (level t) % 2 ^ 50
    let exl (n : Nat) : Bool := bitOf (x.srN 0) (2 + n)
    1 ≤ t → t < 3 → x.stores = [] →
    (exl t = true → slidesBack d i.b h → to_ % 2 = 0 → Completes (.retx i) s fun e =>
      let psr := bitsOf est 2 3 * 4 + min t (bitsOf est 0 2)
      d.Leaves i ((slidBack d x (x.setSr 0 psr) h).goesTo to_) e) ∧
    (exl t = false → x.nres < 5 → Completes (.retx i) s fun e => entered d i t 1 0 x.pc.toNat 0 e) ∧
    (exl t = true → 1 < x.nres → to_ % 2 = 1 →
      (t = 1 → exl 2 = false → x.nres < 5 → Completes (.retx i) s fun e => enteredWith d i 2 11 3 0 x.pc.toNat 0 e) ∧
      (t = 2 ∨ exl 2 = true → quietSource d 0x20 → Completes (.retx i) s fun e =>
        e.berth i.b = x.issued ∧ (∀ b, b ≠ i.b → e.berth b = d.berth b) ∧ e.parkAsked i.b = true ∧ e.parked i.b = true ∧
        logged d 0x20 i.b 0 e ∧ e.mem = d.mem))

/-- R91, R88: RETX and SLEEP at USER, and an access of a special register above the berth's level, raise PRIV and change nothing
else. R89: a special-register number that Table 3.5 does not list reads as zero at every level and ignores writes, with no exception; an
instruction at the end of a 4 GiB bank, whose next PC is a choice of the model, is left to SpecialRegisterAccess. -/
def Obligations.PrivilegeIsChecked : Prop :=
  (∀ (s : State) (i : Site) (rd : Reg5) (sr : BitVec 7) (c : Bool),
    let d := s.dev
    let x := d.berth i.b
    enters d i 1 → x.pl < 2 →
    let traps (q : Instr) : Prop := Completes q s fun e => entered d i 1 2 0 x.pc.toNat 0 e
    (x.pl = 0 → traps (.retx i) ∧ traps (.sleep i rd c)) ∧
    (x.pl < readLevel sr.toNat → traps (.rdsr i rd sr)) ∧
    (∀ q ∈ plainSrs, sr.toNat = q.1 → x.pl < q.2.1 → traps (.wrsr i sr rd))) ∧
  ∀ (s : State) (i : Site) (rd : Reg5) (sr : BitVec 7),
    let d := s.dev
    let x := d.berth i.b
    d.ready i = true → unlistedSr sr.toNat → x.pc.toNat % 2 ^ 32 + i.len < 2 ^ 32 →
      (Completes (.rdsr i rd sr) s fun e => d.Leaves i (x.wrote i rd 0) e ∧ (e.berth i.b).reg rd.toNat = 0) ∧
      Completes (.wrsr i sr rd) s fun e => d.Leaves i (x.goesOn i) e

/-- R88, R89: RDSR reads the PC of the instruction, the berth's number, PSR, WSTAT, the plain registers, ACCH, IPEND, and zero for a number
that Table 3.5 lacks; such a number ignores writes, and OCX_FEAT0 reads the value of R105. R88, R92: WRSR replaces the bits of a plain
register; a write of IPEND clears the bits written as 1; a write of ACCH clears OV with a 0 and never sets it; a read-only register stands.
R90: a write of PSR takes IE and EXL_S, EXL_M from MONITOR only, and PL unless it is 3; one that raises PL above the writer's level raises
PRIV.
It rests on choices of the model: notes/assumptions/58.md. -/
def Obligations.SpecialRegisterAccess : Prop :=
  (∀ (s : State) (i : Site) (rd : Reg5) (sr : BitVec 7), s.dev.ready i = true →
    let d := s.dev
    let x := d.berth i.b
    let n := sr.toNat
    readLevel n ≤ x.pl → n < 112 ∨ 119 < n →
    Completes (.rdsr i rd sr) s fun e =>
      ∃ v, d.Leaves i (x.wrote i rd (BitVec.ofNat 32 v)) e ∧
        v = if n = 1 then x.pc.toNat % 2 ^ 32 else if n = 2 then x.pc.toNat / 2 ^ 32 else if n = 3 then i.b
          else if n = 0 ∨ n = 4 ∨ n = 18 ∨ n = 20 ∨ n = 42 ∨ n = 43 ∨ n = 58 ∨ n = 59 ∨ n ∈ plainSrs.map Prod.fst then x.srN n
          else 0) ∧
  (∀ (s : State) (i : Site) (sr : BitVec 7) (r : Reg5), s.dev.ready i = true →
    let d := s.dev
    let x := d.berth i.b
    let v := (x.operand r.toNat).toNat
    let leaves (y : Berth) : Prop := Completes (.wrsr i sr r) s fun e => d.Leaves i (y.goesOn i) e
    (∀ q ∈ plainSrs, sr.toNat = q.1 → q.2.1 ≤ x.pl → leaves (x.setSr q.1 (v &&& q.2.2))) ∧
    (sr = 20 → 1 ≤ x.pl → leaves (x.setSr 20 (x.srN 20 - (x.srN 20 &&& v)))) ∧
    (sr = 18 → leaves (x.setSr 18 (v % 256 + if bitOf v 8 && bitOf (x.srN 18) 8 then 256 else 0))) ∧
    (sr = 1 ∨ sr = 2 ∨ sr = 3 ∨ sr = 4 ∨ 112 ≤ sr.toNat ∨ unlistedSr sr.toNat → leaves x)) ∧
  (∀ (s : State) (i : Site) (rd : Reg5) (sr : BitVec 7), s.dev.ready i = true →
    let d := s.dev
    let reads (v : Word) : Prop := Completes (.rdsr i rd sr) s fun e => d.Leaves i ((d.berth i.b).wrote i rd v) e
    (unlistedSr sr.toNat → reads 0) ∧
    (sr = 112 → reads (match d.cfg.qs with
      | .qs2 => 0x09104201
      | .qs4 => 0x11104411
      | .qs8 => 0x21104821))) ∧
  ∀ (s : State) (i : Site) (r : Reg5), s.dev.ready i = true →
    let d := s.dev
    let x := d.berth i.b
    let v := (x.operand r.toNat).toNat
    (enters d i 1 → x.pl = 1 → v % 4 = 2 → Completes (.wrsr i 0 r) s fun e => entered d i 1 2 0 x.pc.toNat 0 e) ∧
    (x.stores = [] → x.pl = 1 ∨ x.pl = 2 → v % 4 = 3 ∨ v % 4 ≤ x.pl →
      Completes (.wrsr i 0 r) s fun e =>
        let y := e.berth i.b
        y.pl = (if v % 4 = 3 then x.pl else v % 4) ∧ bitOf (y.srN 0) 2 = bitOf v 2 ∧ bitOf (y.srN 0) 3 = bitOf v 3 ∧
        bitOf (y.srN 0) 4 = (if x.pl = 2 then bitOf v 4 else bitOf (x.srN 0) 4) ∧ y.gpr = x.gpr ∧ d.OnlyBerth i.b e)

/-- R143: a FENCE with a mask issues where no operation of its kinds is in flight, and waits, with no effect, while the load queue or the
store buffer holds one that its mask selects. R139 to R141: WAITE and SLEEP report the pending lines of IMASK at once where there are some,
and else the berth waits; with P WAITE never waits; SLEEP so only from SUPERVISOR up. R139, R140: WAITT in each of its modes sets the
berth's timer compare (MODE 0 to {rs2, rs1}, MODE 2 to rs1 after the last), clears line 0 with it, and waits on IMASK and line 0.
It rests on choices of the model: notes/assumptions/14.md, notes/assumptions/58.md. -/
def Obligations.FenceAndWaits : Prop :=
  (∀ (s : State) (i : Site) (mask : BitVec 4), s.dev.readyButLoads i = true → s.dev.externalLoads i.b = [] → mask ≠ 0 →
    let d := s.dev
    let x := d.berth i.b
    let fixed (e : LoadEntry) : Prop := ∃ v, e.src = .value v
    let idle := (mask.getLsbD 0 = true → ∀ e ∈ x.loads, fixed e) ∧ (mask.getLsbD 1 = true → x.stores = []) ∧
      (mask.getLsbD 3 = true → ∀ e ∈ x.loads, ¬fixed e)
    (idle → Completes (.fence i mask) s fun e => d.Leaves i (x.goesOn i) e) ∧ (¬idle → exec (.fence i mask) s = .next s)) ∧
  (∀ (s : State) (i : Site) (rd : Reg5) (c : Bool), s.dev.ready i = true →
    let d := s.dev
    let x := d.berth i.b
    let m := x.srN 19
    Completes (.waite i rd c true) s (d.Leaves i ((reported x rd c (x.srN 20 &&& m)).goesOn i)) ∧
    Completes (.waite i rd c false) s (d.Leaves i ((waits x (.waite rd.toNat c) rd c m).goesOn i)) ∧
    (1 ≤ x.pl → Completes (.sleep i rd c) s (d.Leaves i ((waits x (.sleep rd.toNat c) rd c m).goesOn i)))) ∧
  ∀ (s : State) (i : Site) (rd rs1 rs2 : Reg5) (mode : BitVec 2) (c : Bool), s.dev.ready i = true →
    mode = 0 ∨ mode = 1 ∧ rs1 = 0 ∧ rs2 = 0 ∨ mode = 2 ∧ rs2 = 0 →
    let d := s.dev
    let x := d.berth i.b
    let cmp := Reg.CAR_TCMP (i.b / 16) (i.b % 16)
    let lo := (x.operand rs1.toNat).toNat
    Completes (.waitt i rd rs1 rs2 mode c) s fun e =>
      let y := if mode = 1 then x else { x.setSr 20 (setBits (x.srN 20) 0 1 0) with armed := true }
      e.berth i.b = (waits y (.waitt rd.toNat c) rd c (x.srN 19 ||| 1)).goesOn i ∧
      e.rd64 cmp = (if mode = 0 then lo + 2 ^ 32 * (x.operand rs2.toNat).toNat else if mode = 2 then (d.rd64 cmp + lo) % 2 ^ 64
        else d.rd64 cmp) ∧
      (∀ off, off ≠ cmp → off ≠ cmp + 4 → off ≠ Reg.MEM_INFLT → e.rd off = d.rd off) ∧ (∀ b, b ≠ i.b → e.berth b = d.berth b) ∧
      e.mem = d.mem

/-! ### Bollards (R133, R186 to R200) -/

namespace Sys2Proof.Claims

/-- A status word: the code, the word's EPOCH in [11:8], and bit 31 unless the operation acquired or released (R187). -/
def status (code epoch : Nat) : Nat := code + epoch * 256 + if code < 0x10 then 0 else 2 ^ 31

/-- Link k + 1 of the wait-for chain from a holder (R200): the holder of the word that the holder of link k waits on. -/
def link (d : Device) (h : Holder) : Nat → Option Holder
  | 0 => some h
  | k + 1 => match link d h k with
    | some (.berth c) => d.waitsFor c
    | _ => none

/-- The chain comes back to the requester within 8 links. -/
abbrev deadlock (d : Device) (b : Nat) (h : Holder) : Prop := ∃ k, k < 8 ∧ link d h k = some (.berth b)

/-- A FREE berth stands ready to issue a BOL instruction on the lock word at global address g of the memory its operand names. -/
abbrev bolReady (d : Device) (i : Site) (rs1 : Reg5) (bk : BitVec 2) (g : Nat) : Prop :=
  let x := d.berth i.b
  d.ready i = true ∧ x.stores = [] ∧ d.timed i.b = false ∧ d.loadFree i.b = true ∧ d.eccAt g = .clean ∧
  d.bolWord (d.ctx i) (x.srN (12 + bk.toNat) * 2 ^ 32 + (x.operand rs1.toNat).toNat) = .ok g

/-- Memory holds a word at g, and every other byte reads as before. -/
def wordAt (d e : Device) (g w : Nat) : Prop := e.value g 4 = w % 2 ^ 32 ∧ ∀ a, a < g ∨ g + 4 ≤ a → e.byte a = d.byte a

/-- The acquire of an untracked word (R188, R190): by its state it was FREE (code 0), orphaned or abandoned (1) or force-released (2);
an orphaned word's EPOCH goes up. -/
def acquires (s : State) (i : Site) (c : Instr) (rd rs2 : Reg5) (g : Nat) : Prop :=
  let d := s.dev
  let x := d.berth i.b
  let old := d.value g 4
  let st := bitsOf old 30 2
  let ep := if st = 1 then (bitsOf old 25 4 + 1) % 16 else bitsOf old 25 4
  let v := (x.operand rs2.toNat).toNat
  let entry : BolEntry := ⟨g, .berth i.b, bitOf v 29, ep, v % 2 ^ 15⟩
  ∀ n, d.tracked g = none → d.freeEntry = some n →
    Completes c s fun e =>
      e.berth i.b = queued x i rd (BitVec.ofNat 32 (status (if st = 0 then 0 else if st = 3 then 2 else 1) ep)) ∧
      e.bol.entries.get bolDefault n = some entry ∧ wordAt d e g (lockWord 1 (bitOf v 29) ep i.b (v % 2 ^ 15)) ∧
      ∀ k, k ≠ n → e.bol.entries.get bolDefault k = d.bol.entries.get bolDefault k

end Sys2Proof.Claims

/-- R133, R186: BCAS returns the old word, and writes rs2 only where the old word equals rd; no other byte of memory changes.
It rests on choices of the model: notes/assumptions/14.md, notes/assumptions/58.md. -/
def Obligations.BcasComparesAndSwaps : Prop :=
  ∀ (s : State) (i : Site) (rd rs1 rs2 : Reg5) (bk : BitVec 2) (g : Nat),
    let d := s.dev
    let x := d.berth i.b
    bolReady d i rs1 bk g → d.tracked g = none →
    Completes (.bcas i rd rs1 rs2 bk) s fun e =>
      e.berth i.b = queued x i rd (BitVec.ofNat 32 (d.value g 4)) ∧
      wordAt d e g (if d.value g 4 = (x.operand rd.toNat).toNat then (x.operand rs2.toNat).toNat else d.value g 4) ∧
      e.bol = d.bol ∧ ∀ b, b ≠ i.b → e.berth b = d.berth b

/-- R188, R190, R193: BTRY and BACQ acquire a word that nobody holds. A word that the berth itself holds returns SELF, and one that
another holds returns BUSY to BTRY; BACQ returns TIMEOUT where BOL_TMO is 0, R200: DEADLOCK where the wait-for chain from the holder comes
back to it within 8 links, and else waits for BOL_TMO. BOL_CNT counts a TIMEOUT and a DEADLOCK.
It rests on choices of the model: notes/assumptions/14.md, notes/assumptions/58.md, notes/assumptions/59.md, notes/assumptions/65.md. -/
def Obligations.BollardAcquire : Prop :=
  ∀ (s : State) (i : Site) (rd rs1 rs2 : Reg5) (bk : BitVec 2) (g : Nat), bolReady s.dev i rs1 bk g →
    let d := s.dev
    let x := d.berth i.b
    let v := (x.operand rs2.toNat).toNat
    let tmo := d.rd (Reg.BOL_TMO i.b)
    acquires s i (.btry i rd rs1 rs2 bk) rd rs2 g ∧ acquires s i (.bacq i rd rs1 rs2 bk) rd rs2 g ∧
    ∀ n entry, d.tracked g = some (n, entry) →
      let answers (c : Instr) (code counter : Nat) : Prop := Completes c s fun e =>
        e.berth i.b = queued x i rd (BitVec.ofNat 32 (status code (entry.epoch % 16))) ∧ e.mem = d.mem ∧ e.bol = d.bol ∧
        ∀ k, k < 2 → e.fld Reg.BOL_CNT (8 * k) 8 =
          if k = counter then min (d.fld Reg.BOL_CNT (8 * k) 8 + 1) 255 else d.fld Reg.BOL_CNT (8 * k) 8
      let bacq : Instr := .bacq i rd rs1 rs2 bk
      answers (.btry i rd rs1 rs2 bk) (if entry.holder = .berth i.b then 0x14 else 0x10) 2 ∧
      (entry.holder = .berth i.b → answers bacq 0x14 2) ∧
      (entry.holder ≠ .berth i.b → tmo = 0 → answers bacq 0x11 1) ∧
      (entry.holder ≠ .berth i.b → tmo ≠ 0 → deadlock d i.b entry.holder → answers bacq 0x12 0) ∧
      (entry.holder ≠ .berth i.b → tmo ≠ 0 → ¬deadlock d i.b entry.holder → Completes bacq s fun e =>
        e.berth i.b = { x.goesOn i with
          wait := .bollard rd.toNat g d.bol.arrival (d.tbNow + tmo) (bitOf v 29) (v % 2 ^ 15)
          shadow := some (physReg x.cwp rd.toNat, x.reg rd.toNat) } ∧ e.mem = d.mem)

/-- R189: BREL of a word that the berth holds and nobody waits for frees it: the word is FREE with its EPOCH and USER, and its entry is
free. R189, R194: one with waiters hands the word to the waiter of the highest effective priority, the earliest of these, the lowest of
these, which then holds it with INH and USER of its own request. A word that another holds, or nobody, is unchanged. R197: once the timebase
has reached its limit, a BACQ's wait ends with TIMEOUT and BOL_CNT counts it; before that nothing changes. R185: a store to a tracked word
that changes USER alone gives the entry the new USER; any other leaves the entry as it is, is counted, and raises BOL_CLOBBER with path 1.
R202: a reset of the berth that holds a word abandons it: the word is ABANDONED with its EPOCH up, its entry is free, and every waiter
returns ABANDONED.
It rests on choices of the model: notes/assumptions/14.md, notes/assumptions/58.md, notes/assumptions/59.md, notes/assumptions/65.md. -/
def Obligations.BollardReleaseAndTimeout : Prop :=
  (∀ (s : State) (i : Site) (rd rs1 : Reg5) (bk : BitVec 2) (g : Nat), bolReady s.dev i rs1 bk g →
    let d := s.dev
    let x := d.berth i.b
    let brel : Instr := .brel i rd rs1 bk
    (∀ n entry, d.tracked g = some (n, entry) → entry.holder = .berth i.b →
      (d.waiters g = [] → Completes brel s fun e =>
        e.berth i.b = queued x i rd (BitVec.ofNat 32 (status 3 (entry.epoch % 16))) ∧
        e.bol.entries.get bolDefault n = none ∧ wordAt d e g (lockWord 0 false entry.epoch 0 entry.user)) ∧
      ∀ b r arr limit inh user, b ∈ d.waiters g → (d.berth b).wait = .bollard r g arr limit inh user → d.parkAsked b = false →
        (∀ c, c ∈ d.waiters g → c ≠ b → d.eprio c < d.eprio b ∨ d.eprio c = d.eprio b ∧
          (d.arrivalOf b < d.arrivalOf c ∨ d.arrivalOf b = d.arrivalOf c ∧ b < c)) →
        Completes brel s fun e =>
          e.berth i.b = queued x i rd (BitVec.ofNat 32 (status 3 (entry.epoch % 16))) ∧
          e.berth b = { d.berth b with wait := .none }.setReg r (BitVec.ofNat 32 (status 0 (entry.epoch % 16))) ∧
          e.bol.entries.get bolDefault n = some ⟨g, .berth b, inh, entry.epoch, user⟩ ∧
          wordAt d e g (lockWord 1 inh entry.epoch b user) ∧ ∀ c, c ≠ i.b → c ≠ b → e.berth c = d.berth c) ∧
    (∀ n entry, d.tracked g = some (n, entry) → entry.holder ≠ .berth i.b →
      Completes brel s fun e =>
        e.berth i.b = queued x i rd (BitVec.ofNat 32 (status 0x15 (entry.epoch % 16))) ∧ e.mem = d.mem ∧ e.bol = d.bol) ∧
    (d.tracked g = none → Completes brel s fun e =>
        e.berth i.b = queued x i rd (BitVec.ofNat 32 (status 0x16 (bitsOf (d.value g 4) 25 4))) ∧ e.mem = d.mem ∧ e.bol = d.bol)) ∧
  (∀ (s : State) (b : BitVec 9) (rd g arr limit : Nat) (inh : Bool) (user n : Nat) (entry : BolEntry),
    let d := s.dev
    let x := d.berth b.toNat
    x.wait = .bollard rd g arr limit inh user → d.tracked g = some (n, entry) →
    (limit ≤ d.tbNow → d.parkAsked b.toNat = false → Completes (.bollardTimeout b) s fun e =>
      e.berth b.toNat = { x with wait := .none }.setReg rd (BitVec.ofNat 32 (status 0x11 (entry.epoch % 16))) ∧
      e.fld Reg.BOL_CNT 8 8 = min (d.fld Reg.BOL_CNT 8 8 + 1) 255 ∧ e.bol = d.bol ∧ e.mem = d.mem ∧
      ∀ c, c ≠ b.toNat → e.berth c = d.berth c) ∧
    (d.tbNow < limit → exec (.bollardTimeout b) s = .next s)) ∧
  (∀ (s : State) (b : BitVec 9) (k : BitVec 6) (st : StoreEntry) (g n : Nat) (entry : BolEntry),
    let d := s.dev
    let old := d.value g 4
    (d.berth b.toNat).stores[k.toNat]? = some st → st.size = 4 → g % 4 = 0 → d.storeReady b.toNat st = true →
    (d.placeFor b.toNat st.addr).global = some g → d.eccAt g = .clean → d.tracked g = some (n, entry) →
    (st.value / 2 ^ 15 % 2 ^ 17 = old / 2 ^ 15 → Completes (.storePerformed b k) s fun e =>
      wordAt d e g st.value ∧ e.bol.entries.get bolDefault n = some { entry with user := st.value % 2 ^ 15 } ∧
      e.rd Reg.BOL_CNT = d.rd Reg.BOL_CNT) ∧
    (st.value / 2 ^ 15 % 2 ^ 17 ≠ old / 2 ^ 15 → quietSource d 0x24 → Completes (.storePerformed b k) s fun e =>
      wordAt d e g st.value ∧ e.bol = d.bol ∧ e.fld Reg.BOL_CNT 24 4 = min (d.fld Reg.BOL_CNT 24 4 + 1) 15 ∧ logged d 0x24 1 0 e)) ∧
  ∀ (s : State) (w : Writer) (b : BitVec 9) (n : Nat) (entry : BolEntry),
    let d := s.dev
    let g := entry.addr
    let ep := (entry.epoch + 1) % 16
    let owns (q : Nat × Option BolEntry) : Bool := decide (q.2.map BolEntry.holder = some (.berth b.toNat))
    d.arrives w Reg.PWR_BRST = true → d.trusted w = true → d.present b.toNat = true → d.bol.entries.filter owns = [(n, some entry)] →
    d.eccAt g = .clean → (∀ h m, d.manifest h = some m → m.owner ≠ b.toNat) → (∀ c, (d.cls c).running = false) → d.scn.gate = none →
    (∀ c, c ∈ d.waiters g → (d.berth c).bolWait.map Prod.fst = some g) →
    Completes (.berthReset w b) s fun e =>
      e.bol.entries.get bolDefault n = none ∧ wordAt d e g (lockWord 2 entry.inh ep b.toNat entry.user) ∧
      e.fld Reg.BOL_CNT 28 4 = min (d.fld Reg.BOL_CNT 28 4 + 1) 15 ∧
      ∀ c, c ≠ b.toNat →
        (∀ r arr limit inh user, (d.berth c).wait = .bollard r g arr limit inh user → d.parkAsked c = false →
          e.berth c = { d.berth c with wait := .none }.setReg r (BitVec.ofNat 32 (status 0x17 ep))) ∧
        ((d.berth c).bolWait.map Prod.fst ≠ some g → e.berth c = d.berth c)

/-! ### Manifests (R134, R135, R346 to R356) -/

namespace Sys2Proof.Claims

/-- A FREE berth stands ready to issue a manifest instruction. -/
abbrev mftReady (d : Device) (i : Site) : Prop := d.ready i = true ∧ d.timed i.b = false ∧ d.loadFree i.b = true

/-- The manifest h that rd names (R346, R347): the berth's own open one by rd[3:0], or with rd[8] = 1 the class manifest of the running
cycle of which the berth is an expected member that has not reported done. -/
abbrev namesManifest (d : Device) (i : Site) (rd : Reg5) (h : Nat) (m : Manifest) : Prop :=
  let v := ((d.berth i.b).operand rd.toNat).toNat
  d.manifest h = some m ∧
  (bitOf v 8 = false ∧ h = v % 16 ∧ m.owner = i.b ∧ m.committed = false ∨ bitOf v 8 = true ∧ ∃ c, d.classOf i.b = some c ∧ h = 16 + c)

/-- There is room for one more action of a manifest (R356). -/
abbrev room (d : Device) (m : Manifest) (cost : Nat) : Prop :=
  m.acts.length < 4096 ∧ d.mftActs < 8192 ∧ d.mftBytes + cost ≤ 0x20000

/-- An action joins manifest h at its end; rd receives 0 and nothing else of the manifest unit changes. -/
def joins (s : State) (i : Site) (c : Instr) (rd : Reg5) (h : Nat) (m : Manifest) (a : MftAct) (cost : Nat) : Prop :=
  Completes c s fun e =>
    e.berth i.b = queued (s.dev.berth i.b) i rd 0 ∧
    e.manifest h = some { m with acts := m.acts ++ [a], bytes := m.bytes + cost } ∧
    (∀ k, k ≠ h → e.manifest k = s.dev.manifest k) ∧ e.scn.queue = s.dev.scn.queue ∧ e.SameBytes s.dev

/-- A manifest instruction fails with a code of Table 11.6 and changes nothing of the manifest unit. -/
def fails (s : State) (i : Site) (rd : Reg5) (c : Instr) (code : Nat) : Prop :=
  Completes c s fun e =>
    e.berth i.b = queued (s.dev.berth i.b) i rd (BitVec.ofNat 32 (2 ^ 31 + code)) ∧ e.scn = s.dev.scn ∧ e.SameBytes s.dev

/-- Table 11.5: a parameter word of MOPEN that sets no reserved bit, and not both SYNC and EDIT. -/
abbrev openWord (p : Nat) : Prop :=
  bitsOf p 2 6 = 0 ∧ bitsOf p 16 16 = 0 ∧ ¬(bitOf p 0 = true ∧ bitOf p 1 = true) ∧ (bitOf p 0 = false → bitsOf p 8 8 = 0)

end Sys2Proof.Claims

/-- R346, R349: MOPEN with a parameter word of Table 11.5 opens the lowest free handle for the berth with its SYNC, EDIT and GROUP and
returns it; it fails as Table 11.6 gives, and then opens nothing. R350 to R353: MGUARD, MPUT, MPIN and MSEND put their action at the end
of the manifest that rd names; MPUT writes no memory until the commit, and MSEND copies its payload; a K or a kind that Table 4.8 does not
list gives BADPARAM, a handle that is not open BADHANDLE and another berth's NOTOWNER.
It rests on choices of the model: notes/assumptions/11.md, notes/assumptions/42.md, notes/assumptions/58.md, notes/assumptions/65.md. -/
def Obligations.ManifestsOpenAndFill : Prop :=
  (∀ (s : State) (i : Site) (rd rs1 : Reg5) (k : BitVec 3),
    let d := s.dev
    let x := d.berth i.b
    let p := (x.operand rs1.toNat).toNat
    let may := bitOf p 1 = false ∨ 1 ≤ x.pl ∧ d.gateHeld i.b 1 = true
    let first (h : Nat) : Prop := h < 16 ∧ d.manifest h = none ∧ ∀ j, j < h → d.manifest j ≠ none
    mftReady d i →
    (k ≠ 0 → fails s i rd (.mopen i rd rs1 k) 8) ∧
    (bitOf (x.operand rd.toNat).toNat 8 = true →
      fails s i rd (.mopen i rd rs1 0) (if (d.classOf i.b).isSome then 0x0A else 0x09)) ∧
    (bitOf (x.operand rd.toNat).toNat 8 = false →
      (¬openWord p → fails s i rd (.mopen i rd rs1 0) 8) ∧ (openWord p → ¬may → fails s i rd (.mopen i rd rs1 0) 0x0B) ∧
      (openWord p → may → (∀ j, j < 16 → d.manifest j ≠ none) → fails s i rd (.mopen i rd rs1 0) 3) ∧
      (∀ h, openWord p → may → first h → 0x20000 < d.mftBytes + 64 → fails s i rd (.mopen i rd rs1 0) 4) ∧
      ∀ h, openWord p → may → first h → d.mftBytes + 64 ≤ 0x20000 →
        Completes (.mopen i rd rs1 0) s fun e =>
          e.berth i.b = queued x i rd (BitVec.ofNat 32 h) ∧
          e.manifest h = some ⟨i.b, bitOf p 0, bitOf p 1, bitsOf p 8 8, [], 64, false, none, false⟩ ∧
          (∀ j, j ≠ h → e.manifest j = d.manifest j) ∧ e.SameBytes d)) ∧
  ∀ (s : State) (i : Site) (rd rs1 rs2 : Reg5) (bk : BitVec 2) (k : BitVec 3),
    let d := s.dev
    let x := d.berth i.b
    let a := x.srN (12 + bk.toNat) * 2 ^ 32 + (x.operand rs1.toNat).toNat
    let v := (x.operand rs2.toNat).toNat
    let mask := (x.operand rs1.toNat).toNat
    let who := d.identity (.berth i.b)
    let handle := (x.operand rd.toNat).toNat
    mftReady d i →
    (bitOf handle 8 = false → ∀ g, d.mftWord (d.ctx i) a false = .ok g →
      ∀ c ∈ [Instr.mguard i rd rs1 rs2 bk k, .mpin i rd rs1 0 bk k, .msend i rd rs1 bk k, .mabort i rd k],
        (d.manifest (handle % 16) = none → fails s i rd c 1) ∧
        ∀ m, d.manifest (handle % 16) = some m → m.owner ≠ i.b → fails s i rd c 2) ∧
    ∀ (h : Nat) (m : Manifest), namesManifest d i rd h m →
    (∀ g, d.mftWord (d.ctx i) a false = .ok g →
      (k.toNat ≤ 5 → (guardsOf m.acts).length < 16 → room d m 16 →
        joins s i (.mguard i rd rs1 rs2 bk k) rd h m (.guard g v k.toNat) 16) ∧
      (5 < k.toNat → fails s i rd (.mguard i rd rs1 rs2 bk k) 8) ∧
      (k.toNat ≤ 5 → 16 ≤ (guardsOf m.acts).length → fails s i rd (.mguard i rd rs1 rs2 bk k) 7)) ∧
    (∀ g, d.mftWord (d.ctx i) a true = .ok g →
      (room d m 16 → joins s i (.mput i rd rs1 rs2 bk 0) rd h m (.put g v) 16) ∧
      (k ≠ 0 → fails s i rd (.mput i rd rs1 rs2 bk k) 8) ∧
      (4096 ≤ m.acts.length → fails s i rd (.mput i rd rs1 rs2 bk 0) 5) ∧
      (m.acts.length < 4096 → 8192 ≤ d.mftActs → fails s i rd (.mput i rd rs1 rs2 bk 0) 6) ∧
      (m.acts.length < 4096 → d.mftActs < 8192 → 0x20000 < d.mftBytes + 16 → fails s i rd (.mput i rd rs1 rs2 bk 0) 4)) ∧
    (k.toNat < d.cfg.tiles → room d m 16 →
      joins s i (.mpin i rd rs1 rs2 0 k) rd h m (.pins k.toNat mask v who) 16 ∧
      joins s i (.mpin i rd rs1 0 1 k) rd h m (.start k.toNat (mask % 256) who) 16) ∧
    (bk = 2 ∨ bk = 3 → fails s i rd (.mpin i rd rs1 rs2 bk k) 8) ∧
    (d.cfg.tiles ≤ k.toNat → fails s i rd (.mpin i rd rs1 rs2 0 k) 8) ∧
    ∀ g p, d.mftWord (d.ctx i) a false = .ok g → (∀ j, j < 16 → d.eccAt (g + j) = .clean) →
      let link := d.value g 1
      let len := d.value (g + 2) 2
      let src := d.value (g + 4) 4 + d.value (g + 8) 4 * 2 ^ 32
      let arg := d.value (g + 12) 4
      (1 ≤ link → link ≤ 3 → d.value (g + 1) 1 = 0 → 1 ≤ len → len ≤ 1500 → d.value (g + 8) 4 < 2 ^ 18 → d.sendArgOk link len arg = true →
        sendPlace d.cfg (tileOf i.b) src = some p → sendPlace d.cfg (tileOf i.b) (src + len - 1) = some (p + len - 1) →
        regionPlaced d.cfg (g, 16) = true → (∀ j, j < len → d.eccAt (p + j) = .clean) → room d m (32 + (len + 15) / 16 * 16) →
        joins s i (.msend i rd rs1 bk 0) rd h m (.send link arg (d.bytesAt p len)) (32 + (len + 15) / 16 * 16)) ∧
      (k ≠ 0 ∨ regionPlaced d.cfg (g, 16) = false ∨ link = 0 ∨ 3 < link ∨ d.value (g + 1) 1 ≠ 0 ∨ len = 0 ∨ 1500 < len ∨
        sendPlace d.cfg (tileOf i.b) src = none →
        fails s i rd (.msend i rd rs1 bk k) 8)

/-- R135, R347, R348, R349, R355, R357: MCOMMIT with K = 0 commits the berth's manifest and waits: outside a sync group its commit joins the
end of the queue. With K = 1 it waits for the instant that rs1 names, or fails LATE where that has passed, which closes the manifest; with K
= 1 an edit or SYNC manifest, and any manifest with a K that is not listed, gives BADPARAM. On the class manifest K = 0 is the berth's done,
and the last done triggers the class commit, in front of the scheduled commits that join in its cycle; K = 1 gives CLASSOP. MABORT of a
manifest closes it and returns 0.
It rests on choices of the model: notes/assumptions/42.md, notes/assumptions/58.md. -/
def Obligations.ManifestCommitsAndAborts : Prop :=
  ∀ (s : State) (i : Site) (rd rs1 : Reg5) (k : BitVec 3) (h : Nat) (m : Manifest),
    let d := s.dev
    let x := d.berth i.b
    let waiting : Berth := { x.goesOn i with wait := .commit rd.toNat h, shadow := some (physReg x.cwp rd.toNat, x.reg rd.toNat) }
    let ahead := ((x.operand rs1.toNat).toNat + 2 ^ 32 - d.tbNow % 2 ^ 32) % 2 ^ 32
    mftReady d i → namesManifest d i rd h m → (∀ j, j < 16 → (d.sg j).undecided = false) →
    (h < 16 →
      (Completes (.mcommit i rd 0 0) s fun e =>
        e.berth i.b = waiting ∧ e.manifest h = some { m with committed := true } ∧ e.SameBytes d ∧
        (m.sync = false → m.instant = none → d.scn.queue.contains (.berth h) = false → e.scn.queue = d.scn.queue ++ [.berth h]) ∧
        (m.sync = true → e.scn.queue = d.scn.queue)) ∧
      (m.edit = false → m.sync = false → ahead < 2 ^ 31 → d.fld Reg.MFT_LEAD 0 12 < 3 * ahead →
        Completes (.mcommit i rd rs1 1) s fun e =>
          e.berth i.b = waiting ∧ e.manifest h = some { m with committed := true, instant := some (d.tbNow + ahead) } ∧
          e.scn.queue = d.scn.queue ∧ e.SameBytes d) ∧
      (m.edit = false → m.sync = false → 2 ^ 31 ≤ ahead → Completes (.mcommit i rd rs1 1) s fun e =>
        e.berth i.b = queued x i rd 0x80000011 ∧ e.manifest h = none ∧ (∀ j, j ≠ h → e.manifest j = d.manifest j) ∧
        e.fld Reg.MFT_CNT 24 8 = min (d.fld Reg.MFT_CNT 24 8 + 1) 255 ∧ e.SameBytes d) ∧
      (m.edit = true ∨ m.sync = true → fails s i rd (.mcommit i rd rs1 1) 8) ∧
      (2 ≤ k.toNat → fails s i rd (.mcommit i rd rs1 k) 8) ∧ (k ≠ 0 → fails s i rd (.mabort i rd k) 8) ∧
      Completes (.mabort i rd 0) s fun e =>
        e.berth i.b = queued x i rd 0 ∧ e.manifest h = none ∧ (∀ j, j ≠ h → e.manifest j = d.manifest j) ∧ e.SameBytes d) ∧
    ∀ c, h = 16 + c →
      fails s i rd (.mcommit i rd rs1 1) 0x0A ∧ fails s i rd (.mabort i rd k) 0x0A ∧
      (2 ≤ k.toNat → fails s i rd (.mcommit i rd rs1 k) 8) ∧
      Completes (.mcommit i rd 0 0) s fun e =>
        let last := (d.cls c).expected.all fun b => b == i.b || (d.cls c).done.contains b
        e.berth i.b = waiting ∧ (e.cls c).done = (d.cls c).done ++ [i.b] ∧ e.SameBytes d ∧
        let q := d.scn.queue
        e.scn.queue = (if last && !m.committed then q.takeWhile (!d.joinedNow ·) ++ [.cls c] ++ q.dropWhile (!d.joinedNow ·) else q)

/-! ### The private pin port (R136 to R138) -/

/-- R136, R279, R285: OUTP and OUTPM set the PAD_DOUT bits of the pads they name, where the pad has GPIO function in direct mode and the
berth may write it; every other bit of PAD_DOUT stands. INP reads every pad of the tile. R138, R235, R236: PEWR of PE_X and PE_Y of an
engine of the tile writes it at every level, PEWR of PE_TXF appends to the TX FIFO while it has room, PERD reads PE_X and PE_Y, and PERD
of PE_RXF takes the oldest entry of the RX FIFO.
It rests on choices of the model: notes/assumptions/14.md, notes/assumptions/58.md. -/
def Obligations.PinsAndEnginePort : Prop :=
  (∀ (s : State) (i : Site) (rd rs1 rs2 pad : Reg5),
    let d := s.dev
    let x := d.berth i.b
    let t := i.b / 64
    let a := (x.operand rs1.toNat).toNat
    let v := (x.operand rs2.toNat).toNat
    let sets (c : Instr) (mask values : Nat) : Prop := Completes c s fun e =>
      (∀ k, k < 32 → e.flag (Reg.PAD_DOUT t) k =
        if bitOf mask k && d.padDirect t k && d.padPermit (d.identity (.berth i.b)) t k then bitOf values k
        else d.flag (Reg.PAD_DOUT t) k) ∧
      e.berth i.b = x.goesOn i ∧ e.mem = d.mem ∧ e.eng = d.eng
    d.ready i = true →
    sets (.outp i pad rs1) (2 ^ pad.toNat) (a % 2 * 2 ^ pad.toNat) ∧ sets (.outpm i rs1 rs2) a v ∧
    (d.loadFree i.b = true → Completes (.inp i rd) s fun e =>
      ∃ w : Word, d.Leaves i (queued x i rd w) e ∧ ∀ k, k < 32 → w.getLsbD k = d.padIn t k)) ∧
  ∀ (s : State) (i : Site) (r : Reg5) (k : BitVec 3) (n : BitVec 6),
    let d := s.dev
    let x := d.berth i.b
    let e := 8 * (i.b / 64) + k.toNat
    let y := d.engine e
    let v := (x.operand r.toNat).toNat
    d.ready i = true → d.engPresent e = true → d.loadFree i.b = true →
    (n = 8 ∨ n = 9 → Completes (.pewr i r k n) s fun f =>
      f.engine e = y.setRg n.toNat v ∧ f.berth i.b = x.goesOn i ∧ (∀ j, j ≠ e → f.engine j = d.engine j) ∧ f.mem = d.mem) ∧
    (d.txHeld e = false → y.tx.length < d.fifoDepth e → Completes (.pewr i r k 0) s fun f =>
      f.engine e = { y with tx := y.tx ++ [x.operand r.toNat] } ∧ f.berth i.b = x.goesOn i) ∧
    (n = 8 ∨ n = 9 → Completes (.perd i r k n) s fun f => d.Leaves i (queued x i r (BitVec.ofNat 32 (y.rg n.toNat))) f) ∧
    ∀ w rest, y.rx = w :: rest → d.fifoDepth e ≠ 0 → Completes (.perd i r k 1) s fun f =>
      f.berth i.b = queued x i r w ∧ f.engine e = { y with rx := rest }

/-! ### The Carousel and the twin pairs (R31 to R34, R52, R55, R64, R518) -/

namespace Sys2Proof.Claims

/-- Table 2.7: a word of CAR_RECLASS that makes berth i TIMED. -/
def reclassTimed (i slot f l s : Nat) : Nat := i + 16 + slot * 2 ^ 5 + f * 2 ^ 8 + l * 2 ^ 14 + s * 2 ^ 20

/-- Both cores of a pair are parked. -/
def pairParked (d : Device) (p : Nat) : Prop := ∀ b, 16 * lowCore p ≤ b → b < 16 * lowCore p + 32 → d.parked b = true

end Sys2Proof.Claims

/-- R139: once the timebase has reached the berth's compare, line 0 is set once; before that nothing changes. R31, R33, R64: a berth asked
to park leaves its wait, and is shown parked once its entries are empty; an unpark lets it go on, and ends DOZE unless the berth sleeps; a
reclass of a parked berth makes it TIMED or FREE with its priority, and one of a berth that is not parked is refused; CAR_BRCLR clears the
breach registers of its bits.
It rests on choices of the model: notes/assumptions/61.md. -/
def Obligations.BerthCommands : Prop :=
  (∀ (s : State) (b : BitVec 9),
    let d := s.dev
    let n := b.toNat
    let x := d.berth n
    let cmp := d.rd64 (Reg.CAR_TCMP (n / 16) (n % 16))
    (d.present n = true → x.armed = true → x.wait = .none → x.woke = none → d.mode ≠ .doze → cmp ≤ d.tbNow →
      Completes (.timerCompare b) s fun e =>
        e.berth n = { x.setSr 20 (x.srN 20 ||| 1) with armed := false } ∧ onlyRegs d e [] ∧ ∀ c, c ≠ n → e.berth c = d.berth c) ∧
    (x.armed = false ∨ d.tbNow < cmp → exec (.timerCompare b) s = .next s)) ∧
  ∀ (s : State) (w : Writer) (b : BitVec 9) (c : BitVec 5) (v : BitVec 32),
    let d := s.dev
    let n := b.toNat
    let x := d.berth n
    let req := Reg.CAR_PARKREQ (n / 16)
    let shown := Reg.CAR_PARKED (n / 16)
    let rests (e : Device) (y : Berth) : Prop :=
      e.berth n = (if y.idle then { y with reads := [] } else y) ∧ (∀ j, j ≠ n → e.berth j = d.berth j) ∧ onlyRegs d e [req, shown]
    (d.arrives w req = true → d.present n = true → d.parkAsked n = false → Completes (.parkRequest w b) s fun e =>
      let y := x.leaveWait.unstall
      e.parkAsked n = true ∧ e.parked n = (d.parked n || y.idle) ∧ rests e y) ∧
    (d.arrives w req = true → d.present n = true → d.parkAsked n = true → d.twinMis (pairOf (n / 16)) = false →
      d.car.copying = [] →
      (d.mode ≠ .doze → Completes (.unparkRequest w b) s fun e =>
        e.parkAsked n = false ∧ e.parked n = false ∧ sameBerths d e ∧ onlyRegs d e [req, shown]) ∧
      (d.mode = .doze → Completes (.unparkRequest w b) s fun e =>
        e.parked n = false ∧ e.mode = (if x.asleep then .doze else d.prev) ∧ sameBerths d e)) ∧
    (d.present n = true → d.parkAsked n = true → Completes (.berthParked b) s fun e =>
      let y := x.unstall
      e.parked n = (d.parked n || y.idle) ∧ rests e y) ∧
    (let rec_ := Reg.CAR_RECLASS c.toNat
     let st := Reg.CAR_RECLASS_ST c.toNat
     let i := v.toNat % 16
     let m := 16 * c.toNat + i
     let cfg := Reg.CAR_BCFG c.toNat i
     d.arrives w rec_ = true → c.toNat < d.cfg.cores → d.present m = true →
      (d.parked m = false → Completes (.reclass w c v) s fun e =>
        e.rd st = 2 + 16 * i ∧ sameBerths d e ∧ onlyRegs d e [st]) ∧
      (∀ slot f l t, d.parked m = true → v.toNat = reclassTimed i slot f l t → slot < 8 → 4 ≤ f → f ≤ 16 → 1 ≤ l → l ≤ 4 → 1 ≤ t →
        t ≤ 4 → (∀ j, j < 16 → j ≠ i → d.timed (16 * c.toNat + j) = false) → Completes (.reclass w c v) s fun e =>
          e.rd st = 16 * i ∧ e.timed m = true ∧ e.fld cfg 1 3 = slot ∧ e.fld cfg 4 4 = d.fld cfg 4 4 ∧ e.fld cfg 8 6 = f ∧
          e.fld cfg 14 6 = l ∧ e.fld cfg 20 6 = t ∧ sameBerths d e ∧ onlyRegs d e [st, cfg]) ∧
      (d.parked m = true → bitOf v.toNat 4 = false → (∀ j, j < 16 → j ≠ i → d.timed (16 * c.toNat + j) = false) →
        Completes (.reclass w c v) s fun e =>
          e.rd st = 16 * i ∧ e.timed m = false ∧ e.fld cfg 4 4 = d.fld cfg 4 4 ∧ sameBerths d e ∧ onlyRegs d e [st, cfg])) ∧
    (d.arrives w (Reg.CAR_BRCLR c.toNat) = true → c.toNat < d.cfg.cores → Completes (.breachClear w c v) s fun e =>
      (∀ i, i < 16 → e.rd (Reg.CAR_BREACH c.toNat i) = if bitOf v.toNat i then 0 else d.rd (Reg.CAR_BREACH c.toNat i)) ∧
      sameBerths d e ∧ onlyRegs d e ((List.range 16).map fun i => Reg.CAR_BREACH c.toNat i))

/-- R55, R518: a twin pair copies the lower core once both are parked, the copy makes the pair active, and it ends with the higher core's
berths as they were copied; a reset of a core and of a berth leaves the berths as after reset, parked.
It rests on choices of the model: notes/assumptions/17.md, notes/assumptions/61.md. -/
def Obligations.TwinPairsAndBerthResets : Prop :=
  ∀ (s : State) (p : BitVec 4) (w : Writer) (c : BitVec 5) (b : BitVec 9),
    let d := s.dev
    let q := p.toNat
    let lo := lowCore q
    let copied (e : Device) : Prop := ∀ i, i < 16 → e.berth (16 * (lo + 1) + i) = d.berth (16 * lo + i)
    (d.twinEn q = true → d.twinAct q = false → q / 2 < d.cfg.tiles → pairParked d q → d.car.copying.contains q = false →
      Completes (.twinActivate p) s fun e => e = { d with car := { d.car with copying := d.car.copying ++ [q] } }) ∧
    (d.car.copying = [q] → d.car.unparks = [] → d.bol.entries = [] → Completes (.twinCopyDone p) s fun e =>
      e.twinAct q = true ∧ e.car.copying = [] ∧ copied e ∧ ∀ k, k < 16 * (lo + 1) ∨ 16 * (lo + 2) ≤ k → e.berth k = d.berth k) ∧
    (d.twinEn q = false → d.twinAct q = true → pairParked d q → Completes (.twinDeactivate p) s fun e =>
      e.twinAct q = false ∧ copied e ∧ ∀ i, i < 16 → e.parked (16 * (lo + 1) + i) = true) ∧
    (d.arrives w Reg.PWR_CRST = true → d.trusted w = true → c.toNat < d.cfg.cores → d.twinAct (pairOf c.toNat) = false →
      Completes (.coreReset w (1 <<< c.toNat)) s fun e =>
        ∀ i, i < 16 → e.berth (16 * c.toNat + i) = Berth.reset ∧ e.parked (16 * c.toNat + i) = true) ∧
    (d.arrives w Reg.PWR_BRST = true → d.trusted w = true → d.present b.toNat = true → Completes (.berthReset w b) s fun e =>
      e.berth b.toNat = Berth.reset ∧ e.parked b.toNat = true ∧
        e.rd (Reg.CAR_BCFG (b.toNat / 16) (b.toNat % 16)) =
          (regDefault d.cfg (Reg.CAR_BCFG (b.toNat / 16) (b.toNat % 16))).toNat)

/-! ### The memories' upkeep and the bollards of the host (R171, R178, R204, R205, R207) -/

/-- R170, R171: a scrubber reads its next word, corrects it where it can, and moves on, from the last word to the first; a word without an
error changes nothing else. R178, R207: MEM_CLR clears the counts of errors and MEM_INFLT.PEAK takes NOW; BOL_CLR clears the bollard
counts and BOL_STAT.PEAK takes USED.
It rests on choices of the model: notes/assumptions/59.md. -/
def Obligations.MemoryUpkeep : Prop :=
  (∀ (s : State) (m : BitVec 4),
    let d := s.dev
    let k := d.mem.scrubAt.get (fun _ => 0) m.toNat
    let a := scrubBase m.toNat + 8 * k
    (d.scrubs m.toNat = true → Completes (.scrubWord m) s fun e =>
      e.mem.scrubAt.get (fun _ => 0) m.toNat = (if scrubWords d.cfg m.toNat ≤ k + 1 then 0 else k + 1) ∧
      (d.eccAt a ≠ .uncorrectable → e.eccAt a = .clean) ∧
      (d.eccAt a = .clean → e.mem.bytes = d.mem.bytes ∧ e.mem.ecc = d.mem.ecc ∧ sameBerths d e ∧ onlyRegs d e [Reg.MEM_SCRUBSTAT])) ∧
    (d.scrubs m.toNat = false → exec (.scrubWord m) s = .next s)) ∧
  ∀ (s : State) (w : Writer),
    let d := s.dev
    let clears (c : Instr) (off lo n v : Nat) : Prop := Completes c s fun e =>
      e.fld off lo n = v % 2 ^ n ∧ (∀ k, k < 32 → k < lo ∨ lo + n ≤ k → e.flag off k = d.flag off k) ∧ onlyRegs d e [off] ∧
      sameBerths d e ∧ e.mem = d.mem ∧ e.bol = d.bol
    (d.arrives w Reg.MEM_CLR = true →
      clears (.memClrCe w) Reg.MEM_ECCSTAT 0 16 0 ∧ clears (.memClrUe w) Reg.MEM_ECCSTAT 16 16 0 ∧
      clears (.memClrPeak w) Reg.MEM_INFLT 16 13 d.inflight) ∧
    (d.arrives w Reg.BOL_CLR = true →
      clears (.bolClrCnt w) Reg.BOL_CNT 0 32 0 ∧ clears (.bolClrPeak w) Reg.BOL_STAT 16 11 d.bolUsed)

/-- R204, R205: a forced release of a HELD word that nobody waits for leaves it force-released and untracked with its EPOCH up, a hand-over
gives it to the berth; the host's and the Gangway's TRY acquires a word that nobody holds, of whatever state, and reports one that is held,
and REL frees one that the requester holds. R170, R187: on an uncorrectable word neither has an effect.
It rests on choices of the model: notes/assumptions/54.md, notes/assumptions/59.md, notes/assumptions/65.md. -/
def Obligations.HostBollards : Prop :=
  ∀ (s : State) (w : Writer) (b : BitVec 9) (inh : Bool) (user : BitVec 15),
    let d := s.dev
    let a := bitsOf (d.rd64 Reg.BOL_FADDR) 0 50
    (d.arrives w Reg.BOL_FORCE = true → bolAddrOk d.cfg a = true → d.eccAt a = .clean →
      (∀ n entry, d.tracked a = some (n, entry) →
        let ep := (entry.epoch + 1) % 16
        (d.waiters a = [] → Completes (.bolForcedRelease w) s fun e =>
          e.rd Reg.BOL_FST = status 0 ep ∧ e.bol.entries.get bolDefault n = none ∧
          wordAt d e a (lockWord 3 entry.inh ep entry.holder.owner entry.user) ∧ sameBerths d e) ∧
        (d.present b.toNat = true → (d.berth b.toNat).wait = .none → Completes (.bolHandOver w b) s fun e =>
          e.rd Reg.BOL_FST = status 0 ep ∧
          e.bol.entries.get bolDefault n = some ⟨a, .berth b.toNat, entry.inh, ep, entry.user⟩ ∧
          wordAt d e a (lockWord 1 entry.inh ep b.toNat entry.user) ∧ sameBerths d e)) ∧
      (d.tracked a = none → bitsOf (d.value a 4) 30 2 ≠ 1 → Completes (.bolForcedRelease w) s fun e =>
        e.rd Reg.BOL_FST = status 0x16 (bitsOf (d.value a 4) 25 4) ∧ e.bol = d.bol ∧ e.mem = d.mem ∧ sameBerths d e)) ∧
    (∀ who : Holder, (w = .gangway ∧ who = .gangway) ∨ ((∃ q, w = .host q) ∧ who = .host) →
      d.arrives w Reg.BOL_HOP = true → d.hostBolHere w = true →
      let g := if who = .gangway then d.bol.gwAddr else d.bol.hostAddr
      let answer (e : Device) : Nat := if who = .gangway then e.bol.gwStatus else e.bol.hostStatus
      let told (e : Device) (v : Nat) : Prop := answer e = v
      let old := d.value g 4
      let st := bitsOf old 30 2
      bolAddrOk d.cfg g = true →
      (d.eccAt g = .clean →
        (∀ n, d.tracked g = none → d.freeEntry = some n → Completes (.hostTry w inh user) s fun e =>
          let ep := if st = 1 then (bitsOf old 25 4 + 1) % 16 else bitsOf old 25 4
          told e (status (if st = 0 then 0 else if st = 3 then 2 else 1) ep) ∧
          e.bol.entries.get bolDefault n = some ⟨g, who, inh, ep, user.toNat⟩ ∧
          wordAt d e g (lockWord 1 inh ep 1023 user.toNat) ∧ sameBerths d e) ∧
        ∀ n entry, d.tracked g = some (n, entry) →
          (Completes (.hostTry w inh user) s fun e =>
            told e (status (if entry.holder = who then 0x14 else 0x10) (entry.epoch % 16)) ∧ e.bol.entries = d.bol.entries ∧
            e.mem = d.mem ∧ sameBerths d e) ∧
          (entry.holder = who → d.waiters g = [] → Completes (.hostRel w) s fun e =>
            told e (status 3 (entry.epoch % 16)) ∧ e.bol.entries.get bolDefault n = none ∧
            wordAt d e g (lockWord 0 false entry.epoch 0 entry.user) ∧ sameBerths d e)) ∧
      (d.eccAt g = .uncorrectable → d.flag (Reg.RMS_CFG 0x22) 12 = false →
        ∀ c, c = .hostTry w inh user ∨ c = .hostRel w → Completes c s fun e =>
          2 ^ 31 ≤ answer e ∧ e.bol.entries = d.bol.entries ∧ e.mem = d.mem ∧ sameBerths d e))

/-! ### Pin engines (R216, R222 to R232, R238 to R240, R245 to R255) -/

namespace Sys2Proof.Claims

/-- The engine exists and is powered, drives no event output, counts nothing by itself, and no migration awaits its fence. -/
abbrev engPlain (d : Device) (n : Nat) : Prop :=
  let x := d.engine n
  d.engPresent n = true ∧ x.rg peEvout = 0 ∧ x.fld peCntcfg 0 3 = 0 ∧ d.migPhase (n / 8) ≠ 1

/-- The engine runs and is at a program word. -/
abbrev engAt (d : Device) (n w : Nat) : Prop :=
  let x := d.engine n
  engPlain d n ∧ x.run = true ∧ x.wait = .none ∧ x.current = w

/-- The engine waits at a program word. -/
abbrev engWaits (d : Device) (n w : Nat) (k : EngWait) : Prop :=
  let x := d.engine n
  engPlain d n ∧ x.run = true ∧ x.wait = k ∧ x.current = w

/-- PC after an instruction that transfers no control (R222). -/
def pcAfter (x : Engine) : Nat := if x.flag peWrap 15 ∧ x.pc = x.fld peWrap 8 6 then x.fld peWrap 0 6 else (x.pc + 1) % 64

/-- The ECLK edge of the engine's next tick has come in its own time (R216). -/
def atEdge (x : Engine) : Engine :=
  { x with passed := max (x.passed + 1) x.now, lead := x.lead + (max (x.passed + 1) x.now - x.passed) }

/-- `n` ticks of the divider have passed (R216). -/
def ticks : Nat → Engine → Engine
  | 0, x => x
  | n + 1, x => ticks n (atEdge x).pass

/-- `n` ECLK edges have passed of an engine that waits, with the ticks among them (R217). -/
def clocks : Nat → Engine → Engine
  | 0, x => x
  | n + 1, x =>
    let y := { x with passed := x.passed + 1, lead := x.lead + 1 }
    clocks n (if y.passed = y.now then y.pass else y)

/-- The engine at its present instruction, its `n`th tick come and every transition placed until then on the pads (R220). -/
def engThere (x : Engine) (n : Nat) : Engine := (ticks n x).settle

/-- The engine at its next instruction, at its `n`th tick. -/
def engNext (x : Engine) (n : Nat) : Engine := { engThere x n with pc := pcAfter x, wait := .none }

/-- Engine n becomes y; every other part of the device stands. -/
def engLeaves (d : Device) (n : Nat) (y : Engine) (e : Device) : Prop :=
  e.engine n = y ∧ (∀ k, k ≠ n → e.engine k = d.engine k) ∧ e = { d with eng := { d.eng with engines := e.eng.engines } }

/-- Table 7.3: conditions that no register changes for, with their values. -/
def jmpConds (d : Device) (n : Nat) (x : Engine) : List (Nat × Bool) := [
  (0, true), (1, x.rg peX == 0), (3, x.rg peY == 0), (5, x.rg peX != x.rg peY), (7, x.fld peScnt 0 6 != 0),
  (6, (d.setEngine n (engThere x 1)).enginePin n (x.fld peShift 16 5)), (8, x.matched), (9, x.cmatch),
  (10, !x.tx.isEmpty), (11, decide (x.rx.length < d.fifoDepth n))]

/-- The commands of a running engine's instructions but FLAG, which reaches berths. -/
def peTable : List (BitVec 6 → Instr) := [
  .peNop, .peStop, .peJmp, .peWait, .peIn, .peOut, .pePush, .pePull, .peMov, .peSet, .peEdge, .peCntClr, .peCntInc, .peCntArm, .peDly]

end Sys2Proof.Claims

/-- R222 to R232, R238: what each engine instruction leaves of its engine, by its program word (Table 7.2): operands of X and Y for IN,
OUT, MOV and SET, a tile flag for WAIT and FLAG, the conditions of Table 7.3 for JMP; and with every operand, an instruction that is no
error changes no other engine, no berth and no memory. An undefined word stops the engine with ERR 1 (its
Ringmaster source is off here, so no reaction adds to it). R224, R230, R231, R238: a WAIT for a tile flag completes once it is 1, a FLAG
that waits once its flag is 0, a DLY when its ticks have passed, and a stalled PULL once the TX FIFO holds a word.
It rests on choices of the model: notes/assumptions/25.md, notes/assumptions/26.md, notes/assumptions/28.md, notes/assumptions/65.md. -/
def Obligations.EnginesExecute : Prop :=
  (∀ (s : State) (e : BitVec 6) (j : Nat),
    let d := s.dev
    let n := e.toNat
    let x := d.engine n
    let k := j % 32
    let bits := if k = 0 then 32 else k
    let leaves (w : Nat) (c : Instr) (y : Engine) : Prop := engAt d n w → Completes c s (engLeaves d n y)
    leaves 0x0000 (.peNop e) (engNext x 1) ∧
    leaves 0x0100 (.peStop e) { engNext x 1 with run := false } ∧
    (∀ q ∈ jmpConds d n x, j < 64 → leaves (0x1000 + 256 * q.1 + j) (.peJmp e)
      (if q.2 then { engNext x 1 with pc := j } else engNext x 1)) ∧
    (j < 64 → ∀ q ∈ [(0x1200, peX), (0x1400, peY)],
      let v := (x.rg q.2 + 2 ^ 32 - 1) % 2 ^ 32
      leaves (q.1 + j) (.peJmp e)
        (if v = 0 then engNext (x.setRg q.2 v) 1 else { engNext (x.setRg q.2 v) 1 with pc := j })) ∧
    (k < 8 → leaves (0x2A00 + k) (.peWait e)
      (if bitOf (d.tileReg (n / 8) 48) k then engNext x 1 else { engThere x 1 with wait := .cond false (engThere x 1).passed })) ∧
    (x.flag peShift 2 = false → leaves (0x3100 + k) (.peIn e)
      (engNext ((x.setRg peRsh (if x.flag peShift 0 then x.rg peRsh / 2 ^ bits + x.rg peX % 2 ^ bits * 2 ^ (32 - bits)
        else (x.rg peRsh * 2 ^ bits + x.rg peX % 2 ^ bits) % 2 ^ 32)).setFld peScnt 8 6 (min (x.fld peScnt 8 6 + bits) 32)) 1)) ∧
    (x.flag peShift 3 = false → leaves (0x4200 + k) (.peOut e)
      (engNext (((x.setRg peTsh (if x.flag peShift 1 then x.rg peTsh / 2 ^ bits else x.rg peTsh * 2 ^ bits % 2 ^ 32)).setFld peScnt 0 6
        (x.fld peScnt 0 6 - bits)).setRg peX (if x.flag peShift 1 then x.rg peTsh % 2 ^ bits else x.rg peTsh / 2 ^ (32 - bits))) 1)) ∧
    (x.rx.length < d.fifoDepth n → leaves 0x5000 (.pePush e)
      (engNext { (x.setRg peRsh 0).setFld peScnt 8 6 0 with rx := x.rx ++ [BitVec.ofNat 32 (x.rg peRsh)] } 1)) ∧
    (∀ v r, x.tx = v :: r → d.fifoDepth n ≠ 0 → leaves 0x5800 (.pePull e)
      (engNext { (x.setRg peTsh v.toNat).setFld peScnt 0 6 x.txlen with tx := r } 1)) ∧
    leaves 0x6202 (.peMov e) (engNext (x.setRg peX (x.rg peY)) 1) ∧
    leaves 0x6242 (.peMov e) (engNext (x.setRg peX (2 ^ 32 - 1 - x.rg peY)) 1) ∧
    leaves 0x62C2 (.peMov e) (engNext (x.setRg peX ((x.rg peX + x.rg peY) % 2 ^ 32)) 1) ∧
    (leaves (0x7200 + k) (.peSet e) (engNext (x.setRg peX k) 1) ∧ leaves (0x7300 + k) (.peSet e) (engNext (x.setRg peY k) 1)) ∧
    (∀ p v ph a, v < 2 → ph < 8 → a < 2 → x.padOf k = some p → d.lowerOwns n p = false →
      let y := engThere x 1
      let t8 := 8 * (y.passed + 1) + ph + if a = 1 then bitsOf x.acc 5 3 else 0
      leaves (0x8000 + 128 * k + 64 * v + 8 * ph + 4 * a) (.peEdge e)
        { engNext x 1 with coming := insertComing (t8, p, decide (v = 1)) y.coming }) ∧
    leaves 0x9000 (.peCntClr e) (engNext ((x.setRg peCnt 0).setFlag peStat 21 false) 1) ∧
    (let c := (x.rg peCnt + 1) % 2 ^ 24
     leaves 0x9400 (.peCntInc e) (engNext (if c = x.rg peCntcmp % 2 ^ 24
      then (x.setRg peCnt (if x.flag peCntcfg 4 then 0 else c)).setFlag peStat 21 true else x.setRg peCnt c) 1)) ∧
    leaves 0x9800 (.peCntArm e) (engNext (x.setFlag peStat 21 false) 1) ∧
    (k < 8 → engAt d n (0xA800 + k) → Completes (.peFlag e) s fun f =>
      f.engine n = engNext x 1 ∧ f.tileReg (n / 8) 48 = d.tileReg (n / 8) 48 ||| 2 ^ k ∧ sameBerths d f ∧ f.mem = d.mem) ∧
    leaves 0xB000 (.peDly e) (engNext x 1) ∧
    (1 ≤ j → j < 4096 → leaves (0xB000 + j) (.peDly e) { engThere x 1 with wait := .delay j }) ∧
    (0xC000 ≤ j → j < 0x10000 → engAt d n j → d.flag (Reg.RMS_CFG (0x18 + n / 8)) 12 = false →
      Completes (.peUndefined e) s fun f =>
        f.engine n = { engThere (x.setFld peStat 22 2 1) 1 with run := false, wait := .none } ∧ sameBerths d f ∧ f.mem = d.mem) ∧
    ((∀ code, peDecode x.current ≠ .error code) → d.fifoDepth n ≠ 0 → ∀ c ∈ peTable, Completes (c e) s fun f =>
      (∀ i, i ≠ n → f.engine i = d.engine i) ∧ f = { d with eng := f.eng, evf := f.evf, regs := f.regs } ∧
      onlyRegs d f ((List.range 4).map Reg.EVF_MERGE))) ∧
  ∀ (s : State) (e : BitVec 6) (t : BitVec 32) (k left since : Nat) (seen : Bool),
    let d := s.dev
    let n := e.toNat
    let x := d.engine n
    let m := max t.toNat 1
    (k < 8 → engWaits d n (0x2A00 + k) (.cond seen since) → bitOf (d.tileReg (n / 8) 48) k = true →
      Completes (.peWaitComplete e t) s (engLeaves d n { (clocks m x).settle with pc := pcAfter x, wait := .none })) ∧
    (k < 8 → engWaits d n (0x2A00 + k) (.cond seen since) → bitOf (d.tileReg (n / 8) 48) k = false →
      exec (.peWaitComplete e t) s = .next s) ∧
    (k < 8 → engWaits d n (0xAC00 + k) .flag → bitOf (d.tileReg (n / 8) 48) k = false →
      Completes (.peFlagWaitComplete e t) s (engLeaves d n (engNext x m))) ∧
    (k < 4096 → engWaits d n (0xB000 + k) (.delay left) → Completes (.peDlyComplete e) s (engLeaves d n (engNext x left))) ∧
    ∀ v r, x.tx = v :: r → engWaits d n 0x5C00 .pull → Completes (.peStallEnd e t) s fun f =>
      let y := f.engine n
      y.tx = r ∧ y.rg peTsh = v.toNat ∧ y.fld peScnt 0 6 = x.txlen ∧ y.pc = pcAfter x ∧ y.wait = .none ∧ y.run = true ∧
      (∀ j, j ≠ n → f.engine j = d.engine j) ∧ sameBerths d f ∧ f.mem = d.mem

/-- R217, R234, R239, R240, R243: a write of PE_CTRL starts, stops and restarts an engine, restarts its divider and clears its FIFOs and
stall counts; PE_GSTART and PE_GSTOP do so for the engines of a mask. R245, R253: PE_TSET and PE_TCLR set and clear tile flags and lines,
PE_TCLR.CNT clears PE_TSTAT, and a program word of a stopped engine takes a write.
It rests on choices of the model: notes/assumptions/25.md, notes/assumptions/65.md. -/
def Obligations.EnginesAreControlled : Prop :=
  (∀ (s : State) (w : Writer) (e : BitVec 6) (v : BitVec 32) (t : BitVec 3) (mask : BitVec 8) (restart clkr : Bool),
    let d := s.dev
    let n := e.toNat
    let x := d.engine n
    let others (f : Device) : Prop := ∀ k, k ≠ n → f.engine k = d.engine k
    let does (c : Instr) (P : Engine → Prop) : Prop :=
      d.arrives w (engOffset n 2) = true → engPlain d n → d.migrating n = false → d.pwr.relock = none →
        Completes c s fun f => P (f.engine n) ∧ others f
    let cleared (y : Engine) : Prop := y.pc = 0 ∧ y.rg peRsh = 0 ∧ y.rg peTsh = 0 ∧ y.rg peScnt = 0 ∧ y.err = 0 ∧ y.cmatch = false
    (v.toNat / 8 % 8 = 0 → x.run = false → v.getLsbD 1 = false → x.err = 0 → does (.engineStart w e v) fun y =>
      y.run = true ∧ y.wait = .none ∧ y.pc = x.pc ∧ y.regs = x.regs ∧ y.acc = if v.getLsbD 2 then 0 else x.acc) ∧
    (v.toNat / 8 % 8 = 0 → x.run = false → v.getLsbD 1 = false → x.err ≠ 0 → does (.engineStart w e v) fun y => y = x) ∧
    (v.toNat / 8 % 8 = 0 → x.run = false → does (.programRestart w e v) fun y => y.run = true ∧ y.wait = .none ∧ cleared y) ∧
    (v.toNat / 8 % 8 = 0 → v.getLsbD 2 = false → does (.engineStop w e v) fun y =>
      y = { x with run := false, wait := .none, frozen := false }) ∧
    (v.toNat / 8 % 8 = 0 → v.getLsbD 0 = x.run → does (.dividerRestart w e v) fun y =>
      y.acc = 0 ∧ y.run = x.run ∧ y.pc = x.pc ∧ y.regs = x.regs) ∧
    (v.toNat % 8 = (if x.run then 1 else 0) →
      (does (.txClear w e v) fun y => y.tx = if x.run then x.tx else []) ∧
      (does (.rxClear w e v) fun y => y.rx = if x.run then x.rx else []) ∧
      (does (.stallClear w e v) fun y => y.rg peStall = 0 ∧ y.rg peStallcyc = 0 ∧ y.pc = x.pc)) ∧
    (let at_ (j : Nat) : Nat := 8 * t.toNat + j
     (∀ j, j < 8 → mask.getLsbD j = true → engPlain d (at_ j) ∧ d.migrating (at_ j) = false ∧ (d.engine (at_ j)).err = 0) →
      d.pwr.relock = none → d.engPresent (at_ 0) = true →
      (d.arrives w (engOffset (at_ 0) 51) = true → Completes (.groupStart w t mask restart clkr) s fun f => ∀ j, j < 8 →
        let y := d.engine (at_ j)
        if mask.getLsbD j then (f.engine (at_ j)).run = true ∧ (clkr = true → (f.engine (at_ j)).acc = 0) ∧
          (f.engine (at_ j)).pc = (if restart && !y.run then 0 else y.pc)
        else f.engine (at_ j) = y) ∧
      (d.arrives w (engOffset (at_ 0) 52) = true → Completes (.groupStop w t mask) s fun f => ∀ j, j < 8 →
        let y := d.engine (at_ j)
        f.engine (at_ j) = if mask.getLsbD j then { y with run := false, wait := .none, frozen := false } else y))) ∧
  ∀ (s : State) (w : Writer) (t : BitVec 3) (v : BitVec 32) (u : BitVec 31) (e k : BitVec 6) (p : BitVec 16),
    let d := s.dev
    let n := e.toNat
    let old := d.tileReg t.toNat 48
    d.engPresent (8 * t.toNat) = true →
    (d.arrives w (engOffset (8 * t.toNat) 49) = true → Completes (.tileFlagSet w t v) s fun f =>
      f.tileReg t.toNat 48 = old ||| v.toNat % 2 ^ 24) ∧
    (d.arrives w (engOffset (8 * t.toNat) 50) = true →
      (Completes (.tileFlagClear w t u) s fun f => ∀ j, j < 24 → bitOf (f.tileReg t.toNat 48) j = (bitOf old j && !u.getLsbD j)) ∧
      Completes (.tstatClear w t) s fun f => f.tileReg t.toNat 47 = 0 ∧ f.tileReg t.toNat 48 = old) ∧
    (d.arrives w (0x40000 + 0x1000 * n + 0x100 + 4 * k.toNat) = true → d.engPresent n = true → d.migrating n = false →
      d.mode ≠ .run ∨ d.gateIs 4 = true →
      ((d.engine n).run = false → Completes (.programWordWrite w e k p) s fun f =>
        (f.engine n).word k.toNat = p.toNat ∧ (∀ j, j ≠ k.toNat → (f.engine n).word j = (d.engine n).word j) ∧
        (f.engine n).regs = (d.engine n).regs ∧ ∀ j, j ≠ n → f.engine j = d.engine j) ∧
      ((d.engine n).run = true → Completes (.programWordWrite w e k p) s fun f =>
        (f.engine n).prog = (d.engine n).prog ∧
        bitsOf (f.tileReg (n / 8) 47) 0 16 = min (bitsOf (d.tileReg (n / 8) 47) 0 16 + 1) 0xFFFF))

/-- R248 to R251: a migration that passes the checks of Table 7.8 runs, and where its source is stopped or stalled has its fence there; a
cancel ends it before the fence; the source stops at the fence; the copy moves program, state and TX entries and starts the destination;
it is done once the source's RX FIFO is empty.
It rests on choices of the model: notes/assumptions/27.md, notes/assumptions/65.md. -/
def Obligations.MigrationMovesAnEngine : Prop :=
  ∀ (s : State) (w : Writer) (t : BitVec 3) (v : BitVec 15),
    let d := s.dev
    let n := t.toNat
    let at_ (j : Nat) : Nat := 8 * n + j
    let src := at_ (d.migSrc n)
    let dst := at_ (d.migDst n)
    (d.arrives w (engOffset (at_ 0) 53) = true → d.engPresent (at_ 0) = true →
      (let a := v.toNat % 8
       let b := v.toNat / 16 % 8
       let q := v.toNat / 256 % 8
       let x := d.engine (at_ a)
       let y := d.engine (at_ b)
       let ends := !x.run || x.stalled
       d.migPhase n = 0 → a ≠ b → y.run = false → y.err = 0 → v.getLsbD 12 = true ∨ y.fld pePins 8 6 = 0 →
        d.handleEngine n q = some a → (∀ j, j < 8 → j ≠ q → d.handleEngine n j ≠ some b) →
        (∀ j, j < 8 → (d.engine (at_ j)).flag peShift 14 = false) → d.mode ≠ .run ∨ d.gateIs 4 = true →
        Completes (.migrationRequest w t v) s fun f =>
          f.tileReg n 54 = 9 + 16 * (if ends then 2 else 1) + 256 * a + 4096 * b + 65536 * q ∧
          f.migOf n = some ⟨a, b, q, v.getLsbD 12, x.wait == .push true || x.wait == .shifted⟩ ∧
          f.engine (at_ a) = (if ends then x.stop else x) ∧ ∀ j, j ≠ at_ a → f.engine j = d.engine j) ∧
      (d.migPhase n = 1 → Completes (.migrationCancel w t) s fun f =>
        f.migPhase n = 0 ∧ f.tileReg n 54 % 16 = 7 ∧ f.migOf n = none ∧ ∀ j, f.engine j = d.engine j) ∧
      (d.migPhase n ≠ 1 → exec (.migrationCancel w t) s = .next s)) ∧
    (let x := d.engine src
     (d.migPhase n = 1 → x.run = true → x.wait = .none → d.fenced src = true → Completes (.migrationFence t) s fun f =>
      f.migPhase n = 2 ∧ f.tileReg n 54 % 16 = 9 ∧ (f.engine src).run = false ∧ (f.engine src).pc = x.pc ∧
      (f.engine src).tx = x.tx ∧ ∀ j, j ≠ src → f.engine j = d.engine j) ∧
     (d.migPhase n ≠ 1 ∨ d.fenced src = false → exec (.migrationFence t) s = .next s)) ∧
    (∀ m, d.migOf n = some m → d.migPhase n = 2 → src ≠ dst → Completes (.migrationCopy t) s fun f =>
      let x := d.engine src
      let y := f.engine dst
      f.migPhase n = 3 ∧ y.prog = x.prog ∧ y.pc = x.pc ∧ y.run = true ∧ y.tx = (d.engine dst).tx ++ x.tx ∧
      y.wait = (if m.shifted then .shifted else .none) ∧
      (∀ r ∈ [peX, peY, peTsh, peRsh, peScnt, peCnt, pePdir, peClkdiv, peWrap], y.rg r = x.rg r) ∧
      (f.engine src).tx = [] ∧ ∀ j, j ≠ src → j ≠ dst → f.engine j = d.engine j) ∧
    (d.migPhase n = 3 → (d.engine src).rx = [] → d.migHandle n < 8 → Completes (.migrationDone t) s fun f =>
      f.tileReg n 54 % 16 = 0 ∧ f.migPhase n = 0 ∧ bitsOf (f.tileReg n 55) (4 * d.migHandle n) 3 = d.migDst n % 8 ∧
      f.migOf n = none ∧ (f.engine src).flag peStat 27 = true ∧ ∀ j, j ≠ src → f.engine j = d.engine j)

/-! ### Pads (R277, R279, R283, R284, R286, R289, R291, R292, R294, R300, R302) -/

namespace Sys2Proof.Claims

/-- No pad names a routed input. -/
def unrouted (d : Device) : Prop := ∀ t i, t < d.cfg.tiles → i < 32 → d.fld (Reg.PAD_CFG t i) 20 5 = 0

/-- What the receiver of a comparator's pad reads at a voltage in microvolts (Table 9.5): at and above 0.65 of the highest VDDIO of the
bank's class 1, at and below 0.35 of the lowest 0, and between them either. -/
def received (high33 : Bool) (u : Nat) (either : Bool) : Bool :=
  if 65 * (if high33 then 3465000 else 1890000) ≤ 100 * u then true
  else if 100 * u ≤ 35 * (if high33 then 3135000 else 1710000) then false else either

end Sys2Proof.Claims

/-- R215, R276, R281, R283: a pad that no routed input names reads what its driver, as the read-back sees it, or the outside drives it to,
and where neither does its pull, or at a comparator's pad the voltage of the comparator's input;
where the spec leaves the level undefined (between levels, two drivers that oppose each other, nothing that fixes it) it reads either. R291:
the output of a running comparator follows its input outside the hysteresis and the threshold's accuracy. R279, R284, R286, R289, R292,
R294, R300, R302: what a write of each pad register leaves, by a secure writer, which every pad permits; PAD_OWN, PAD_IMGB and PAD_CMP
refuse any other writer, and count it.
It rests on choices of the model: notes/assumptions/31.md, notes/assumptions/49.md, notes/assumptions/60.md, notes/assumptions/65.md. -/
def Obligations.PadsTakeLevelsAndWrites : Prop :=
  (∀ (s : State) (t : BitVec 3) (i : BitVec 5) (c : BitVec 4) (u : BitVec 21),
    let d := s.dev
    let driven := d.padDriveBy Engine.seen t.toNat i.toNat
    let pull := d.fld (Reg.PAD_CFG t.toNat i.toNat) 0 2
    let input := d.pad.cmpIn.get (fun _ => 0) (2 * t.toNat + (i.toNat - 30))
    let reads (l : PinLevel) (b : Bool) : Prop := Completes (.padInputChange t i l) s fun e =>
      e.padIn t.toNat i.toNat = b ∧ (∀ v j, j < 32 → (v ≠ t.toNat ∨ j ≠ i.toNat) → e.padIn v j = d.padIn v j) ∧ sameBerths d e ∧
      e.mem = d.mem
    let either := Config.freeLevel d.draws
    (d.isolated = false → t.toNat < d.cfg.tiles → unrouted d → ¬ (t = 1 ∧ i = 11) →
      (driven = .zero → reads .low false ∧ reads .released false ∧ reads .high either) ∧
      (driven = .one → reads .high true ∧ reads .released true ∧ reads .low either) ∧
      (driven = .highZ ∨ driven = .block → reads .low false ∧ reads .high true) ∧
      (driven = .highZ → reads .released
        (if d.padFunction t.toNat i.toNat = 1 then received (d.bank t.toNat == .high33) input either
        else if pull = 1 then true else if pull = 2 then false else if pull = 3 then d.padIn t.toNat i.toNat else either)) ∧
      reads .between either) ∧
    (d.cfg.tiles ≤ t.toNat → ∀ l, exec (.padInputChange t i l) s = .next s) ∧
    (let cmp := Reg.PAD_CMP (c.toNat / 2) (c.toNat % 2)
     let heard (e : Device) : Prop := e.pad.cmpIn.get (fun _ => 0) c.toNat = u.toNat ∧ sameBerths d e ∧ e.mem = d.mem
     let below := d.flag cmp 12
     let back : Int := if d.flag cmp 16 then 1024000 * ([0, 10, 20, 40].getD (d.fld cmp 10 2) 0 : Nat) else 0
     let point : Int := 1800000 * d.fld cmp 0 10 + (if below then back else -back)
     (d.cmpRuns c.toNat = true → unrouted d → (∀ q ∈ d.pad.cmpDue, q.1 ≠ c.toNat) →
      (point + 7200000 < 1024 * u.toNat → Completes (.comparatorTrip c u) s fun e => e.flag cmp 16 = !below ∧ heard e) ∧
      ((1024 * u.toNat : Int) < point - 7200000 → Completes (.comparatorTrip c u) s fun e => e.flag cmp 16 = below ∧ heard e)) ∧
     (d.cmpRuns c.toNat = false → Completes (.comparatorTrip c u) s fun e => heard e ∧ e.regs = d.regs))) ∧
  ∀ (s : State) (w : Writer) (t : BitVec 3) (i : BitVec 5) (c : BitVec 4) (v : BitVec 32),
    let d := s.dev
    let n := t.toNat
    let x := v.toNat
    let cmp := Reg.PAD_CMP (c.toNat / 2) (c.toNat % 2)
    let does (off : Nat) (q : Instr) (P : Device → Prop) : Prop :=
      d.arrives w off = true → n < d.cfg.tiles → d.identity w = .secure → Completes q s fun e => P e ∧ sameBerths d e
    let refused (off u : Nat) (q : Instr) : Prop :=
      d.arrives w off = true → u < d.cfg.tiles → d.identity w ≠ .secure → Completes q s fun e =>
        e.fld (Reg.PAD_STAT u) 0 16 = min (d.fld (Reg.PAD_STAT u) 0 16 + 1) 0xFFFF ∧ onlyRegs d e [Reg.PAD_STAT u] ∧ sameBerths d e
    (d.flag (Reg.RMS_CFG 6) 12 = false → does (Reg.PAD_CFG n i.toNat) (.padConfigWrite w t i v) fun e =>
      e.rd (Reg.PAD_CFG n i.toNat) = (if i.toNat < 30 then setBits (x % 2 ^ 25) 7 1 0 else x % 2 ^ 25)) ∧
    (does (Reg.PAD_DOUT n) (.padDoutWrite w t v) fun e => e.rd (Reg.PAD_DOUT n) = x ∧ onlyRegs d e [Reg.PAD_DOUT n]) ∧
    (does (Reg.PAD_OWN n i.toNat) (.padOwnerWrite w t i v) fun e =>
      e.rd (Reg.PAD_OWN n i.toNat) = (if d.flag (Reg.PAD_LOCK n) 0 then d.rd (Reg.PAD_OWN n i.toNat) else x % 2 ^ 7) ∧
      onlyRegs d e [Reg.PAD_OWN n i.toNat]) ∧
    (does (Reg.PAD_SFST n) (.safeForceClear w t v) fun e =>
      (∀ j, j < 32 → e.flag (Reg.PAD_SFST n) j = (d.flag (Reg.PAD_SFST n) j && !(v.getLsbD j && !d.forceHeld n j))) ∧
      onlyRegs d e [Reg.PAD_SFST n]) ∧
    (does (Reg.PAD_IMGB n) (.imageWordSelect w t v) fun e =>
      e.fld (Reg.PAD_IMGB n) 4 17 = x % (2 * d.cfg.imageS) / 16 % 2 ^ 17 ∧ onlyRegs d e [Reg.PAD_IMGB n]) ∧
    (does (Reg.PAD_LATCH n) (.latchRelease w t) fun e =>
      e.flag (Reg.PAD_LATCH n) 0 = false ∧ (∀ q ∈ e.pad.deep, q.1 / 32 ≠ n) ∧ onlyRegs d e [Reg.PAD_LATCH n]) ∧
    (does (Reg.PAD_STAT n) (.denyClear w t) fun e => e.fld (Reg.PAD_STAT n) 0 16 = 0 ∧ onlyRegs d e [Reg.PAD_STAT n]) ∧
    (d.arrives w cmp = true → c.toNat / 2 < d.cfg.tiles → d.identity w = .secure → Completes (.comparatorConfig w c v) s fun e =>
      e.fld cmp 0 13 = x % 2 ^ 13 ∧ sameBerths d e) ∧
    ((∀ q, w ≠ .host q) →
      refused (Reg.PAD_OWN n i.toNat) n (.padOwnerWrite w t i v) ∧ refused (Reg.PAD_IMGB n) n (.imageWordSelect w t v) ∧
      refused cmp (c.toNat / 2) (.comparatorConfig w c v))

/-! ### The event fabric, the timebase and the line phase (R304 to R330) -/

namespace Sys2Proof.Claims

/-- In RUN, nothing but a class, a pad's safe-force and the sticky bit takes channel n: no capture, no engine, no berth line, no tracker,
no Ringmaster source, no group and no wake. -/
def onlyClassesTake (d : Device) (n : Nat) : Prop :=
  d.mode = .run ∧ n ≠ 127 ∧ d.flag Reg.DBG_TCTL 4 = false ∧ d.eng.engines = [] ∧ d.lptSrc ≠ 2 ∧
  d.flag (Reg.EVF_WAKE (n / 32)) (n % 32) = false ∧
  (∀ k, k < 4 → d.flag Reg.TB_CAPCFG (8 * k + 7) = false ∧ d.flag Reg.EVF_RMSCH (8 * k + 7) = false) ∧
  (∀ c m, c < d.cfg.cores → m < 8 → d.lineTakes c m n = false) ∧
  ∀ g, g < 16 → d.flag (Reg.EVF_GRP g) 7 = false ∧ d.flag (Reg.EVF_GRP g) 15 = false

/-- And no class is enabled. -/
def onlyPadsTake (d : Device) (n : Nat) : Prop := onlyClassesTake d n ∧ ∀ c, c < 16 → d.clsOn c = false

/-- A channel that reads low and is not held takes a pulse. -/
def pulsed (d e : Device) (n : Nat) : Prop :=
  n ∉ d.evf.held → if d.preGate n then e.flag (Reg.EVF_MERGE (n / 32)) (n % 32) = true else n ∈ e.evf.pulses

end Sys2Proof.Claims

/-- R288, R304 to R310, R316: an assertion sets the channel's sticky bit and forces the pads that watch it, a pulse that a disabled group
holds back ends without one; a fire pulses its channel; a configuration write holds the channel at 0 until the hold ends; a software
interrupt sets line 31.
It rests on choices of the model: notes/assumptions/30.md, notes/assumptions/65.md. -/
def Obligations.EventFabricActs : Prop :=
  ∀ (s : State) (w : Writer) (n : BitVec 7) (k : BitVec 2) (i : BitVec 5) (g : BitVec 4) (b : BitVec 9) (v : BitVec 32),
    let d := s.dev
    let c := n.toNat
    let x := d.berth b.toNat
    (d.chLevel c = true → c ∉ d.evf.asserted → onlyPadsTake d c → Completes (.channelAssertion n) s fun e =>
      e.flag (Reg.EVF_STICKY (c / 32)) (c % 32) = true ∧ c ∉ e.evf.pulses ∧
      (∀ t j, t < d.cfg.tiles → j < 32 → e.flag (Reg.PAD_SFST t) j =
        (d.flag (Reg.PAD_SFST t) j || (d.flag (Reg.PAD_CFG t j) 10 && d.fld (Reg.PAD_CFG t j) 13 7 == c))) ∧
      sameBerths d e ∧ e.mem = d.mem) ∧
    (d.chLevel c = false → d.isolated = false → Completes (.channelAssertion n) s fun e =>
      e.evf.pulses = d.evf.pulses.filter (· != c) ∧ onlyRegs d e [] ∧ sameBerths d e ∧ e.mem = d.mem) ∧
    (d.arrives w (Reg.EVF_FIRE k.toNat) = true → Completes (.channelFire w k (1 <<< i.toNat)) s fun e =>
      pulsed d e (32 * k.toNat + i.toNat) ∧ sameBerths d e ∧ e.mem = d.mem) ∧
    (d.arrives w (Reg.EVF_CHCFG c) = true → Completes (.channelConfig w n v) s fun e =>
      e.rd (Reg.EVF_CHCFG c) = v.toNat &&& 0x1F3FF ∧ c ∈ e.evf.held ∧ c ∉ e.evf.pulses ∧ onlyRegs d e [Reg.EVF_CHCFG c]) ∧
    (Completes (.channelHoldEnd n) s fun e => e = { d with evf := { d.evf with held := d.evf.held.filter (· != c) } }) ∧
    (d.arrives w (Reg.EVF_GRP g.toNat) = true → Completes (.groupWrite w g v) s fun e =>
      e.rd (Reg.EVF_GRP g.toNat) = v.toNat % 2 ^ 17 ∧ onlyRegs d e [Reg.EVF_GRP g.toNat]) ∧
    (d.arrives w Reg.EVF_SWI = true →
      (d.present b.toNat = true → x.wait = .none → x.woke = none → d.mode ≠ .doze → Completes (.softwareInterrupt w b) s fun e =>
        e.berth b.toNat = x.setSr 20 (x.srN 20 ||| 2 ^ 31) ∧ onlyRegs d e [] ∧ ∀ j, j ≠ b.toNat → e.berth j = d.berth j) ∧
      (d.present b.toNat = false → b.toNat < d.cfg.berths → Completes (.softwareInterrupt w b) s fun e =>
        let st := Reg.CAR_STAT (b.toNat / 16)
        e.fld st 16 16 = min (d.fld st 16 16 + 1) 0xFFFF ∧ onlyRegs d e [st] ∧ sameBerths d e) ∧
      (d.cfg.berths ≤ b.toNat → exec (.softwareInterrupt w b) s = .next s))

/-- R318, R320 to R323: a step of the timebase is accepted outside RUN and while the Beyram link does not drive it, and moves the count by 8
× its signed value unless that leaves the count's range; a compare arms at its write, fires once reached and reloads by its period; a
sampled edge of TB_PPS is captured. R325 to R330: the first crossing takes the tracker from NONE to ACQUIRE, one within half a period is
blanked and counted; the tracker goes to HOLD after 1.5 periods without a crossing and to NONE when HOLD expires; a new source or nominal
acquires anew; a carry of the phase pulses its producer.
It rests on choices of the model: notes/assumptions/29.md, notes/assumptions/65.md. -/
def Obligations.TimebaseAndLinePhase : Prop :=
  (∀ (s : State) (w : Writer) (n : BitVec 4) (v : BitVec 32) (u : BitVec 64),
    let d := s.dev
    let cmp := Reg.TB_CMP n.toNat
    let per := Reg.TB_CMPPER n.toNat
    let p := d.fld per 0 31
    (d.arrives w Reg.TB_STEP = true → d.flag Reg.TB_CTRL 0 = true → Completes (.timebaseStepRequest w v) s fun e =>
      e.tb = d.tb ∧ e.fld Reg.TB_STAT 8 8 = min (d.fld Reg.TB_STAT 8 8 + 1) 0xFF ∧ onlyRegs d e [Reg.TB_STAT]) ∧
    (d.arrives w Reg.TB_STEP = true → d.flag Reg.TB_CTRL 0 = false →
      (d.mode ≠ .run → Completes (.timebaseStepRequest w v) s fun e =>
        e.tb = { d.tb with step := some (v.toNat, 0) } ∧ e.flag Reg.TB_STAT 0 = true ∧ onlyRegs d e [Reg.TB_STAT]) ∧
      (d.mode = .run → Completes (.timebaseStepRequest w v) s fun e =>
        e.tb = d.tb ∧ e.flag Reg.TB_STAT 1 = true ∧ onlyRegs d e [Reg.TB_STAT])) ∧
    (∀ a age, d.tb.step = some (a, age) → 2 ≤ age → d.tbNow % 8 = 0 → a < 2 ^ 32 →
      let to_ : Int := d.tbNow + 8 * (BitVec.ofNat 32 a).toInt
      Completes .timebaseStep s fun e =>
        (if 0 ≤ to_ ∧ to_ < 2 ^ 64 then (e.tbNow : Int) = to_ else e.tbNow = d.tbNow ∧ e.flag Reg.TB_STAT 1 = true) ∧
        e.tb.step = none ∧ e.flag Reg.TB_STAT 0 = false ∧ onlyRegs d e [Reg.TB_STAT]) ∧
    (d.tb.step = none → exec .timebaseStep s = .next s) ∧
    (d.arrives w cmp = true → Completes (.timebaseCompareArm w n (.value u)) s fun e =>
      e.rd64 cmp = u.toNat ∧ n.toNat ∈ e.tb.armed ∧ onlyRegs d e [cmp, cmp + 4]) ∧
    (d.arrives w per = true → Completes (.timebaseCompareArm w n (.period v)) s fun e =>
      e.rd per = v.toNat ∧ onlyRegs d e [per] ∧
      if d.flag per 31 = false ∧ v.getLsbD 31 = true then n.toNat ∈ e.tb.armed else e.tb = d.tb) ∧
    (d.tbDue n.toNat = true → Completes (.timebaseCompare n) s fun e =>
      (∀ c, c < 128 → d.chSrc c = 0x21 + n.toNat → pulsed d e c) ∧
      (if p = 0 then n.toNat ∉ e.tb.armed else e.tb = d.tb ∧ e.rd64 cmp = (d.rd64 cmp + p) % 2 ^ 64)) ∧
    (d.tbDue n.toNat = false → exec (.timebaseCompare n) s = .next s) ∧
    ∀ c r, d.tb.pps = c :: r → c < 2 ^ 64 → Completes .ppsCapture s fun e =>
      e.tb = { d.tb with pps := r } ∧
      if d.flag Reg.TB_CTRL 1 then e.rd64 Reg.TB_PPSTS = c ∧ e.fld Reg.TB_STAT 16 16 = (d.fld Reg.TB_STAT 16 16 + 1) % 2 ^ 16
      else onlyRegs d e []) ∧
  ∀ (s : State) (w : Writer) (v : BitVec 32),
    let d := s.dev
    let x := v.toNat
    (∀ c acc r, d.lpt.arrivals = (c, acc) :: r → d.lptOff = false →
      (d.lptState = 0 → (∀ l, d.lpt.last = some l → d.lptReference ≤ 2 * (c - l)) → Completes .lineCrossing s fun e =>
        e.lptState = 1 ∧ e.rd Reg.LPT_INC = 0 ∧ e.lpt.last = some c ∧ e.lpt.place = 1 ∧ e.lpt.arrivals = r ∧
        e.rd Reg.LPT_ERR = (acc / 2 ^ 16 + 2 ^ 32 - d.rd Reg.LPT_OFS) % 2 ^ 32) ∧
      (∀ l, d.lpt.last = some l → 2 * (c - l) < d.lptReference → Completes .lineCrossing s fun e =>
        e.lpt = { d.lpt with arrivals := r } ∧ e.fld Reg.LPT_STAT 8 8 = min (d.fld Reg.LPT_STAT 8 8 + 1) 0xFF ∧
        onlyRegs d e [Reg.LPT_STAT])) ∧
    (d.lptState = 2 → 3 * d.lptPeriod ≤ 2 * d.lptSince → d.flag (Reg.RMS_CFG 5) 12 = false → Completes .trackerTimeout s fun e =>
      e.lptState = 3 ∧ e.lpt.holdFrom = d.lpt.edges ∧ e.lpt.freq = d.lpt.freq ∧
      (e.rd Reg.LPT_INC : Int) = min (max d.lpt.freq 0) (2 * nomInc (d.fld Reg.LPT_STAT 2 2))) ∧
    (d.lptState = 0 → exec .trackerTimeout s = .next s ∧ exec .trackerHoldExpiry s = .next s) ∧
    (let h := if d.fld Reg.LPT_CFG 16 4 = 0 then 16 else d.fld Reg.LPT_CFG 16 4
     d.lptState = 3 → h * d.lptPeriod ≤ d.lpt.edges - d.lpt.holdFrom → Completes .trackerHoldExpiry s fun e =>
      e.lptState = 0 ∧ e.rd Reg.LPT_INC = 0 ∧ e.fld Reg.LPT_STAT 2 2 = 0 ∧ e.lpt = d.lpt) ∧
    (d.arrives w Reg.LPT_CFG = true → d.lptState ≠ 2 ∨ d.flag (Reg.RMS_CFG 5) 12 = false → Completes (.trackerConfig w v) s fun e =>
      e.rd Reg.LPT_CFG = x &&& 0xF7F1F ∧
      if bitsOf (d.rd Reg.LPT_CFG) 0 5 = x % 32 ∧ d.fld Reg.LPT_CFG 8 7 = x / 256 % 128 then e.lpt = d.lpt ∧ onlyRegs d e [Reg.LPT_CFG]
      else if e.lptOff then e.lptState = 0 ∧ e.rd Reg.LPT_INC = 0 else e.lptState = 1 ∧ e.lpt.last = d.lpt.last ∧ e.lpt.place = 0) ∧
    (d.arrives w Reg.LPT_STAT = true → Completes (.trackerCountClear w) s fun e =>
      e.fld Reg.LPT_STAT 8 16 = 0 ∧ e.lptState = d.lptState ∧ e.fld Reg.LPT_STAT 2 2 = d.fld Reg.LPT_STAT 2 2 ∧
      onlyRegs d e [Reg.LPT_STAT] ∧ e.lpt = d.lpt) ∧
    (d.lpt.wraps ≠ 0 → Completes .linePhaseWrap s fun e =>
      e.lpt = { d.lpt with wraps := d.lpt.wraps - 1 } ∧ ∀ c, c < 128 → d.chSrc c = 0x68 → pulsed d e c) ∧
    (d.lpt.wraps = 0 → exec .linePhaseWrap s = .next s)

/-! ### The scan sequencer and the manifest unit (R331 to R367, R469) -/

namespace Sys2Proof.Claims

/-- A tick of class c finds nothing to latch: an empty input map and no stamp word. -/
abbrev latchesNothing (d : Device) (c : Nat) : Prop := d.mapCount (Reg.SCN_LMAP c) = 0 ∧ d.flag (Reg.SCN_STW c) 0 = false

/-- A latch has been assembled of some input words, without a stamp word, and no receive buffer waits for a deferred swap. -/
abbrev latched (d : Device) (c : Nat) (words : List Nat) : Prop :=
  (d.cls c).latching = true ∧ (d.cls c).assembled = words ∧ (d.cls c).stampWord = none ∧ d.bey.due = [] ∧ d.mac.due = []

/-- The class as a tick that starts its cycle leaves it, with the input words it has latched (R333, R336, R339). -/
abbrev ticked (k : ScanClass) (words : List Nat) : ScanClass :=
  { k with running := true, release := true, kept := false, assembled := words, stampWord := none, frozen := [], latching := true }

/-- A map register's one or more entries (R338): entry i, 8 bytes from an aligned address on in a tile SRAM, has no error and a value. -/
abbrev mapped (d : Device) (reg : Nat) (vs : List Nat) : Prop :=
  let a := d.mapAddr reg
  a % 8 = 0 ∧ d.mapCount reg = vs.length ∧ ∀ i, i < vs.length →
    (∃ t o, placeOf d.cfg none (a + 8 * i) = some (.sram t o)) ∧ d.eccAt (a + 8 * i) = .clean ∧ d.value (a + 8 * i) 8 = vs.getD i 0

/-- The second buffer of an offset of the working image: latch buffers and live buffers (R160). -/
abbrev buffer (d : Device) (w : Nat) : Nat := imageBase + 2 * d.cfg.imageS + w

/-- A latch entry of Table 11.2 for the pad bank of a tile (kind 1) or PE_IMGIN of an engine (kind 2), and the word that it samples. -/
def latches (d : Device) (dst kind index word : Nat) : Prop :=
  dst % 4 = 0 ∧ dst % 16 < 8 ∧ dst + 4 ≤ 2 * d.cfg.imageS ∧ index < 256 ∧
  (kind = 1 ∧ word = (if d.tileOn index then d.padInWord index else 0) ∨
    kind = 2 ∧ word = if d.engPresent index then (d.engine index).rg peImgin else 0)

end Sys2Proof.Claims

/-- R331 to R339, R341 to R343: an enable with PER out of range is refused, one in range starts the series at its first instant at least 2
TCLK away; a tick in RUN stamps the cycle and starts it, or overruns one that runs; a class with RSRC 1 ticks so at each assertion of its
channel, and an overrun there is the channel's too; a tick samples what the class's latch map names into its latch buffer; the transfer
copies every latch buffer into its input word and releases the class to its expected set; a disable stops the ticks.
It rests on choices of the model: notes/assumptions/29.md, notes/assumptions/41.md, notes/assumptions/63.md. -/
def Obligations.ClassesTickAndRelease : Prop :=
  ∀ (s : State) (w : Writer) (c : BitVec 4) (v : BitVec 32),
    let d := s.dev
    let n := c.toNat
    let reg := Reg.SCN_CLS n
    let per := d.rd (Reg.SCN_PER n)
    let start := d.rd64 (Reg.SCN_START n)
    let k := d.cls n
    (d.arrives w reg = true →
      (d.clsOn n = false → per < 15625 ∨ 2500000000 < per → Completes (.classEnable w c v) s fun e =>
        e.clsOn n = false ∧ e.flag Reg.SCN_STAT 4 = true ∧ onlyRegs d e [reg, Reg.SCN_STAT]) ∧
      (d.clsOn n = false → 15625 ≤ per → per ≤ 2500000000 → v.getLsbD 1 = false → start < 2 ^ 63 → d.tbNow < 2 ^ 63 →
        Completes (.classEnable w c v) s fun e =>
          e.clsOn n = true ∧ onlyRegs d e [reg, Reg.SCN_NEXT n, Reg.SCN_NEXT n + 4] ∧
          ∃ j, e.rd64 (Reg.SCN_NEXT n) = start + j * per ∧ d.tbNow + 2 ≤ start + j * per ∧
            ∀ i, i < j → start + i * per < d.tbNow + 2) ∧
      (d.clsOn n = false → 15625 ≤ per → per ≤ 2500000000 → v.getLsbD 1 = true → Completes (.classEnable w c v) s fun e =>
        e.clsOn n = true ∧ onlyRegs d e [reg]) ∧
      (Completes (.classDisable w c v) s fun e =>
        e.clsOn n = false ∧ onlyRegs d e [reg] ∧ e.cls n = { k with kept := k.kept || k.running } ∧
        (∀ j, j ≠ n → e.cls j = d.cls j) ∧ e.scn = { d.scn with classes := e.scn.classes })) ∧
    (d.clsOn n = true → d.clsByChannel n = false → d.rd64 (Reg.SCN_NEXT n) ≤ d.tbNow → d.mode = .run →
      (k.running = false → latchesNothing d n → Completes (.classTick c) s fun e =>
        e.cls n = ticked k [] ∧ e.rd64 (Reg.SCN_STAMP n) = d.tbNow ∧ sameBerths d e ∧ e.mem = d.mem) ∧
      (∀ dst kind index word, k.running = false → d.flag (Reg.SCN_STW n) 0 = false → latches d dst kind index word →
        mapped d (Reg.SCN_LMAP n) [dst + 2 ^ 32 * kind + 2 ^ 40 * index] → d.eccAt (buffer d dst) = .clean → d.bol.entries = [] →
        Completes (.classTick c) s fun e =>
          e.cls n = ticked k [dst - dst % 8] ∧ e.rd64 (Reg.SCN_STAMP n) = d.tbNow ∧ sameBerths d e ∧
          wordAt d e (buffer d dst) word) ∧
      (k.running = true → d.flag (Reg.RMS_CFG 0x25) 12 = false → Completes (.classTick c) s fun e =>
        e.cls n = k ∧ e.fld (Reg.SCN_OVR n) 0 16 = min (d.fld (Reg.SCN_OVR n) 0 16 + 1) 0xFFFF ∧ sameBerths d e ∧ e.mem = d.mem)) ∧
    (d.clsOn n = false ∨ d.tbNow < d.rd64 (Reg.SCN_NEXT n) → exec (.classTick c) s = .next s) ∧
    (∀ ch : BitVec 7, d.clsOn n = true → d.clsByChannel n = true → d.fld reg 8 7 = ch.toNat → onlyClassesTake d ch.toNat →
      (∀ j, j < 16 → j ≠ n → d.clsOn j = false) → d.chLevel ch.toNat = true → ch.toNat ∉ d.evf.asserted → d.tbNow + 1 < 2 ^ 64 →
      (k.running = false → latchesNothing d n → Completes (.channelAssertion ch) s fun e =>
        e.cls n = ticked k [] ∧ e.rd64 (Reg.SCN_STAMP n) = d.tbNow + 1 ∧ sameBerths d e ∧ e.mem = d.mem) ∧
      (k.running = true → d.flag (Reg.RMS_CFG 0x25) 12 = false → d.flag (Reg.RMS_CFG 4) 12 = false →
        Completes (.channelAssertion ch) s fun e =>
          e.cls n = k ∧ e.fld (Reg.SCN_OVR n) 0 16 = min (d.fld (Reg.SCN_OVR n) 0 16 + 1) 0xFFFF ∧ e.flag Reg.EVF_OVR 3 = true ∧
          sameBerths d e ∧ e.mem = d.mem)) ∧
    (∀ word, latched d n [word] → d.latchBehind n = false → k.release = false → word % 8 = 0 → d.eccAt (buffer d word) = .clean →
      d.eccAt (imageBase + word) = .clean → d.bol.entries = [] → Completes (.latchTransfer c) s fun e =>
        e.value (imageBase + word) 8 = d.value (buffer d word) 8 ∧
        (∀ a, a < imageBase + word ∨ imageBase + word + 8 ≤ a → e.byte a = d.byte a) ∧
        (e.cls n).latching = false ∧ (e.cls n).assembled = [] ∧ e.fld Reg.MFT_CNT 0 16 = min (d.fld Reg.MFT_CNT 0 16 + 1) 0xFFFF ∧
        sameBerths d e) ∧
    (latched d n [] → d.latchBehind n = false → k.release = true → d.mode = .run → d.expectedSet n ≠ [] →
      (∀ b ∈ d.expectedSet n, (d.berth b).wait = .none ∧ (d.berth b).woke = none) → Completes (.latchTransfer c) s fun e =>
        (e.cls n).latching = false ∧ (e.cls n).release = false ∧ (e.cls n).expected = d.expectedSet n ∧ (e.cls n).done = [] ∧
        e.rd (Reg.SCN_CYC n) = (d.rd (Reg.SCN_CYC n) + 1) % 2 ^ 32 ∧
        e.manifest (16 + n) = some ⟨0, false, false, 0, [], 0, false, none, false⟩ ∧
        (∀ b ∈ d.expectedSet n, e.berth b = (d.berth b).setSr 20 ((d.berth b).srN 20 ||| 2 ^ 25)) ∧
        (∀ b, b ∉ d.expectedSet n → e.berth b = d.berth b) ∧ e.mem = d.mem) ∧
    (k.latching = false ∨ d.latchBehind n = true → exec (.latchTransfer c) s = .next s)

namespace Sys2Proof.Claims

/-- The commit of manifest n is alone in the queue, and no trace packet and no halted core takes its status. -/
abbrev beginsAlone (d : Device) (n : Nat) (q : Commit) (m : Manifest) : Prop :=
  d.manifest n = some m ∧ d.scn.queue = [q] ∧ d.flag Reg.DBG_TCTL 5 = false ∧ (∀ j, d.coreHalted j = false) ∧
  ∀ b rd, (d.berth b).wait = .commit rd n → (d.berth b).reads = []

/-- The manifest is closed, and every berth that waits for it goes on with a status; the other berths stand. -/
def endsCommit (d e : Device) (n st : Nat) : Prop :=
  (∀ b rd, (d.berth b).wait = .commit rd n → e.berth b = { d.berth b with wait := .none }.setReg rd (BitVec.ofNat 32 st)) ∧
  (∀ b, (∀ rd, (d.berth b).wait ≠ .commit rd n) → e.berth b = d.berth b) ∧ e.manifest n = none ∧ e.scn.queue = []

/-- The class's output map copies output word w (kind 1, one word) and then loads PE_IMGOUT of an engine from its half j (kind 2). -/
abbrev outMapped (d : Device) (c w j index : Nat) : Prop :=
  (d.cls c).kept = false ∧ w % 16 = 8 ∧ w + 8 ≤ 2 * d.cfg.imageS ∧ j < 2 ∧ index < 256 ∧ d.engPresent index = true ∧
  mapped d (Reg.SCN_OMAP c) [w + 2 ^ 32 + 2 ^ 48, w + 4 * j + 2 ^ 33 + 2 ^ 40 * index] ∧
  d.eccAt (imageBase + w) = .clean ∧ d.eccAt (buffer d w) = .clean

end Sys2Proof.Claims

/-- R349 to R351, R357: a berth's commit that begins reads its guard: where it holds, its MPUT is made and the berth that waits receives 0,
and where it does not, memory stands and the berth receives GUARDFAIL. R351 to R354, R358: a commit that takes effect sets the pads,
starts the engines and sends what its actions name, at V where that is still ahead. R361: an edit commit outside a window fails WINDOW,
and one inside clears ARM. R358: a scheduled one that begins too late for V fails LATE. R340, R342: a class commit makes its MPUTs, copies
the output words of its map into their live buffers, then loads PE_IMGOUT, and ends the cycle; R344: one whose guard fails leaves memory,
engines and pads, ends the cycle and is counted. R357, R358: a scheduled commit joins the queue LEAD before its instant, in ascending handle
order with those that join in one cycle.
It rests on choices of the model: notes/assumptions/42.md, notes/assumptions/54.md. -/
def Obligations.CommitsApply : Prop :=
  (∀ (s : State) (h : BitVec 4) (m : Manifest),
    let d := s.dev
    let n := h.toNat
    let begins (P : Device → Prop) : Prop := Completes .commitStart s P
    (beginsAlone d n (.berth n) m →
      (∀ g u a v, m.acts = [.guard g u 0, .put a v] → m.sync = false → m.edit = false → m.instant = none → d.eccAt g = .clean →
        d.eccAt a = .clean → a % 4 = 0 → d.bol.entries = [] →
        (d.value g 4 = u → begins fun e => endsCommit d e n 0 ∧ wordAt d e a v) ∧
        (d.value g 4 ≠ u → begins fun e => endsCommit d e n (2 ^ 31 + 0x10) ∧ e.mem = d.mem)) ∧
      (∀ t mask v who u mask' arg p, m.acts = [.pins t mask v who, .start u mask' who, .send 2 arg p] → m.sync = false → m.edit = false →
        d.pwr.relock = none → d.macQueue 0 = [] →
        (∀ j, j < 8 → bitOf mask' j = true → engPlain d (8 * u + j) ∧ d.migrating (8 * u + j) = false ∧ (d.engine (8 * u + j)).err = 0) →
        (m.instant = none → begins fun e => endsCommit d e n 0 ∧ e.mem = d.mem ∧
          (∀ k, k < 32 → e.flag (Reg.PAD_DOUT t) k =
            if bitOf mask k && d.padDirect t k && d.padPermit who t k then bitOf v k else d.flag (Reg.PAD_DOUT t) k) ∧
          (∀ j, j < 8 → bitOf mask' j = true → (e.engine (8 * u + j)).run = true) ∧ e.macQueue 0 = [[(arg % 8, p)]]) ∧
        ∀ at_, m.instant = some at_ → d.tbNow < at_ → 3 * d.tbNow + 22 ≤ 3 * at_ → begins fun e => endsCommit d e n 0 ∧
          e.mem = d.mem ∧ e.pad = d.pad ∧ e.eng = d.eng ∧ e.macQueue 0 = [] ∧ e.scn.edges = d.scn.edges ++ [⟨at_, m.acts, none⟩]) ∧
      (m.edit = true → m.sync = false → m.instant = none → m.acts = [] →
        (d.flag Reg.SCN_STAT 0 = false → begins fun e => endsCommit d e n (2 ^ 31 + 0x12) ∧ e.mem = d.mem ∧ e.pad = d.pad ∧ e.eng = d.eng) ∧
        (d.flag Reg.SCN_STAT 0 = true → begins fun e => endsCommit d e n 0 ∧ e.flag Reg.SCN_EDIT 16 = false ∧ e.mem = d.mem)) ∧
      ∀ at_, m.instant = some at_ → m.edit = false → m.passed = false → 3 * at_ < 3 * d.tbNow + 22 → begins fun e =>
        endsCommit d e n (2 ^ 31 + 0x11) ∧ e.fld Reg.MFT_CNT 24 8 = min (d.fld Reg.MFT_CNT 24 8 + 1) 255 ∧ e.mem = d.mem ∧
        e.pad = d.pad ∧ e.eng = d.eng) ∧
    (beginsAlone d (16 + n) (.cls n) m → d.mode = .run → d.snRole ≠ 2 → d.scn.capture = none →
      (∀ w j index v, outMapped d n w j index → m.acts = [.put (imageBase + w) v] → d.bol.entries = [] → begins fun e =>
        let out := v % 2 ^ 32 + 2 ^ 32 * d.value (imageBase + w + 4) 4
        endsCommit d e (16 + n) 0 ∧ e.value (imageBase + w) 8 = out ∧ e.value (buffer d w) 8 = out ∧
        (e.engine index).rg peImgout = bitsOf out (32 * j) 32 ∧ (∀ k, k ≠ index → e.engine k = d.engine k) ∧
        (∀ a, (a < imageBase + w ∨ imageBase + w + 8 ≤ a) → (a < buffer d w ∨ buffer d w + 8 ≤ a) → e.byte a = d.byte a) ∧
        (e.cls n).running = false ∧ e.fld Reg.MFT_CNT 0 16 = min (d.fld Reg.MFT_CNT 0 16 + 1) 0xFFFF) ∧
      (∀ g u rest, m.acts = .guard g u 0 :: rest → d.eccAt g = .clean → d.value g 4 ≠ u → (d.cls n).kept = false →
        d.mapCount (Reg.SCN_OMAP n) = 0 → quietSource d 0x26 → begins fun e =>
          endsCommit d e (16 + n) (2 ^ 31 + 0x10) ∧ e.mem = d.mem ∧ e.eng = d.eng ∧ e.pad = d.pad ∧ (e.cls n).running = false ∧
          e.fld (Reg.SCN_OVR n) 16 8 = min (d.fld (Reg.SCN_OVR n) 16 8 + 1) 255 ∧ logged d 0x26 n 0 e))) ∧
  ∀ (s : State) (h : BitVec 4) (m : Manifest),
    let d := s.dev
    let n := h.toNat
    (∀ v, d.manifest n = some m → m.instant = some v → m.committed = true → d.scn.queue.contains (.berth n) = false →
      (3 * v ≤ 3 * d.tbNow + d.fld Reg.MFT_LEAD 0 12 → Completes (.scheduledCommitJoin h) s fun e =>
        let q := d.scn.queue
        let joined := if m.sync then q.takeWhile (d.sameRound n) ++ [.berth n] ++ q.dropWhile (d.sameRound n)
          else q.takeWhile (!d.sameJoin n ·) ++ [.berth n] ++ q.dropWhile (!d.sameJoin n ·)
        e = { d with scn := { d.scn with queue := joined } }) ∧
      (3 * d.tbNow + d.fld Reg.MFT_LEAD 0 12 < 3 * v → exec (.scheduledCommitJoin h) s = .next s)) ∧
    (d.scn.queue = [] → exec .commitStart s = .next s)

/-- R361, R363, R366, R367, R469: the edit window opens while no masked class runs; a checkpoint is asked for, and when it is written its
record stands in its slot, unless the manifest store had no room for what it holds; the maintenance gate is granted to one requester and
released by it; the clears clear; SERVICE samples the pads.
It rests on choices of the model: notes/assumptions/43.md, notes/assumptions/59.md. -/
def Obligations.ScanUpkeep : Prop :=
  ∀ (s : State) (w : Writer) (c : BitVec 4) (a : BitVec 3),
    let d := s.dev
    let n := c.toNat
    let who := Writer.who w
    let st := Reg.SCN_CKPTST
    let opens (q : Instr) (whole : Bool) : Prop := Completes q s fun e =>
      e.rd st = 9 ∧ e.flag Reg.SCN_STAT 1 = true ∧ e.scn = { d.scn with capture := some ⟨whole, n, false, 0, 0, 0, []⟩ } ∧
      onlyRegs d e [st, Reg.SCN_STAT]
    (d.flag Reg.SCN_EDIT 16 = true → d.flag Reg.SCN_STAT 0 = false → (∀ j, j < 16 → (d.cls j).running = false) →
      Completes .editWindowOpen s fun e => e.flag Reg.SCN_STAT 0 = true ∧
        e.fld Reg.SCN_EDIT 24 8 = (d.fld Reg.SCN_EDIT 24 8 + 1) % 256 ∧ onlyRegs d e [Reg.SCN_STAT, Reg.SCN_EDIT] ∧ e.scn = d.scn) ∧
    (d.flag Reg.SCN_EDIT 16 = false → exec .editWindowOpen s = .next s) ∧
    (d.arrives w Reg.SCN_CKPT = true →
      (d.scn.capture = none → opens (.checkpointRetentive w c) false) ∧
      (d.scn.capture = none → d.scn.gate = some ⟨3, who⟩ → opens (.checkpointInstance w c) true) ∧
      (d.scn.capture = none → d.scn.gate ≠ some ⟨3, who⟩ → Completes (.checkpointInstance w c) s fun e =>
        e.fld st 0 4 = 3 ∧ e.scn = d.scn ∧ onlyRegs d e [st]) ∧
      (d.scn.capture ≠ none → ∀ q, q = .checkpointRetentive w c ∨ q = .checkpointInstance w c → Completes q s fun e =>
        e.fld st 0 4 = 2 ∧ e.scn = d.scn ∧ onlyRegs d e [st])) ∧
    (∀ k, d.scn.capture = some k → k.fixed = true →
      (d.mftBytes ≤ 0x20000 → Completes .checkpointWriteDone s fun e =>
        (∀ j (hj : j < k.record.length), e.byte (retainedBase + k.offset + j) = k.record[j]) ∧ e.rd st = 16 * k.slot % 2 ^ 32 ∧
        e.flag Reg.SCN_STAT 1 = false ∧ e.scn.capture = none ∧ sameBerths d e) ∧
      (0x20000 < d.mftBytes → Completes .checkpointWriteDone s fun e =>
        e.rd st = 1 ∧ e.flag Reg.SCN_STAT 1 = false ∧ e.scn.capture = none ∧ e.mem = d.mem ∧ sameBerths d e)) ∧
    (d.scn.capture = none → exec .checkpointWriteDone s = .next s) ∧
    (d.arrives w Reg.SCN_MNT = true →
      let result (e : Device) : Nat := e.scn.results.get (fun _ => 0) who
      (1 ≤ a.toNat → a.toNat ≤ 5 → Completes (.maintRequest w a) s fun e =>
        onlyRegs d e [] ∧ result e = (if d.scn.gate = none then 0 else 1) ∧
        e.scn.gate = if d.scn.gate = none then some ⟨a.toNat, who⟩ else d.scn.gate) ∧
      (6 ≤ a.toNat → Completes (.maintRequest w a) s fun e => onlyRegs d e [] ∧ result e = 3 ∧ e.scn.gate = d.scn.gate) ∧
      ∀ g, d.scn.gate = some g → Completes (.maintRelease w) s fun e => onlyRegs d e [] ∧
        result e = (if g.holder = who then 0 else 2) ∧ e.scn.gate = if g.holder = who then none else some g) ∧
    (d.arrives w (Reg.SCN_OVR n) = true → Completes (.overrunClear w c) s fun e =>
      e.rd (Reg.SCN_OVR n) = 0 ∧ e.rd (Reg.SCN_WORST n) = 0 ∧ onlyRegs d e [Reg.SCN_OVR n, Reg.SCN_WORST n] ∧ e.scn = d.scn) ∧
    (d.arrives w Reg.MFT_CLR = true → Completes (.mftCountClear w) s fun e =>
      e.rd Reg.MFT_CNT = 0 ∧ onlyRegs d e [Reg.MFT_CNT] ∧ e.scn = d.scn) ∧
    (d.mode = .service → d.tbNow % 250000 = 0 → d.bol.entries = [] → Completes .serviceSample s fun e =>
      (∀ t, t < d.cfg.tiles → e.value (imageBase + 16 * t) 8 = d.padInWord t) ∧ sameBerths d e ∧ onlyRegs d e []) ∧
    (d.mode ≠ .service ∨ d.tbNow % 250000 ≠ 0 → exec .serviceSample s = .next s)

/-! ### Ringmaster and the Lighthouses (R437 to R454) -/

/-- R447: a write of RMS_RAISE by a writer of R440 raises source 0xF0 + SRC with the DETAIL written, in every mode, and any other writer's
is counted in CLRDENY. R438, R440, R445, R446: an event of a source is counted, classed and logged, whether injected in FACTORY or raised by
software; outside FACTORY an injection is only counted; a clear returns a source below FATAL to NONE, and one at FATAL, or whose condition
stands, is refused. R444, R445, R454: the head of the log becomes durable at RMS_LOG.NEXT, which moves on, and a reset that waited for the
log follows; the search sets NEXT behind the newest entry. -/
def Obligations.RingmasterSourcesAndLog : Prop :=
  (∀ (s : State) (w : Writer) (n : BitVec 8) (v : BitVec 32),
    let d := s.dev
    let st := Reg.RMS_STATN n.toNat
    (d.arrives w Reg.RMS_CLEAR = true → d.trusted w = true →
      (d.rmsClass n.toNat < 4 → d.flag st 3 = false → rmsExists n.toNat = true → Completes (.sourceClear w n) s fun e =>
        e.rmsClass n.toNat = 0 ∧ e.fld st 8 8 = 0 ∧ e.fld st 16 16 = d.fld st 16 16 ∧ sameBerths d e ∧ e.mem = d.mem) ∧
      (d.rmsClass n.toNat = 4 ∨ d.flag st 3 = true → Completes (.sourceClear w n) s fun e =>
        e.fld Reg.RMS_STAT 8 8 = min (d.fld Reg.RMS_STAT 8 8 + 1) 0xFF ∧ onlyRegs d e [Reg.RMS_STAT] ∧ sameBerths d e)) ∧
    (d.arrives w Reg.RMS_INJ = true →
      (d.mode ≠ .factory → Completes (.faultInject w v) s fun e =>
        e.fld Reg.RMS_STAT 16 8 = min (d.fld Reg.RMS_STAT 16 8 + 1) 0xFF ∧ onlyRegs d e [Reg.RMS_STAT] ∧ e.rms = d.rms) ∧
      (d.mode = .factory → quietSource d (v.toNat % 256) → Completes (.faultInject w v) s
        (classified d (v.toNat % 256) (v.toNat / 256) 4))) ∧
    (let q := 0xF0 + v.toNat % 16
     d.arrives w Reg.RMS_RAISE = true →
      (d.trusted w = true → Completes (.softwareRaise w v) s fun e =>
        e = { d.raise q (v.toNat / 256) with cfg := d.cfg } ∧ (quietSource d q → classified d q (v.toNat / 256) 0 e)) ∧
      (d.trusted w = false → Completes (.softwareRaise w v) s fun e =>
        e.fld Reg.RMS_STAT 8 8 = min (d.fld Reg.RMS_STAT 8 8 + 1) 0xFF ∧ onlyRegs d e [Reg.RMS_STAT] ∧ sameBerths d e))) ∧
  ∀ (s : State),
    let d := s.dev
    (∀ src cls react flags count mode detail time q, d.logRuns = true → d.rms.resetDue = none →
      d.rms.queue = .entry src cls react flags count mode detail time :: q → Completes .logEntryDurable s fun e =>
        let i := d.fld Reg.RMS_LOG 0 10 % 960
        let a := retainedBase + 0x1000 + 64 * i
        e.rms.queue = q ∧ e.fld Reg.RMS_LOG 0 10 = (i + 1) % 960 ∧ e.rms.nextSeq = (d.rms.nextSeq + 1) % 2 ^ 32 ∧
        e.value (a + 32) 1 = src % 256 ∧ e.value (a + 33) 1 = cls % 256 ∧ e.value (a + 40) 4 = detail % 2 ^ 32 ∧
        e.value (a + 48) 8 = time % 2 ^ 64 ∧ (∀ b, b < a ∨ a + 64 ≤ b → e.byte b = d.byte b) ∧ sameBerths d e) ∧
    (∀ it q c, d.logRuns = true → d.rms.resetDue = some c → d.rms.queue = it :: q → q.any LogItem.holdsReset = false →
      Completes .logEntryDurable s fun e => e.mode = .reset ∧ e.fld Reg.PWR_RSTCAUSE 0 5 = 2 ^ c.bit) ∧
    (d.logRuns = false → exec .logEntryDurable s = .next s) ∧
    (d.rms.ready = false → d.isolated = false → (∀ g, d.eccAt g = .clean) → Completes .logSearchDone s fun e =>
      e.rms.ready = true ∧ e.fld Reg.RMS_LOG 0 10 = (match d.newestEntry with
        | some (i, _) => (i + 1) % 960
        | none => 0) ∧ e.mem = d.mem ∧ sameBerths d e)

/-- R448 to R453: an enable starts a Lighthouse and a lock holds its configuration; its owner's serve with the key, inside its window,
starts it again, a serve after the expiry has no effect, and any other is refused and counted, a USER berth's with PRIV besides; the
device's expiry enters SAFE, from FACTORY too, and holds a reset back until the log is written; a tile's ends its enable, and with ACT 1
resets its berths; a clock-stop trip moves the Lighthouses of the stopped clock to the other, unless the BOSC-side monitor watches a lock
that stands. The Ringmaster sources are off here, so no reaction adds to it. R454: in FACTORY the key clears the reset count of the newest
record.
It rests on choices of the model: notes/assumptions/36.md, notes/assumptions/59.md. -/
def Obligations.LighthousesWatch : Prop :=
  ∀ (s : State) (i : Site) (w : Writer) (x : BitVec 4) (t : BitVec 3) (b : BitVec 9) (v : BitVec 32) (bosc : Bool),
    let d := s.dev
    let n := x.toNat
    let cfg := Reg.LHS_CFG n
    let off (k : Nat) : Prop := d.flag (Reg.RMS_CFG k) 12 = false
    let started (e : Device) : Prop := e.lhs.counts.get (fun _ => 0) n = 0 ∧ e.lhs.started.get (fun _ => 0) n = d.lpt.edges ∧
      e.lhs.tmo.get (fun _ => 0) n = min (max (d.fld (Reg.LHS_TMO n) 0 26) 10) 60000000
    (d.arrives w cfg = true → d.lhsExists n = true →
      (d.flag Reg.LHS_LOCK 0 = true → exec (.lighthouseConfig w x v) s = .next s) ∧
      (d.flag Reg.LHS_LOCK 0 = false → Completes (.lighthouseConfig w x v) s fun e =>
        e.rd cfg = v.toNat % 8 ∧ onlyRegs d e [cfg] ∧ if d.lhsOn n = false ∧ v.getLsbD 0 = true then started e else e.lhs = d.lhs)) ∧
    (d.arrives (.berth b.toNat) (Reg.LHS_SERVE n) = true → d.lhsExists n = true → off 0x3F →
      let early := (d.lhs.started.any fun e => e.1 == n) = true ∧
        d.lpt.edges < d.lhs.started.get (fun _ => 0) n + 250 * d.fld (Reg.LHS_WIN n) 0 26
      let denied (lo w top : Nat) : Prop := Completes (.lighthouseServe (.berth b.toNat) x v) s fun e =>
        e.fld (Reg.LHS_CNT n) lo w = min (d.fld (Reg.LHS_CNT n) lo w + 1) top ∧ e.lhs = d.lhs ∧ sameBerths d e
      (b.toNat ≠ d.fld (Reg.LHS_OWNER n) 0 9 → denied 0 16 0xFFFF) ∧
      (b.toNat = d.fld (Reg.LHS_OWNER n) 0 9 →
        (v.toNat % 2 ^ 16 ≠ 0x6D3A → denied 24 8 0xFF) ∧
        (v.toNat % 2 ^ 16 = 0x6D3A →
          (early → denied 16 8 0xFF) ∧
          (¬early → d.lhsExpired n = true → exec (.lighthouseServe (.berth b.toNat) x v) s = .next s) ∧
          (¬early → d.lhsExpired n = false →
            Completes (.lighthouseServe (.berth b.toNat) x v) s fun e => started e ∧ onlyRegs d e [] ∧ sameBerths d e)))) ∧
    (enters d i 1 → (d.berth i.b).pl = 0 → d.lhsExists n = true → off 0x3F →
      Completes (.lighthouseServe (.berth i.b) x v) s fun e =>
        e.fld (Reg.LHS_CNT n) 0 16 = min (d.fld (Reg.LHS_CNT n) 0 16 + 1) 0xFFFF ∧ e.lhs = d.lhs ∧
        (e.berth i.b).srN 43 = 2 ∧ (e.berth i.b).srPair 40 = (d.berth i.b).pc.toNat ∧
        (e.berth i.b).srPair 44 = windowBase + Reg.LHS_SERVE n ∧ ∀ c, c ≠ i.b → e.berth c = d.berth c) ∧
    (d.lhsExpired 8 = true → d.rms.resetDue = none → off 0x3E → d.mode.safeFrom = true → d.mode ≠ .deepSleep →
      Completes .lighthouseExpiry s fun e => e.mode = .safe ∧ e.prev = d.mode ∧ e.rms.resetDue = some .lighthouse ∧ .count ∈ e.rms.queue) ∧
    (d.lhsExpired 8 = false → exec .lighthouseExpiry s = .next s) ∧
    (d.lhsExpired t.toNat = true → t.toNat < d.cfg.tiles → off (0x40 + t.toNat) → d.twinAct (2 * t.toNat) = false →
      d.twinAct (2 * t.toNat + 1) = false → Completes (.tileLighthouseExpiry t) s fun e =>
        e.flag (Reg.LHS_CFG t.toNat) 0 = false ∧
        if d.flag (Reg.LHS_CFG t.toNat) 2 then ∀ j, j < 64 → e.berth (64 * t.toNat + j) = Berth.reset else sameBerths d e) ∧
    (bosc = false → d.lockWatched = true → exec (.clockStopTrip bosc) s = .next s) ∧
    (d.isolated = false → bosc = true ∨ d.lockWatched = false → off 0x3C → Completes (.clockStopTrip bosc) s fun e =>
      e.flag Reg.CLK_MON (if bosc then 1 else 0) = true ∧ sameBerths d e ∧ e.mem = d.mem ∧
      ∀ k, k < 9 → e.flag (Reg.LHS_CFG k) 1 = if d.lhsExists k && d.flag (Reg.LHS_CFG k) 1 == bosc then !bosc else d.flag (Reg.LHS_CFG k) 1) ∧
    (d.arrives w Reg.LHS_RCCLR = true →
      (d.mode = .factory → v.toNat % 2 ^ 16 = 0x5C1E → Completes (.resetCountClear w v) s fun e =>
        let slot := match d.newestRecord 0 0x40 64 1 with
          | some (true, _) => 0
          | some (false, _) => 0x40
          | none => 0
        let a := retainedBase + slot
        e.value (a + 32) 4 = 0 ∧ (∀ b, b < a ∨ a + 48 ≤ b → e.byte b = d.byte b) ∧ onlyRegs d e [] ∧ sameBerths d e) ∧
      (d.mode ≠ .factory → exec (.resetCountClear w v) s = .next s))

/-! ### Quayside (R456 to R472) -/

namespace Sys2Proof.Claims

/-- The bytes that a beat returns: those enabled as they stand, and zero on the others. -/
def beatBytes (d : Device) (base strb : Nat) : List Byte :=
  (List.range 32).map fun j => if bitOf strb j then d.byte (base + j) else 0

/-- A 32-byte beat lies in the powered SRAM of a tile, none of its words has an error, and the request may reach it (R459). -/
def sramBeat (d : Device) (attr : BitVec 2) (base : Nat) : Prop :=
  base % 32 = 0 ∧ (∃ t o, targetPlace d.cfg base = some (.sram t o) ∧ d.tileOn t = true ∧
    (attr.getLsbD 1 = true ∨ d.flag Reg.QSP_TACL t = false)) ∧ ∀ k, k < 4 → d.eccAt (base + 8 * k) = .clean

/-- The response beat of a read of clean words: the bytes, with the check bits of its four words (R460). -/
def readAnswer (d : Device) (base strb : Nat) : RespBeat :=
  ⟨0, beatBytes d base strb, some ((List.range 4).map fun k => Config.checkBits (BitVec.ofNat 64 (d.value (base + 8 * k) 8)))⟩

/-- Nothing waits to leave on the initiator port. -/
abbrev quietPort (d : Device) : Prop :=
  (∀ b, d.unsent b = false) ∧ (∀ b, ∀ r ∈ (d.berth b).reads, r.sent = true) ∧ d.qsp.msi = [] ∧ d.qsp.load = none

/-- No class runs a cycle, and nobody holds the maintenance gate. -/
abbrev noCycles (d : Device) : Prop := (∀ c, c < 16 → (d.cls c).running = false) ∧ d.scn.gate = none

end Sys2Proof.Claims

/-- R457 to R460, R462, R463, R465: a request for tile SRAM, of one beat or with the burst feature of up to 16, reads its bytes with their
check bits, or writes those enabled and no other; a request outside every region gets NOMAP and is counted; one that arrives in host-side
reset or in DEEP-SLEEP is discarded; a response completes the request of its tag (a load's data reach its register, a store leaves its
buffer, a fetched beat is there, a beat of a read of the program image is kept), and one without a request is counted.
It rests on choices of the model: notes/assumptions/18.md, notes/assumptions/19.md, notes/assumptions/20.md, notes/assumptions/61.md,
notes/assumptions/67.md. -/
def Obligations.QuaysidePorts : Prop :=
  (∀ (s : State) (addr : BitVec 35) (len : BitVec 4) (id : BitVec 8) (attr : BitVec 2) (strb : BitVec 32) (beats : List Beat),
    let d := s.dev
    let base := addr.toNat / 32 * 32
    let errs := [Reg.QSP_STAT, Reg.QSP_ELOG, Reg.QSP_ELOG + 4, Reg.RMS_STATN 0x48]
    let asked := beatsOf addr.toNat len.toNat strb.toNat
    (d.targetReady = true →
      (burstOk addr.toNat len.toNat = true → len = 0 ∨ d.hostFeature 2 = true → (∀ q ∈ asked, sramBeat d attr q.1) →
        Completes (.targetRead addr len id attr strb) s fun e =>
          e = { d with qsp := { d.qsp with response := (id.toNat, asked.map fun q => readAnswer d q.1 q.2) } }) ∧
      (let n := beats.length
       1 ≤ n → n ≤ 16 → burstOk addr.toNat (n - 1) = true → n = 1 ∨ d.hostFeature 2 = true →
        (∀ k, k < n → sramBeat d attr (base + 32 * k)) → (∀ b ∈ beats, b.check = .good) →
        (∀ j, j < 8 * n → d.tracked (base + 4 * j) = none) → Completes (.targetWrite addr id attr beats) s fun e =>
          e.qsp.response = (id.toNat, [⟨0, List.replicate 32 0, some (List.replicate 4 0)⟩]) ∧ sameBerths d e ∧ onlyRegs d e [] ∧
          ∀ a, e.byte a = match beats[(a - base) / 32]? with
            | some b => if base ≤ a ∧ b.strb.getLsbD ((a - base) % 32) then
                BitVec.ofNat 8 (b.data.toNat / 2 ^ (8 * ((a - base) % 32))) else d.byte a
            | none => d.byte a)) ∧
    exec (.targetWrite addr id attr []) s = .next s ∧
    (d.targetReady = true → d.flag (Reg.RMS_CFG 0x48) 12 = false → beatMapped d.cfg base strb.toNat = false →
      Completes (.targetRead addr 0 id attr strb) s fun e =>
        e.qsp.response = (id.toNat, [⟨2, List.replicate 32 0, none⟩]) ∧
        e.fld Reg.QSP_STAT 24 8 = min (d.fld Reg.QSP_STAT 24 8 + 1) 0xFF ∧ onlyRegs d e errs ∧ sameBerths d e ∧ e.mem = d.mem) ∧
    (d.qsp.held = true ∨ d.mode = .deepSleep →
      exec (.targetRead addr len id attr strb) s = .next s ∧ exec (.targetWrite addr id attr beats) s = .next s)) ∧
  ∀ (s : State) (i : BitVec 9) (data : BitVec 256),
    let d := s.dev
    let errs := [Reg.QSP_STAT, Reg.RMS_STATN 0x48]
    (d.qsp.held = false → d.isolated = false →
      (∀ r, d.qsp.requests[i.toNat]? = some r → r.more = 0 → quietPort d →
        let left := { d with qsp := { d.qsp with requests := d.qsp.requests.eraseIdx i.toNat } }
        let answers (P : Device → Prop) : Prop := Completes (.initiatorResponse (.request i) 0 .good data) s P
        let berth (b : Nat) (y : Berth) (e : Device) : Prop :=
          e.berth b = y ∧ (∀ j, j ≠ b → e.berth j = d.berth j) ∧ e = { left with berths := e.berths }
        (r.owner = .msi → r.write = true → answers fun e => e = left) ∧
        (∀ b, r.owner = .fetch b → r.write = false → answers fun e =>
          berth b { d.berth b with beats := (e.berth b).beats } e ∧ (2 ^ 49 + r.addr) / 32 ∈ (e.berth b).beats) ∧
        ∀ b q, (d.berth b).wait = .none → (d.berth b).faults = [] → d.parkAsked b = false →
          (r.owner = .store b q → r.write = true → (∃ t ∈ (d.berth b).stores, t.seq = q) →
            answers (berth b ((d.berth b).dropStore q))) ∧
          ∀ dest a n sg pc back, r.owner = .load b q → r.write = false → d.flag Reg.DBG_TCTL 3 = false →
            (d.berth b).loads = [⟨dest, .memory a n sg, pc, q, back, false⟩] →
            answers (berth b ((d.berth b).deliver q (extend n sg (data.toNat / 2 ^ (8 * (a % 32)) % 2 ^ (8 * n)))))) ∧
      (∀ r cmd a, d.qsp.requests = [r] → i = 0 → r.owner = .image true → r.write = false → r.more = 0 → d.qsp.load = some (cmd, a) →
        d.qsp.got.length + 32 - r.addr % 32 < 0x80 → (∀ b, d.unsent b = false) → (∀ b, ∀ q ∈ (d.berth b).reads, q.sent = true) →
        d.qsp.msi = [] → Completes (.initiatorResponse (.request i) 0 .good data) s fun e =>
          e.qsp.got = d.qsp.got ++ (leBytes 32 data.toNat).drop (r.addr % 32) ∧ e.qsp.load = d.qsp.load ∧
          (∃ q, e.qsp.requests = [q] ∧ q.owner = .image true ∧ q.addr = (a + e.qsp.got.length) % 2 ^ 48 ∧ q.attr = 2 ∧ q.write = false) ∧
          onlyRegs d e [] ∧ sameBerths d e ∧ e.mem = d.mem) ∧
      (d.flag (Reg.RMS_CFG 0x48) 12 = false → Completes (.initiatorResponse .stray 0 .good 0) s fun e =>
        e.fld Reg.QSP_STAT 24 8 = min (d.fld Reg.QSP_STAT 24 8 + 1) 0xFF ∧ onlyRegs d e errs ∧ sameBerths d e ∧ e.mem = d.mem)) ∧
    (d.qsp.held = true → ∀ g resp check, exec (.initiatorResponse g resp check data) s = .next s) ∧
    (d.qsp.requests = [] → (∀ p ∈ d.bol.entries, ∀ x, p.2 = some x → x.holder ≠ .host) → Completes .hostReset s fun e =>
      e.qsp.held = true ∧ e.qsp.requests = [] ∧ sameBerths d e ∧ e.mem = d.mem ∧ e.bol = d.bol ∧
      (∀ g, d.scn.gate = some g → g.holder = 1023 → e.scn.gate = none) ∧
      (∀ o ∈ [Reg.QSP_H2D, Reg.QSP_D2H, Reg.QSP_FEAT_ACCEPT2, Reg.QSP_FEAT_DONE], e.rd o = 0) ∧
      onlyRegs d e [Reg.QSP_H2D, Reg.QSP_D2H, Reg.QSP_FEAT_ACCEPT2, Reg.QSP_FEAT_DONE]) ∧
    (quietPort d → Completes .hostResetRelease s fun e => e = { d with qsp := { d.qsp with held := false } })

/-- R466, R467: a message from the host or a doorbell sets line 27 of the notify berth; a message from the device and a software interrupt
make host sources 1 and 5 pending; DONE fixes the accepted features, those offered only; without the doorbell feature no message passes.
R470 to R472: LOAD runs in SERVICE, START in STOP at the loaded image's entry, STOP in RUN; another mode gets BADMODE and a running load
BUSY; LOAD's first read of the image leaves from QSP_CMDADDR with a tag that no other request holds; a load that reads less than a header
counts the error and ends with BUSERR, and loads nothing; in host-side reset no load ends so.
It rests on choices of the model: notes/assumptions/37.md, notes/assumptions/38.md, notes/assumptions/67.md. -/
def Obligations.QuaysideMailboxesAndCommands : Prop :=
  (∀ (s : State) (sec : Bool) (b : BitVec 9) (v : BitVec 32),
    let d := s.dev
    let w := Writer.host sec
    let n := d.fld Reg.QSP_DBNB 0 9
    let x := d.berth n
    let notifies (c : Instr) (P : Device → Prop) : Prop :=
      d.hostFeature 3 = true → d.present n = true → x.wait = .none → x.woke = none → d.mode ≠ .doze → Completes c s fun e =>
        e.berth n = x.setSr 20 (x.srN 20 ||| 2 ^ 27) ∧ (∀ j, j ≠ n → e.berth j = d.berth j) ∧ e.mem = d.mem ∧ P e
    (d.arrives w Reg.QSP_H2D = true →
      notifies (.mailboxH2d w v) (fun e => e.rd Reg.QSP_H2D = v.toNat) ∧
      (d.hostFeature 3 = false → exec (.mailboxH2d w v) s = .next s)) ∧
    (d.arrives w Reg.QSP_DBELL = true →
      (v.toNat % 16 ≠ 0 → notifies (.doorbell w v) fun _ => True) ∧ (v.toNat % 16 = 0 → exec (.doorbell w v) s = .next s)) ∧
    (d.arrives (.berth b.toNat) Reg.QSP_D2H = true → d.hostFeature 3 = true → Completes (.mailboxD2h (.berth b.toNat) v) s fun e =>
      e.rd Reg.QSP_D2H = v.toNat ∧ e.flag Reg.QSP_HPEND 1 = true ∧ onlyRegs d e [Reg.QSP_D2H, Reg.QSP_HPEND] ∧ sameBerths d e) ∧
    (d.arrives (.berth b.toNat) Reg.QSP_HSWI = true → Completes (.hostSoftwareInterrupt (.berth b.toNat)) s fun e =>
      e.flag Reg.QSP_HPEND 5 = true ∧ onlyRegs d e [Reg.QSP_HPEND] ∧ sameBerths d e) ∧
    (d.arrives w Reg.QSP_FEAT_DONE = true →
      (d.flag Reg.QSP_FEAT_DONE 0 = false → Completes (.featureDone w) s fun e =>
        e.rd Reg.QSP_FEAT_ACCEPT2 = d.rd Reg.QSP_FEAT_ACCEPT2 % 64 ∧ e.flag Reg.QSP_FEAT_DONE 0 = true ∧
        onlyRegs d e [Reg.QSP_FEAT_ACCEPT2, Reg.QSP_FEAT_DONE] ∧ sameBerths d e) ∧
      (d.flag Reg.QSP_FEAT_DONE 0 = true → exec (.featureDone w) s = .next s))) ∧
  ∀ (s : State) (w : Writer) (r : ImageReads),
    let d := s.dev
    let img := d.qsp.got ++ r.bytes
    let code (e : Device) (n : Nat) : Prop := e.fld Reg.QSP_CMDST 0 4 = n ∧ e.flag Reg.QSP_HPEND 3 = true
    let refused (c : Instr) (n : Nat) : Prop := Completes c s fun e =>
      code e n ∧ onlyRegs d e [Reg.QSP_CMDST, Reg.QSP_HPEND] ∧ e.mode = d.mode ∧ sameBerths d e ∧ e.mem = d.mem
    (d.arrives w Reg.QSP_CMD = true → d.trusted w = true →
      (d.qsp.load.isSome = true → refused (.load w) 1 ∧ refused (.start w) 1 ∧ refused (.qspStop w) 1) ∧
      (d.qsp.load = none →
        (d.mode ≠ .service → refused (.load w) 2) ∧ (d.mode ≠ .stop → refused (.start w) 2) ∧ (d.mode ≠ .run → refused (.qspStop w) 2) ∧
        (d.mode = .service → d.qsp.requests.length < 512 → d.qsp.held = false → (∀ q ∈ d.qsp.requests, q.owner ≠ .image true) →
          Completes (.load w) s fun e =>
            let a := bitsOf (d.rd64 Reg.QSP_CMDADDR) 0 48
            e.fld Reg.QSP_CMDST 0 4 = 15 ∧ onlyRegs d e [Reg.QSP_CMDST] ∧ sameBerths d e ∧
            ∃ q, e.qsp = { d.qsp with load := some (true, a), got := [], requests := d.qsp.requests ++ [q] } ∧
              q.owner = .image true ∧ q.addr = a ∧ q.size = 32 - a % 32 ∧ q.write = false ∧ q.attr = 2 ∧
              (d.hostFeature 1 = false → q.more = 0) ∧ q.tag < 512 ∧ ∀ o ∈ d.qsp.requests, o.tag ≠ q.tag) ∧
        (d.mode = .stop → d.qsp.entry = none → refused (.start w) 3) ∧
        (∀ a, d.mode = .stop → d.qsp.entry = some a → d.bol.entries = [] → d.present 0 = true → noCycles d →
          0 ∉ d.car.copying → d.twinAct 0 = false ∨ d.twinMis 0 = false → d.eccAt (bootInfo + 0x10) = .clean →
            Completes (.start w) s fun e =>
            code e 0 ∧ e.mode = .run ∧ (e.berth 0).pc = BitVec.ofNat 50 a ∧ (e.berth 0).reg 24 = 0x1FFF00 ∧ e.parked 0 = false ∧
            e.value (bootInfo + 0x10) 4 = 2 ∧ (d.snRole ≠ 2 → d.snRole ≠ 4 → ∀ c, c ≠ 0 → e.berth c = d.berth c)) ∧
        (d.mode = .run → Completes (.qspStop w) s fun e => code e 0 ∧ e.mode = .stop))) ∧
    (d.qsp.load = none ∨ d.qsp.held = true → exec (.imageLoadDone r) s = .next s) ∧
    (∀ cmd a, d.qsp.load = some (cmd, a) → d.qsp.held = false → d.bol.entries = [] → noCycles d → (∀ g, d.eccAt g = .clean) →
      (img.length < 0x80 → d.flag (Reg.RMS_CFG 0x48) 12 = false → Completes (.imageLoadDone r) s fun e =>
        let lo := if r.fail = 0 then 8 else 24
        e.qsp.load = none ∧ e.fld Reg.QSP_STAT lo 8 = min (d.fld Reg.QSP_STAT lo 8 + 1) 0xFF ∧
        e.fld Reg.QSP_STAT 0 8 = min (d.fld Reg.QSP_STAT 0 8 + r.corrected.toNat) 0xFF ∧ e.flag Reg.QSP_HPEND 4 = true ∧
        e.fld Reg.QSP_BSTAT 0 4 = 11 ∧ e.flag Reg.QSP_HPEND 3 = true ∧ e.value (bootInfo + 0x14) 4 = 11 ∧
        (cmd = true → e.fld Reg.QSP_CMDST 0 4 = 11) ∧ e.mode = d.mode ∧ sameBerths d e) ∧
      (imageRefused d.cfg img = none → imageOutcome img = 0 → 0 ∉ d.car.copying → d.twinAct 0 = false ∨ d.twinMis 0 = false →
        Completes (.imageLoadDone r) s fun e =>
        let auto := bitOf (fieldAt img 6 2) 0
        e.qsp.load = none ∧ e.qsp.entry = some (fieldAt img 0x10 8) ∧ e.fld Reg.QSP_BSTAT 0 4 = 0 ∧
        e.value bootInfo 8 = fieldAt img 8 8 ∧ e.mode = if d.mode = .service then (if auto then .run else .stop) else d.mode))

/-! ### Supplies, resets, modes and clocks (R475, R506 to R526, R531) -/

namespace Sys2Proof.Claims

/-- The device is in RESET with every berth as after reset, and PWR_RSTCAUSE names the source by its bit. -/
def inReset (e : Device) (bit : Nat) : Prop :=
  e.mode = .reset ∧ e.fld Reg.PWR_RSTCAUSE 0 5 = 2 ^ bit ∧ ∀ b, e.berth b = Berth.reset

/-- The debug level that a lifecycle input starts with (Table 16.6). -/
def startLevel (lc : Nat) : Nat := if lc = 2 then 1 else if lc = 3 then 2 else 0

/-- The device stops for want of a supply, with its pins isolated (Table 17.2). -/
def inOff (e : Device) : Prop := e.mode = .off ∧ e.prev = .off ∧ e.faultPin = .highZ ∧ e.laneState = .highZ

/-- The Ringmaster source of number n is disabled, so its events are counted and have no other effect. -/
abbrev silent (d : Device) (n : Nat) : Prop := d.flag (Reg.RMS_CFG n) 12 = false

/-- The memories outside the trace buffer read as before, with their check bits. -/
def memoryKept (d e : Device) : Prop :=
  ∀ a, a < traceBase ∨ traceBase + traceSize ≤ a → e.byte a = d.byte a ∧ e.eccAt a = d.eccAt a

end Sys2Proof.Claims

/-- R506 to R508: the supplies rise from OFF to RAMP; a bank is classed by the highest voltage of its window, which may end in OFF; once
every supply is good the power-on reset begins, which clears tile SRAM, starts the debug authorisation at the level of its lifecycle input
and leaves every other register but PWR_RSTCAUSE at its reset value; a supply that fails stops the device and isolates its pins.
It rests on choices of the model: notes/assumptions/35.md. -/
def Obligations.SuppliesComeAndGo : Prop :=
  ∀ (s : State) (t : BitVec 3) (peak : BitVec 16) (steady : Bool) (k : BitVec 4),
    let d := s.dev
    let n := t.toNat
    let sameBanks (e : Device) : Prop := ∀ u, u ≠ n → e.bank u = d.bank u
    (d.mode = .off → Completes .supplyRise s fun e =>
      e.mode = .ramp ∧ e.pwr.vdda = true ∧ e.pwr.vdd = true ∧
      ∀ u, u < d.cfg.tiles → e.bank u = if d.bank u = .down then .rising else d.bank u) ∧
    (d.mode ≠ .off → exec .supplyRise s = .next s) ∧
    (n < d.cfg.tiles → d.bank n = .rising ∨ (d.bank n = .down ∧ d.mode = .off) → Completes (.bankClassify t peak steady) s fun e =>
      e.bank n = (if 2950 < peak.toNat then .high33 else if peak.toNat ≤ 2500 ∧ steady = true then .low18 else .refused) ∧
      sameBanks e ∧ onlyRegs d e [] ∧ e.mode = d.mode) ∧
    (d.bank n ≠ .rising → ¬(d.bank n = .down ∧ d.mode = .off) → exec (.bankClassify t peak steady) s = .next s) ∧
    (d.mode = .ramp → d.suppliesGood = true → Completes .supplyGood s fun e =>
      inReset e 0 ∧ (∀ a, inSram n a = true → e.byte a = 0 ∧ e.eccAt a = .clean) ∧
      e.fld Reg.DBG_AUTH 2 2 = d.fld Reg.DBG_AUTH 2 2 ∧ e.fld Reg.DBG_AUTH 0 2 = startLevel (d.fld Reg.DBG_AUTH 2 2) ∧
      ∀ off, off ≠ Reg.PWR_RSTCAUSE → off ≠ Reg.DBG_AUTH → e.rd off = (regDefault d.cfg off).toNat) ∧
    (k.toNat < 2 + d.cfg.tiles → Completes (.supplyFail k) s fun e =>
      inOff e ∧ e.pwr.vdda = (d.pwr.vdda && k != 0) ∧ e.pwr.vdd = (d.pwr.vdd && k != 1) ∧ (2 ≤ k → e.bank (k.toNat - 2) = .down)) ∧
    (n < d.cfg.tiles → d.bank n = .low18 → Completes (.bankOvervoltage t) s fun e => inOff e ∧ e.bank n = .down ∧ sameBanks e) ∧
    (d.bank n ≠ .low18 → exec (.bankOvervoltage t) s = .next s)

/-- R475, R516, R517, R531: RESET_N held low and the software reset with its key put the device in RESET and keep the memories; a short
pulse is counted; the debug reset touches no core; the release leaves RESET for SERVICE, or for FACTORY on a factory-set device of lifecycle
3, with the condition of the VDD monitor's source standing where VDD lies outside its range, and waits for cool sensors, a PLL that has not
lost its lock since power-on, and a high RESET_N, which it reports.
It rests on choices of the model: notes/assumptions/34.md. -/
def Obligations.ResetsEnterAndLeave : Prop :=
  ∀ (s : State) (w : Writer) (ns : BitVec 16) (v : BitVec 32),
    let d := s.dev
    let kept (e : Device) : Prop := memoryKept d e
    (d.isolated = false → Completes .resetNReset s fun e => inReset e 1 ∧ kept e ∧ e.pwr.rstLow = true) ∧
    (d.pwr.rstLow = true → Completes (.resetNPulse ns) s fun e => e = { d with pwr := { d.pwr with rstLow := false } }) ∧
    (d.pwr.rstLow = false → ns.toNat < 1000 → exec (.resetNPulse ns) s = .next s) ∧
    (d.pwr.rstLow = false → 1000 ≤ ns.toNat → ns.toNat ≤ 9500 → Completes (.resetNPulse ns) s fun e =>
      e.fld Reg.DBG_NDCNT 8 8 = min (d.fld Reg.DBG_NDCNT 8 8 + 1) 0xFF ∧ onlyRegs d e [Reg.DBG_NDCNT] ∧ sameBerths d e ∧
      e.mode = d.mode ∧ e.mem = d.mem) ∧
    (d.pwr.rstLow = false → 10500 ≤ ns.toNat → d.isolated = false → Completes (.resetNPulse ns) s fun e => inReset e 1 ∧ kept e) ∧
    (d.arrives w Reg.PWR_RST = true → d.trusted w = true → v.toNat % 2 ^ 16 = 0x9E37 →
      (v.getLsbD 17 = false → Completes (.softwareReset w v) s fun e => inReset e 4 ∧ kept e) ∧
      (v.getLsbD 16 = false → (∀ p ∈ d.bol.entries, ∀ x, p.2 = some x → x.holder ≠ .gangway) →
        Completes (.debugReset w v) s fun e =>
          let lc := d.fld Reg.DBG_AUTH 2 2
          e.flag Reg.PWR_RSTCAUSE 5 = true ∧ e.fld Reg.DBG_AUTH 2 2 = lc ∧
          e.fld Reg.DBG_AUTH 0 2 = startLevel lc ∧ e.mode = d.mode ∧ sameBerths d e ∧ e.mem = d.mem ∧
          e.dbg.vtx = [] ∧ e.dbg.vrx = [])) ∧
    (d.arrives w Reg.PWR_RST = true → v.toNat % 2 ^ 16 ≠ 0x9E37 →
      exec (.softwareReset w v) s = .next s ∧ exec (.debugReset w v) s = .next s) ∧
    (d.mode = .reset → (∀ n, d.pwr.cool = some n → 100 ≤ n) → d.pwr.por = false ∨ d.pwr.lost = false → (d.pwr.vmon = 0 ∨ silent d 0x3B) →
      (d.fld Reg.CLK_MON 0 2 = 0 ∨ silent d 0x3C) → Completes .resetRelease s fun e =>
        e.mode = (if d.cfg.factory = true ∧ d.fld Reg.DBG_AUTH 2 2 = 3 then .factory else .service) ∧ sameBerths d e ∧ kept e ∧
        e.flag (Reg.RMS_STATN 0x3B) 3 = decide (d.pwr.vmon ≠ 0)) ∧
    (∀ n, d.pwr.cool = some n → n < 100 → exec .resetRelease s = .next s) ∧
    (d.pwr.por = true → d.pwr.lost = true → exec .resetRelease s = .next s) ∧
    (d.mode ≠ .reset → exec .resetRelease s = .next s)

/-- R519 to R523: DOZE and DEEP-SLEEP are entered once their cores are quiet, DEEP-SLEEP turns its tiles off and its wake turns them on at
the wake vector; the sleep request sets DEEP and leaves RETSRAM, and in RUN, STANDBY and HALT it has no effect and sets SLPREF; the recovery
key leaves SAFE for STOP when nothing is SEVERE, and for HALT while every core is halted (R26), and is refused elsewhere.
It rests on choices of the model: notes/assumptions/32.md, notes/assumptions/33.md, notes/assumptions/61.md. -/
def Obligations.SleepAndRecovery : Prop :=
  ∀ (s : State) (w : Writer) (v : BitVec 32),
    let d := s.dev
    let idleLinks : Prop := (∀ p, p < 2 → d.portState p = 0) ∧ d.flag Reg.NET_SNSTAT 6 = false
    (d.mode = .service ∨ d.mode = .stop ∨ d.mode = .run → (∃ c, c < d.cfg.cores ∧ d.coreOn c = true) →
      (∀ c, c < d.cfg.cores → d.twinHigh c = false → d.coreOn c = true → d.coreGated c = true) → Completes .dozeEntry s fun e =>
        e.mode = .doze ∧ e.prev = d.mode ∧ sameBerths d e ∧ memoryKept d e) ∧
    (d.mode = .safe → exec .dozeEntry s = .next s) ∧
    (d.arrives w Reg.PWR_SLEEP = true → Completes (.deepSleepRequest w) s fun e =>
      e.fld Reg.PWR_SLEEP 8 8 = d.fld Reg.PWR_SLEEP 8 8 ∧
      (if d.mode = .run ∨ d.mode = .standby ∨ d.mode = .halt then
          e.flag Reg.PWR_SLEEP 0 = d.flag Reg.PWR_SLEEP 0 ∧ e.flag Reg.PWR_STAT 10 = true
        else e.flag Reg.PWR_SLEEP 0 = true ∧ e.rd Reg.PWR_STAT = d.rd Reg.PWR_STAT) ∧
      onlyRegs d e [Reg.PWR_SLEEP, Reg.PWR_STAT] ∧ sameBerths d e) ∧
    (d.mode = .service ∨ d.mode = .stop → d.flag Reg.PWR_SLEEP 0 = true →
      (∀ c, c < d.cfg.cores → d.coreOn c = true → d.coreQuiet c = true) → idleLinks →
      d.flag Reg.DBG_CTRL 0 = false → Completes .deepSleepEntry s fun e =>
        e.mode = .deepSleep ∧ e.prev = d.mode ∧ ∀ t, t < d.cfg.tiles → e.tileOn t = false ∧ e.flag (Reg.PAD_LATCH t) 0 = true) ∧
    (d.flag Reg.PWR_SLEEP 0 = false → exec .deepSleepEntry s = .next s) ∧
    (∀ cause, d.mode = .deepSleep → d.pwr.wake = some cause → cause < 4 → d.rms.deferred = [] → d.present 0 = true →
      0 ∉ d.car.copying → d.twinAct 0 = false ∨ d.twinMis 0 = false → d.flag (Reg.PWR_WAKEVEC + 4) 31 = true → d.prev ≠ .deepSleep →
      (∀ t, t < d.cfg.tiles → d.flag (Reg.THM_TILE t) 19 = false) → Completes .wakeComplete s fun e =>
        e.mode = d.prev ∧ e.pwr.wake = none ∧ e.flag Reg.PWR_SLEEP 0 = false ∧ e.fld Reg.PWR_STAT 8 2 = cause ∧
        (e.berth 0).pc = BitVec.ofNat 50 (d.rd64 Reg.PWR_WAKEVEC) ∧ e.parkAsked 0 = false ∧ e.parked 0 = false ∧
        ∀ t, t < d.cfg.tiles → e.tileOn t = true) ∧
    (d.arrives w Reg.PWR_RECOVER = true → d.trusted w = true → v.toNat % 2 ^ 16 = 0x51FE →
      (d.mode = .safe → d.recoverable = true → (∀ n ∈ levelSources, d.flag (Reg.RMS_STATN n) 3 = false) →
        Completes (.recover w v) s fun e => e.mode = (if d.allHalted then .halt else .stop) ∧ sameBerths d e) ∧
      (d.mode ≠ .safe ∨ d.recoverable = false → Completes (.recover w v) s fun e =>
        e.flag Reg.PWR_STAT 11 = true ∧ onlyRegs d e [Reg.PWR_STAT] ∧ sameBerths d e ∧ e.mode = d.mode)) ∧
    (d.arrives w Reg.PWR_RECOVER = true → v.toNat % 2 ^ 16 ≠ 0x51FE → exec (.recover w v) s = .next s)

/-- R510 to R515: the divider changes at a multiple of 8 at least 4 TCLK after its request, each request at its own edge; a re-lock goes
through its steps, from the switch to BOSC to the PLL's reset, its lock and the return 64 µs on and within 10 ms, falls back to the previous
reference after 10 ms, and ends with its code; after NOLOCK the clocks stay on BOSC; a lock shows with its reference, in a re-lock too,
where a loss of lock restarts the 64 µs, and outside one puts the clocks on BOSC. -/
def Obligations.ClocksChange : Prop :=
  ∀ (s : State) (w : Writer) (v : BitVec 32) (b : Bool) (r : Relock) (t : Nat),
    let d := s.dev
    let st := Reg.CLK_STAT
    let rl := Reg.CLK_RLST
    let next (c : Instr) (offs : List Nat) (q : Option Relock) (P : Device → Prop) : Prop := Completes c s fun e =>
      P e ∧ e.pwr.relock = q ∧ onlyRegs d e offs ∧ sameBerths d e ∧ e.mem = d.mem
    (d.arrives w Reg.CLK_DIV = true → Completes (.dividerRequest w v) s fun e =>
      e.rd Reg.CLK_DIV = v.toNat % 4 ∧ e.pwr = { d.pwr with divs := d.pwr.divs ++ [(d.tbNow, min (v.toNat % 4) 2)] } ∧
      onlyRegs d e [Reg.CLK_DIV]) ∧
    (∀ k q, d.pwr.divs = (t, k) :: q → (∀ y ∈ q, d.tbNow < y.1 + 4) →
      (t + 4 ≤ d.tbNow → d.tbNow % 8 = 0 → Completes .dividerChange s fun e =>
        e.fld st 0 2 = k % 4 ∧ e.pwr = { d.pwr with divs := q } ∧ onlyRegs d e [st]) ∧
      (d.tbNow < t + 4 ∨ d.tbNow % 8 ≠ 0 → exec .dividerChange s = .next s)) ∧
    (d.pwr.divs = [] → exec .dividerChange s = .next s) ∧
    (d.arrives w Reg.CLK_RELOCK = true → v.getLsbD 0 = true →
      (d.gateHeld (Writer.who w) 5 = false → next (.relockRequest w v) [rl] d.pwr.relock fun e => e.fld rl 0 4 = 1) ∧
      (d.gateHeld (Writer.who w) 5 = true →
        (d.mode = .run → d.criticalRuns = true → next (.relockRequest w v) [rl] d.pwr.relock fun e => e.fld rl 0 4 = 2) ∧
        (¬ (d.mode = .run ∧ d.criticalRuns = true) → d.pwr.relock.isSome = true →
          next (.relockRequest w v) [rl] d.pwr.relock fun e => e.fld rl 0 4 = 3) ∧
        (¬ (d.mode = .run ∧ d.criticalRuns = true) → d.pwr.relock = none → next (.relockRequest w v) [rl]
          (some ⟨d.tbNow, v.toNat / 2 % 2, d.fld st 4 1, none, none, none, false, false⟩) fun e => e.fld rl 0 4 = 9))) ∧
    (d.pwr.relock = some r →
      (r.switched = none → r.asked + 2 ≤ d.tbNow → d.tbNow % 8 = 0 → next .relockSwitch [st, rl]
        (some { r with switched := some d.tbNow }) fun e => e.flag st 2 = true ∧ e.fld rl 4 2 = 1) ∧
      (r.switched.isSome = true → r.pllReset = none → r.target < 2 → next .relockPllReset [st]
        (some { r with pllReset := some d.tbNow, locked := none, first := false }) fun e =>
          e.fld st 4 1 = r.target ∧ e.flag st 3 = false) ∧
      (r.pllReset = none → next (.pllLock true) [st] (some r) fun e => e.flag st 3 = true ∧ e.flag st 5 = true) ∧
      (d.mode ≠ .off → d.mode ≠ .ramp → next (.pllUnlock b) [st, rl]
        (some (if r.pllReset.isSome then { r with locked := none } else r)) fun e => e.flag st 3 = false ∧ e.flag st 5 = b) ∧
      (r.pllReset = some t →
        (r.first = false → r.locked = none → next (.pllLock true) [st, rl]
          (some { r with locked := some d.tbNow, first := true }) fun e =>
            e.flag st 3 = true ∧ e.flag st 5 = true ∧ e.fld rl 4 2 = 2 ∧ e.fld rl 16 16 = min ((d.tbNow - t) / 250) 0xFFFF) ∧
        next (.pllLock false) [st, rl] (some { r with locked := none }) (fun e => e.flag st 3 = false ∧ e.fld rl 4 2 = 1) ∧
        (d.tbNow < t + 2500000 ∨ r.met = true → exec .relockTimeout s = .next s) ∧
        (t + 2500000 ≤ d.tbNow → r.met = false →
          (r.fallback = false → next .relockTimeout [rl]
            (some { r with target := r.previous, pllReset := none, locked := none, fallback := true }) fun e => e.fld rl 4 2 = 1) ∧
          (r.fallback = true → silent d 0x3D → next .relockTimeout [rl, Reg.RMS_STATN 0x3D] none fun e =>
            e.fld rl 4 2 = 0 ∧ e.fld rl 0 4 = 4 ∧ e.pwr.noLock = true))) ∧
      (∀ p, r.locked = some t → r.pllReset = some p →
        (d.tbNow < t + 16000 ∨ p + 2500000 < t + 16000 → exec .relockReturn s = .next s) ∧
        (t + 16000 ≤ d.tbNow → t + 16000 ≤ p + 2500000 → d.tbNow % 8 = 0 → next .relockReturn [st, rl] none fun e =>
          e.flag st 2 = d.pwr.noLock ∧ e.fld st 0 2 = min (d.fld Reg.CLK_DIV 0 2) 2 ∧ e.pwr.divs = [] ∧ e.fld rl 4 2 = 0 ∧
          e.fld rl 0 4 = if r.fallback then 5 else 0))) ∧
    (d.arrives w Reg.CLK_RELOCK = true → v.getLsbD 0 = false → exec (.relockRequest w v) s = .next s) ∧
    (d.pwr.relock = none → d.mode ≠ .off → d.mode ≠ .ramp → next (.pllLock true) [st] none fun e =>
      e.flag st 3 = true ∧ e.flag st 5 = true) ∧
    (d.isolated = false → d.pwr.relock = none → silent d 0x3D → next (.pllUnlock b) [st, Reg.RMS_STATN 0x3D] none fun e =>
      e.flag st 3 = false ∧ e.flag st 5 = b ∧ e.flag st 2 = true)

/-- R436, R524 to R526: a reading shows in its tile's register and, where it is higher, in THM_PEAK, with the conditions of the temperature
sources; in RESET one of 125 °C or more holds the release; a peak clear takes the hottest reading; each period moves a tile's level by one;
at 135 °C the device enters SAFE, from FACTORY too, and 10 µs later its tiles go off; the VDD monitor's condition is the source's. -/
def Obligations.TemperatureIsWatched : Prop :=
  ∀ (s : State) (w : Writer) (k : BitVec 2) (t : BitVec 3) (j : BitVec 3) (x : Int),
    let d := s.dev
    let n := t.toNat
    let quiet : Prop := silent d 0x38 ∧ silent d 0x39 ∧ silent d 0x3A
    let tile := Reg.THM_TILE n
    (d.isolated = false → d.pwr.temps = [] → n < d.cfg.tiles → -400 ≤ x → x < 1000 → quiet → d.pwr.tripAt = none →
      Completes (.sensorRead [(8 * n + j.toNat, x)]) s fun e =>
        signedOf 11 (e.fld tile 0 11) = x ∧ e.fld tile 16 3 = j.toNat ∧ e.flag (Reg.RMS_STATN 0x38) 3 = decide (460 < x) ∧
        e.flag (Reg.RMS_STATN 0x39) 3 = decide (500 ≤ x) ∧ e.flag (Reg.RMS_STATN 0x3A) 3 = decide (540 ≤ x) ∧
        signedOf 11 (e.fld Reg.THM_PEAK 0 11) =
          (if d.pwr.peakSet = true ∧ x ≤ signedOf 11 (d.fld Reg.THM_PEAK 0 11) then signedOf 11 (d.fld Reg.THM_PEAK 0 11) else x) ∧
        (x < 540 → e.mode = d.mode ∧ sameBerths d e) ∧
        (540 ≤ x → d.mode.safeFrom = true → d.mode ≠ .deepSleep → d.flag (Reg.THM_TILE 0) 19 = false → e.mode = .safe ∧
          e.pwr.tripAt = some d.lpt.edges)) ∧
    (d.mode = .reset → n < d.cfg.tiles → 500 ≤ x → Completes (.sensorRead [(8 * n + j.toNat, x)]) s fun e =>
      e.pwr.cool = some 0 ∧ e.mode = d.mode ∧ sameBerths d e ∧ onlyRegs d e []) ∧
    (∀ i, d.pwr.tripAt = some i →
      (d.lpt.edges < i + 2500 → exec .thermalPowerOff s = .next s) ∧
      (i + 2500 ≤ d.lpt.edges → d.isolated = false → Completes .thermalPowerOff s fun e =>
        e.pwr.tripAt = none ∧ ∀ u, u < d.cfg.tiles → e.tileOn u = false ∧ e.flag (Reg.THM_TILE u) 19 = true)) ∧
    (d.isolated = false → Completes .governorPeriod s fun e =>
      let low : Int := 4 * min (d.fld Reg.THM_CFG 8 8) 115
      let level := d.fld tile 12 3
      (n < d.cfg.tiles → ∀ y, d.tileOn n = true → d.hottest (List.range' (8 * n) 8) = some (y, x) →
        e.fld tile 12 3 = if 460 < x then min (level + 1) 7 else if x ≤ low then level - 1 else level) ∧
      (n < d.cfg.tiles → d.tileOn n = false → e.fld tile 12 3 = 0) ∧
      sameBerths d e ∧ ∀ o, (∀ u, u < d.cfg.tiles → o ≠ Reg.THM_TILE u) → e.rd o = d.rd o) ∧
    (d.arrives w Reg.THM_PEAK = true → Completes (.peakClear w) s fun e =>
      e.fld Reg.THM_PEAK 0 11 = (match d.hottest d.sensors with
        | some (_, y) => patternOf 11 y
        | none => 0) ∧ onlyRegs d e [Reg.THM_PEAK] ∧ sameBerths d e) ∧
    (d.isolated = false → silent d 0x3B → Completes (.vddMonitor k) s fun e =>
      e.flag (Reg.RMS_STATN 0x3B) 3 = decide (k ≠ 0) ∧ onlyRegs d e [Reg.RMS_STATN 0x3B] ∧ sameBerths d e)

/-! ### The Beyram link, its sync groups and the MACs (R368 to R409) -/

namespace Sys2Proof.Claims

/-- Lane r carries frames of the control class, between SUSPEND and RESUME where a data-class frame is in progress on it (R377). -/
def carries (d e : Device) (r : Nat) (fs : List (List Byte)) : Prop :=
  e.bey.lane.get (fun _ => []) r =
    let items := fs.map fun f => LaneItem.frame true f false
    if d.tbNow < d.bey.dataEnd.get (fun _ => 0) r then [.suspend] ++ items ++ [.resume] else items

/-- Lane r carries one frame, of the control class or of the data class, and whether it ends in TERM_BAD. -/
def starts (d e : Device) (r : Nat) (control : Bool) (f : List Byte) (bad : Bool) : Prop :=
  if control = true ∧ d.tbNow < d.bey.dataEnd.get (fun _ => 0) r then
    e.bey.lane.get (fun _ => []) r = [.suspend, .frame control f bad, .resume]
  else e.bey.lane.get (fun _ => []) r = [.frame control f bad]

/-- Lane p carries one control-class frame, which reads as a frame of this device with the type, the destination and the payload given. -/
def sends (d e : Device) (p type dst : Nat) (payload : List Byte) : Prop :=
  ∃ f g, carries d e p [f] ∧ beyRead (f, .term) = .good g ∧ g.type = type ∧ g.src = d.beyAddr ∧ g.dst = dst ∧ g.payload = payload

/-- A good frame of a type arrives at port p while the link runs. -/
abbrev heard (d : Device) (p type : Nat) (f : FrameIn) (g : BeyFrame) : Prop :=
  d.beyRuns = true ∧ d.portState p ≠ 0 ∧ beyRead f = .good g ∧ g.type = type

/-- Of the registers, only those listed change, and the count of hop-limited and dropped copies that a frame's forwarding may add to. -/
abbrev passes (d e : Device) (offs : List Nat) : Prop := onlyRegs d e (Reg.BEY_CNT1 :: offs)

/-- A counter of a register goes up by one and saturates. -/
def counts (d e : Device) (off lo w : Nat) : Prop := e.fld off lo w = min (d.fld off lo w + 1) (2 ^ w - 1)

/-- A receive buffer of two halves that takes a payload at once: it lies in a tile SRAM, whose words have no error and hold no bollard. -/
abbrev rxTakes (d : Device) (b : RxBuffer) (n : Nat) : Prop :=
  b.queue = false ∧ n ≤ b.room ∧ b.area % 8 = 0 ∧ d.rxPlaced (b.area + (1 - d.fld b.status 0 1) * b.half) (16 + pad8 n) = true ∧
    (∀ a, d.eccAt a = .clean) ∧ d.bol.entries = []

/-- No manifest waits for the group of slot j. -/
def noneWaits (d : Device) (j : Nat) : Prop :=
  ∀ h m, h < 16 → d.manifest h = some m → ¬ (m.sync = true ∧ m.committed = true ∧ m.instant = none ∧ m.group = d.sgGroup j)

/-- The payload stands behind the header of the half that was the back one, which is now the front. -/
def rxWritten (d e : Device) (b : RxBuffer) (payload : List Byte) : Prop :=
  e.fld b.status 0 1 = 1 - d.fld b.status 0 1 ∧
    ∀ i (h : i < payload.length), e.byte (b.area + (1 - d.fld b.status 0 1) * b.half + 16 + i) = payload[i]

end Sys2Proof.Claims

/-- R370, R371, R373, R375 to R377, R400, R404: block lock begins the training of a port and its loss ends it; a HELLO goes out at each
interval, also from a port that CRC errors took DOWN, and the third in a row brings the port UP; the device's own frame starts on both
rings, and a waiting one on its own, stamped where it is the device's LINK; a LINK frame is recorded, and goes on with one more hop; a bad
CRC, which restarts the HELLOs and the eighth time within 1 ms takes the port DOWN, an unknown control block, in a frame or between frames,
and an XEV block from elsewhere have their effects.
It rests on choices of the model: notes/assumptions/50.md, notes/assumptions/62.md. -/
def Obligations.BeyramPortsAndFrames : Prop :=
  ∀ (s : State) (p : BitVec 1) (lane : BitVec 2) (f : List Byte) (err : FrameEnd) (g : BeyFrame) (own : OutFrame) (code : BitVec 8)
    (src hops : BitVec 10),
    let d := s.dev
    let n := p.toNat
    let o := 1 - n
    let port := Reg.BEY_PORT n
    let crcs := d.bey.errors.get (fun _ => []) n
    let bytesOn (r : Nat) : List Byte := startLocal r d.tbNow (if r = 1 then own.ringB.getD own.bytes else own.bytes)
    (d.beyRuns = true → lane.toNat = n → Completes (.blockLock lane) s fun e =>
      e.portState n = max 1 (d.portState n) ∧ n ∈ e.bey.locked ∧ onlyRegs d e [port] ∧ sameBerths d e) ∧
    (d.beyRuns = true → Completes (.blockLock 2) s fun e => e = { d with sn := { d.sn with locked := true } }) ∧
    (d.beyRuns = false → exec (.blockLock lane) s = .next s) ∧
    (exec (.blockLock 3) s = .next s ∧ exec (.blockLockLoss 3) s = .next s) ∧
    (lane.toNat = n →
      (d.portState n ≠ 2 → Completes (.blockLockLoss lane) s fun e =>
        e.portState n = 0 ∧ n ∉ e.bey.locked ∧ onlyRegs d e [port] ∧ sameBerths d e) ∧
      (d.portState n = 2 → silent d 0x28 → Completes (.blockLockLoss lane) s fun e =>
        e.portState n = 0 ∧ n ∉ e.bey.locked ∧ counts d e port 16 16 ∧ sameBerths d e ∧ e.mem = d.mem)) ∧
    (Completes (.blockLockLoss 2) s fun e =>
      e.sn.locked = false ∧ e.flag Reg.NET_SNSTAT 6 = false ∧ onlyRegs d e [Reg.NET_SNSTAT] ∧ sameBerths d e) ∧
    (d.beyRuns = true → d.dupAddr = false → d.portState n ≠ 0 ∨ n ∈ d.bey.locked → Completes (.helloInterval p) s fun e =>
      sends d e n 0x20 1023 (leBytes 8 (d.beyAddr + d.fld port 2 10 * 2 ^ 16)) ∧ e.portState n = max 1 (d.portState n) ∧
      onlyRegs d e [port] ∧ sameBerths d e) ∧
    (d.beyRuns = false ∨ (d.portState n = 0 ∧ n ∉ d.bey.locked) → exec (.helloInterval p) s = .next s) ∧
    (heard d n 0x20 (f, err) g →
      let before := d.bey.hellos.get (fun _ => (0, false)) n
      Completes (.hello p f err) s fun e =>
        e.fld port 2 10 = fieldAt g.payload 0 2 % 2 ^ 10 ∧ sameBerths d e ∧
        e.portState n = if d.portState n = 1 ∧ 2 ≤ before.1 ∧ (before.2 = true ∨ fieldAt g.payload 2 2 % 2 ^ 10 = d.beyAddr) then 2
          else d.portState n) ∧
    (d.beyRuns = true → d.portState n ≠ 0 → fieldAt f 0 1 = 0x20 →
      (beyRead (f, err) = .badCrc → crcs = [] → Completes (.hello p f err) s fun e =>
        counts d e Reg.BEY_CNT0 0 8 ∧ e.bey.hellos.get (fun _ => (0, false)) n = (0, false) ∧ onlyRegs d e [Reg.BEY_CNT0] ∧
        sameBerths d e) ∧
      (beyRead (f, err) = .badCrc → crcs.length = 7 → (∀ t ∈ crcs, d.tbNow < t + 250000) → silent d 0x28 →
        Completes (.hello p f err) s fun e => e.portState n = 0 ∧ counts d e Reg.BEY_CNT0 0 8 ∧ sameBerths d e) ∧
      Completes (.hello p f .unknown) s fun e => counts d e Reg.BEY_CNT2 0 8 ∧ onlyRegs d e [Reg.BEY_CNT2] ∧ sameBerths d e) ∧
    (d.beyRuns = true → d.portState n ≠ 0 → Completes (.hello p [] .unknown) s fun e =>
      counts d e Reg.BEY_CNT2 0 8 ∧ onlyRegs d e [Reg.BEY_CNT2] ∧ sameBerths d e) ∧
    (d.beyRuns = true → d.portState n = 2 →
      (d.waiting n = [] → d.bey.ownQueue = [] → exec (.frameTransmit p) s = .next s) ∧
      (d.waiting n = [] → d.bey.ownQueue = [own] → (own.control = true ∨ d.portState o ≠ 2 ∨ d.waiting o = []) →
        (d.startsOwn own = true → Completes (.frameTransmit p) s fun e =>
          e.bey.ownQueue = [] ∧ starts d e n own.control (bytesOn n) false ∧
          (d.portState o = 2 → starts d e o own.control (bytesOn o) false) ∧ onlyRegs d e [] ∧ sameBerths d e) ∧
        (d.startsOwn own = false → exec (.frameTransmit p) s = .next s)) ∧
      (d.waiting n = [own] → (own.control = true ∨ ∀ q ∈ d.bey.ownQueue, q.control = false) → Completes (.frameTransmit p) s fun e =>
        e.waiting n = [] ∧ starts d e n own.control
          (if own.own then startLocal n d.tbNow own.bytes else if own.cut then own.bytes else beyFrame own.bytes) own.cut ∧
        e.bey.ownQueue = d.bey.ownQueue ∧ onlyRegs d e [] ∧ sameBerths d e)) ∧
    (heard d n 0x25 (f, err) g → g.src ≠ d.beyAddr →
      (d.deliveredHere g = true → Completes (.link p f err) s fun e =>
        let v := fieldAt g.payload 0 8
        ⟨v % 2 ^ 10, v / 2 ^ 10 % 2, !bitOf v 11, d.tbNow, some (o, g.hops)⟩ ∈ e.bey.reports ∧ passes d e [] ∧ sameBerths d e) ∧
      (d.isMe g.dst = false → g.hops < 999 → d.portState o = 2 → Completes (.link p f err) s fun e =>
        e.waiting o = d.waiting o ++ [⟨true, setHops g.body (g.hops + 1), false, none, false, false, false⟩] ∧ onlyRegs d e [])) ∧
    (d.beyRuns = true → d.portState n ≠ 0 → src.toNat ≠ d.beyAddr → hops.toNat < 999 → Completes (.xev p code src hops) s fun e =>
      e.bey.xev.get (fun _ => []) o = [(code.toNat, src.toNat, hops.toNat + 1)] ∧
      (d.flag Reg.BEY_XEV 0 = false → onlyRegs d e [] ∧ sameBerths d e) ∧
      (d.flag Reg.BEY_XEV 0 = true → d.flag Reg.DBG_XTRIG 0 = false → (∀ c ∈ d.channelsOf 0x5B, pulsed d e c) ∧ sameBerths d e)) ∧
    (src.toNat = d.beyAddr → exec (.xev p code src hops) s = .next s)

/-- R379 to R385: the stamps of DREQ, DRSP and SYNC; the link delay of a port; the offset that a SYNC gives, of whose two copies that with
fewer hops is used, or that of ring A, and their asymmetry; a lost master leads to an election, which a better candidate ends and which is
won in its absence; the round trip of the ring, the larger of its two directions, and its timeout.
It rests on choices of the model: notes/assumptions/50.md, notes/assumptions/51.md. -/
def Obligations.BeyramTimeAndElection : Prop :=
  ∀ (s : State) (p : BitVec 1) (f : List Byte) (err : FrameEnd) (g : BeyFrame) (ph : BitVec 4) (times : SyncTimes)
    (res : BitVec 32),
    let d := s.dev
    let n := p.toNat
    let now := 16 * d.tbNow + ph.toNat
    let pays := fun (o k : Nat) => fieldAt g.payload o k
    let own := (d.fld Reg.BEY_CFG 10 8, d.beyAddr)
    (d.beyRuns = true → d.portState n = 2 → d.dupAddr = false → Completes (.dreqInterval p ph) s fun e =>
      e.bey.dreqAt.get (fun _ => 0) n = now ∧ sends d e n 0x21 1023 (leBytes 8 0) ∧ onlyRegs d e [] ∧ sameBerths d e) ∧
    (d.portState n ≠ 2 → exec (.dreqInterval p ph) s = .next s) ∧
    (heard d n 0x21 (f, err) g →
      (d.dupAddr = false → Completes (.dreq p f err ph res) s fun e =>
        sends d e n 0x22 1023 (leBytes 8 now ++ leBytes 8 (now + res.toNat)) ∧ onlyRegs d e [] ∧ sameBerths d e) ∧
      (d.dupAddr = true → exec (.dreq p f err ph res) s = .next s)) ∧
    (heard d n 0x22 (f, err) g → Completes (.drsp p f err ph) s fun e =>
      let t1 : Int := d.bey.dreqAt.get (fun _ => 0) n
      let v : Int := (((now : Int) - t1) - ((pays 8 8 : Int) - (pays 0 8 : Int))) / 2
      let vs := (v :: d.bey.delays.get (fun _ => []) n).take 8
      e.rd (Reg.BEY_PDLY n) = patternOf 32 (vs.sum / vs.length) ∧ e.bey.delays.get (fun _ => []) n = vs ∧
      onlyRegs d e [Reg.BEY_PDLY n] ∧ sameBerths d e) ∧
    (d.beyRuns = true → d.timeMaster = true → d.originates = true → d.portState n = 2 → Completes (.syncInterval times) s fun e =>
      let t (h : BitVec 4) : Nat := 16 * d.tbNow + h.toNat
      e.bey.probes = d.bey.probes ++ [⟨d.tbNow, t times.phaseA + times.lagA.toNat, t times.phaseB + times.lagB.toNat, none, none⟩] ∧
      onlyRegs d e [] ∧ sameBerths d e ∧
      ∃ x y gx gy, carries d e n [x, y] ∧ beyRead (x, .term) = .good gx ∧ beyRead (y, .term) = .good gy ∧
        gx.type = 0x23 ∧ gx.src = d.beyAddr ∧
        fieldAt gx.payload 0 8 = t (if n = 0 then times.phaseA else times.phaseB) % 2 ^ 64 ∧
        fieldAt gx.payload 8 8 = 0 ∧ fieldAt gx.payload 18 2 = d.bey.electNo % 2 ^ 16 ∧ gy.type = 0x26 ∧ gy.src = d.beyAddr) ∧
    (d.timeMaster = false → exec (.syncInterval times) s = .next s) ∧
    (heard d n 0x23 (f, err) g → g.src ≠ d.beyAddr → d.deliveredHere g = true → d.bey.epoch < pays 18 2 →
      d.flag Reg.TB_CTRL 0 = false → silent d 0x29 → Completes (.sync p f err ph res) s fun e =>
        let master := pays 16 2 % 2 ^ 10
        let o : Int := (now : Int) - ((pays 0 8 : Int) + signedOf 64 (pays 8 8) + signedOf 32 (d.rd (Reg.BEY_PDLY n)))
        let u := 1 - n
        let old := d.bey.copies.get (fun _ => none) n
        e.fld Reg.BEY_STAT 16 10 = master ∧ e.timeMaster = false ∧ e.rd Reg.BEY_RTT = pays 20 4 ∧ e.bey.epoch = pays 18 2 ∧
        e.bey.syncAt = d.tbNow ∧ e.tb = d.tb ∧ sameBerths d e ∧
        (d.bey.electNo ≤ pays 18 2 → betterThan (d.candidateAt master) own = true → e.bey.electing = false) ∧
        (d.fld Reg.BEY_STAT 16 10 ≠ master →
          e.rd Reg.BEY_OFS = (if d.portState u = 2 then d.rd Reg.BEY_OFS else patternOf 32 o) ∧
          e.bey.copies.get (fun _ => none) u = some ⟨pays 0 8, g.hops, o, decide (d.portState u ≠ 2)⟩) ∧
        ∀ x, old = some x → d.fld Reg.BEY_STAT 16 10 = master → ((pays 0 8 : Int) - x.origin).natAbs < max 16 (8 * d.intv) →
          let better : Prop := g.hops < x.hops ∨ (g.hops = x.hops ∧ n = 1)
          e.flag Reg.BEY_STAT 2 = (d.flag Reg.BEY_STAT 2 || decide (32 < (o - x.offset).natAbs)) ∧
          (better → e.rd Reg.BEY_OFS = patternOf 32 o) ∧
          (¬better → e.rd Reg.BEY_OFS = if x.done then d.rd Reg.BEY_OFS else patternOf 32 x.offset) ∧
          e.bey.copies.get (fun _ => none) u = some ⟨pays 0 8, g.hops, o, true⟩) ∧
    (d.beyRuns = true → d.timeMaster = false → d.bey.syncAt + 3 * d.intv ≤ d.tbNow → silent d 0x29 →
      (d.flag Reg.TB_CTRL 0 = false ∨ ∀ r x, d.bey.copies.get (fun _ => none) r = some x → x.done = true) →
        Completes .syncTimeout s fun e =>
      e.tlock = false ∧ e.bey.syncAt = d.tbNow ∧ sameBerths d e ∧
      if d.candidate then e.bey.electing = true ∧ e.bey.epoch = (d.bey.epoch + 1) % 2 ^ 16 else e.bey.best = none) ∧
    (d.tbNow < d.bey.syncAt + 3 * d.intv → exec .syncTimeout s = .next s) ∧
    (heard d n 0x24 (f, err) g → g.src ≠ d.beyAddr → d.deliveredHere g = true → d.bey.epoch < pays 1 2 → d.bey.electNo ≤ pays 1 2 →
      betterThan (pays 0 1, g.src) own = true → Completes (.elect p f err) s fun e =>
        e.bey.electing = false ∧ e.timeMaster = false ∧ e.bey.epoch = pays 1 2 ∧ e.bey.best = some (pays 0 1, g.src) ∧ sameBerths d e) ∧
    (d.beyRuns = true → d.bey.electing = true → d.originates = true → d.bey.electAt + 2 * d.intv ≤ d.tbNow →
      Completes .electionTimeout s fun e =>
        e.timeMaster = true ∧ e.fld Reg.BEY_STAT 16 10 = d.beyAddr ∧ e.bey.electing = false ∧ onlyRegs d e [Reg.BEY_STAT]) ∧
    (d.bey.electing = false → exec .electionTimeout s = .next s) ∧
    (∀ t mine theirs back, heard d n 0x26 (f, err) g → g.src = d.beyAddr → mine / 16 % 2 ^ 32 = g.txtime → mine ≤ now →
      d.bey.probes = [if n = 1 then ⟨t, mine, theirs, none, back⟩ else ⟨t, theirs, mine, back, none⟩] →
      (∀ b, back = some b → Completes (.rttp p f err ph) s fun e =>
        e.rd Reg.BEY_RTT = max ((now - mine + 15) / 16) b % 2 ^ 32 ∧ e.flag Reg.BEY_STAT 5 = false ∧ e.bey.probes = [] ∧
        onlyRegs d e [Reg.BEY_RTT, Reg.BEY_STAT] ∧ sameBerths d e) ∧
      (back = none → Completes (.rttp p f err ph) s fun e =>
        let got := some ((now - mine + 15) / 16)
        e.bey.probes = [if n = 1 then ⟨t, mine, theirs, got, none⟩ else ⟨t, theirs, mine, none, got⟩] ∧ onlyRegs d e [] ∧ sameBerths d e)) ∧
    (∀ x, d.bey.probes = [x] →
      (x.sent + 500000 ≤ d.tbNow → Completes .rttTimeout s fun e =>
        e.flag Reg.BEY_STAT 5 = true ∧ e.bey.probes = [] ∧ onlyRegs d e [Reg.BEY_STAT]) ∧
      (d.tbNow < x.sent + 500000 → exec .rttTimeout s = .next s))

/-- R387 to R391, R405 to R409: a DATA frame that is a duplicate or matches no buffer is counted and leaves memory alone, and one that
matches a buffer of two halves is written to its back half, which becomes the front; the kept time of a source expires; the MACs check,
match, pause and transmit in the same way, one burst at a time; the intervals of a gate list's running cycle follow one another, and the
list in the registers comes into force with the next cycle; the clear clears the counts.
It rests on choices of the model: notes/assumptions/52.md, notes/assumptions/62.md, notes/assumptions/63.md. -/
def Obligations.LinkDataAndMacs : Prop :=
  ∀ (s : State) (w : Writer) (p : BitVec 1) (f : List Byte) (err : FrameEnd) (g : BeyFrame) (src : BitVec 10),
    let d := s.dev
    let n := p.toNat
    let kept := d.bey.sources.get (fun _ => none) g.src
    let fcs := fieldAt f (f.length - 4) 4
    let body := f.take (f.length - 4)
    let wire : Prop := d.macRuns n = true ∧ 64 ≤ f.length ∧ f.length ≤ 1522
    let gctl := Reg.NET_GCTL n
    (heard d n 0x01 (f, err) g → g.src ≠ d.beyAddr → d.deliveredHere g = true →
      (∀ t i, kept = some (t, i) → (g.txtime + 2 ^ 32 - t) % 2 ^ 32 = 0 ∨ 2 ^ 31 ≤ (g.txtime + 2 ^ 32 - t) % 2 ^ 32 →
        Completes (.data p f err) s fun e => counts d e Reg.BEY_CNT0 8 8 ∧ passes d e [Reg.BEY_CNT0] ∧ sameBerths d e ∧ e.mem = d.mem) ∧
      (kept = none →
        (d.beyMatch g = none → Completes (.data p f err) s fun e =>
          counts d e Reg.BEY_CNT0 24 8 ∧ passes d e [Reg.BEY_CNT0] ∧ sameBerths d e ∧ e.mem = d.mem ∧
          e.bey.sources.get (fun _ => none) g.src = some (g.txtime, d.tbNow)) ∧
        ∀ k, d.beyMatch g = some k → d.fld (Reg.BEY_RXB k) 10 4 = g.gen → d.flag (Reg.BEY_RXB k) 17 = false →
          d.flag (Reg.BEY_RXB k) 24 = false → k ∉ d.bey.deferred → rxTakes d (d.beyBuffer k) g.payload.length →
          Completes (.data p f err) s fun e =>
            rxWritten d e (d.beyBuffer k) g.payload ∧ passes d e [Reg.BEY_RXS k] ∧ sameBerths d e)) ∧
    (∀ t i, d.bey.sources.get (fun _ => none) src.toNat = some (t, i) →
      (i + 1000000000 ≤ d.tbNow → Completes (.dupExpiry src) s fun e =>
        e.bey.sources.get (fun _ => none) src.toNat = none ∧ onlyRegs d e [] ∧ sameBerths d e) ∧
      (d.tbNow < i + 1000000000 → exec (.dupExpiry src) s = .next s)) ∧
    (d.arrives w Reg.BEY_CLR = true → Completes (.beyCountClear w) s fun e =>
      (∀ o ∈ [Reg.BEY_CNT0, Reg.BEY_CNT1, Reg.BEY_CNT2], e.rd o = 0) ∧ onlyRegs d e [Reg.BEY_CNT0, Reg.BEY_CNT1, Reg.BEY_CNT2] ∧
      sameBerths d e) ∧
    (wire → fcs ≠ crc32 0xFFFFFFFF body → Completes (.macFrameReceive p f) s fun e =>
      counts d e (Reg.NET_STAT n) 8 8 ∧ onlyRegs d e [Reg.NET_STAT n] ∧ sameBerths d e ∧ e.mem = d.mem) ∧
    (wire → fcs = crc32 0xFFFFFFFF body →
      (∀ q, pauseQuanta body = some q → Completes (.macFrameReceive p f) s fun e =>
        e.mac.pause.get (fun _ => 0) n = d.tbNow + q * 64 * d.byteTime n ∧ onlyRegs d e [] ∧ sameBerths d e ∧ e.mem = d.mem) ∧
      (pauseQuanta body = none → d.macTakes n body = true →
        (d.macMatch n body = none → Completes (.macFrameReceive p f) s fun e =>
          counts d e (Reg.NET_STAT n) 16 8 ∧ onlyRegs d e [Reg.NET_STAT n] ∧ sameBerths d e ∧ e.mem = d.mem) ∧
        ∀ k, d.macMatch n body = some k → d.flag (Reg.NET_RXB k) 31 = false → k ∉ d.mac.deferred →
          rxTakes d (d.macBuffer k) body.length → Completes (.macFrameReceive p f) s fun e =>
            rxWritten d e (d.macBuffer k) body ∧ onlyRegs d e [Reg.NET_RXS k] ∧ sameBerths d e)) ∧
    (d.macRuns n = false → exec (.macFrameReceive p f) s = .next s ∧ exec (.macTransmit p) s = .next s) ∧
    (∀ q frame more, d.macRuns n = true → d.mac.pause.get (fun _ => 0) n ≤ d.tbNow → d.flag gctl 0 = false → q < 8 →
      d.macQueue n = [(q, frame) :: more] → Completes (.macTransmit p) s fun e =>
        e.macQueue n = (if more = [] then [] else [more]) ∧ (n ∈ e.mac.mid ↔ more ≠ []) ∧
        e.mac.out.get (fun _ => []) n = macFrame frame ∧ e.rd64 (Reg.NET_TSTX n) = d.tbNow % 2 ^ 61 + q * 2 ^ 61 ∧
        onlyRegs d e [Reg.NET_TSTX n, Reg.NET_TSTX n + 4] ∧ sameBerths d e) ∧
    (d.macQueue n = [] → exec (.macTransmit p) s = .next s) ∧
    (∀ run, d.flag gctl 0 = true → d.gateRun n = some run →
      (d.tbNow < run.until_ → exec (.gateInterval p) s = .next s) ∧
      (∀ gates iv, run.until_ ≤ d.tbNow → run.until_ < run.cycleEnd → run.list[run.entry + 1]? = some (gates, iv) →
        Completes (.gateInterval p) s fun e => onlyRegs d e [] ∧ sameBerths d e ∧
          e.gateRun n = some { run with entry := run.entry + 1, until_ := min run.cycleEnd (run.until_ + iv) }) ∧
      (run.until_ ≤ d.tbNow → run.until_ < run.cycleEnd → run.list[run.entry + 1]? = none →
        Completes (.gateInterval p) s fun e => onlyRegs d e [] ∧ sameBerths d e ∧
          e.gateRun n = some { run with until_ := run.cycleEnd }) ∧
      (let base := d.rd64 (Reg.NET_GCBASE n)
       let cyc := d.rd (Reg.NET_GCCYC n)
       run.until_ ≤ d.tbNow → run.cycleEnd ≤ run.until_ → 0 < cyc → base ≤ run.cycleEnd → Completes (.gateInterval p) s fun e =>
        onlyRegs d e [] ∧ sameBerths d e ∧ ∃ new, e.gateRun n = some new ∧
          new.cycleEnd = base + ((run.cycleEnd - base) / cyc + 1) * cyc ∧ new.list = cycleParts (d.gateEntries n) cyc))

/-- R396 to R403: the coordinator begins a round with its V and VD; a member that hears PREPARE takes the round over, and votes NO at VD
when nothing waits; votes are collected once each; the decision is COMMIT on every YES and else ABORT; a member takes the decision for its
round; where none has come by TD it is ABORT if the coordinator's own reports isolate it, and else uncertain.
It rests on choices of the model: notes/assumptions/46.md. -/
def Obligations.SyncGroupRounds : Prop :=
  ∀ (s : State) (slot : BitVec 4) (p : BitVec 1) (f : List Byte) (err : FrameEnd) (g : BeyFrame),
    let d := s.dev
    let j := slot.toNat
    let x := d.sg j
    let st := Reg.BEY_SGST j
    let cnt := Reg.BEY_SGCNT j
    let per := d.rd (Reg.BEY_SGPER j)
    let rtt := d.rd Reg.BEY_RTT
    let pays := fun (o k : Nat) => fieldAt g.payload o k
    let quiet : Prop := noneWaits d j ∧ d.flag (Reg.BEY_SGCFG j) 10 = false
    let mine (type : Nat) : Prop := heard d p.toNat type (f, err) g ∧ d.sgFrameSlot g = some j
    let round (e : Device) (r v vd coord : Nat) : Prop :=
      (e.sg j).known = true ∧ (e.sg j).round = r ∧ (e.sg j).v = v ∧ (e.sg j).vd = vd ∧ (e.sg j).coord = coord ∧
      (e.sg j).undecided = true ∧ (e.sg j).voted = false
    (d.sgCoordinates j = true → d.sgStart j ≤ d.tbNow → 2 * rtt + 5000 ≤ per → 0 < per → x.known = false → noneWaits d j →
      Completes (.roundStart slot) s fun e =>
        let r := (d.tbNow - d.sgStart j) / per
        let t := d.sgStart j + r * per
        round e r (t + per + rtt + 1250) (t + rtt + 1250) d.beyAddr ∧ onlyRegs d e [] ∧ sameBerths d e ∧
        ∃ q, e.bey.ownQueue = d.bey.ownQueue ++ [q] ∧ q.control = true) ∧
    (d.sgCoordinates j = false → exec (.roundStart slot) s = .next s ∧ exec (.collectionDeadline slot) s = .next s) ∧
    (mine 0x10 → d.fromCoordinator j g = true → x.known = false → x.unsure = [] → noneWaits d j → Completes (.prepare p f err) s fun e =>
      round e (pays 4 4) (pays 8 8) (pays 16 8) g.src ∧ passes d e [] ∧ sameBerths d e) ∧
    (mine 0x11 → d.sgCoordinates j = true → x.known = true → g.gen = x.round % 16 → pays 4 4 = x.round → x.decided = .unknown →
      g.src ∉ x.votes → g.src ∉ x.noes.map Prod.fst → Completes (.vote p f err) s fun e =>
        passes d e [] ∧ sameBerths d e ∧
        e.sg j = if pays 24 1 = 1 then { x with votes := x.votes ++ [g.src] }
          else if pays 24 1 = 2 then { x with noes := x.noes ++ [(g.src, pays 27 1)] } else x) ∧
    (d.sgOn j = true → x.undecided = true → x.voted = false → d.beyFrozen = false →
      (x.vd ≤ d.tbNow → Completes (.voteDeadline slot) s fun e =>
        e.sg j = { x with voted := true, no := 2, joined := [] } ∧ onlyRegs d e [] ∧ sameBerths d e ∧
        (x.coord ≠ d.beyAddr → ∃ q, e.bey.ownQueue = d.bey.ownQueue ++ [q] ∧ q.control = true)) ∧
      (d.tbNow < x.vd → exec (.voteDeadline slot) s = .next s)) ∧
    (d.sgCoordinates j = true → x.known = true → x.coord = d.beyAddr → x.decided = .unknown →
      d.sgStart j + x.round * d.sgPer j + 2 * x.rtt + 3750 ≤ d.tbNow → Completes (.collectionDeadline slot) s fun e =>
        let others := d.fld (Reg.BEY_SGCFG j) 16 10 - 1
        (e.sg j).decided = (if x.votes.length = others ∧ x.voted = true ∧ x.no = 0 then .commit else .abort) ∧ onlyRegs d e [] ∧
        sameBerths d e) ∧
    (mine 0x12 → d.fromCoordinator j g = true → quiet → x.known = true → x.undecided = true → x.joined = [] → x.unsure = [] →
      pays 4 4 = x.round + 1 → g.gen = pays 4 4 % 16 → d.tbNow + 500 ≤ x.v → d.flag (Reg.BEY_SGCFG j) 9 = false →
      (pays 25 1 = 1 → Completes (.decideFrame p f err) s fun e =>
        e.fld st 0 16 = x.round % 2 ^ 16 ∧ e.fld st 16 2 = 1 ∧ counts d e cnt 0 16 ∧ passes d e [st, cnt] ∧ sameBerths d e ∧
        round e (pays 4 4) (pays 8 8) (pays 16 8) g.src ∧ (e.sg j).last = .commit) ∧
      (pays 25 1 = 2 → Completes (.decideFrame p f err) s fun e =>
        e.fld st 0 16 = x.round % 2 ^ 16 ∧ e.fld st 16 2 = 2 ∧ e.fld st 21 3 = pays 27 1 % 8 ∧ counts d e cnt 16 8 ∧
        passes d e [st, cnt] ∧ sameBerths d e ∧ round e (pays 4 4) (pays 8 8) (pays 16 8) g.src ∧ (e.sg j).last = .abort)) ∧
    (d.sgOn j = true → x.undecided = true →
      (x.v ≤ d.tbNow + 500 → quiet → x.joined = [] → d.flag (Reg.BEY_SGCFG j) 9 = false →
        (d.bey.reports = [] → silent d 0x2D → Completes (.tokenDeadline slot) s fun e =>
          e.fld st 0 16 = x.round % 2 ^ 16 ∧ e.fld st 16 2 = 3 ∧ counts d e cnt 24 8 ∧ (e.sg j).undecided = false ∧
          (e.sg j).outcome = .uncertain ∧ sameBerths d e) ∧
        (∀ t u, d.bey.reports = [⟨x.coord, 0, true, t, none⟩, ⟨x.coord, 1, true, u, none⟩] → x.since ≤ t → x.since ≤ u →
          Completes (.tokenDeadline slot) s fun e =>
            e.fld st 0 16 = x.round % 2 ^ 16 ∧ e.fld st 16 2 = 2 ∧ e.fld st 21 3 = 3 ∧ counts d e cnt 16 8 ∧
            (e.sg j).undecided = false ∧ (e.sg j).isolated = true ∧ onlyRegs d e [st, cnt] ∧ sameBerths d e)) ∧
      (d.tbNow + 500 < x.v → exec (.tokenDeadline slot) s = .next s))

/-! ### The Safety Net (R410 to R434) -/

namespace Sys2Proof.Claims

/-- A good frame of a type arrives on the locked lane. -/
abbrev snHeard (d : Device) (type : Nat) (f : FrameIn) (g : SnFrame) : Prop :=
  d.snOn = true ∧ d.sn.locked = true ∧ snRead f = some g ∧ g.type = type ∧ g.wellFormed = true

/-- A frame type of the Safety Net is of the control class (Table 13.3). -/
def snControlType (type : Nat) : Bool := type == 0x40 || (decide (0x44 ≤ type) && decide (type ≤ 0x47))

/-- The lane carries one frame, which reads as given; one of the control class goes between SUSPEND and RESUME while a data-class frame is
in progress (R413). -/
def snSends (d e : Device) (type cycle : Nat) (payload : List Byte) : Prop :=
  ∃ f, snRead (f, .term) = some ⟨type, cycle, payload⟩ ∧
    e.sn.lane = if snControlType type = true ∧ d.tbNow < d.sn.dataEnd then [.suspend, .frame true f false, .resume]
      else [.frame (snControlType type) f false]

/-- No berth but the one that the Safety Net notifies changes. -/
def onlyNotified (d e : Device) : Prop := ∀ b, b ≠ d.fld Reg.NET_SNNB 0 9 → e.berth b = d.berth b

/-- Of the registers, only those listed change, and where the berth that the Safety Net notifies is absent its core's count of that. -/
def onlyNotes (d e : Device) (offs : List Nat) : Prop :=
  onlyRegs d e (Reg.CAR_STAT (coreOf (d.fld Reg.NET_SNNB 0 9)) :: offs)

/-- A standby in STANDBY that stages cycles. -/
abbrev stages (d : Device) : Prop := d.snRole = 3 ∧ d.mode = .standby ∧ d.sn.trigger = none

/-- The line at an address lies in the SRAM of a tile that has power, and no bollard is tracked. -/
abbrev lineInSram (d : Device) (a : Nat) : Prop :=
  (∃ t o, placeOf d.cfg none a = some (.sram t o) ∧ d.tileOn t = true) ∧ d.bol.entries = []

/-- The 64 bytes of a line stand at its address, and no other byte changes. -/
def lineStands (d e : Device) (a : Nat) (bytes : List Byte) : Prop :=
  (∀ i (h : i < bytes.length), e.byte (a + i) = bytes[i]) ∧ ∀ x, x < a ∨ a + 64 ≤ x → e.byte x = d.byte x

end Sys2Proof.Claims

/-- R411 to R416, R433, R434: an HB goes out when it is due, and the third valid one in a row brings the lane UP and shows the standby's
READY on the active; the third miss makes an active SOLO and triggers a standby that is ready; a pairing is asked for in its mode,
announced, and made with the partner's frame; it ends as its role has it, and the heartbeats with it; a bad frame is counted.
It rests on choices of the model: notes/assumptions/44.md, notes/assumptions/66.md. -/
def Obligations.SafetyNetPairs : Prop :=
  ∀ (s : State) (w : Writer) (standby : Bool) (f : List Byte) (err : FrameEnd) (g : SnFrame),
    let d := s.dev
    let st := Reg.NET_SNSTAT
    let id := d.rd Reg.NET_SNID
    let pays := fun (o k : Nat) => fieldAt g.payload o k
    let ctl : Prop := d.arrives w Reg.NET_SNCTL = true
    (d.snOn = true → d.sn.locked = true → d.sn.silent = false → (d.sn.hbDue = true ∨ (d.flag st 6 = true ∧ d.tbNow % 2500 = 0)) →
      Completes .hbInterval s fun e =>
        e.sn.hbDue = false ∧ onlyRegs d e [] ∧ sameBerths d e ∧ ∃ q, snSends d e 0x40 (d.rd Reg.NET_SNCYC) q ∧ q.length = 32 ∧
          fieldAt q 0 4 = id ∧ fieldAt q 4 1 = d.snRole ∧ fieldAt q 5 1 = d.mode.code ∧ fieldAt q 6 1 = d.fld st 3 3 ∧
          fieldAt q 8 4 = d.rd Reg.NET_SNCYC ∧ fieldAt q 12 4 = d.rd Reg.NET_SNACK) ∧
    (d.sn.silent = true ∨ (d.sn.hbDue = false ∧ (d.flag st 6 = false ∨ d.tbNow % 2500 ≠ 0)) → exec .hbInterval s = .next s) ∧
    (snHeard d 0x40 (f, err) g → Completes (.hb f err) s fun e =>
      e.sn.lastHb = some d.tbNow ∧ e.sn.missed = 0 ∧ e.flag st 6 = (d.flag st 6 || decide (2 ≤ d.sn.hbs)) ∧
      e.sn.partner.role = pays 4 1 ∧ e.sn.partner.ccyc = pays 8 4 ∧ e.sn.partner.applied = pays 12 4 ∧ onlyNotified d e ∧
      e.rd Reg.NET_SNCYC = (if d.snRole = 3 then pays 8 4 else d.rd Reg.NET_SNCYC) ∧
      (d.snRole = 2 → e.flag st 3 = (bitOf (pays 6 1) 0 && !d.sn.invalid))) ∧
    (d.snOn = true → d.sn.locked = true → snRead (f, err) = none → d.sn.staged = none → Completes (.hb f err) s fun e =>
      counts d e Reg.NET_SNCNT 24 8 ∧ onlyRegs d e [Reg.NET_SNCNT] ∧ sameBerths d e ∧ e.sn = { d.sn with hbs := 0 }) ∧
    (d.sn.lastHb = none → exec .heartbeatMiss s = .next s) ∧
    (∀ t, d.sn.lastHb = some t → d.snOn = true → t + 2500 * (d.sn.missed + 1) ≤ d.tbNow →
      (d.sn.missed ≠ 2 → Completes .heartbeatMiss s fun e =>
        counts d e Reg.NET_SNCNT 16 8 ∧ e.sn = { d.sn with
          missed := d.sn.missed + 1
          hbs := 0 } ∧ onlyRegs d e [Reg.NET_SNCNT] ∧ sameBerths d e) ∧
      (d.sn.missed = 2 → silent d 0x30 → Completes .heartbeatMiss s fun e =>
        e.flag st 6 = false ∧ e.sn.hbs = 0 ∧ onlyNotified d e ∧ (d.snRole = 2 → e.snRole = 4 ∧ e.sn.logs = []) ∧
        (stages d → d.flag st 3 = true → e.snRole = 3 ∧ e.sn.trigger = some (3, d.tbNow) ∧ e.sn.staged = none))) ∧
    (ctl → d.snRole = 0 →
      (d.mode = (if standby then .stop else .run) → standby = true ∨ d.sn.handedOver = false →
        Completes (.pairRequest w standby) s fun e =>
          e.snRole = 1 ∧ e.sn.asked = bit01 standby ∧ e.sn.hbDue = true ∧ onlyNotes d e [st] ∧ onlyNotified d e) ∧
      (d.mode ≠ (if standby then .stop else .run) → exec (.pairRequest w standby) s = .next s) ∧
      exec (.unpairRequest w) s = .next s) ∧
    (d.snOn = true → d.snRole = 1 → Completes .pairInterval s fun e =>
      snSends d e 0x47 0 (leBytes 4 id ++ leBytes 4 d.sn.asked ++ leBytes 8 d.cfg.devid.toNat) ∧ onlyRegs d e [] ∧ sameBerths d e) ∧
    (d.snRole ≠ 1 → exec .pairInterval s = .next s) ∧
    (snHeard d 0x47 (f, err) g → d.snRole = 1 →
      (pays 0 4 ≠ id → Completes (.pair f err) s fun e =>
        counts d e Reg.NET_SNCNT 24 8 ∧ onlyRegs d e [Reg.NET_SNCNT] ∧ sameBerths d e) ∧
      (pays 0 4 = id →
        (d.sn.asked = 0 → pays 4 1 = 0 → silent d 0x36 → Completes (.pair f err) s fun e => e.snRole = 6 ∧ onlyNotified d e) ∧
        (d.sn.asked = 0 → pays 4 1 = 1 → d.mode = .run → Completes (.pair f err) s fun e =>
          e.snRole = 2 ∧ e.sn.partnerId = pays 8 8 ∧ e.rd Reg.NET_SNCYC = 0 ∧ e.rd Reg.NET_SNACK = 0 ∧ e.sn.logs = [] ∧
          onlyNotified d e) ∧
        (d.sn.asked = 1 → pays 4 1 = 0 → d.mode = .stop → Completes (.pair f err) s fun e =>
          e.snRole = 3 ∧ e.mode = .standby ∧ e.sn.partnerId = pays 8 8 ∧ e.rd Reg.NET_SNCYC = 0 ∧ e.rd Reg.NET_SNACK = 0 ∧
          e.flag st 3 = false ∧ onlyNotified d e))) ∧
    (ctl →
      (d.snRole = 1 ∨ d.snRole = 6 → Completes (.unpairRequest w) s fun e => e.snRole = 0 ∧ onlyNotified d e) ∧
      (d.snRole = 2 → Completes (.unpairRequest w) s fun e =>
        e.snRole = 4 ∧ e.sn.logs = [] ∧ e.sn.silent = true ∧ onlyNotified d e) ∧
      (d.snRole = 3 ∨ d.snRole = 5 → d.mode = .standby → Completes (.unpairRequest w) s fun e =>
        e.snRole = 0 ∧ e.sn.silent = true ∧ e.mode = .stop ∧ e.flag st 3 = false ∧ (d.snRole = 3 → e.sn.whole = none) ∧ onlyNotified d e)) ∧
    (d.arrives w Reg.NET_SNCLR = true → Completes (.snCountClear w) s fun e =>
      e.rd Reg.NET_SNCNT = 0 ∧ e.rd Reg.NET_SNCNT2 = 0 ∧ onlyRegs d e [Reg.NET_SNCNT, Reg.NET_SNCNT2] ∧ sameBerths d e)

/-- R420 to R424, R426, R432: the active sends the log of a cycle between LOGOPEN and COMMITREC, frees it at its ACK, which may end a
resynchronisation, and sends it again at its first NAK; the standby opens, stages in the free half of its mirror log and completes the cycle
that comes next, asks again for one it is not due, writes the lines of a complete one that Table 5.7 lets it write, and then acknowledges
it.
It rests on choices of the model: notes/assumptions/44.md, notes/assumptions/45.md. -/
def Obligations.SafetyNetLogs : Prop :=
  ∀ (s : State) (f : List Byte) (err : FrameEnd) (g : SnFrame) (l : CycleLog) (t : Staging),
    let d := s.dev
    let st := Reg.NET_SNSTAT
    let next := (d.rd Reg.NET_SNACK + 1) % 2 ^ 32
    let cnt := Reg.NET_SNCNT
    let pays := fun (o k : Nat) => fieldAt g.payload o k
    let only (e : Device) (sn : SnSys) : Prop := e.sn = sn ∧ onlyRegs d e [] ∧ sameBerths d e
    (d.snOn = true → d.snRole = 2 → d.sn.logs = [l] → l.sent = false → l.k < 2 ^ 32 → l.lines.length < 2 ^ 32 → l.c < 2 ^ 64 →
      (∀ q ∈ l.lines, q.2.length = 64) → Completes .logTransmit s fun e =>
        e.sn.logs = [{ l with sent := true }] ∧ onlyRegs d e [] ∧ sameBerths d e ∧
        ∃ x mid y, e.sn.lane = [.frame false x false] ++ mid ++ [.frame false y false] ∧
          snRead (x, .term) = some ⟨0x41, l.k, leBytes 8 l.lines.length ++ leBytes 8 l.c⟩ ∧
          mid.length = (l.lines.length + 19) / 20 ∧
          ∃ h, snRead (y, .term) = some h ∧ h.type = 0x43 ∧ h.cycle = l.k ∧ fieldAt h.payload 0 4 = l.lines.length ∧
            fieldAt h.payload 4 4 = logCrc l.lines ∧ fieldAt h.payload 24 8 = l.c) ∧
    (d.sn.logs = [] → exec .logTransmit s = .next s) ∧
    (snHeard d 0x44 (f, err) g → d.snRole = 2 →
      let kept := d.sn.logs.filter fun q => cycleAfter q.k (pays 0 4)
      (d.flag st 5 = false → Completes (.ack f err) s fun e =>
        e.rd Reg.NET_SNACK = pays 0 4 ∧ e.sn = { d.sn with logs := kept } ∧ onlyRegs d e [Reg.NET_SNACK] ∧ sameBerths d e) ∧
      (d.flag st 5 = true → d.sn.rsDone = true → cycleAfter (pays 0 4) d.sn.rsRead = true → Completes (.ack f err) s fun e =>
        e.rd Reg.NET_SNACK = pays 0 4 ∧ e.sn.logs = kept ∧ e.flag st 5 = false ∧ e.flag st 3 = true ∧ e.gateIs 2 = false ∧
        onlyNotified d e)) ∧
    (snHeard d 0x45 (f, err) g → d.snRole = 2 →
      (d.sn.logs = [l] → l.k = pays 0 4 → l.again = false → Completes (.nak f err) s fun e =>
        counts d e cnt 8 8 ∧ onlyRegs d e [cnt] ∧ sameBerths d e ∧ e.sn = { d.sn with
          logs := [{ l with sent := false, again := true }]
          lastNak := some l.k }) ∧
      (d.sn.logs = [] → silent d 0x31 → d.flag Reg.NET_SNCFG 8 = false → Completes (.nak f err) s fun e =>
        counts d e cnt 8 8 ∧ e.flag st 3 = false ∧ e.sn.invalid = true ∧ onlyNotified d e)) ∧
    (stages d →
      (snHeard d 0x41 (f, err) g → d.sn.whole = none → d.sn.staged = none → d.flag st 5 = false →
        (g.cycle = next → Completes (.logOpen f err) s fun e =>
          only e { d.sn with staged := some ⟨g.cycle, pays 0 4, pays 8 8, [], none⟩ } ∧ e.mem = d.mem) ∧
        (cycleAfter g.cycle next = true → d.sn.lastNak ≠ some next → Completes (.logOpen f err) s fun e =>
          snSends d e 0x45 next (leBytes 8 next) ∧ e.sn.staged = none ∧ counts d e cnt 8 8 ∧ onlyRegs d e [cnt] ∧ sameBerths d e)) ∧
      (snHeard d 0x42 (f, err) g → d.sn.staged = some t → t.k = g.cycle →
        (t.commit = none → Completes (.lines f err) s fun e =>
          let recs := recordsOf g.payload
          let half := match d.sn.whole with
            | some w => 1 - w.half
            | none => 1 - d.sn.half
          let at_ := imageBase + 4 * d.cfg.imageS + 0x100000 * half + 72 * t.recs.length
          let bytes := recs.flatMap fun r => leBytes 8 r.1 ++ r.2
          only e { d.sn with staged := some { t with recs := t.recs ++ recs } } ∧
          (∀ x, x < at_ ∨ at_ + bytes.length ≤ x → e.byte x = d.byte x) ∧
          (t.recs.length + recs.length ≤ 14336 → ∀ i (h : i < bytes.length), e.byte (at_ + i) = bytes[i])) ∧
        (t.commit ≠ none → t.k < 2 ^ 32 → d.sn.lastNak ≠ some t.k → Completes (.lines f err) s fun e =>
          snSends d e 0x45 t.k (leBytes 8 t.k) ∧ e.sn.staged = none ∧ counts d e cnt 8 8 ∧ onlyRegs d e [cnt] ∧ sameBerths d e)) ∧
      (snHeard d 0x43 (f, err) g → d.sn.staged = some t → t.k = g.cycle →
        (d.sn.whole = none → t.k = next → t.recs.length = t.nlines → pays 0 4 = t.nlines → pays 4 4 = logCrc t.recs →
          Completes (.commitRec f err) s fun e => e.mem = d.mem ∧ only e { d.sn with
            staged := none
            whole := some ⟨t.k, t.recs, t.c, bitOf (pays 8 1) 0, pays 16 8, false, false, 1 - d.sn.half⟩ }) ∧
        (t.recs.length ≠ t.nlines → Completes (.commitRec f err) s fun e =>
          e.mem = d.mem ∧ only e { d.sn with staged := some { t with commit := some g.payload } }))) ∧
    (d.sn.whole = none → exec .cycleApply s = .next s ∧ exec .applyComplete s = .next s) ∧
    (d.sn.whole = some l →
      (∀ a bytes, d.sn.applying = false → d.snRole = 3 → l.lines = [(64 * a, bytes)] → bytes.length = 64 →
        (lineInSram d (64 * a) → Completes .cycleApply s fun e =>
          e.sn.applying = true ∧ sameBerths d e ∧ onlyRegs d e [] ∧ lineStands d e (64 * a) bytes) ∧
        (placeOf d.cfg none (64 * a) = none → Completes .cycleApply s fun e => e.sn.applying = true ∧ e.mem = d.mem)) ∧
      (d.sn.applying = true → d.sn.staged = none → l.edit = false → d.flag st 5 = false → l.k < 2 ^ 32 →
        Completes .applyComplete s fun e =>
          e.rd Reg.NET_SNACK = l.k ∧ snSends d e 0x44 l.k (leBytes 8 l.k) ∧ e.sn.whole = none ∧ e.sn.applying = false ∧
          e.sn.half = l.half ∧ onlyRegs d e [Reg.NET_SNACK] ∧ sameBerths d e ∧ e.mem = d.mem))

/-- R427 to R432: a commit that waits too long in LOCKED ends LOCKED; FAULT and a fall of SN_PSENSE trigger a ready standby; once it neither
applies nor sees the partner drive it takes over in RUN as SOLO, and where the partner drives on it is an ORPHAN; a resynchronisation
sends the mirrored lines and then RSDONE, and the standby writes them and is READY once it has applied a later cycle.
It rests on choices of the model: notes/assumptions/44.md, notes/assumptions/45.md, notes/assumptions/66.md. -/
def Obligations.SafetyNetTakesOver : Prop :=
  ∀ (s : State) (w : Writer) (f : List Byte) (err : FrameEnd) (g : SnFrame),
    let d := s.dev
    let st := Reg.NET_SNSTAT
    let ready : Prop := stages d ∧ d.flag st 3 = true
    let triggered (e : Device) (k : Nat) : Prop :=
      e.sn.trigger = some (k, d.tbNow) ∧ e.sn.staged = none ∧ sameBerths d e ∧ e.mode = d.mode
    let later := cycleAfter (d.rd Reg.NET_SNACK) d.sn.rsRead
    let c := d.fld Reg.NET_SNCFG 4 4
    (d.lockedWait c = true → .cls c ∈ d.scn.queue → silent d 0x32 →
      (d.cls c).doneAt + 250 * max 1 (d.fld Reg.NET_SNCFG 16 8) ≤ d.tbNow → Completes .lockedTimeout s fun e =>
        e.flag st 4 = false ∧ counts d e Reg.NET_SNCNT 0 8 ∧ sameBerths d e) ∧
    (d.lockedWait c = false → exec .lockedTimeout s = .next s) ∧
    (snHeard d 0x46 (f, err) g →
      (ready → Completes (.fault f err) s fun e => triggered e 1 ∧ onlyRegs d e []) ∧
      (d.snRole ≠ 3 → exec (.fault f err) s = .next s)) ∧
    (d.snOn = true → d.padIn 1 11 = true → 1 < d.cfg.tiles → unrouted d → d.eng.engines = [] → d.padDrive 1 11 = .highZ →
      d.sn.partner.role = 2 → ready → Completes .psenseFall s fun e => triggered e 2 ∧ e.padIn 1 11 = false) ∧
    (d.cfg.tiles ≤ 1 → exec .psenseFall s = .next s) ∧
    (∀ k t, d.sn.trigger = some (k, t) →
      (d.psense = true → t + 250 * max 1 (d.fld Reg.NET_SNCFG 24 8) ≤ d.tbNow → silent d 0x34 → Completes .psenseWaitTimeout s fun e =>
        e.snRole = 5 ∧ e.sn.trigger = none ∧ onlyNotified d e) ∧
      (d.psense = false → exec .psenseWaitTimeout s = .next s) ∧
      (d.sn.applying = false → d.psense = false → d.mode = .standby → d.snRole = 3 → d.enabledClasses = [] → silent d 0x37 → k < 8 →
        Completes .takeoverCommit s fun e =>
          e.mode = .run ∧ e.snRole = 4 ∧ e.sn.trigger = none ∧ e.sn.takeovers = (d.sn.takeovers + 1) % 2 ^ 32 ∧
          e.fld Reg.NET_SNTKO 8 3 = k ∧ e.rd64 Reg.NET_SNTKOT = d.tbNow ∧ counts d e Reg.NET_SNCNT2 8 8 ∧
          e.fld Reg.NET_SNTKO 0 8 = if cycleAfter (d.rd Reg.NET_SNACK) (d.rd Reg.NET_SNCYC) then 0
            else min ((d.rd Reg.NET_SNCYC + 2 ^ 32 - d.rd Reg.NET_SNACK) % 2 ^ 32) 255) ∧
      ((d.sn.applying = true ∨ d.psense = true) → exec .takeoverCommit s = .next s)) ∧
    (d.arrives w Reg.NET_SNCTL = true →
      (d.snRole = 2 → d.flag st 5 = false → d.gateHeld (Writer.who w) 2 = true → Completes (.resyncRequest w) s fun e =>
        e.flag st 5 = true ∧ e.sn.rsLines = d.mirrorLines ∧ e.sn.rsSent = 0 ∧ e.sn.rsDone = false ∧ onlyNotified d e ∧
        (d.mode ≠ .doze → onlyNotes d e [st])) ∧
      (d.snRole ≠ 2 → exec (.resyncRequest w) s = .next s)) ∧
    (d.snOn = true → d.snRole = 2 → d.flag st 5 = true → d.sn.logs = [] →
      (d.sn.rsLines = [] → d.sn.rsDone = false → Completes .resyncTransmit s fun e =>
        snSends d e 0x49 (d.rd Reg.NET_SNCYC) (leBytes 8 d.sn.rsSent) ∧ onlyNotified d e ∧
        (later = false → e.sn.rsDone = true ∧ onlyRegs d e [] ∧ sameBerths d e) ∧
        (later = true → e.flag st 5 = false ∧ e.flag st 3 = true)) ∧
      (∀ a, d.sn.rsLines = [a] → (∀ x, d.eccAt x = .clean) → Completes .resyncTransmit s fun e =>
        snSends d e 0x48 (d.rd Reg.NET_SNCYC) (leBytes 8 (64 * a) ++ d.bytesAt (64 * a) 64) ∧ e.sn.rsLines = [] ∧
        e.sn.rsSent = d.sn.rsSent + 1 ∧ e.sn.rsRead = d.rd Reg.NET_SNCYC ∧ onlyRegs d e [] ∧ sameBerths d e ∧ e.mem = d.mem)) ∧
    (d.snRole = 3 → d.mode = .standby → d.flag st 5 = true →
      (∀ a bytes, snHeard d 0x48 (f, err) g → recordsOf g.payload = [(64 * a, bytes)] → bytes.length = 64 → lineInSram d (64 * a) →
        Completes (.rsLines f err) s fun e =>
          e.sn = { d.sn with
            rsSent := d.sn.rsSent + 1
            rsRead := g.cycle } ∧ sameBerths d e ∧ onlyRegs d e [] ∧ lineStands d e (64 * a) bytes) ∧
      (snHeard d 0x49 (f, err) g → fieldAt g.payload 0 4 = d.sn.rsSent →
        (later = false → Completes (.rsDone f err) s fun e => e = { d with sn := { d.sn with rsDone := true } }) ∧
        (later = true → Completes (.rsDone f err) s fun e =>
          e.flag st 5 = false ∧ e.flag st 3 = true ∧ e.sn.handedOver = false ∧ onlyNotified d e)))

/-! ### Debug (R474 to R505) and plain register writes (R12 to R18) -/

namespace Sys2Proof.Claims

/-- A good request frame of a command arrives on the Ndouc link, which runs, is idle and has the level the command needs; its payload. -/
def asks (d : Device) (code : Nat) (f p : List Byte) : Prop :=
  d.linkRuns = true ∧ d.uart = false ∧ d.dbg.mute = false ∧ ndoucGood f = true ∧ fieldAt f 1 1 = code ∧ f ≠ d.dbg.lastReq ∧
    d.dbg.executing = none ∧
    (∃ l, ndoucLevel code = some l ∧ l ≤ d.authLevel) ∧ p = (f.drop 4).take (fieldAt f 3 1)

/-- The response to a request goes out with its tag, a status and, where that is OK, a payload, and is kept (R477, R479). -/
def answers (e : Device) (f : List Byte) (status : Nat) (payload : List Byte) : Prop :=
  e.dbg.sending = ndoucFrame status (BitVec.ofNat 8 (fieldAt f 2 1)) payload ∧ e.dbg.lastRsp = e.dbg.sending ∧ e.dbg.lastReq = f ∧
    e.dbg.executing = none

/-- Core c is powered, is not halted and belongs to no active pair. -/
abbrev mayHalt (d : Device) (c : Nat) : Prop :=
  c < 32 ∧ d.coreOn c = true ∧ d.coreHalted c = false ∧ d.twinLow c = false ∧ d.twinHigh c = false

/-- Berth b of a halted core may be stepped or fed. -/
abbrev atHalt (d : Device) (b : Nat) : Prop :=
  b < 512 ∧ d.present b = true ∧ d.coreOn (coreOf b) = true ∧ d.coreHalted (coreOf b) = true ∧ d.authFull = true

/-- The fed word is an ADD of two registers of berth b, which has nothing in flight; it waits for its completion with the sum in place. -/
def feedsAdd (d e : Device) (b v : Nat) (rd rs1 rs2 : Reg5) : Prop :=
  decodeFed v = some (aluOp addFn rd rs1 rs2) ∧ d.flag Reg.DBG_ITRST 0 = true ∧ d.dbg.fed = none ∧
    (d.berth b).loads = [] ∧ (d.berth b).stores = [] ∧ d.twinDiffers b = false →
  e.dbg.fed = some b ∧ e.flag Reg.DBG_ITRST 0 = false ∧ (∀ c, c ≠ b → e.berth c = d.berth c) ∧ (e.berth b).pc = (d.berth b).pc ∧
    (e.berth b).reg rd.toNat = if rd = 0 then 0 else (d.berth b).reg rs1.toNat + (d.berth b).reg rs2.toNat

end Sys2Proof.Claims

/-- R477 to R482, R497: the link answers IDENT, gives a fresh challenge, unlocks a level for its right response, fires the snapshot channel,
exchanges the terminal's bytes and passes a command on; a request above the level is denied, a bad one is counted, and the one just
answered is answered again; the idle time abandons the exchange on the single wire, whose response is then only kept, until the same
request asks for it again, while another gets BUSY.
It rests on choices of the model: notes/assumptions/21.md, notes/assumptions/22.md, notes/assumptions/68.md. -/
def Obligations.NdoucAnswers : Prop :=
  ∀ (s : State) (f p : List Byte) (c : Nat),
    let d := s.dev
    let auth := Reg.DBG_AUTH
    let lc := d.fld auth 2 2
    let level := fieldAt p 0 1
    (asks d 0x01 f p → p = [] → Completes (.ident f) s fun e => onlyRegs d e [] ∧ sameBerths d e ∧ answers e f 0
      (leBytes 8 d.cfg.devid.toNat ++ leBytes 4 (feature d.cfg 0) ++ leBytes 4 (feature d.cfg 7) ++ leBytes 4 (d.rd auth))) ∧
    (asks d 0x02 f p → p = [] → Completes (.chal f) s fun e => sameBerths d e ∧ ∃ x, e.dbg.chal = some x ∧ e.rd64 Reg.DBG_CHAL = x ∧
      answers e f 0 (leBytes 8 x)) ∧
    (asks d 0x03 f p → p.length = 12 → zeroAt p 1 3 = true → d.flag auth 6 = false → d.dbg.chal = some c → d.rd Reg.DBG_HALTED = 0 →
      let right := fieldAt p 4 8 = unlockResponse d.cfg.dbgKey.toNat d.cfg.devid.toNat c level
      (right → unlockPermits lc level = true → Completes (.unlock f) s fun e =>
        e.fld auth 0 2 = level ∧ e.fld auth 4 2 = 0 ∧ e.dbg.chal = none ∧ answers e f 0 (leBytes 4 (e.rd auth)) ∧ onlyRegs d e [auth]) ∧
      (¬ right → Completes (.unlock f) s fun e =>
        e.authLevel = d.authLevel ∧ e.fld auth 4 2 = min (d.fld auth 4 2 + 1) 3 ∧ e.flag auth 6 = decide (2 ≤ d.fld auth 4 2) ∧
        e.dbg.chal = none ∧ answers e f 8 [] ∧ onlyRegs d e [auth])) ∧
    (asks d 0x30 f p → p = [] → Completes (.snap f) s fun e => pulsed d e 127 ∧ answers e f 0 [] ∧ sameBerths d e) ∧
    (asks d 0x31 f p → p.length = 4 → fieldAt p 0 4 = 0 → Completes (.vt f) s fun e =>
      let out := d.dbg.vtx.take 64
      e.dbg.vtx = d.dbg.vtx.drop 64 ∧ e.dbg.vrx = d.dbg.vrx ∧ onlyRegs d e [] ∧ sameBerths d e ∧
      answers e f 0 (leBytes 4 out.length ++ out ++ List.replicate ((4 - out.length % 4) % 4) 0)) ∧
    (asks d 0x31 f p → p.length = 8 → fieldAt p 0 4 = 1 → d.dbg.vrx.length < 64 → Completes (.vt f) s fun e =>
      e.dbg.vrx = d.dbg.vrx ++ (p.drop 4).take 1 ∧ ∀ b, b ≠ d.fld Reg.DBG_VTNB 0 9 → e.berth b = d.berth b) ∧
    (asks d 0x40 f p → p.length = 12 → fieldAt p 0 4 = 1 → fieldAt p 4 8 < 2 ^ 48 → d.authFull = true → d.mode = .service →
      d.qsp.load = none → Completes (.svc f) s fun e => e.qsp.load = some (true, fieldAt p 4 8) ∧ e.fld Reg.QSP_CMDST 0 4 = 15 ∧
        answers e f 0 (leBytes 4 (e.rd Reg.QSP_CMDST)) ∧ sameBerths d e) ∧
    (d.linkRuns = true → d.uart = false → d.dbg.mute = false → ndoucGood f = true → f ≠ d.dbg.lastReq → d.dbg.executing = none →
      fieldAt f 1 1 = 0x11 → d.authLevel < 2 → Completes (.write f) s fun e => answers e f 2 [] ∧ onlyRegs d e [] ∧ sameBerths d e ∧
        e.mem = d.mem) ∧
    (d.linkRuns = true → d.uart = false →
      (ndoucGood f = false → Completes (.ident f) s fun e => counts d e Reg.DBG_NDCNT 0 8 ∧ onlyRegs d e [Reg.DBG_NDCNT] ∧ e.dbg = d.dbg) ∧
      (ndoucGood f = true → fieldAt f 1 1 = 0x10 →
        (f = d.dbg.lastReq → d.dbg.executing = none → Completes (.read f) s fun e =>
          e = { d with dbg := { d.dbg with sending := d.dbg.lastRsp } }) ∧
        ∀ x, d.dbg.executing = some x →
          (f = d.dbg.lastReq → Completes (.read f) s fun e => e = { d with dbg := { d.dbg with mute := false } }) ∧
          (f ≠ d.dbg.lastReq → Completes (.read f) s fun e => e = { d with dbg := { d.dbg with
            sending := if d.dbg.mute then ndoucFrame 5 (BitVec.ofNat 8 (fieldAt f 2 1)) [] else d.dbg.sending } }))) ∧
    (d.uart = false → Completes .ndoucIdleTimeout s fun e =>
      e = { d with dbg := { d.dbg with
        sending := []
        mute := d.dbg.executing.isSome } }) ∧
    (d.uart = true → exec .ndoucIdleTimeout s = .next s) ∧
    (Completes .uartGapTimeout s fun e => e = { d with dbg := { d.dbg with uart := [] } })

/-- R484 to R488, R491 to R493: the Gangway reads and writes the word it names and no other; a read of a running core's berth waits for its
cycle, and ends denied where the level has fallen; HALT, RESUME, STEP and ITR act on the cores and the berth they name.
It rests on choices of the model: notes/assumptions/16.md, notes/assumptions/22.md, notes/assumptions/23.md. -/
def Obligations.GangwayReachesTheDevice : Prop :=
  ∀ (s : State) (f p : List Byte) (tag : Byte) (got : List Byte) (rd rs1 rs2 : Reg5),
    let d := s.dev
    let a := fieldAt p 0 8
    let memory : Prop := a % 4 = 0 ∧ a < 2 ^ 50 ∧ d.eccAt a = .clean ∧ ∃ t o, targetPlace d.cfg a = some (.sram t o) ∧ d.tileOn t = true
    (asks d 0x10 f p → p.length = 12 → fieldAt p 8 4 = 1 → memory → Completes (.read f) s fun e =>
      answers e f 0 (d.bytesAt a 4) ∧ onlyRegs d e [] ∧ sameBerths d e ∧ e.mem = d.mem) ∧
    (asks d 0x11 f p → p.length = 12 → memory → d.tracked a = none → Completes (.write f) s fun e =>
      answers e f 0 [] ∧ wordAt d e a (fieldAt p 8 4) ∧ onlyRegs d e [] ∧ sameBerths d e) ∧
    (∀ b r, d.dbg.executing = some ⟨0x10, tag, 0, [windowBase + 0x380000 + 0x400 * b + 4 * r], got, false⟩ → b < 512 → r < 32 →
      let replies (e : Device) (status : Nat) (bytes : List Byte) : Prop :=
        e.dbg.lastRsp = ndoucFrame status tag bytes ∧ e.dbg.sending = (if d.dbg.mute then [] else e.dbg.lastRsp) ∧
          e.dbg.executing = none ∧ onlyRegs d e [] ∧ sameBerths d e
      (d.authLevel ≠ 0 →
        (Completes (.stateReadSteal true) s fun e => replies e 0 (got ++ leBytes 4 ((d.berth b).reg r).toNat)) ∧
        Completes (.stateReadSteal false) s fun e => replies e 5 []) ∧
      (d.authLevel = 0 → ∀ found, Completes (.stateReadSteal found) s fun e => replies e 2 [])) ∧
    (d.dbg.executing = none → ∀ found, exec (.stateReadSteal found) s = .next s) ∧
    (∀ c, asks d 0x20 f p → p.length = 4 → fieldAt p 0 4 = 2 ^ c → mayHalt d c → Completes (.halt f) s fun e =>
      e.coreHalted c = true ∧ e.fld (Reg.DBG_CSTAT c) 0 3 = 1 ∧ answers e f 0 (leBytes 4 (e.rd Reg.DBG_HALTED))) ∧
    (asks d 0x21 f p → p.length = 4 → Completes (.resume f) s fun e =>
      e.dbg.resume = d.dbg.resume ++ [(fieldAt p 0 4, d.tbNow)] ∧ answers e f 0 (leBytes 4 (d.rd Reg.DBG_HALTED)) ∧ onlyRegs d e [] ∧
      sameBerths d e) ∧
    (let b := fieldAt p 0 4
     atHalt d b →
      (asks d 0x22 f p → p.length = 4 → b ∉ d.dbg.steps.map Prod.fst → Completes (.step f) s fun e =>
        e.dbg.steps = d.dbg.steps ++ [(b, d.tbNow, false)] ∧ e.dbg.executing = some ⟨0x22, BitVec.ofNat 8 (fieldAt f 2 1), b, [], [], false⟩ ∧
        onlyRegs d e [] ∧ sameBerths d e) ∧
      (asks d 0x23 f p → p.length = 8 → Completes (.itr f) s fun e => e.fld Reg.DBG_ITRSEL 0 9 = b ∧
        feedsAdd d e b (fieldAt p 4 4) rd rs1 rs2))

/-- R481 to R483, R488 to R493, R497 to R500, R505: the debug registers halt, resume, step and feed as the link does; a lifecycle input sets
its level; the terminal takes and gives bytes; a trace of software appends a packet to the trace unit's queue, and is lost where that is
full or recording has stopped; the clear empties the buffer.
It rests on choices of the model: notes/assumptions/39.md, notes/assumptions/47.md, notes/assumptions/48.md, notes/assumptions/68.md. -/
def Obligations.DebugRegistersAct : Prop :=
  ∀ (s : State) (w : Writer) (v : BitVec 32) (b : BitVec 9) (level lc : BitVec 2) (rd rs1 rs2 : Reg5),
    let d := s.dev
    let auth := Reg.DBG_AUTH
    let n := b.toNat
    let writes (off : Nat) : Prop := d.arrives w off = true ∧ d.dbgWritable w off = true
    (∀ c, writes Reg.DBG_HALT → mayHalt d c → Completes (.dbgHalt w (1 <<< c)) s fun e =>
      e.coreHalted c = true ∧ e.fld (Reg.DBG_CSTAT c) 0 3 = 1) ∧
    (writes Reg.DBG_RESUME → Completes (.dbgResume w v) s fun e =>
      e = { d with dbg := { d.dbg with resume := d.dbg.resume ++ [(v.toNat, d.tbNow)] } }) ∧
    (∀ c t, d.dbg.resume = [(2 ^ c, t)] → d.dbg.remote = [] → c < 32 →
      (t + 4 ≤ d.tbNow → d.tbNow % 8 = 0 → d.coreHalted c = true → d.flag Reg.DBG_XMASK c = false → d.twinLow c = false →
        d.twinHigh c = false → Completes .resumeInstant s fun e =>
          e.dbg.resume = [] ∧ e.coreHalted c = false ∧ e.fld (Reg.DBG_CSTAT c) 0 3 = 0 ∧
          ∀ i, coreOf i ≠ c → i ≠ d.fld Reg.NET_SNNB 0 9 → e.berth i = d.berth i) ∧
      (d.tbNow < t + 4 → exec .resumeInstant s = .next s)) ∧
    (writes Reg.DBG_STEP → atHalt d n →
      (n ∉ d.dbg.steps.map Prod.fst → Completes (.dbgStep w b) s fun e =>
        e = { d with dbg := { d.dbg with steps := d.dbg.steps ++ [(n, d.tbNow, false)] } }) ∧
      (n ∈ d.dbg.steps.map Prod.fst → exec (.dbgStep w b) s = .next s)) ∧
    (∀ t, d.dbg.steps = [(n, t, true)] → (t + 11) / 8 * 8 ≤ d.tbNow → (d.berth n).loads = [] → (d.berth n).wait = .none →
      d.dbg.executing = none → Completes .stepDone s fun e =>
        e.dbg.steps = [] ∧ e.fld (Reg.DBG_CSTAT (coreOf n)) 0 3 = 5 ∧ e.flag (Reg.DBG_CSTAT (coreOf n)) 4 = true ∧
        onlyRegs d e [Reg.DBG_CSTAT (coreOf n)] ∧ sameBerths d e) ∧
    (d.dbg.steps = [] → d.dbg.executing = none → exec .stepDone s = .next s) ∧
    (d.fld Reg.DBG_ITRSEL 0 9 = n → atHalt d n → writes Reg.DBG_ITR → Completes (.dbgItr w v) s fun e =>
      feedsAdd d e n v.toNat rd rs1 rs2) ∧
    (d.dbg.fed = some n → d.dbg.fedHeld = none → d.dbg.fedWait = .none → (d.berth n).loads = [] → (d.berth n).stores = [] →
      (d.berth n).wait = .none → d.dbg.executing = none → Completes .itrDone s fun e =>
        e.dbg.fed = none ∧ e.flag Reg.DBG_ITRST 0 = true ∧ onlyRegs d e [Reg.DBG_ITRST] ∧ sameBerths d e) ∧
    (d.dbg.fed = none → d.dbg.executing = none → exec .itrDone s = .next s) ∧
    (∀ c, writes Reg.DBG_UNLKREQ → d.flag auth 6 = false → d.dbg.chal = some c → d.rd Reg.DBG_HALTED = 0 →
      d.rd64 Reg.DBG_UNLK = unlockResponse d.cfg.dbgKey.toNat d.cfg.devid.toNat c level.toNat →
      unlockPermits (d.fld auth 2 2) level.toNat = true → Completes (.unlockRequest w level) s fun e =>
        e.authLevel = level.toNat ∧ e.dbg.chal = none ∧ onlyRegs d e [auth] ∧ sameBerths d e) ∧
    (d.arrives w Reg.DBG_CHAL = true → d.dbgReadable w Reg.DBG_CHAL = true → Completes (.challengeRead w) s fun e =>
      ∃ x, e.dbg.chal = some x ∧ e.rd64 Reg.DBG_CHAL = x ∧ onlyRegs d e [Reg.DBG_CHAL, Reg.DBG_CHAL + 4]) ∧
    (d.fld auth 2 2 ≠ lc.toNat → Completes (.lifecycleChange lc) s fun e =>
      e.fld auth 2 2 = lc.toNat ∧ e.authLevel = (if lc = 2 then 1 else if lc = 3 then 2 else 0) ∧ onlyRegs d e [auth] ∧ sameBerths d e) ∧
    (d.fld auth 2 2 = lc.toNat → exec (.lifecycleChange lc) s = .next s) ∧
    (writes Reg.DBG_VTX →
      (d.dbg.vtx.length < 64 → Completes (.vtxWrite w v) s fun e =>
        e = { d with dbg := { d.dbg with vtx := d.dbg.vtx ++ [BitVec.ofNat 8 v.toNat] } }) ∧
      (64 ≤ d.dbg.vtx.length → Completes (.vtxWrite w v) s fun e =>
        e.dbg.vtx = d.dbg.vtx ∧ e.flag Reg.DBG_VTSTAT 16 = true ∧ onlyRegs d e [Reg.DBG_VTSTAT])) ∧
    (d.arrives w Reg.DBG_VRX = true → d.dbgReadable w Reg.DBG_VRX = true → w ≠ .gangway → Completes (.vrxRead w) s fun e =>
      e = { d with dbg := { d.dbg with vrx := d.dbg.vrx.drop 1 } }) ∧
    (writes Reg.DBG_TSW →
      (d.flag Reg.DBG_TCTL 6 = false → exec (.traceSoft w v) s = .next s) ∧
      (d.flag Reg.DBG_TCTL 6 = true → d.flag Reg.DBG_TCTL 0 = true → d.traceAsleep = false →
        (d.flag Reg.DBG_TSTAT 24 = false → d.dbg.trace.pending = 0 → d.dbg.trace.load ≤ 62 →
          (∀ x ∈ d.dbg.trace.queue, x.ts < d.tbNow) → Completes (.traceSoft w v) s fun e => ∃ q,
            e = { d with dbg := { d.dbg with trace := { d.dbg.trace with queue := d.dbg.trace.queue ++ [q] } } } ∧
            q.ts = d.tbNow ∧ q.bytes.length = 16 ∧ fieldAt q.bytes 0 1 = 0x0D ∧ fieldAt q.bytes 8 4 = v.toNat) ∧
        (d.flag Reg.DBG_TSTAT 24 = true ∨ 62 < d.dbg.trace.load → Completes (.traceSoft w v) s fun e =>
          counts d e Reg.DBG_TSTAT 0 24 ∧ e.dbg.trace = { d.dbg.trace with pending := d.dbg.trace.pending + 1 } ∧
          onlyRegs d e [Reg.DBG_TSTAT] ∧ sameBerths d e ∧ e.mem = d.mem))) ∧
    (writes Reg.DBG_TCTL → v.getLsbD 0 = false → Completes (.traceClear w v) s fun e =>
      e.rd Reg.DBG_TWP = 0 ∧ e.rd Reg.DBG_TCTL = v.toNat % 2 ^ 7 ∧ onlyRegs d e [Reg.DBG_TWP, Reg.DBG_TCTL] ∧ sameBerths d e)

namespace Sys2Proof.Claims

/-- Registers of 32 bits from every chapter, with the bits that a write takes (RW) and those that it clears (W1C, R15); every other bit is
reserved or read-only (R14). -/
def writtenWords : List (Nat × Nat × Nat) := [
  (Reg.MEM_SCRUB, 0xFFFF7, 0), (Reg.MEM_INFLT, 0, 0), (Reg.EVF_OVR, 0, 0x1F), (Reg.LPT_GAIN, 0xFFFF00FF, 0), (Reg.MFT_LEAD, 0xFFF, 0),
  (Reg.SCN_STAT, 0, 0x1C), (Reg.BEY_STEPTHR, 0xFFFFFFFF, 0), (Reg.BEY_RTT, 0, 0), (Reg.BEY_STAT, 0, 0x14), (Reg.NET_SNNB, 0x1FF, 0),
  (Reg.RMS_NB, 0x1FF, 0), (Reg.QSP_HROUTE, 0x777777, 0), (Reg.QSP_HPEND, 0, 0x3F), (Reg.QSP_BSTAT, 0, 0), (Reg.QSP_DBNB, 0x1FF, 0),
  (Reg.PWR_STAT, 0, 0xC00), (Reg.PWR_RECOV, 0x1FF, 0), (Reg.THM_CFG, 0xFFFF, 0)]

/-- The word that such a write leaves, bit by bit. -/
def wordWritten (rw w1c old v new : Nat) : Prop :=
  ∀ k, k < 32 → bitOf new k = if bitOf rw k then bitOf v k else bitOf old k && !(bitOf w1c k && bitOf v k)

/-- Registers of 64 bits, with the bits that a write takes. -/
def writtenPairs : List (Nat × Nat) :=
  [(Reg.PWR_STOPRUN, 2 ^ 64 - 1), (Reg.CLK_TCRIT, 2 ^ 64 - 1), (Reg.PWR_WAKEVEC, 2 ^ 63 + 2 ^ 50 - 1)]

/-- The bits of RMS_CFGn that stay at their defaults (R436). -/
def fixedBits : List (Nat × Nat) := [(0x39, 0x1003), (0x3A, 0x177F), (0x3C, 0x1003), (0x3E, 0x177F)]

end Sys2Proof.Claims

/-- R12, R14, R15, R18: of registers of every chapter a write at the full width takes the RW bits, clears the W1C bits written as 1, and
leaves the reserved and read-only ones; a locked LK field stands, an unlocked one takes its value but for the bits of RMS_CFG that R436
fixes, and a lock stays set. R473, R459, R85: where a write does not reach the window, a USER berth gets PRIV with the register's address,
the target port REFUSED, which is counted, and no other effect comes about.
It rests on choices of the model: notes/assumptions/24.md, notes/assumptions/68.md. -/
def Obligations.RegisterWritesStore : Prop :=
  ∀ (s : State) (i : Site) (w : Writer) (n : BitVec 8) (x : BitVec 4) (off : BitVec 24) (v : BitVec 64),
    let d := s.dev
    let write (off : Nat) : Instr := .registerWrite w (BitVec.ofNat 24 off) v
    let lows : Nat := v.toNat % 2 ^ 32
    (∀ q ∈ writtenWords, d.arrives w q.1 = true → Completes (write q.1) s fun e =>
      wordWritten q.2.1 q.2.2 (d.rd q.1) lows (e.rd q.1) ∧ onlyRegs d e [q.1] ∧ sameBerths d e ∧ e.mem = d.mem) ∧
    (∀ q ∈ writtenPairs, d.arrives w q.1 = true → Completes (write q.1) s fun e =>
      (∀ k, k < 64 → bitOf (e.rd64 q.1) k = if bitOf q.2 k then v.getLsbD k else bitOf (d.rd64 q.1) k) ∧ onlyRegs d e [q.1, q.1 + 4] ∧
        sameBerths d e ∧ e.mem = d.mem) ∧
    (let win := Reg.RMS_WIN n.toNat
     d.arrives w win = true → rmsExists n.toNat = true →
      (d.flag Reg.RMS_LOCK 0 = true → Completes (write win) s fun e => onlyRegs d e [] ∧ sameBerths d e) ∧
      (d.flag Reg.RMS_LOCK 0 = false → Completes (write win) s fun e =>
        wordWritten 0x33FF 0 (d.rd win) lows (e.rd win) ∧ onlyRegs d e [win] ∧ sameBerths d e)) ∧
    (let tmo := Reg.LHS_TMO x.toNat
     d.arrives w tmo = true → d.lhsExists x.toNat = true →
      (d.flag Reg.LHS_LOCK 0 = true → Completes (write tmo) s fun e => onlyRegs d e [] ∧ sameBerths d e) ∧
      (d.flag Reg.LHS_LOCK 0 = false → Completes (write tmo) s fun e =>
        wordWritten 0x3FFFFFF 0 (d.rd tmo) lows (e.rd tmo) ∧ onlyRegs d e [tmo] ∧ sameBerths d e)) ∧
    (∀ q ∈ fixedBits, d.arrives w (Reg.RMS_CFG q.1) = true → d.flag Reg.RMS_LOCK 0 = false →
      Completes (write (Reg.RMS_CFG q.1)) s fun e =>
        (∀ k, k < 32 → bitOf (e.rd (Reg.RMS_CFG q.1)) k =
          if bitOf q.2 k then bitOf (regDefault d.cfg (Reg.RMS_CFG q.1)).toNat k
          else if bitOf 0xFF1F7F k then bitOf lows k else bitOf (d.rd (Reg.RMS_CFG q.1)) k) ∧
        onlyRegs d e [Reg.RMS_CFG q.1] ∧ sameBerths d e) ∧
    (∀ o ∈ [Reg.RMS_LOCK, Reg.LHS_LOCK], d.arrives w o = true → Completes (write o) s fun e =>
      e.flag o 0 = (d.flag o 0 || v.getLsbD 0) ∧ onlyRegs d e [o] ∧ sameBerths d e) ∧
    (enters d i 1 → (d.berth i.b).pl = 0 → off.toNat < 0xE8000 ∨ 0xE8120 ≤ off.toNat →
      Completes (.registerWrite (.berth i.b) off v) s fun e =>
        entered d i 1 2 0 (d.berth i.b).pc.toNat (windowBase + off.toNat) e) ∧
    (d.targetReady = true → d.flag (Reg.RMS_CFG 0x48) 12 = false → w = .hostUser ∨ (w = .host false ∧ d.flag Reg.QSP_TACL 10 = true) →
      Completes (.registerWrite w off v) s fun e =>
        (∀ lo, lo = 16 ∨ lo = 24 → e.fld Reg.QSP_STAT lo 8 = min (d.fld Reg.QSP_STAT lo 8 + 1) 0xFF) ∧
        onlyRegs d e [Reg.QSP_STAT, Reg.QSP_ELOG, Reg.QSP_ELOG + 4, Reg.RMS_STATN 0x48] ∧ sameBerths d e ∧ e.mem = d.mem) ∧
    (d.isolated = true ∨ d.pathRuns w = false ∨ (d.entitled w off.toNat = true ∧ regStart off.toNat = false) ∨
      (w = .gangway ∧ d.entitled w off.toNat = false) → exec (.registerWrite w off v) s = .next s)

/-! ### The queue, time, reset and the form of memory -/

namespace Sys2Proof.Claims

/-- Every command that waits is well-formed in the device's configuration. -/
def queueOk (s : State) : Prop := ∀ c ∈ s.pending, Instr.wf s.dev.cfg c = true

/-- Nothing acts at the next edge of the timebase clock: no boot step, trace packet, engine, pin edge, comparator, pad or capture, no
condition after a change of mode (R26), no stack word that waits for the store buffer (R45) and no byte on the UART (R478). -/
def nothingDue (d : Device) : Prop :=
  d.pwr.again = false ∧ d.dbg.uart = [] ∧ (∀ p ∈ d.berths, p.2.writes = []) ∧
  d.qsp.boot = false ∧ d.dbg.trace.queue = [] ∧ d.eng.engines = [] ∧ d.scn.edges = [] ∧ d.pad.cmpDue = [] ∧ d.scn.capture = none ∧
    ∀ p ∈ d.allPads, d.padLevel (p / 32) (p % 32) = some (d.padIn (p / 32) (p % 32))

/-- Some number of steps leads from a state to another, and none of them stops. -/
def stepsTo : Nat → State → State → Prop
  | 0, s, t => t = s
  | n + 1, s, t => ∃ u, step s = .next u ∧ stepsTo n u t

/-- Reset values of the special registers (Table 3.5) that are not zero. -/
def specialReset : List (Nat × Nat) :=
  [(0, 2), (4, 0x10), (6, 0xFFFFFFFF), (46, 0xF0F00000), (47, 7), (62, 0xF0F00000), (63, 7)]

/-- Registers of the control window with their reset values, some of every chapter. -/
def windowReset : List (Nat × Nat) := [
  (Reg.CAR_PARKREQ 0, 0xFFFE), (Reg.CAR_PARKREQ 1, 0xFFFF), (Reg.CAR_QSIZE 0, 0x404080), (Reg.MEM_SCRUB, 0x1007),
  (Reg.BOL_TMO 0, 10000000), (Reg.BOL_TMO 511, 10000000), (Reg.PAD_CFG 0 0, 0x130A), (Reg.PAD_IMGB 0, 8),
  (Reg.PAD_CMP 0 0, 0x3FF), (Reg.EVF_GRP 0, 0x10000), (Reg.EVF_OVR, 0), (Reg.TB_CMP 0, 0xFFFFFFFF),
  (Reg.TB_CMP 0 + 4, 0xFFFFFFFF), (Reg.LPT_CFG, 0x80000), (Reg.LPT_GAIN, 0xB60052), (Reg.SCN_CLS 0, 0x6000),
  (Reg.SCN_CLS 15, 0x6F00), (Reg.MFT_LEAD, 0x100), (Reg.BEY_CFG, 0x3FFFF), (Reg.BEY_RXB 0, 0x20403FF),
  (Reg.BEY_RXB 63, 0x20403FF), (Reg.BEY_TXSAFE 0, 0x100000), (Reg.NET_GCL 0 0, 0xFF), (Reg.RMS_CFG 0, 0x11915),
  (Reg.LHS_TMO 0, 1000000), (Reg.NET_SNCFG, 0x64320108), (Reg.QSP_TCFG, 4), (Reg.QSP_BSTAT, 15), (Reg.DBG_CTRL, 0x40),
  (Reg.DBG_FREEZE, 0x12), (Reg.DBG_ITRST, 1), (Reg.DBG_TFILT, 0x200), (Reg.PWR_RSTCAUSE, 1)]

end Sys2Proof.Claims

/-- R103 for every berth of a device that a reset has reset: PC at the boot ROM, MONITOR level with IE 0, the special registers of Table 3.5
at their reset values, and every register of the window file and every global zero. State.reset holds those berths, TB_NOW 0, no
manifest and no tracked bollard, memory that reads zero (the model's choice, notes/assumptions/3.md), and every register word but the
live CLK_STAT and the pending bit of QSP_HPEND at its reset value.
It rests on choices of the model: notes/assumptions/1.md, notes/assumptions/3.md. -/
def Obligations.ResetValues : Prop :=
  (∀ (d : Device) (cause : ResetCause) (b : Nat),
    let x := (d.deviceReset cause).berth b
    x.pc = 0x7F0F00000#50 ∧ x.pl = 2 ∧ bitOf (x.srN 0) 2 = false ∧ (∀ p, x.phys p = 0) ∧ (∀ q ∈ specialReset, x.srN q.1 = q.2) ∧
    (∀ n, (∀ q ∈ specialReset, q.1 ≠ n) → x.srN n = 0) ∧ x.wait = .none ∧ x.loads = [] ∧ x.stores = []) ∧
  let d := State.reset.dev
  State.reset.pending = [] ∧ d.mode = .service ∧ d.tb.now = 0 ∧ (∀ b, d.berth b = Berth.reset) ∧ d.scn.manifests = [] ∧
  d.bol.entries = [] ∧ (∀ a, d.byte a = 0 ∧ d.eccAt a = .clean) ∧ (∀ q ∈ windowReset, d.rd q.1 = q.2) ∧
  ∀ off, off ≠ Reg.CLK_STAT → off ≠ Reg.QSP_HPEND → d.reg off = regDefault d.cfg off

/-- What a step on an empty queue does is the model's choice (notes/assumptions/2.md): one edge of the timebase clock passes, which adds 1
to TB_NOW. Nothing passes in RESET, RAMP and OFF. Where nothing is due at the edge (no boot step, trace packet, engine, pin edge,
comparator, pad, capture, standing condition, stack word or UART byte), memory, the berths and every register but the applied correction of
TB_CORR stand.
It rests on choices of the model: notes/assumptions/2.md, notes/assumptions/61.md. -/
def Obligations.EmptyQueueIdles : Prop :=
  ∀ s : State, s.pending = [] → ∃ t, step s = .next t ∧ t.pending = [] ∧ t.dev.cfg = s.dev.cfg ∧
    (s.dev.mode = .reset ∨ s.dev.mode = .ramp ∨ s.dev.mode = .off → t = s) ∧
    (s.dev.mode ≠ .reset → s.dev.mode ≠ .ramp → s.dev.mode ≠ .off → t.dev.tb.now = s.dev.tb.now + 1 ∧
      (nothingDue s.dev → t.dev.mem = s.dev.mem ∧ t.dev.berths = s.dev.berths ∧ onlyRegs s.dev t.dev [Reg.TB_CORR]))

/-- A queue of well-formed commands never stops, whatever the device's state: each step takes one command from it, keeps the
configuration and leaves the rest well-formed, and after as many steps as it holds commands it is empty.
It rests on choices of the model: notes/assumptions/4.md. -/
def Obligations.WellFormedQueuesRun : Prop :=
  (∀ s t : State, queueOk s → step s = .next t → queueOk t ∧ t.dev.cfg = s.dev.cfg ∧ t.pending = s.pending.drop 1) ∧
  ∀ s : State, queueOk s → ∃ t, stepsTo s.pending.length s t ∧ t.pending = [] ∧ t.dev.cfg = s.dev.cfg

/-- Every step keeps the canonical form of memory: the addresses of its list strictly rise, and no entry holds the zero that an unlisted
address reads as.
It rests on choices of the model: notes/assumptions/3.md. -/
def Obligations.MemoryFormIsKept : Prop :=
  ∀ s t : State, Memory.wf s.dev.mem = true → step s = .next t → Memory.wf t.dev.mem = true
end

