-- ==== Sys2Proof/Laws/State.lean ====
section
/-! SUPPORT. What each plain update of the state leaves alone, one lemma for each field, and what it writes. -/

namespace Sys2Proof.Machine

variable (d : Device) (x : Berth) (s : State)

/-! ### A state's update -/

theorem State.upd_eq (f : Device → Device) : s.upd f = .next ⟨s.pending, { f s.dev with cfg := s.dev.cfg }⟩ := rfl

/-! ### Device.wr -/

@[simp] theorem Device.wr_cfg (off v : Nat) : (d.wr off v).cfg = d.cfg := rfl
@[simp] theorem Device.wr_mode (off v : Nat) : (d.wr off v).mode = d.mode := rfl
@[simp] theorem Device.wr_prev (off v : Nat) : (d.wr off v).prev = d.prev := rfl
@[simp] theorem Device.wr_berths (off v : Nat) : (d.wr off v).berths = d.berths := rfl
@[simp] theorem Device.wr_car (off v : Nat) : (d.wr off v).car = d.car := rfl
@[simp] theorem Device.wr_mem (off v : Nat) : (d.wr off v).mem = d.mem := rfl
@[simp] theorem Device.wr_bol (off v : Nat) : (d.wr off v).bol = d.bol := rfl
@[simp] theorem Device.wr_eng (off v : Nat) : (d.wr off v).eng = d.eng := rfl
@[simp] theorem Device.wr_pad (off v : Nat) : (d.wr off v).pad = d.pad := rfl
@[simp] theorem Device.wr_evf (off v : Nat) : (d.wr off v).evf = d.evf := rfl
@[simp] theorem Device.wr_tb (off v : Nat) : (d.wr off v).tb = d.tb := rfl
@[simp] theorem Device.wr_lpt (off v : Nat) : (d.wr off v).lpt = d.lpt := rfl
@[simp] theorem Device.wr_scn (off v : Nat) : (d.wr off v).scn = d.scn := rfl
@[simp] theorem Device.wr_rms (off v : Nat) : (d.wr off v).rms = d.rms := rfl
@[simp] theorem Device.wr_lhs (off v : Nat) : (d.wr off v).lhs = d.lhs := rfl
@[simp] theorem Device.wr_bey (off v : Nat) : (d.wr off v).bey = d.bey := rfl
@[simp] theorem Device.wr_mac (off v : Nat) : (d.wr off v).mac = d.mac := rfl
@[simp] theorem Device.wr_sn (off v : Nat) : (d.wr off v).sn = d.sn := rfl
@[simp] theorem Device.wr_qsp (off v : Nat) : (d.wr off v).qsp = d.qsp := rfl
@[simp] theorem Device.wr_dbg (off v : Nat) : (d.wr off v).dbg = d.dbg := rfl
@[simp] theorem Device.wr_pwr (off v : Nat) : (d.wr off v).pwr = d.pwr := rfl
@[simp] theorem Device.wr_draws (off v : Nat) : (d.wr off v).draws = d.draws := rfl

/-! ### Device.wr64 -/

@[simp] theorem Device.wr64_cfg (off v : Nat) : (d.wr64 off v).cfg = d.cfg := rfl
@[simp] theorem Device.wr64_mode (off v : Nat) : (d.wr64 off v).mode = d.mode := rfl
@[simp] theorem Device.wr64_prev (off v : Nat) : (d.wr64 off v).prev = d.prev := rfl
@[simp] theorem Device.wr64_berths (off v : Nat) : (d.wr64 off v).berths = d.berths := rfl
@[simp] theorem Device.wr64_car (off v : Nat) : (d.wr64 off v).car = d.car := rfl
@[simp] theorem Device.wr64_mem (off v : Nat) : (d.wr64 off v).mem = d.mem := rfl
@[simp] theorem Device.wr64_bol (off v : Nat) : (d.wr64 off v).bol = d.bol := rfl
@[simp] theorem Device.wr64_eng (off v : Nat) : (d.wr64 off v).eng = d.eng := rfl
@[simp] theorem Device.wr64_pad (off v : Nat) : (d.wr64 off v).pad = d.pad := rfl
@[simp] theorem Device.wr64_evf (off v : Nat) : (d.wr64 off v).evf = d.evf := rfl
@[simp] theorem Device.wr64_tb (off v : Nat) : (d.wr64 off v).tb = d.tb := rfl
@[simp] theorem Device.wr64_lpt (off v : Nat) : (d.wr64 off v).lpt = d.lpt := rfl
@[simp] theorem Device.wr64_scn (off v : Nat) : (d.wr64 off v).scn = d.scn := rfl
@[simp] theorem Device.wr64_rms (off v : Nat) : (d.wr64 off v).rms = d.rms := rfl
@[simp] theorem Device.wr64_lhs (off v : Nat) : (d.wr64 off v).lhs = d.lhs := rfl
@[simp] theorem Device.wr64_bey (off v : Nat) : (d.wr64 off v).bey = d.bey := rfl
@[simp] theorem Device.wr64_mac (off v : Nat) : (d.wr64 off v).mac = d.mac := rfl
@[simp] theorem Device.wr64_sn (off v : Nat) : (d.wr64 off v).sn = d.sn := rfl
@[simp] theorem Device.wr64_qsp (off v : Nat) : (d.wr64 off v).qsp = d.qsp := rfl
@[simp] theorem Device.wr64_dbg (off v : Nat) : (d.wr64 off v).dbg = d.dbg := rfl
@[simp] theorem Device.wr64_pwr (off v : Nat) : (d.wr64 off v).pwr = d.pwr := rfl
@[simp] theorem Device.wr64_draws (off v : Nat) : (d.wr64 off v).draws = d.draws := rfl

/-! ### Device.setFld -/

@[simp] theorem Device.setFld_cfg (off lo w v : Nat) : (d.setFld off lo w v).cfg = d.cfg := rfl
@[simp] theorem Device.setFld_mode (off lo w v : Nat) : (d.setFld off lo w v).mode = d.mode := rfl
@[simp] theorem Device.setFld_prev (off lo w v : Nat) : (d.setFld off lo w v).prev = d.prev := rfl
@[simp] theorem Device.setFld_berths (off lo w v : Nat) : (d.setFld off lo w v).berths = d.berths := rfl
@[simp] theorem Device.setFld_car (off lo w v : Nat) : (d.setFld off lo w v).car = d.car := rfl
@[simp] theorem Device.setFld_mem (off lo w v : Nat) : (d.setFld off lo w v).mem = d.mem := rfl
@[simp] theorem Device.setFld_bol (off lo w v : Nat) : (d.setFld off lo w v).bol = d.bol := rfl
@[simp] theorem Device.setFld_eng (off lo w v : Nat) : (d.setFld off lo w v).eng = d.eng := rfl
@[simp] theorem Device.setFld_pad (off lo w v : Nat) : (d.setFld off lo w v).pad = d.pad := rfl
@[simp] theorem Device.setFld_evf (off lo w v : Nat) : (d.setFld off lo w v).evf = d.evf := rfl
@[simp] theorem Device.setFld_tb (off lo w v : Nat) : (d.setFld off lo w v).tb = d.tb := rfl
@[simp] theorem Device.setFld_lpt (off lo w v : Nat) : (d.setFld off lo w v).lpt = d.lpt := rfl
@[simp] theorem Device.setFld_scn (off lo w v : Nat) : (d.setFld off lo w v).scn = d.scn := rfl
@[simp] theorem Device.setFld_rms (off lo w v : Nat) : (d.setFld off lo w v).rms = d.rms := rfl
@[simp] theorem Device.setFld_lhs (off lo w v : Nat) : (d.setFld off lo w v).lhs = d.lhs := rfl
@[simp] theorem Device.setFld_bey (off lo w v : Nat) : (d.setFld off lo w v).bey = d.bey := rfl
@[simp] theorem Device.setFld_mac (off lo w v : Nat) : (d.setFld off lo w v).mac = d.mac := rfl
@[simp] theorem Device.setFld_sn (off lo w v : Nat) : (d.setFld off lo w v).sn = d.sn := rfl
@[simp] theorem Device.setFld_qsp (off lo w v : Nat) : (d.setFld off lo w v).qsp = d.qsp := rfl
@[simp] theorem Device.setFld_dbg (off lo w v : Nat) : (d.setFld off lo w v).dbg = d.dbg := rfl
@[simp] theorem Device.setFld_pwr (off lo w v : Nat) : (d.setFld off lo w v).pwr = d.pwr := rfl
@[simp] theorem Device.setFld_draws (off lo w v : Nat) : (d.setFld off lo w v).draws = d.draws := rfl

/-! ### Device.setFlag -/

@[simp] theorem Device.setFlag_cfg (off i : Nat) (v : Bool) : (d.setFlag off i v).cfg = d.cfg := rfl
@[simp] theorem Device.setFlag_mode (off i : Nat) (v : Bool) : (d.setFlag off i v).mode = d.mode := rfl
@[simp] theorem Device.setFlag_prev (off i : Nat) (v : Bool) : (d.setFlag off i v).prev = d.prev := rfl
@[simp] theorem Device.setFlag_berths (off i : Nat) (v : Bool) : (d.setFlag off i v).berths = d.berths := rfl
@[simp] theorem Device.setFlag_car (off i : Nat) (v : Bool) : (d.setFlag off i v).car = d.car := rfl
@[simp] theorem Device.setFlag_mem (off i : Nat) (v : Bool) : (d.setFlag off i v).mem = d.mem := rfl
@[simp] theorem Device.setFlag_bol (off i : Nat) (v : Bool) : (d.setFlag off i v).bol = d.bol := rfl
@[simp] theorem Device.setFlag_eng (off i : Nat) (v : Bool) : (d.setFlag off i v).eng = d.eng := rfl
@[simp] theorem Device.setFlag_pad (off i : Nat) (v : Bool) : (d.setFlag off i v).pad = d.pad := rfl
@[simp] theorem Device.setFlag_evf (off i : Nat) (v : Bool) : (d.setFlag off i v).evf = d.evf := rfl
@[simp] theorem Device.setFlag_tb (off i : Nat) (v : Bool) : (d.setFlag off i v).tb = d.tb := rfl
@[simp] theorem Device.setFlag_lpt (off i : Nat) (v : Bool) : (d.setFlag off i v).lpt = d.lpt := rfl
@[simp] theorem Device.setFlag_scn (off i : Nat) (v : Bool) : (d.setFlag off i v).scn = d.scn := rfl
@[simp] theorem Device.setFlag_rms (off i : Nat) (v : Bool) : (d.setFlag off i v).rms = d.rms := rfl
@[simp] theorem Device.setFlag_lhs (off i : Nat) (v : Bool) : (d.setFlag off i v).lhs = d.lhs := rfl
@[simp] theorem Device.setFlag_bey (off i : Nat) (v : Bool) : (d.setFlag off i v).bey = d.bey := rfl
@[simp] theorem Device.setFlag_mac (off i : Nat) (v : Bool) : (d.setFlag off i v).mac = d.mac := rfl
@[simp] theorem Device.setFlag_sn (off i : Nat) (v : Bool) : (d.setFlag off i v).sn = d.sn := rfl
@[simp] theorem Device.setFlag_qsp (off i : Nat) (v : Bool) : (d.setFlag off i v).qsp = d.qsp := rfl
@[simp] theorem Device.setFlag_dbg (off i : Nat) (v : Bool) : (d.setFlag off i v).dbg = d.dbg := rfl
@[simp] theorem Device.setFlag_pwr (off i : Nat) (v : Bool) : (d.setFlag off i v).pwr = d.pwr := rfl
@[simp] theorem Device.setFlag_draws (off i : Nat) (v : Bool) : (d.setFlag off i v).draws = d.draws := rfl

/-! ### Device.bump -/

@[simp] theorem Device.bump_cfg (off lo w : Nat) : (d.bump off lo w).cfg = d.cfg := rfl
@[simp] theorem Device.bump_mode (off lo w : Nat) : (d.bump off lo w).mode = d.mode := rfl
@[simp] theorem Device.bump_prev (off lo w : Nat) : (d.bump off lo w).prev = d.prev := rfl
@[simp] theorem Device.bump_berths (off lo w : Nat) : (d.bump off lo w).berths = d.berths := rfl
@[simp] theorem Device.bump_car (off lo w : Nat) : (d.bump off lo w).car = d.car := rfl
@[simp] theorem Device.bump_mem (off lo w : Nat) : (d.bump off lo w).mem = d.mem := rfl
@[simp] theorem Device.bump_bol (off lo w : Nat) : (d.bump off lo w).bol = d.bol := rfl
@[simp] theorem Device.bump_eng (off lo w : Nat) : (d.bump off lo w).eng = d.eng := rfl
@[simp] theorem Device.bump_pad (off lo w : Nat) : (d.bump off lo w).pad = d.pad := rfl
@[simp] theorem Device.bump_evf (off lo w : Nat) : (d.bump off lo w).evf = d.evf := rfl
@[simp] theorem Device.bump_tb (off lo w : Nat) : (d.bump off lo w).tb = d.tb := rfl
@[simp] theorem Device.bump_lpt (off lo w : Nat) : (d.bump off lo w).lpt = d.lpt := rfl
@[simp] theorem Device.bump_scn (off lo w : Nat) : (d.bump off lo w).scn = d.scn := rfl
@[simp] theorem Device.bump_rms (off lo w : Nat) : (d.bump off lo w).rms = d.rms := rfl
@[simp] theorem Device.bump_lhs (off lo w : Nat) : (d.bump off lo w).lhs = d.lhs := rfl
@[simp] theorem Device.bump_bey (off lo w : Nat) : (d.bump off lo w).bey = d.bey := rfl
@[simp] theorem Device.bump_mac (off lo w : Nat) : (d.bump off lo w).mac = d.mac := rfl
@[simp] theorem Device.bump_sn (off lo w : Nat) : (d.bump off lo w).sn = d.sn := rfl
@[simp] theorem Device.bump_qsp (off lo w : Nat) : (d.bump off lo w).qsp = d.qsp := rfl
@[simp] theorem Device.bump_dbg (off lo w : Nat) : (d.bump off lo w).dbg = d.dbg := rfl
@[simp] theorem Device.bump_pwr (off lo w : Nat) : (d.bump off lo w).pwr = d.pwr := rfl
@[simp] theorem Device.bump_draws (off lo w : Nat) : (d.bump off lo w).draws = d.draws := rfl

/-! ### Device.wrapInc -/

@[simp] theorem Device.wrapInc_cfg (off lo w : Nat) : (d.wrapInc off lo w).cfg = d.cfg := rfl
@[simp] theorem Device.wrapInc_mode (off lo w : Nat) : (d.wrapInc off lo w).mode = d.mode := rfl
@[simp] theorem Device.wrapInc_prev (off lo w : Nat) : (d.wrapInc off lo w).prev = d.prev := rfl
@[simp] theorem Device.wrapInc_berths (off lo w : Nat) : (d.wrapInc off lo w).berths = d.berths := rfl
@[simp] theorem Device.wrapInc_car (off lo w : Nat) : (d.wrapInc off lo w).car = d.car := rfl
@[simp] theorem Device.wrapInc_mem (off lo w : Nat) : (d.wrapInc off lo w).mem = d.mem := rfl
@[simp] theorem Device.wrapInc_bol (off lo w : Nat) : (d.wrapInc off lo w).bol = d.bol := rfl
@[simp] theorem Device.wrapInc_eng (off lo w : Nat) : (d.wrapInc off lo w).eng = d.eng := rfl
@[simp] theorem Device.wrapInc_pad (off lo w : Nat) : (d.wrapInc off lo w).pad = d.pad := rfl
@[simp] theorem Device.wrapInc_evf (off lo w : Nat) : (d.wrapInc off lo w).evf = d.evf := rfl
@[simp] theorem Device.wrapInc_tb (off lo w : Nat) : (d.wrapInc off lo w).tb = d.tb := rfl
@[simp] theorem Device.wrapInc_lpt (off lo w : Nat) : (d.wrapInc off lo w).lpt = d.lpt := rfl
@[simp] theorem Device.wrapInc_scn (off lo w : Nat) : (d.wrapInc off lo w).scn = d.scn := rfl
@[simp] theorem Device.wrapInc_rms (off lo w : Nat) : (d.wrapInc off lo w).rms = d.rms := rfl
@[simp] theorem Device.wrapInc_lhs (off lo w : Nat) : (d.wrapInc off lo w).lhs = d.lhs := rfl
@[simp] theorem Device.wrapInc_bey (off lo w : Nat) : (d.wrapInc off lo w).bey = d.bey := rfl
@[simp] theorem Device.wrapInc_mac (off lo w : Nat) : (d.wrapInc off lo w).mac = d.mac := rfl
@[simp] theorem Device.wrapInc_sn (off lo w : Nat) : (d.wrapInc off lo w).sn = d.sn := rfl
@[simp] theorem Device.wrapInc_qsp (off lo w : Nat) : (d.wrapInc off lo w).qsp = d.qsp := rfl
@[simp] theorem Device.wrapInc_dbg (off lo w : Nat) : (d.wrapInc off lo w).dbg = d.dbg := rfl
@[simp] theorem Device.wrapInc_pwr (off lo w : Nat) : (d.wrapInc off lo w).pwr = d.pwr := rfl
@[simp] theorem Device.wrapInc_draws (off lo w : Nat) : (d.wrapInc off lo w).draws = d.draws := rfl

/-! ### Device.clearRegs -/

@[simp] theorem Device.clearRegs_cfg (p : Nat → Bool) : (d.clearRegs p).cfg = d.cfg := rfl
@[simp] theorem Device.clearRegs_mode (p : Nat → Bool) : (d.clearRegs p).mode = d.mode := rfl
@[simp] theorem Device.clearRegs_prev (p : Nat → Bool) : (d.clearRegs p).prev = d.prev := rfl
@[simp] theorem Device.clearRegs_berths (p : Nat → Bool) : (d.clearRegs p).berths = d.berths := rfl
@[simp] theorem Device.clearRegs_car (p : Nat → Bool) : (d.clearRegs p).car = d.car := rfl
@[simp] theorem Device.clearRegs_mem (p : Nat → Bool) : (d.clearRegs p).mem = d.mem := rfl
@[simp] theorem Device.clearRegs_bol (p : Nat → Bool) : (d.clearRegs p).bol = d.bol := rfl
@[simp] theorem Device.clearRegs_eng (p : Nat → Bool) : (d.clearRegs p).eng = d.eng := rfl
@[simp] theorem Device.clearRegs_pad (p : Nat → Bool) : (d.clearRegs p).pad = d.pad := rfl
@[simp] theorem Device.clearRegs_evf (p : Nat → Bool) : (d.clearRegs p).evf = d.evf := rfl
@[simp] theorem Device.clearRegs_tb (p : Nat → Bool) : (d.clearRegs p).tb = d.tb := rfl
@[simp] theorem Device.clearRegs_lpt (p : Nat → Bool) : (d.clearRegs p).lpt = d.lpt := rfl
@[simp] theorem Device.clearRegs_scn (p : Nat → Bool) : (d.clearRegs p).scn = d.scn := rfl
@[simp] theorem Device.clearRegs_rms (p : Nat → Bool) : (d.clearRegs p).rms = d.rms := rfl
@[simp] theorem Device.clearRegs_lhs (p : Nat → Bool) : (d.clearRegs p).lhs = d.lhs := rfl
@[simp] theorem Device.clearRegs_bey (p : Nat → Bool) : (d.clearRegs p).bey = d.bey := rfl
@[simp] theorem Device.clearRegs_mac (p : Nat → Bool) : (d.clearRegs p).mac = d.mac := rfl
@[simp] theorem Device.clearRegs_sn (p : Nat → Bool) : (d.clearRegs p).sn = d.sn := rfl
@[simp] theorem Device.clearRegs_qsp (p : Nat → Bool) : (d.clearRegs p).qsp = d.qsp := rfl
@[simp] theorem Device.clearRegs_dbg (p : Nat → Bool) : (d.clearRegs p).dbg = d.dbg := rfl
@[simp] theorem Device.clearRegs_pwr (p : Nat → Bool) : (d.clearRegs p).pwr = d.pwr := rfl
@[simp] theorem Device.clearRegs_draws (p : Nat → Bool) : (d.clearRegs p).draws = d.draws := rfl

/-! ### Device.setBerth -/

@[simp] theorem Device.setBerth_cfg (b : Nat) (y : Berth) : (d.setBerth b y).cfg = d.cfg := rfl
@[simp] theorem Device.setBerth_mode (b : Nat) (y : Berth) : (d.setBerth b y).mode = d.mode := rfl
@[simp] theorem Device.setBerth_prev (b : Nat) (y : Berth) : (d.setBerth b y).prev = d.prev := rfl
@[simp] theorem Device.setBerth_regs (b : Nat) (y : Berth) : (d.setBerth b y).regs = d.regs := rfl
@[simp] theorem Device.setBerth_car (b : Nat) (y : Berth) : (d.setBerth b y).car = d.car := rfl
@[simp] theorem Device.setBerth_mem (b : Nat) (y : Berth) : (d.setBerth b y).mem = d.mem := rfl
@[simp] theorem Device.setBerth_bol (b : Nat) (y : Berth) : (d.setBerth b y).bol = d.bol := rfl
@[simp] theorem Device.setBerth_eng (b : Nat) (y : Berth) : (d.setBerth b y).eng = d.eng := rfl
@[simp] theorem Device.setBerth_pad (b : Nat) (y : Berth) : (d.setBerth b y).pad = d.pad := rfl
@[simp] theorem Device.setBerth_evf (b : Nat) (y : Berth) : (d.setBerth b y).evf = d.evf := rfl
@[simp] theorem Device.setBerth_tb (b : Nat) (y : Berth) : (d.setBerth b y).tb = d.tb := rfl
@[simp] theorem Device.setBerth_lpt (b : Nat) (y : Berth) : (d.setBerth b y).lpt = d.lpt := rfl
@[simp] theorem Device.setBerth_scn (b : Nat) (y : Berth) : (d.setBerth b y).scn = d.scn := rfl
@[simp] theorem Device.setBerth_rms (b : Nat) (y : Berth) : (d.setBerth b y).rms = d.rms := rfl
@[simp] theorem Device.setBerth_lhs (b : Nat) (y : Berth) : (d.setBerth b y).lhs = d.lhs := rfl
@[simp] theorem Device.setBerth_bey (b : Nat) (y : Berth) : (d.setBerth b y).bey = d.bey := rfl
@[simp] theorem Device.setBerth_mac (b : Nat) (y : Berth) : (d.setBerth b y).mac = d.mac := rfl
@[simp] theorem Device.setBerth_sn (b : Nat) (y : Berth) : (d.setBerth b y).sn = d.sn := rfl
@[simp] theorem Device.setBerth_qsp (b : Nat) (y : Berth) : (d.setBerth b y).qsp = d.qsp := rfl
@[simp] theorem Device.setBerth_dbg (b : Nat) (y : Berth) : (d.setBerth b y).dbg = d.dbg := rfl
@[simp] theorem Device.setBerth_pwr (b : Nat) (y : Berth) : (d.setBerth b y).pwr = d.pwr := rfl
@[simp] theorem Device.setBerth_draws (b : Nat) (y : Berth) : (d.setBerth b y).draws = d.draws := rfl

/-! ### Device.setParked -/

@[simp] theorem Device.setParked_cfg (b : Nat) (v : Bool) : (d.setParked b v).cfg = d.cfg := rfl
@[simp] theorem Device.setParked_mode (b : Nat) (v : Bool) : (d.setParked b v).mode = d.mode := rfl
@[simp] theorem Device.setParked_prev (b : Nat) (v : Bool) : (d.setParked b v).prev = d.prev := rfl
@[simp] theorem Device.setParked_berths (b : Nat) (v : Bool) : (d.setParked b v).berths = d.berths := rfl
@[simp] theorem Device.setParked_car (b : Nat) (v : Bool) : (d.setParked b v).car = d.car := rfl
@[simp] theorem Device.setParked_mem (b : Nat) (v : Bool) : (d.setParked b v).mem = d.mem := rfl
@[simp] theorem Device.setParked_bol (b : Nat) (v : Bool) : (d.setParked b v).bol = d.bol := rfl
@[simp] theorem Device.setParked_eng (b : Nat) (v : Bool) : (d.setParked b v).eng = d.eng := rfl
@[simp] theorem Device.setParked_pad (b : Nat) (v : Bool) : (d.setParked b v).pad = d.pad := rfl
@[simp] theorem Device.setParked_evf (b : Nat) (v : Bool) : (d.setParked b v).evf = d.evf := rfl
@[simp] theorem Device.setParked_tb (b : Nat) (v : Bool) : (d.setParked b v).tb = d.tb := rfl
@[simp] theorem Device.setParked_lpt (b : Nat) (v : Bool) : (d.setParked b v).lpt = d.lpt := rfl
@[simp] theorem Device.setParked_scn (b : Nat) (v : Bool) : (d.setParked b v).scn = d.scn := rfl
@[simp] theorem Device.setParked_rms (b : Nat) (v : Bool) : (d.setParked b v).rms = d.rms := rfl
@[simp] theorem Device.setParked_lhs (b : Nat) (v : Bool) : (d.setParked b v).lhs = d.lhs := rfl
@[simp] theorem Device.setParked_bey (b : Nat) (v : Bool) : (d.setParked b v).bey = d.bey := rfl
@[simp] theorem Device.setParked_mac (b : Nat) (v : Bool) : (d.setParked b v).mac = d.mac := rfl
@[simp] theorem Device.setParked_sn (b : Nat) (v : Bool) : (d.setParked b v).sn = d.sn := rfl
@[simp] theorem Device.setParked_qsp (b : Nat) (v : Bool) : (d.setParked b v).qsp = d.qsp := rfl
@[simp] theorem Device.setParked_dbg (b : Nat) (v : Bool) : (d.setParked b v).dbg = d.dbg := rfl
@[simp] theorem Device.setParked_pwr (b : Nat) (v : Bool) : (d.setParked b v).pwr = d.pwr := rfl
@[simp] theorem Device.setParked_draws (b : Nat) (v : Bool) : (d.setParked b v).draws = d.draws := rfl

/-! ### Device.setParkAsk -/

@[simp] theorem Device.setParkAsk_cfg (b : Nat) (v : Bool) : (d.setParkAsk b v).cfg = d.cfg := rfl
@[simp] theorem Device.setParkAsk_mode (b : Nat) (v : Bool) : (d.setParkAsk b v).mode = d.mode := rfl
@[simp] theorem Device.setParkAsk_prev (b : Nat) (v : Bool) : (d.setParkAsk b v).prev = d.prev := rfl
@[simp] theorem Device.setParkAsk_berths (b : Nat) (v : Bool) : (d.setParkAsk b v).berths = d.berths := rfl
@[simp] theorem Device.setParkAsk_car (b : Nat) (v : Bool) : (d.setParkAsk b v).car = d.car := rfl
@[simp] theorem Device.setParkAsk_mem (b : Nat) (v : Bool) : (d.setParkAsk b v).mem = d.mem := rfl
@[simp] theorem Device.setParkAsk_bol (b : Nat) (v : Bool) : (d.setParkAsk b v).bol = d.bol := rfl
@[simp] theorem Device.setParkAsk_eng (b : Nat) (v : Bool) : (d.setParkAsk b v).eng = d.eng := rfl
@[simp] theorem Device.setParkAsk_pad (b : Nat) (v : Bool) : (d.setParkAsk b v).pad = d.pad := rfl
@[simp] theorem Device.setParkAsk_evf (b : Nat) (v : Bool) : (d.setParkAsk b v).evf = d.evf := rfl
@[simp] theorem Device.setParkAsk_tb (b : Nat) (v : Bool) : (d.setParkAsk b v).tb = d.tb := rfl
@[simp] theorem Device.setParkAsk_lpt (b : Nat) (v : Bool) : (d.setParkAsk b v).lpt = d.lpt := rfl
@[simp] theorem Device.setParkAsk_scn (b : Nat) (v : Bool) : (d.setParkAsk b v).scn = d.scn := rfl
@[simp] theorem Device.setParkAsk_rms (b : Nat) (v : Bool) : (d.setParkAsk b v).rms = d.rms := rfl
@[simp] theorem Device.setParkAsk_lhs (b : Nat) (v : Bool) : (d.setParkAsk b v).lhs = d.lhs := rfl
@[simp] theorem Device.setParkAsk_bey (b : Nat) (v : Bool) : (d.setParkAsk b v).bey = d.bey := rfl
@[simp] theorem Device.setParkAsk_mac (b : Nat) (v : Bool) : (d.setParkAsk b v).mac = d.mac := rfl
@[simp] theorem Device.setParkAsk_sn (b : Nat) (v : Bool) : (d.setParkAsk b v).sn = d.sn := rfl
@[simp] theorem Device.setParkAsk_qsp (b : Nat) (v : Bool) : (d.setParkAsk b v).qsp = d.qsp := rfl
@[simp] theorem Device.setParkAsk_dbg (b : Nat) (v : Bool) : (d.setParkAsk b v).dbg = d.dbg := rfl
@[simp] theorem Device.setParkAsk_pwr (b : Nat) (v : Bool) : (d.setParkAsk b v).pwr = d.pwr := rfl
@[simp] theorem Device.setParkAsk_draws (b : Nat) (v : Bool) : (d.setParkAsk b v).draws = d.draws := rfl

/-! ### Device.poke -/

@[simp] theorem Device.poke_cfg (a : Nat) (bs : List Byte) : (d.poke a bs).cfg = d.cfg := rfl
@[simp] theorem Device.poke_mode (a : Nat) (bs : List Byte) : (d.poke a bs).mode = d.mode := rfl
@[simp] theorem Device.poke_prev (a : Nat) (bs : List Byte) : (d.poke a bs).prev = d.prev := rfl
@[simp] theorem Device.poke_regs (a : Nat) (bs : List Byte) : (d.poke a bs).regs = d.regs := rfl
@[simp] theorem Device.poke_berths (a : Nat) (bs : List Byte) : (d.poke a bs).berths = d.berths := rfl
@[simp] theorem Device.poke_car (a : Nat) (bs : List Byte) : (d.poke a bs).car = d.car := rfl
@[simp] theorem Device.poke_bol (a : Nat) (bs : List Byte) : (d.poke a bs).bol = d.bol := rfl
@[simp] theorem Device.poke_eng (a : Nat) (bs : List Byte) : (d.poke a bs).eng = d.eng := rfl
@[simp] theorem Device.poke_pad (a : Nat) (bs : List Byte) : (d.poke a bs).pad = d.pad := rfl
@[simp] theorem Device.poke_evf (a : Nat) (bs : List Byte) : (d.poke a bs).evf = d.evf := rfl
@[simp] theorem Device.poke_tb (a : Nat) (bs : List Byte) : (d.poke a bs).tb = d.tb := rfl
@[simp] theorem Device.poke_lpt (a : Nat) (bs : List Byte) : (d.poke a bs).lpt = d.lpt := rfl
@[simp] theorem Device.poke_scn (a : Nat) (bs : List Byte) : (d.poke a bs).scn = d.scn := rfl
@[simp] theorem Device.poke_rms (a : Nat) (bs : List Byte) : (d.poke a bs).rms = d.rms := rfl
@[simp] theorem Device.poke_lhs (a : Nat) (bs : List Byte) : (d.poke a bs).lhs = d.lhs := rfl
@[simp] theorem Device.poke_bey (a : Nat) (bs : List Byte) : (d.poke a bs).bey = d.bey := rfl
@[simp] theorem Device.poke_mac (a : Nat) (bs : List Byte) : (d.poke a bs).mac = d.mac := rfl
@[simp] theorem Device.poke_sn (a : Nat) (bs : List Byte) : (d.poke a bs).sn = d.sn := rfl
@[simp] theorem Device.poke_qsp (a : Nat) (bs : List Byte) : (d.poke a bs).qsp = d.qsp := rfl
@[simp] theorem Device.poke_dbg (a : Nat) (bs : List Byte) : (d.poke a bs).dbg = d.dbg := rfl
@[simp] theorem Device.poke_pwr (a : Nat) (bs : List Byte) : (d.poke a bs).pwr = d.pwr := rfl
@[simp] theorem Device.poke_draws (a : Nat) (bs : List Byte) : (d.poke a bs).draws = d.draws := rfl

/-! ### Device.pokeFresh -/

@[simp] theorem Device.pokeFresh_cfg (a : Nat) (bs : List Byte) : (d.pokeFresh a bs).cfg = d.cfg := rfl
@[simp] theorem Device.pokeFresh_mode (a : Nat) (bs : List Byte) : (d.pokeFresh a bs).mode = d.mode := rfl
@[simp] theorem Device.pokeFresh_prev (a : Nat) (bs : List Byte) : (d.pokeFresh a bs).prev = d.prev := rfl
@[simp] theorem Device.pokeFresh_regs (a : Nat) (bs : List Byte) : (d.pokeFresh a bs).regs = d.regs := rfl
@[simp] theorem Device.pokeFresh_berths (a : Nat) (bs : List Byte) : (d.pokeFresh a bs).berths = d.berths := rfl
@[simp] theorem Device.pokeFresh_car (a : Nat) (bs : List Byte) : (d.pokeFresh a bs).car = d.car := rfl
@[simp] theorem Device.pokeFresh_bol (a : Nat) (bs : List Byte) : (d.pokeFresh a bs).bol = d.bol := rfl
@[simp] theorem Device.pokeFresh_eng (a : Nat) (bs : List Byte) : (d.pokeFresh a bs).eng = d.eng := rfl
@[simp] theorem Device.pokeFresh_pad (a : Nat) (bs : List Byte) : (d.pokeFresh a bs).pad = d.pad := rfl
@[simp] theorem Device.pokeFresh_evf (a : Nat) (bs : List Byte) : (d.pokeFresh a bs).evf = d.evf := rfl
@[simp] theorem Device.pokeFresh_tb (a : Nat) (bs : List Byte) : (d.pokeFresh a bs).tb = d.tb := rfl
@[simp] theorem Device.pokeFresh_lpt (a : Nat) (bs : List Byte) : (d.pokeFresh a bs).lpt = d.lpt := rfl
@[simp] theorem Device.pokeFresh_scn (a : Nat) (bs : List Byte) : (d.pokeFresh a bs).scn = d.scn := rfl
@[simp] theorem Device.pokeFresh_rms (a : Nat) (bs : List Byte) : (d.pokeFresh a bs).rms = d.rms := rfl
@[simp] theorem Device.pokeFresh_lhs (a : Nat) (bs : List Byte) : (d.pokeFresh a bs).lhs = d.lhs := rfl
@[simp] theorem Device.pokeFresh_bey (a : Nat) (bs : List Byte) : (d.pokeFresh a bs).bey = d.bey := rfl
@[simp] theorem Device.pokeFresh_mac (a : Nat) (bs : List Byte) : (d.pokeFresh a bs).mac = d.mac := rfl
@[simp] theorem Device.pokeFresh_sn (a : Nat) (bs : List Byte) : (d.pokeFresh a bs).sn = d.sn := rfl
@[simp] theorem Device.pokeFresh_qsp (a : Nat) (bs : List Byte) : (d.pokeFresh a bs).qsp = d.qsp := rfl
@[simp] theorem Device.pokeFresh_dbg (a : Nat) (bs : List Byte) : (d.pokeFresh a bs).dbg = d.dbg := rfl
@[simp] theorem Device.pokeFresh_pwr (a : Nat) (bs : List Byte) : (d.pokeFresh a bs).pwr = d.pwr := rfl
@[simp] theorem Device.pokeFresh_draws (a : Nat) (bs : List Byte) : (d.pokeFresh a bs).draws = d.draws := rfl

/-! ### Device.setEcc -/

@[simp] theorem Device.setEcc_cfg (a : Nat) (e : Ecc) : (d.setEcc a e).cfg = d.cfg := rfl
@[simp] theorem Device.setEcc_mode (a : Nat) (e : Ecc) : (d.setEcc a e).mode = d.mode := rfl
@[simp] theorem Device.setEcc_prev (a : Nat) (e : Ecc) : (d.setEcc a e).prev = d.prev := rfl
@[simp] theorem Device.setEcc_regs (a : Nat) (e : Ecc) : (d.setEcc a e).regs = d.regs := rfl
@[simp] theorem Device.setEcc_berths (a : Nat) (e : Ecc) : (d.setEcc a e).berths = d.berths := rfl
@[simp] theorem Device.setEcc_car (a : Nat) (e : Ecc) : (d.setEcc a e).car = d.car := rfl
@[simp] theorem Device.setEcc_bol (a : Nat) (e : Ecc) : (d.setEcc a e).bol = d.bol := rfl
@[simp] theorem Device.setEcc_eng (a : Nat) (e : Ecc) : (d.setEcc a e).eng = d.eng := rfl
@[simp] theorem Device.setEcc_pad (a : Nat) (e : Ecc) : (d.setEcc a e).pad = d.pad := rfl
@[simp] theorem Device.setEcc_evf (a : Nat) (e : Ecc) : (d.setEcc a e).evf = d.evf := rfl
@[simp] theorem Device.setEcc_tb (a : Nat) (e : Ecc) : (d.setEcc a e).tb = d.tb := rfl
@[simp] theorem Device.setEcc_lpt (a : Nat) (e : Ecc) : (d.setEcc a e).lpt = d.lpt := rfl
@[simp] theorem Device.setEcc_scn (a : Nat) (e : Ecc) : (d.setEcc a e).scn = d.scn := rfl
@[simp] theorem Device.setEcc_rms (a : Nat) (e : Ecc) : (d.setEcc a e).rms = d.rms := rfl
@[simp] theorem Device.setEcc_lhs (a : Nat) (e : Ecc) : (d.setEcc a e).lhs = d.lhs := rfl
@[simp] theorem Device.setEcc_bey (a : Nat) (e : Ecc) : (d.setEcc a e).bey = d.bey := rfl
@[simp] theorem Device.setEcc_mac (a : Nat) (e : Ecc) : (d.setEcc a e).mac = d.mac := rfl
@[simp] theorem Device.setEcc_sn (a : Nat) (e : Ecc) : (d.setEcc a e).sn = d.sn := rfl
@[simp] theorem Device.setEcc_qsp (a : Nat) (e : Ecc) : (d.setEcc a e).qsp = d.qsp := rfl
@[simp] theorem Device.setEcc_dbg (a : Nat) (e : Ecc) : (d.setEcc a e).dbg = d.dbg := rfl
@[simp] theorem Device.setEcc_pwr (a : Nat) (e : Ecc) : (d.setEcc a e).pwr = d.pwr := rfl
@[simp] theorem Device.setEcc_draws (a : Nat) (e : Ecc) : (d.setEcc a e).draws = d.draws := rfl

/-! ### Device.setEntry -/

@[simp] theorem Device.setEntry_cfg (n : Nat) (e : Option BolEntry) : (d.setEntry n e).cfg = d.cfg := rfl
@[simp] theorem Device.setEntry_mode (n : Nat) (e : Option BolEntry) : (d.setEntry n e).mode = d.mode := rfl
@[simp] theorem Device.setEntry_prev (n : Nat) (e : Option BolEntry) : (d.setEntry n e).prev = d.prev := rfl
@[simp] theorem Device.setEntry_regs (n : Nat) (e : Option BolEntry) : (d.setEntry n e).regs = d.regs := rfl
@[simp] theorem Device.setEntry_berths (n : Nat) (e : Option BolEntry) : (d.setEntry n e).berths = d.berths := rfl
@[simp] theorem Device.setEntry_car (n : Nat) (e : Option BolEntry) : (d.setEntry n e).car = d.car := rfl
@[simp] theorem Device.setEntry_mem (n : Nat) (e : Option BolEntry) : (d.setEntry n e).mem = d.mem := rfl
@[simp] theorem Device.setEntry_eng (n : Nat) (e : Option BolEntry) : (d.setEntry n e).eng = d.eng := rfl
@[simp] theorem Device.setEntry_pad (n : Nat) (e : Option BolEntry) : (d.setEntry n e).pad = d.pad := rfl
@[simp] theorem Device.setEntry_evf (n : Nat) (e : Option BolEntry) : (d.setEntry n e).evf = d.evf := rfl
@[simp] theorem Device.setEntry_tb (n : Nat) (e : Option BolEntry) : (d.setEntry n e).tb = d.tb := rfl
@[simp] theorem Device.setEntry_lpt (n : Nat) (e : Option BolEntry) : (d.setEntry n e).lpt = d.lpt := rfl
@[simp] theorem Device.setEntry_scn (n : Nat) (e : Option BolEntry) : (d.setEntry n e).scn = d.scn := rfl
@[simp] theorem Device.setEntry_rms (n : Nat) (e : Option BolEntry) : (d.setEntry n e).rms = d.rms := rfl
@[simp] theorem Device.setEntry_lhs (n : Nat) (e : Option BolEntry) : (d.setEntry n e).lhs = d.lhs := rfl
@[simp] theorem Device.setEntry_bey (n : Nat) (e : Option BolEntry) : (d.setEntry n e).bey = d.bey := rfl
@[simp] theorem Device.setEntry_mac (n : Nat) (e : Option BolEntry) : (d.setEntry n e).mac = d.mac := rfl
@[simp] theorem Device.setEntry_sn (n : Nat) (e : Option BolEntry) : (d.setEntry n e).sn = d.sn := rfl
@[simp] theorem Device.setEntry_qsp (n : Nat) (e : Option BolEntry) : (d.setEntry n e).qsp = d.qsp := rfl
@[simp] theorem Device.setEntry_dbg (n : Nat) (e : Option BolEntry) : (d.setEntry n e).dbg = d.dbg := rfl
@[simp] theorem Device.setEntry_pwr (n : Nat) (e : Option BolEntry) : (d.setEntry n e).pwr = d.pwr := rfl
@[simp] theorem Device.setEntry_draws (n : Nat) (e : Option BolEntry) : (d.setEntry n e).draws = d.draws := rfl

/-! ### Device.setManifest -/

@[simp] theorem Device.setManifest_cfg (h : Nat) (m : Option Manifest) : (d.setManifest h m).cfg = d.cfg := rfl
@[simp] theorem Device.setManifest_mode (h : Nat) (m : Option Manifest) : (d.setManifest h m).mode = d.mode := rfl
@[simp] theorem Device.setManifest_prev (h : Nat) (m : Option Manifest) : (d.setManifest h m).prev = d.prev := rfl
@[simp] theorem Device.setManifest_regs (h : Nat) (m : Option Manifest) : (d.setManifest h m).regs = d.regs := rfl
@[simp] theorem Device.setManifest_berths (h : Nat) (m : Option Manifest) : (d.setManifest h m).berths = d.berths := rfl
@[simp] theorem Device.setManifest_car (h : Nat) (m : Option Manifest) : (d.setManifest h m).car = d.car := rfl
@[simp] theorem Device.setManifest_mem (h : Nat) (m : Option Manifest) : (d.setManifest h m).mem = d.mem := rfl
@[simp] theorem Device.setManifest_bol (h : Nat) (m : Option Manifest) : (d.setManifest h m).bol = d.bol := rfl
@[simp] theorem Device.setManifest_eng (h : Nat) (m : Option Manifest) : (d.setManifest h m).eng = d.eng := rfl
@[simp] theorem Device.setManifest_pad (h : Nat) (m : Option Manifest) : (d.setManifest h m).pad = d.pad := rfl
@[simp] theorem Device.setManifest_evf (h : Nat) (m : Option Manifest) : (d.setManifest h m).evf = d.evf := rfl
@[simp] theorem Device.setManifest_tb (h : Nat) (m : Option Manifest) : (d.setManifest h m).tb = d.tb := rfl
@[simp] theorem Device.setManifest_lpt (h : Nat) (m : Option Manifest) : (d.setManifest h m).lpt = d.lpt := rfl
@[simp] theorem Device.setManifest_rms (h : Nat) (m : Option Manifest) : (d.setManifest h m).rms = d.rms := rfl
@[simp] theorem Device.setManifest_lhs (h : Nat) (m : Option Manifest) : (d.setManifest h m).lhs = d.lhs := rfl
@[simp] theorem Device.setManifest_bey (h : Nat) (m : Option Manifest) : (d.setManifest h m).bey = d.bey := rfl
@[simp] theorem Device.setManifest_mac (h : Nat) (m : Option Manifest) : (d.setManifest h m).mac = d.mac := rfl
@[simp] theorem Device.setManifest_sn (h : Nat) (m : Option Manifest) : (d.setManifest h m).sn = d.sn := rfl
@[simp] theorem Device.setManifest_qsp (h : Nat) (m : Option Manifest) : (d.setManifest h m).qsp = d.qsp := rfl
@[simp] theorem Device.setManifest_dbg (h : Nat) (m : Option Manifest) : (d.setManifest h m).dbg = d.dbg := rfl
@[simp] theorem Device.setManifest_pwr (h : Nat) (m : Option Manifest) : (d.setManifest h m).pwr = d.pwr := rfl
@[simp] theorem Device.setManifest_draws (h : Nat) (m : Option Manifest) : (d.setManifest h m).draws = d.draws := rfl

/-! ### Device.draw -/

@[simp] theorem Device.draw_cfg : d.draw.cfg = d.cfg := rfl
@[simp] theorem Device.draw_mode : d.draw.mode = d.mode := rfl
@[simp] theorem Device.draw_prev : d.draw.prev = d.prev := rfl
@[simp] theorem Device.draw_regs : d.draw.regs = d.regs := rfl
@[simp] theorem Device.draw_berths : d.draw.berths = d.berths := rfl
@[simp] theorem Device.draw_car : d.draw.car = d.car := rfl
@[simp] theorem Device.draw_mem : d.draw.mem = d.mem := rfl
@[simp] theorem Device.draw_bol : d.draw.bol = d.bol := rfl
@[simp] theorem Device.draw_eng : d.draw.eng = d.eng := rfl
@[simp] theorem Device.draw_pad : d.draw.pad = d.pad := rfl
@[simp] theorem Device.draw_evf : d.draw.evf = d.evf := rfl
@[simp] theorem Device.draw_tb : d.draw.tb = d.tb := rfl
@[simp] theorem Device.draw_lpt : d.draw.lpt = d.lpt := rfl
@[simp] theorem Device.draw_scn : d.draw.scn = d.scn := rfl
@[simp] theorem Device.draw_rms : d.draw.rms = d.rms := rfl
@[simp] theorem Device.draw_lhs : d.draw.lhs = d.lhs := rfl
@[simp] theorem Device.draw_bey : d.draw.bey = d.bey := rfl
@[simp] theorem Device.draw_mac : d.draw.mac = d.mac := rfl
@[simp] theorem Device.draw_sn : d.draw.sn = d.sn := rfl
@[simp] theorem Device.draw_qsp : d.draw.qsp = d.qsp := rfl
@[simp] theorem Device.draw_dbg : d.draw.dbg = d.dbg := rfl
@[simp] theorem Device.draw_pwr : d.draw.pwr = d.pwr := rfl

/-! ### Device.setSg -/

@[simp] theorem Device.setSg_cfg (j : Nat) (x : SgState) : (d.setSg j x).cfg = d.cfg := rfl
@[simp] theorem Device.setSg_mode (j : Nat) (x : SgState) : (d.setSg j x).mode = d.mode := rfl
@[simp] theorem Device.setSg_prev (j : Nat) (x : SgState) : (d.setSg j x).prev = d.prev := rfl
@[simp] theorem Device.setSg_regs (j : Nat) (x : SgState) : (d.setSg j x).regs = d.regs := rfl
@[simp] theorem Device.setSg_berths (j : Nat) (x : SgState) : (d.setSg j x).berths = d.berths := rfl
@[simp] theorem Device.setSg_car (j : Nat) (x : SgState) : (d.setSg j x).car = d.car := rfl
@[simp] theorem Device.setSg_mem (j : Nat) (x : SgState) : (d.setSg j x).mem = d.mem := rfl
@[simp] theorem Device.setSg_bol (j : Nat) (x : SgState) : (d.setSg j x).bol = d.bol := rfl
@[simp] theorem Device.setSg_eng (j : Nat) (x : SgState) : (d.setSg j x).eng = d.eng := rfl
@[simp] theorem Device.setSg_pad (j : Nat) (x : SgState) : (d.setSg j x).pad = d.pad := rfl
@[simp] theorem Device.setSg_evf (j : Nat) (x : SgState) : (d.setSg j x).evf = d.evf := rfl
@[simp] theorem Device.setSg_tb (j : Nat) (x : SgState) : (d.setSg j x).tb = d.tb := rfl
@[simp] theorem Device.setSg_lpt (j : Nat) (x : SgState) : (d.setSg j x).lpt = d.lpt := rfl
@[simp] theorem Device.setSg_scn (j : Nat) (x : SgState) : (d.setSg j x).scn = d.scn := rfl
@[simp] theorem Device.setSg_rms (j : Nat) (x : SgState) : (d.setSg j x).rms = d.rms := rfl
@[simp] theorem Device.setSg_lhs (j : Nat) (x : SgState) : (d.setSg j x).lhs = d.lhs := rfl
@[simp] theorem Device.setSg_mac (j : Nat) (x : SgState) : (d.setSg j x).mac = d.mac := rfl
@[simp] theorem Device.setSg_sn (j : Nat) (x : SgState) : (d.setSg j x).sn = d.sn := rfl
@[simp] theorem Device.setSg_qsp (j : Nat) (x : SgState) : (d.setSg j x).qsp = d.qsp := rfl
@[simp] theorem Device.setSg_dbg (j : Nat) (x : SgState) : (d.setSg j x).dbg = d.dbg := rfl
@[simp] theorem Device.setSg_pwr (j : Nat) (x : SgState) : (d.setSg j x).pwr = d.pwr := rfl
@[simp] theorem Device.setSg_draws (j : Nat) (x : SgState) : (d.setSg j x).draws = d.draws := rfl

/-! ### Device.setTrace -/

@[simp] theorem Device.setTrace_cfg (t : TraceSys) : (d.setTrace t).cfg = d.cfg := rfl
@[simp] theorem Device.setTrace_mode (t : TraceSys) : (d.setTrace t).mode = d.mode := rfl
@[simp] theorem Device.setTrace_prev (t : TraceSys) : (d.setTrace t).prev = d.prev := rfl
@[simp] theorem Device.setTrace_regs (t : TraceSys) : (d.setTrace t).regs = d.regs := rfl
@[simp] theorem Device.setTrace_berths (t : TraceSys) : (d.setTrace t).berths = d.berths := rfl
@[simp] theorem Device.setTrace_car (t : TraceSys) : (d.setTrace t).car = d.car := rfl
@[simp] theorem Device.setTrace_mem (t : TraceSys) : (d.setTrace t).mem = d.mem := rfl
@[simp] theorem Device.setTrace_bol (t : TraceSys) : (d.setTrace t).bol = d.bol := rfl
@[simp] theorem Device.setTrace_eng (t : TraceSys) : (d.setTrace t).eng = d.eng := rfl
@[simp] theorem Device.setTrace_pad (t : TraceSys) : (d.setTrace t).pad = d.pad := rfl
@[simp] theorem Device.setTrace_evf (t : TraceSys) : (d.setTrace t).evf = d.evf := rfl
@[simp] theorem Device.setTrace_tb (t : TraceSys) : (d.setTrace t).tb = d.tb := rfl
@[simp] theorem Device.setTrace_lpt (t : TraceSys) : (d.setTrace t).lpt = d.lpt := rfl
@[simp] theorem Device.setTrace_scn (t : TraceSys) : (d.setTrace t).scn = d.scn := rfl
@[simp] theorem Device.setTrace_rms (t : TraceSys) : (d.setTrace t).rms = d.rms := rfl
@[simp] theorem Device.setTrace_lhs (t : TraceSys) : (d.setTrace t).lhs = d.lhs := rfl
@[simp] theorem Device.setTrace_bey (t : TraceSys) : (d.setTrace t).bey = d.bey := rfl
@[simp] theorem Device.setTrace_mac (t : TraceSys) : (d.setTrace t).mac = d.mac := rfl
@[simp] theorem Device.setTrace_sn (t : TraceSys) : (d.setTrace t).sn = d.sn := rfl
@[simp] theorem Device.setTrace_qsp (t : TraceSys) : (d.setTrace t).qsp = d.qsp := rfl
@[simp] theorem Device.setTrace_pwr (t : TraceSys) : (d.setTrace t).pwr = d.pwr := rfl
@[simp] theorem Device.setTrace_draws (t : TraceSys) : (d.setTrace t).draws = d.draws := rfl

/-! ### Device.sendRequest -/

@[simp] theorem Device.sendRequest_cfg (r : InitReq) : (d.sendRequest r).cfg = d.cfg := rfl
@[simp] theorem Device.sendRequest_mode (r : InitReq) : (d.sendRequest r).mode = d.mode := rfl
@[simp] theorem Device.sendRequest_prev (r : InitReq) : (d.sendRequest r).prev = d.prev := rfl
@[simp] theorem Device.sendRequest_regs (r : InitReq) : (d.sendRequest r).regs = d.regs := rfl
@[simp] theorem Device.sendRequest_berths (r : InitReq) : (d.sendRequest r).berths = d.berths := rfl
@[simp] theorem Device.sendRequest_car (r : InitReq) : (d.sendRequest r).car = d.car := rfl
@[simp] theorem Device.sendRequest_mem (r : InitReq) : (d.sendRequest r).mem = d.mem := rfl
@[simp] theorem Device.sendRequest_bol (r : InitReq) : (d.sendRequest r).bol = d.bol := rfl
@[simp] theorem Device.sendRequest_eng (r : InitReq) : (d.sendRequest r).eng = d.eng := rfl
@[simp] theorem Device.sendRequest_pad (r : InitReq) : (d.sendRequest r).pad = d.pad := rfl
@[simp] theorem Device.sendRequest_evf (r : InitReq) : (d.sendRequest r).evf = d.evf := rfl
@[simp] theorem Device.sendRequest_tb (r : InitReq) : (d.sendRequest r).tb = d.tb := rfl
@[simp] theorem Device.sendRequest_lpt (r : InitReq) : (d.sendRequest r).lpt = d.lpt := rfl
@[simp] theorem Device.sendRequest_scn (r : InitReq) : (d.sendRequest r).scn = d.scn := rfl
@[simp] theorem Device.sendRequest_rms (r : InitReq) : (d.sendRequest r).rms = d.rms := rfl
@[simp] theorem Device.sendRequest_lhs (r : InitReq) : (d.sendRequest r).lhs = d.lhs := rfl
@[simp] theorem Device.sendRequest_bey (r : InitReq) : (d.sendRequest r).bey = d.bey := rfl
@[simp] theorem Device.sendRequest_mac (r : InitReq) : (d.sendRequest r).mac = d.mac := rfl
@[simp] theorem Device.sendRequest_sn (r : InitReq) : (d.sendRequest r).sn = d.sn := rfl
@[simp] theorem Device.sendRequest_dbg (r : InitReq) : (d.sendRequest r).dbg = d.dbg := rfl
@[simp] theorem Device.sendRequest_pwr (r : InitReq) : (d.sendRequest r).pwr = d.pwr := rfl

/-! ### Memory's parts -/

@[simp] theorem Device.poke_mem_ecc (a : Nat) (bs : List Byte) : (d.poke a bs).mem.ecc = d.mem.ecc := rfl
@[simp] theorem Device.poke_mem_dirty (a : Nat) (bs : List Byte) : (d.poke a bs).mem.dirty = d.mem.dirty := rfl
@[simp] theorem Device.poke_mem_scrubAt (a : Nat) (bs : List Byte) : (d.poke a bs).mem.scrubAt = d.mem.scrubAt := rfl
@[simp] theorem Device.poke_mem_scrubbed (a : Nat) (bs : List Byte) : (d.poke a bs).mem.scrubbed = d.mem.scrubbed := rfl
@[simp] theorem Device.setEcc_mem_bytes (a : Nat) (e : Ecc) : (d.setEcc a e).mem.bytes = d.mem.bytes := rfl
@[simp] theorem Device.setEcc_mem_dirty (a : Nat) (e : Ecc) : (d.setEcc a e).mem.dirty = d.mem.dirty := rfl
@[simp] theorem Device.setEcc_mem_scrubAt (a : Nat) (e : Ecc) : (d.setEcc a e).mem.scrubAt = d.mem.scrubAt := rfl
@[simp] theorem Device.setEcc_mem_scrubbed (a : Nat) (e : Ecc) : (d.setEcc a e).mem.scrubbed = d.mem.scrubbed := rfl

/-! ### A berth's parts -/

@[simp] theorem Berth.setSr_gpr (n v : Nat) : (x.setSr n v).gpr = x.gpr := rfl
@[simp] theorem Berth.setSr_pc (n v : Nat) : (x.setSr n v).pc = x.pc := rfl
@[simp] theorem Berth.setSr_wait (n v : Nat) : (x.setSr n v).wait = x.wait := rfl
@[simp] theorem Berth.setSr_shadow (n v : Nat) : (x.setSr n v).shadow = x.shadow := rfl
@[simp] theorem Berth.setSr_loads (n v : Nat) : (x.setSr n v).loads = x.loads := rfl
@[simp] theorem Berth.setSr_stores (n v : Nat) : (x.setSr n v).stores = x.stores := rfl
@[simp] theorem Berth.setSr_seq (n v : Nat) : (x.setSr n v).seq = x.seq := rfl
@[simp] theorem Berth.setSr_armed (n v : Nat) : (x.setSr n v).armed = x.armed := rfl
@[simp] theorem Berth.setSr_faults (n v : Nat) : (x.setSr n v).faults = x.faults := rfl
@[simp] theorem Berth.setSr_reads (n v : Nat) : (x.setSr n v).reads = x.reads := rfl
@[simp] theorem Berth.setSr_writes (n v : Nat) : (x.setSr n v).writes = x.writes := rfl
@[simp] theorem Berth.setSr_beats (n v : Nat) : (x.setSr n v).beats = x.beats := rfl
@[simp] theorem Berth.setSr_badBeat (n v : Nat) : (x.setSr n v).badBeat = x.badBeat := rfl
@[simp] theorem Berth.setSr_woke (n v : Nat) : (x.setSr n v).woke = x.woke := rfl
@[simp] theorem Berth.setWindow_gpr (c n : Nat) : (x.setWindow c n).gpr = x.gpr := rfl
@[simp] theorem Berth.setWindow_pc (c n : Nat) : (x.setWindow c n).pc = x.pc := rfl
@[simp] theorem Berth.setWindow_wait (c n : Nat) : (x.setWindow c n).wait = x.wait := rfl
@[simp] theorem Berth.setWindow_shadow (c n : Nat) : (x.setWindow c n).shadow = x.shadow := rfl
@[simp] theorem Berth.setWindow_loads (c n : Nat) : (x.setWindow c n).loads = x.loads := rfl
@[simp] theorem Berth.setWindow_stores (c n : Nat) : (x.setWindow c n).stores = x.stores := rfl
@[simp] theorem Berth.setWindow_seq (c n : Nat) : (x.setWindow c n).seq = x.seq := rfl
@[simp] theorem Berth.setWindow_armed (c n : Nat) : (x.setWindow c n).armed = x.armed := rfl
@[simp] theorem Berth.setWindow_faults (c n : Nat) : (x.setWindow c n).faults = x.faults := rfl
@[simp] theorem Berth.setWindow_reads (c n : Nat) : (x.setWindow c n).reads = x.reads := rfl
@[simp] theorem Berth.setWindow_writes (c n : Nat) : (x.setWindow c n).writes = x.writes := rfl
@[simp] theorem Berth.setWindow_beats (c n : Nat) : (x.setWindow c n).beats = x.beats := rfl
@[simp] theorem Berth.setWindow_badBeat (c n : Nat) : (x.setWindow c n).badBeat = x.badBeat := rfl
@[simp] theorem Berth.setWindow_woke (c n : Nat) : (x.setWindow c n).woke = x.woke := rfl

end Sys2Proof.Machine
end

