-- ==== Sys2Proof/Laws/Store.lean ====
section
/-! SUPPORT. Sparse stores: a read after a write, and the canonical form that every operation keeps. -/

namespace Sys2Proof.Machine

variable {α : Type}

@[simp] theorem Store.get_nil (dflt : Nat → α) (k : Nat) : Store.get ([] : Store α) dflt k = dflt k := rfl

theorem Store.get_cons (j : Nat) (v : α) (r : Store α) (dflt : Nat → α) (k : Nat) :
    Store.get ((j, v) :: r) dflt k = if j = k then v else Store.get r dflt k := rfl

theorem Store.get_erase_same (m : Store α) (dflt : Nat → α) (k : Nat) : (Store.erase m k).get dflt k = dflt k := by
  induction m with
  | nil => rfl
  | cons e r ih =>
    obtain ⟨j, v⟩ := e
    by_cases h : j = k
    · simpa [Store.erase, h] using ih
    · simpa [Store.erase, h, Store.get_cons] using ih

theorem Store.get_erase_other (m : Store α) (dflt : Nat → α) {k j : Nat} (h : j ≠ k) :
    (Store.erase m k).get dflt j = m.get dflt j := by
  induction m with
  | nil => rfl
  | cons e r ih =>
    obtain ⟨i, v⟩ := e
    by_cases hi : i = k
    · subst hi
      have : ¬ i = j := fun q => h q.symm
      simpa [Store.erase, Store.get_cons, this] using ih
    · have e1 : Store.erase ((i, v) :: r) k = (i, v) :: Store.erase r k := by simp [Store.erase, hi]
      rw [e1, Store.get_cons, Store.get_cons, ih]

theorem Store.get_insert (m : Store α) (dflt : Nat → α) (k j : Nat) (v : α) (hk : ∀ e ∈ m, e.1 ≠ k) :
    (Store.insert m k v).get dflt j = if k = j then v else m.get dflt j := by
  induction m with
  | nil => simp [Store.insert, Store.get_cons]
  | cons e r ih =>
    obtain ⟨i, u⟩ := e
    have hi : i ≠ k := hk (i, u) (by simp)
    have hr : ∀ e ∈ r, e.1 ≠ k := fun e he => hk e (by simp [he])
    unfold Store.insert
    split
    · simp [Store.get_cons]
    · rw [Store.get_cons, ih hr, Store.get_cons]
      by_cases h1 : i = j
      · subst h1
        simp [Ne.symm hi]
      · simp [h1]

theorem Store.mem_erase_ne (m : Store α) (k : Nat) : ∀ e ∈ Store.erase m k, e.1 ≠ k := by
  intro e he
  simpa using (List.mem_filter.mp he).2

/-- What a store reads as after a write: the value at its key, and everywhere else what it read before. -/
theorem Store.get_put [DecidableEq α] (m : Store α) (dflt : Nat → α) (k j : Nat) (v : α) :
    (Store.put m dflt k v).get dflt j = if k = j then v else m.get dflt j := by
  unfold Store.put
  split
  · rename_i h
    by_cases hj : k = j
    · subst hj
      simp [Store.get_erase_same, h]
    · simp [hj, Store.get_erase_other m dflt (Ne.symm hj)]
  · rw [Store.get_insert _ _ _ _ _ (Store.mem_erase_ne m k)]
    by_cases hj : k = j
    · simp [hj]
    · simp [hj, Store.get_erase_other m dflt (Ne.symm hj)]

@[simp] theorem Store.get_put_same [DecidableEq α] (m : Store α) (dflt : Nat → α) (k : Nat) (v : α) :
    (Store.put m dflt k v).get dflt k = v := by simp [Store.get_put]

theorem Store.get_put_other [DecidableEq α] (m : Store α) (dflt : Nat → α) {k j : Nat} (v : α) (h : k ≠ j) :
    (Store.put m dflt k v).get dflt j = m.get dflt j := by simp [Store.get_put, h]

/-! ### Writes of one key -/

theorem Store.get_absent (m : Store α) (dflt : Nat → α) (k : Nat) (h : ∀ x ∈ m, x.1 ≠ k) : m.get dflt k = dflt k := by
  induction m with
  | nil => rfl
  | cons y t ih =>
    have := h y (by simp)
    rw [Store.get_cons y.1 y.2 t, if_neg this]
    exact ih fun x hx => h x (by simp [hx])

theorem Store.erase_erase (m : Store α) (k : Nat) : Store.erase (Store.erase m k) k = Store.erase m k := by
  simp [Store.erase]

theorem Store.erase_insert (m : Store α) (k : Nat) (v : α) (hk : ∀ e ∈ m, e.1 ≠ k) : Store.erase (Store.insert m k v) k = m := by
  induction m with
  | nil => simp [Store.insert, Store.erase]
  | cons e r ih =>
    have he : e.1 ≠ k := hk e (by simp)
    have hr : ∀ x ∈ r, x.1 ≠ k := fun x hx => hk x (by simp [hx])
    have hfix : Store.erase r k = r := by
      unfold Store.erase
      rw [List.filter_eq_self]
      intro x hx
      simpa using hr x hx
    unfold Store.insert
    split
    · simpa [Store.erase, he] using hfix
    · have := ih hr
      simp [Store.erase, he] at this ⊢
      exact this

/-- The later of two writes of one key stands. -/
theorem Store.put_put [DecidableEq α] (m : Store α) (dflt : Nat → α) (k : Nat) (u v : α) :
    Store.put (Store.put m dflt k u) dflt k v = Store.put m dflt k v := by
  have h : Store.erase (Store.put m dflt k u) k = Store.erase m k := by
    unfold Store.put
    split
    · exact Store.erase_erase m k
    · exact Store.erase_insert _ k u (Store.mem_erase_ne m k)
  have e1 : Store.put (Store.put m dflt k u) dflt k v =
      if v = dflt k then (Store.put m dflt k u).erase k else ((Store.put m dflt k u).erase k).insert k v := rfl
  rw [e1, h]
  rfl

/-! ### The canonical form -/

theorem Store.wf_cons [DecidableEq α] (k : Nat) (v : α) (r : Store α) (dflt : Nat → α) :
    Store.wf ((k, v) :: r) dflt = true ↔ v ≠ dflt k ∧ (∀ e ∈ r, k < e.1) ∧ Store.wf r dflt = true := by
  simp [Store.wf, and_assoc]

/-- Leaving entries out keeps the canonical form. -/
theorem Store.wf_filter [DecidableEq α] (m : Store α) (dflt : Nat → α) (p : Nat × α → Bool) (h : Store.wf m dflt = true) :
    Store.wf (m.filter p) dflt = true := by
  induction m with
  | nil => rfl
  | cons e r ih =>
    obtain ⟨k, v⟩ := e
    obtain ⟨h1, h2, h3⟩ := (Store.wf_cons k v r dflt).mp h
    by_cases hp : p (k, v) = true
    · rw [List.filter_cons_of_pos hp, Store.wf_cons]
      exact ⟨h1, fun e he => h2 e (List.mem_filter.mp he).1, ih h3⟩
    · rw [List.filter_cons_of_neg hp]
      exact ih h3

theorem Store.wf_erase [DecidableEq α] (m : Store α) (dflt : Nat → α) (k : Nat) (h : Store.wf m dflt = true) :
    Store.wf (Store.erase m k) dflt = true := Store.wf_filter m dflt _ h

theorem Store.mem_insert (m : Store α) (k : Nat) (v : α) (e : Nat × α) (he : e ∈ Store.insert m k v) :
    e = (k, v) ∨ e ∈ m := by
  induction m with
  | nil => simpa [Store.insert] using he
  | cons x r ih =>
    unfold Store.insert at he
    split at he
    · simpa using he
    · rcases List.mem_cons.mp he with h | h
      · exact .inr (by simp [h])
      · rcases ih h with h | h
        · exact .inl h
        · exact .inr (by simp [h])

theorem Store.wf_insert [DecidableEq α] (m : Store α) (dflt : Nat → α) (k : Nat) (v : α) (hv : v ≠ dflt k)
    (hk : ∀ e ∈ m, e.1 ≠ k) (h : Store.wf m dflt = true) : Store.wf (Store.insert m k v) dflt = true := by
  induction m with
  | nil => simp [Store.insert, Store.wf, hv]
  | cons x r ih =>
    obtain ⟨i, u⟩ := x
    obtain ⟨h1, h2, h3⟩ := (Store.wf_cons i u r dflt).mp h
    have hi : i ≠ k := hk (i, u) (by simp)
    unfold Store.insert
    split
    · rename_i hlt
      rw [Store.wf_cons]
      refine ⟨hv, fun e he => ?_, h⟩
      rcases List.mem_cons.mp he with q | q
      · simpa [q] using hlt
      · exact Nat.lt_trans hlt (h2 e q)
    · rename_i hge
      rw [Store.wf_cons]
      refine ⟨h1, fun e he => ?_, ih (fun e he => hk e (by simp [he])) h3⟩
      rcases Store.mem_insert r k v e he with q | q
      · subst q
        simp at hge
        omega
      · exact h2 e q

/-- A write keeps the canonical form. -/
theorem Store.wf_put [DecidableEq α] (m : Store α) (dflt : Nat → α) (k : Nat) (v : α) (h : Store.wf m dflt = true) :
    Store.wf (Store.put m dflt k v) dflt = true := by
  unfold Store.put
  split
  · exact Store.wf_erase m dflt k h
  · exact Store.wf_insert _ dflt k v (by assumption) (Store.mem_erase_ne m k) (Store.wf_erase m dflt k h)

/-- Writing back what a canonical store reads as changes nothing. -/
theorem Store.put_get [DecidableEq α] (m : Store α) (dflt : Nat → α) (k : Nat) (h : Store.wf m dflt = true) :
    Store.put m dflt k (m.get dflt k) = m := by
  induction m with
  | nil => simp [Store.put, Store.erase]
  | cons e r ih =>
    obtain ⟨j, v⟩ := e
    obtain ⟨h1, h2, h3⟩ := (Store.wf_cons j v r dflt).mp h
    have hr : Store.erase r j = r := by
      unfold Store.erase
      rw [List.filter_eq_self]
      intro x hx
      have := h2 x hx
      simp
      omega
    by_cases hj : j = k
    · subst hj
      have he : Store.erase ((j, v) :: r) j = r := by
        show List.filter _ _ = r
        simpa [Store.erase] using hr
      unfold Store.put
      rw [Store.get_cons, if_pos rfl, if_neg h1, he]
      cases r with
      | nil => rfl
      | cons y t => simp [Store.insert, h2 y (by simp)]
    · have ih' := ih h3
      have he : Store.erase ((j, v) :: r) k = (j, v) :: Store.erase r k := by simp [Store.erase, hj]
      unfold Store.put at ih' ⊢
      rw [Store.get_cons, if_neg hj, he]
      by_cases hv : Store.get r dflt k = dflt k
      · rw [if_pos hv] at ih' ⊢
        rw [ih']
      · rw [if_neg hv] at ih' ⊢
        have hjk : j < k := by
          by_contra hc
          apply hv
          have hnone : ∀ x ∈ r, x.1 ≠ k := fun x hx => by
            have := h2 x hx
            omega
          exact Store.get_absent r dflt k hnone
        have : ¬ k < j := by omega
        simp only [Store.insert, this, if_false]
        rw [ih']

/-- Any number of writes keep the canonical form. -/
theorem Store.wf_foldl_put [DecidableEq α] {β : Type} (l : List β) (m : Store α) (dflt : Nat → α) (key : β → Nat)
    (val : β → α) (h : Store.wf m dflt = true) :
    Store.wf (l.foldl (fun m b => Store.put m dflt (key b) (val b)) m) dflt = true := by
  induction l generalizing m with
  | nil => exact h
  | cons b r ih => exact ih _ (Store.wf_put m dflt _ _ h)

end Sys2Proof.Machine
end

