-- ==== Sys2Proof/Laws/Registers.lean ====
section
/-! SUPPORT. Registers: a read after a write, of the control window, of a berth and of its special registers. -/

namespace Sys2Proof.Machine

variable (d : Device) (x : Berth)

/-! ### The control window as storage -/

theorem Device.reg_wr (off j v : Nat) : (d.wr off v).reg j = if off = j then BitVec.ofNat 32 v else d.reg j :=
  Store.get_put _ _ _ _ _

theorem Device.rd_wr (off j v : Nat) : (d.wr off v).rd j = if off = j then v % 2 ^ 32 else d.rd j := by
  unfold Device.rd
  rw [Device.reg_wr]
  split <;> simp

@[simp] theorem Device.rd_wr_same (off v : Nat) : (d.wr off v).rd off = v % 2 ^ 32 := by simp [Device.rd_wr]

theorem Device.rd_wr_other {off j : Nat} (v : Nat) (h : off ≠ j) : (d.wr off v).rd j = d.rd j := by simp [Device.rd_wr, h]

@[simp] theorem Device.rd_setBerth (b j : Nat) (y : Berth) : (d.setBerth b y).rd j = d.rd j := rfl

theorem Device.rd_lt (off : Nat) : d.rd off < 2 ^ 32 := (d.reg off).isLt

/-! ### Berths -/

theorem Device.berth_setBerth (b c : Nat) (y : Berth) : (d.setBerth b y).berth c = if b = c then y else d.berth c :=
  Store.get_put _ _ _ _ _

@[simp] theorem Device.berth_setBerth_same (b : Nat) (y : Berth) : (d.setBerth b y).berth b = y := by
  simp [Device.berth_setBerth]

theorem Device.berth_setBerth_other {b c : Nat} (y : Berth) (h : b ≠ c) : (d.setBerth b y).berth c = d.berth c := by
  simp [Device.berth_setBerth, h]

@[simp] theorem Device.berth_wr (off v b : Nat) : (d.wr off v).berth b = d.berth b := rfl

/-! ### Special registers and the window -/

theorem Berth.srN_setSr (n j v : Nat) : (x.setSr n v).srN j = if n = j then v % 2 ^ 32 else x.srN j := by
  unfold Berth.srN Berth.setSr
  rw [Store.get_put]
  split <;> simp

@[simp] theorem Berth.srN_setSr_same (n v : Nat) : (x.setSr n v).srN n = v % 2 ^ 32 := by simp [Berth.srN_setSr]

theorem Berth.phys_setPhys (p q : Nat) (v : Word) :
    (x.setPhys p v).phys q = if q = 0 then 0 else if p = q then v else x.phys q := by
  unfold Berth.phys Berth.setPhys
  by_cases hq : q = 0
  · simp [hq]
  · by_cases hp : p = 0
    · subst hp
      have : ¬ 0 = q := fun h => hq h.symm
      simp [hq, this]
    · simp [hq, hp, Store.get_put]

@[simp] theorem Berth.setPhys_sr (p : Nat) (v : Word) : (x.setPhys p v).sr = x.sr := by
  unfold Berth.setPhys
  split <;> rfl

@[simp] theorem Berth.setReg_sr (r : Nat) (v : Word) : (x.setReg r v).sr = x.sr := by simp [Berth.setReg]

@[simp] theorem Berth.srN_setReg (r n : Nat) (v : Word) : (x.setReg r v).srN n = x.srN n := by simp [Berth.srN]

/-- A register's write reaches its physical register and no other; g0 keeps zero (R69). -/
theorem Berth.phys_setReg (r q : Nat) (v : Word) :
    (x.setReg r v).phys q = if q = 0 then 0 else if physReg x.cwp r = q then v else x.phys q :=
  Berth.phys_setPhys x _ q v

end Sys2Proof.Machine
end

