-- ==== Sys2Proof/Laws/Issue.lean ====
section
/-! SUPPORT. What the issue of an instruction comes to at a berth that is ready, said once: the effect of its operation, completed, or
its exception. -/

namespace Sys2Proof.Machine

variable (d : Device)

theorem bits3_lt (v : Nat) : bitsOf v 0 3 < 8 := Nat.mod_lt _ (by decide)

/-- Comparators with no KIND match nothing (R494). -/
theorem Device.cmpHits_unwatched (b : Nat) (as : List (Nat × Nat × Nat)) (h : d.watched = false)
    (hk : ∀ x ∈ as, 1 ≤ x.1 ∧ x.1 ≤ 3) : d.cmpHits b as = [] := by
  unfold Device.watched at h
  rw [Bool.or_eq_false_iff, List.any_eq_false] at h
  unfold Device.cmpHits
  rw [List.filter_eq_nil_iff]
  intro k hk4
  have hw := h.2 k hk4
  have hw' : ¬ (1 ≤ bitsOf (d.rd (Reg.DBG_CMPC k)) 0 3 ∧ bitsOf (d.rd (Reg.DBG_CMPC k)) 0 3 ≤ 4) := by
    intro q
    exact hw (by rw [Bool.and_eq_true]; exact ⟨decide_eq_true q.1, decide_eq_true q.2⟩)
  rw [Bool.not_eq_true, List.any_eq_false]
  intro x hx hm
  obtain ⟨h1, h3⟩ := hk x hx
  unfold Device.cmpMatch at hm
  simp only [Bool.and_eq_true, Bool.or_eq_true, beq_iff_eq, decide_eq_true_eq] at hm
  obtain ⟨⟨⟨_, hkind⟩, _⟩, _⟩ := hm
  apply hw'
  omega

@[simp] theorem Device.cmpActions_nil (b : Nat) : d.cmpActions b [] = d := by simp [Device.cmpActions]

/-- The fetch of words without an error changes nothing. -/
theorem Device.fetchCheck_clean (b pc len : Nat) (h : d.codeClean b pc len = true) : d.fetchCheck b pc len = d := by
  unfold Device.fetchCheck
  unfold Device.codeClean at h
  rw [List.all_eq_true] at h
  generalize fetchAddrs pc len = l at h
  induction l with
  | nil => rfl
  | cons a r ih =>
    have ha := h a (by simp)
    have hr := ih fun c hc => h c (by simp [hc])
    rw [List.foldl_cons]
    split
    · exact hr
    · split
      · rename_i g hg
        rw [hg] at ha
        have : d.eccAt g = Ecc.clean := by simpa using ha
        simpa [Device.checkRead, this] using hr
      · exact hr

theorem Berth.interlocked_none (x : Berth) (op : Op) (h : x.loads = []) : x.interlocked op = false := by
  unfold Berth.interlocked Berth.loading
  rw [h]
  cases op.dest <;> simp

theorem Device.externalLoads_nil (b : Nat) (h : (d.berth b).loads = []) : d.externalLoads b = [] := by
  simp [Device.externalLoads, h]

/-- What `ready` says, part by part. -/
theorem Device.ready_parts (i : Site) (h : d.ready i = true) :
    d.mayIssue i.b = true ∧ (d.berth i.b).faults = [] ∧ d.interruptLine i.b = none ∧ (d.berth i.b).loads = [] ∧
    (d.berth i.b).writes = [] ∧ d.watched = false ∧ d.fetchExc i.b (d.berth i.b).pl (d.berth i.b).pc.toNat i.len = none ∧
    d.codeClean i.b (d.berth i.b).pc.toNat i.len = true ∧
    d.beatsWanted i.b (fetchAddrs (d.berth i.b).pc.toNat i.len) = [] ∧ d.twinDiffers i.b = false ∧
    (d.timed i.b = false ∨ d.fetchBreach i.b (d.berth i.b).pc.toNat = false) := by
  simp only [Device.ready, Bool.and_eq_true, Bool.or_eq_true, Bool.not_eq_true', List.isEmpty_iff, Option.isNone_iff_eq_none] at h
  obtain ⟨⟨⟨⟨⟨⟨⟨⟨⟨⟨h1, h2⟩, h3⟩, h4⟩, hw⟩, h5⟩, h6⟩, h7⟩, hb⟩, h8⟩, h9⟩ := h
  exact ⟨h1, h2, h3, h4, hw, h5, h6, h7, hb, h8, h9⟩

/-- At a berth that is ready, the instruction's operation runs and its effect or its exception follows (R45, R96). -/
theorem Device.issue_ready (i : Site) (op : Op) (h : d.ready i = true) :
    d.issue i op = match op.run (d.ctx i) d with
      | .done e f => e.complete (d.ctx i) f
      | .exc e code sub a => e.raiseFetched (d.ctx i) code sub a
      | .stall => d
      | .words l as => d.askWords i.b l as
      | .full st => (d.needEntry i.b st).breach i.b 6 := by
  obtain ⟨h1, h2, h3, h4, _, h5, h6, h7, hb, h8, _⟩ := d.ready_parts i h
  have hc : d.cmpHits i.b [(1, (d.berth i.b).pc.toNat, i.len)] = [] :=
    d.cmpHits_unwatched _ _ h5 (by intro x hx; simp at hx; subst hx; exact ⟨Nat.le_refl 1, by norm_num⟩)
  unfold Device.issue
  simp only [Site.b, Site.len] at *
  simp only [Device.fetchWanted, h1, h2, h3, h6, hb, hc, Device.cmpActions_nil]
  simp only [Bool.true_eq_false, if_false, List.isEmpty_nil, Option.isSome_none, Bool.and_not_self, or_self, Bool.false_eq_true]
  unfold Device.issueHere
  simp only [h6, d.externalLoads_nil _ h4, (d.berth _).interlocked_none op h4, h8, d.fetchCheck_clean _ _ _ h7,
    List.isEmpty_nil, Bool.not_true, Bool.false_and, Bool.or_self, Bool.false_eq_true, if_false]
  simp only [Device.ctx, Site.b, Site.len]
  cases hrun : op.run ⟨i.berth.toNat, (d.berth i.berth.toNat).pc.toNat, if i.short = true then 2 else 4, (d.berth i.berth.toNat).pl,
    false⟩ d <;> simp

/-! ### What follows the effect -/

@[simp] theorem Device.issuedOne_berth_same (b : Nat) (l : Bool) : (d.issuedOne b l).berth b = (d.berth b).issued :=
  Device.berth_setBerth_same _ _ _

theorem Device.issuedOne_berth_other {b c : Nat} (l : Bool) (h : b ≠ c) : (d.issuedOne b l).berth c = d.berth c :=
  Device.berth_setBerth_other (d.dropNeed b) _ h
@[simp] theorem Device.issuedOne_rd (b off : Nat) (l : Bool) : (d.issuedOne b l).rd off = d.rd off := rfl

theorem Device.inflightPeak_berths : d.inflightPeak.berths = d.berths := by
  unfold Device.inflightPeak
  rw [apply_ite Device.berths, Device.setFld_berths, ite_self]

@[simp] theorem Device.inflightPeak_berth (c : Nat) : d.inflightPeak.berth c = d.berth c := by
  unfold Device.berth
  rw [Device.inflightPeak_berths]

theorem Device.inflightPeak_rd (off : Nat) (h : off ≠ Reg.MEM_INFLT) : d.inflightPeak.rd off = d.rd off := by
  unfold Device.inflightPeak
  split
  · exact Device.rd_wr_other d _ (Ne.symm h)
  · rfl

theorem Device.inflightPeak_eq : d.inflightPeak = { d with regs := d.inflightPeak.regs } := by
  unfold Device.inflightPeak
  split
  · simp only [Device.setFld, Device.wr]
  · rfl

/-- Two devices that show the same registers have the same comparators and trace controls. -/
theorem Device.watched_congr (e : Device) (h : ∀ off, off ≠ Reg.MEM_INFLT → e.rd off = d.rd off) : e.watched = d.watched := by
  have h0 : e.rd Reg.DBG_TCTL = d.rd Reg.DBG_TCTL := h _ (by decide)
  have hc : ∀ k ∈ List.range 4, e.rd (Reg.DBG_CMPC k) = d.rd (Reg.DBG_CMPC k) := by
    intro k hk
    apply h
    have : k < 4 := by simpa using hk
    interval_cases k <;> decide
  unfold Device.watched Device.flag Device.fld
  rw [h0]
  congr 1
  rw [Bool.eq_iff_iff, List.any_eq_true, List.any_eq_true]
  constructor <;> rintro ⟨k, hk, q⟩ <;> refine ⟨k, hk, ?_⟩ <;> simpa [hc k hk] using q

/-- No packet is recorded of a berth that nothing watches. -/
theorem Device.traceFlow_unwatched (b kind t x : Nat) (h : d.watched = false) : d.traceFlow b kind t x = d := by
  unfold Device.watched at h
  rw [Bool.or_eq_false_iff, Bool.and_eq_false_iff, Bool.or_eq_false_iff] at h
  unfold Device.traceFlow
  split
  · rename_i q
    rw [Bool.and_eq_true] at q
    rcases h.1 with g | g
    · simp [Device.record, g]
    · simp [g.1] at q
  · rfl

theorem bits_flag_congr (e : Device) (off i : Nat) (h : e.rd off = d.rd off) : e.flag off i = d.flag off i := by
  simp [Device.flag, h]

/-- A breach of a FREE berth does nothing (R50). -/
theorem Device.breach_free (b cause : Nat) (h : d.timed b = false) : d.breach b cause = d := by simp [Device.breach, h]

/-- After an effect that nothing watches and that breaks no timing only the berth goes on. -/
theorem Device.complete_quiet (c : Ctx) (e : Effect) (hw : d.watched = false) (hb : d.timed c.b = false ∨ e.breach = 0)
    (hf : d.timed c.b = false ∨ d.fetchBreach c.b c.pc = false) :
    d.complete c e = ((d.setBerth c.b ((d.berth c.b).advance c.pc c.len e)).issuedOne c.b e.shadow.isSome).inflightPeak := by
  unfold Device.complete
  set d1 := ((d.setBerth c.b ((d.berth c.b).advance c.pc c.len e)).issuedOne c.b e.shadow.isSome).inflightPeak with hd1
  have hrd : ∀ off, off ≠ Reg.MEM_INFLT → d1.rd off = d.rd off := fun off ho => by
    rw [hd1, Device.inflightPeak_rd _ _ ho]
    rfl
  have hw1 : d1.watched = false := by rw [d.watched_congr d1 hrd, hw]
  have hk : Reg.CAR_BCFG (coreOf c.b) (c.b % 16) ≠ Reg.MEM_INFLT := by
    unfold Reg.CAR_BCFG Reg.MEM_INFLT
    omega
  have ht1 : d1.timed c.b = d.timed c.b := bits_flag_congr d d1 _ _ (hrd _ hk)
  have hf1 : d1.fetchBreach c.b c.pc = d.fetchBreach c.b c.pc := by
    have : d1.cfg = d.cfg := by
      rw [hd1, Device.inflightPeak_eq]
      rfl
    simp [Device.fetchBreach, Device.placeFor, this]
  have h3 : (if d1.fetchBreach c.b c.pc = true then d1.breach c.b 2 else d1) = d1 := by
    rw [hf1]
    rcases hf with q | q
    · rw [Device.breach_free d1 _ _ (by rw [ht1, q])]
      simp
    · simp [q]
  have h4 : (if e.breach = 0 then d1 else d1.breach c.b e.breach) = d1 := by
    rcases hb with q | q
    · rw [Device.breach_free d1 _ _ (by rw [ht1, q])]
      simp
    · simp [q]
  have tail : ∀ d2, d2 = d1 →
      (let d3 := if d2.fetchBreach c.b c.pc then d2.breach c.b 2 else d2
       let d4 := if e.breach = 0 then d3 else d3.breach c.b e.breach
       d4.cmpActions c.b (d4.cmpHits c.b (e.access.map fun x => (if x.1 then 3 else 2, x.2)))) = d1 := by
    intro d2 h
    subst h
    simp only [h3, h4]
    rw [Device.cmpHits_unwatched _ _ _ hw1, Device.cmpActions_nil]
    intro x hx
    simp only [List.mem_map] at hx
    obtain ⟨y, _, rfl⟩ := hx
    cases y.1 <;> simp
  refine tail _ ?_
  cases e.target with
  | none => rfl
  | some t => simp [Device.traceFlow_unwatched d1 _ _ _ _ hw1]

/-! ### An effect inside the berth -/

theorem Device.watched_setBerth (b : Nat) (y : Berth) : (d.setBerth b y).watched = d.watched :=
  d.watched_congr _ fun _ _ => rfl

/-- At a berth that is ready, an effect that only changes the berth leaves the berth gone on and nothing else. -/
theorem Device.complete_inside (i : Site) (y : Berth) (e : Effect) (h : d.ready i = true)
    (hb : d.timed i.b = false ∨ e.breach = 0) :
    (d.setBerth i.b y).complete (d.ctx i) e =
      ((d.setBerth i.b (y.advance (d.berth i.b).pc.toNat i.len e)).issuedOne i.b e.shadow.isSome).inflightPeak := by
  obtain ⟨_, _, _, _, _, h5, _, _, _, _, h9⟩ := d.ready_parts i h
  have hbb : ((d.setBerth i.b y).setBerth i.b (y.advance (d.berth i.b).pc.toNat i.len e)) =
      d.setBerth i.b (y.advance (d.berth i.b).pc.toNat i.len e) := by
    unfold Device.setBerth
    congr 1
    exact Store.put_put _ _ _ _ _
  rw [Device.complete_quiet (d.setBerth i.b y) (d.ctx i) e (by rw [Device.watched_setBerth, h5]) hb h9]
  simp only [Device.ctx, Device.berth_setBerth_same]
  rw [hbb]

theorem Device.setBerth_self (b : Nat) (hw : Store.wf d.berths berthDefault = true) : d.setBerth b (d.berth b) = d := by
  unfold Device.setBerth Device.berth
  rw [Store.put_get _ _ _ hw]

/-- What such an effect leaves. -/
theorem Device.leaves_inside (i : Site) (y : Berth) (l : Bool) :
    d.Leaves i y.issued { ((d.setBerth i.b y).issuedOne i.b l).inflightPeak with cfg := d.cfg } := by
  refine ⟨?_, ?_, ?_, ?_⟩
  · show (((d.setBerth i.b y).issuedOne i.b l).inflightPeak).berth i.b = y.issued
    simp
  · intro c hc
    show (((d.setBerth i.b y).issuedOne i.b l).inflightPeak).berth c = d.berth c
    rw [Device.inflightPeak_berth, Device.issuedOne_berth_other _ l (Ne.symm hc), Device.berth_setBerth_other d y (Ne.symm hc)]
  · intro off ho
    have hcfg : (((d.setBerth i.b y).issuedOne i.b l).inflightPeak).cfg = d.cfg := by
      rw [Device.inflightPeak_eq]
      rfl
    have : ({ ((d.setBerth i.b y).issuedOne i.b l).inflightPeak with cfg := d.cfg } : Device) =
        ((d.setBerth i.b y).issuedOne i.b l).inflightPeak := by rw [← hcfg]
    rw [this, Device.inflightPeak_rd _ _ ho]
    rfl
  · rw [Device.inflightPeak_eq]
    rfl

end Sys2Proof.Machine
end

