-- ==== Sys2Proof/Laws/Memory.lean ====
section
/-! SUPPORT. The canonical form of memory, kept by every operation that writes it: bytes, check bits, records, the trace buffer, and
the checked writes of a word, a span and an image bit with the events that they raise. -/

namespace Sys2Proof.Machine

/-- The memory of a device keeps its canonical form. -/
abbrev Device.formed (d : Device) : Prop := Memory.wf d.mem = true

variable {d : Device}

theorem formed_of_mem {e : Device} (h : e.mem = d.mem) (hd : d.formed) : e.formed := by
  rw [Device.formed, h]
  exact hd

theorem ite_formed {c : Prop} [Decidable c] {x y : Device} (hx : x.formed) (hy : y.formed) : (if c then x else y).formed := by
  split <;> assumption

theorem foldl_formed {β : Type} (f : Device → β → Device) (h : ∀ e b, e.formed → (f e b).formed) (l : List β) (hd : d.formed) :
    (l.foldl f d).formed := by
  induction l generalizing d with
  | nil => exact hd
  | cons b r ih => exact ih (h d b hd)

theorem foldl_mem {β : Type} (f : Device → β → Device) (h : ∀ e b, (f e b).mem = e.mem) (l : List β) :
    (l.foldl f d).mem = d.mem := by
  induction l generalizing d with
  | nil => rfl
  | cons b r ih => exact ih.trans (h d b)

/-! ### Bytes, check bits and records -/

theorem pokeBytes_wf (m : List Host.Cell) (a : Nat) (bs : List Byte) (h : Store.wf m (fun _ => (0 : Byte)) = true) :
    Store.wf (pokeBytes m a bs) (fun _ => (0 : Byte)) = true := by
  induction bs generalizing m a with
  | nil => exact h
  | cons b r ih => exact ih _ _ (Store.wf_put m _ a b h)

theorem Device.poke_formed (a : Nat) (bs : List Byte) (h : d.formed) : (d.poke a bs).formed := pokeBytes_wf _ _ _ h

theorem Device.setEcc_formed (a : Nat) (e : Ecc) (h : d.formed) : (d.setEcc a e).formed := h

theorem Device.pokeFresh_formed (a : Nat) (bs : List Byte) (h : d.formed) : (d.pokeFresh a bs).formed :=
  Device.poke_formed a bs h

theorem Device.writeRecord_formed (lo hi room type : Nat) (p : List Byte) (h : d.formed) :
    (d.writeRecord lo hi room type p).formed := by
  unfold Device.writeRecord
  split <;> exact Device.pokeFresh_formed _ _ h

theorem Device.markDirty_formed (a : Nat) (h : d.formed) : (d.markDirty a).formed := by
  unfold Device.markDirty
  split <;> exact h

theorem Device.unitWrite_formed (a v : Nat) (h : d.formed) : (d.unitWrite a v).formed :=
  Device.markDirty_formed _ (Device.poke_formed _ _ h)

theorem MemSys.wipe_wf (m : MemSys) (p : Nat → Bool) (h : Memory.wf m = true) : Memory.wf (m.wipe p) = true :=
  Store.wf_filter _ _ _ h

theorem MemSys.afterReset_wf (m : MemSys) (por : Bool) (h : Memory.wf m = true) : Memory.wf (m.afterReset por) = true := by
  cases por
  · exact h
  · exact MemSys.wipe_wf m _ h

/-! ### The trace buffer -/

@[simp] theorem Device.traceLose_mem : d.traceLose.mem = d.mem := by simp -implicitDefEqProofs [Device.traceLose]

@[simp] theorem Device.traceFail_mem (p : List Byte) : (d.traceFail p).mem = d.mem := by
  unfold Device.traceFail
  split <;> simp -implicitDefEqProofs

@[simp] theorem Device.traceEnter_mem (key : Nat) (p : List Byte) : (d.traceEnter key p).mem = d.mem := by
  unfold Device.traceEnter
  dsimp only
  generalize (if d.dbg.trace.pending = 0 then _ else _) = q
  split <;> simp -implicitDefEqProofs

@[simp] theorem Device.tracePut_mem (type flags src : Nat) (p : List Byte) : (d.tracePut type flags src p).mem = d.mem :=
  Device.traceEnter_mem ..

@[simp] theorem Device.traceSync_mem : d.traceSync.mem = d.mem := Device.traceEnter_mem ..

@[simp] theorem Device.record_mem (type flags src : Nat) (p : List Byte) : (d.record type flags src p).mem = d.mem := by
  unfold Device.record
  split
  · rfl
  · split
    · split <;> simp -implicitDefEqProofs
    · exact Device.tracePut_mem ..

theorem Device.traceRaw_formed (p : List Byte) (h : d.formed) : ∀ x ∈ d.traceRaw p, x.2.formed := by
  intro x hx
  unfold Device.traceRaw at hx
  dsimp only at hx
  generalize (if d.dbg.trace.atEnd = true then traceSize else d.rd Reg.DBG_TWP) = o at hx
  split at hx
  · simp at hx
  · rw [Option.mem_def, Option.some.injEq] at hx
    rw [← hx]
    have hp := Device.poke_formed traceBase (p.drop (traceSize - o)) (Device.poke_formed (traceBase + o) (p.take (traceSize - o)) h)
    have hw := formed_of_mem (Device.wr_mem _ Reg.DBG_TWP ((o + p.length) % traceSize)) hp
    exact formed_of_mem (Device.setTrace_mem ..) (ite_formed (formed_of_mem (Device.setFlag_mem ..) hw) hw)

theorem Device.traceWrite_formed (p : List Byte) (h : d.formed) : (d.traceWrite p).formed := by
  unfold Device.traceWrite
  split
  · exact formed_of_mem (by simp -implicitDefEqProofs) h
  · split
    · next he =>
      have := Device.traceRaw_formed _ h _ he
      split
      · exact formed_of_mem (by simp -implicitDefEqProofs) this
      · exact this
    · exact formed_of_mem (by simp -implicitDefEqProofs) h

theorem Device.traceTake_formed (k : Nat) (h : d.formed) : (d.traceTake k).formed := by
  induction k generalizing d with
  | zero => exact h
  | succ k ih =>
    unfold Device.traceTake
    dsimp only
    split
    · exact h
    · split
      · exact h
      · exact ih (Device.traceWrite_formed _ h)

theorem Device.traceDrain_formed (n : Nat) (h : d.formed) : (d.traceDrain n).formed := Device.traceTake_formed _ h

theorem Device.asleep_mem (e : Device) (m : Mode) (v : Bool) :
    Device.mem { e.setFlag Reg.DBG_STAT 1 v with mode := m } = e.mem := rfl

theorem Device.traceMode_formed (m : Mode) (h : d.formed) : (d.traceMode m).formed := by
  unfold Device.traceMode
  dsimp only
  split
  · refine formed_of_mem (Device.asleep_mem ..) (Device.traceDrain_formed _ ?_)
    exact formed_of_mem (by simp -implicitDefEqProofs) h
  · split
    · have key : ∀ (e : Device) (c : Bool), e.formed → (if c = true then e.record 0x0C m.code 0x3FF [] else e).formed := by
        intro e c he
        split
        · exact formed_of_mem (by simp -implicitDefEqProofs) he
        · exact he
      apply key
      split
      · exact formed_of_mem (by simp -implicitDefEqProofs) h
      · split <;> exact formed_of_mem (by simp -implicitDefEqProofs) h
    · exact formed_of_mem (by simp -implicitDefEqProofs) h

/-! ### Events, lines and modes -/

@[simp] theorem Device.sendMsi_mem : d.sendMsi.mem = d.mem := by
  unfold Device.sendMsi
  refine foldl_mem _ (fun e r => ?_) _
  split <;> rfl

@[simp] theorem Device.hostSource_mem (s : Nat) : (d.hostSource s).mem = d.mem := by
  unfold Device.hostSource
  extract_lets was d1 r
  split <;> simp -implicitDefEqProofs [d1]

@[simp] theorem Device.chPulse_mem (n : Nat) : (d.chPulse n).mem = d.mem := by
  unfold Device.chPulse
  split
  · rfl
  · split <;> simp -implicitDefEqProofs

@[simp] theorem Device.pulse_mem (c : Nat) : (d.pulse c).mem = d.mem := by
  unfold Device.pulse
  split
  · exact foldl_mem _ (fun e n => Device.chPulse_mem n) _
  · rfl

@[simp] theorem Device.setLevel_mem (c : Nat) (v : Bool) : (d.setLevel c v).mem = d.mem := by
  unfold Device.setLevel
  split
  · rfl
  · refine (foldl_mem (d := { d with evf := _ }) _ (fun e n => ?_) _).trans rfl
    split <;> simp -implicitDefEqProofs

@[simp] theorem Device.followFault_mem : d.followFault.mem = d.mem := Device.setLevel_mem ..

theorem Device.setMode_formed (m : Mode) (h : d.formed) : (d.setMode m).formed := by
  unfold Device.setMode
  split
  · exact h
  · dsimp only
    refine formed_of_mem (d := d.traceMode m) ?_ (Device.traceMode_formed m h)
    rw [Device.followFault_mem, Device.setLevel_mem, Device.hostSource_mem]
    split <;> rfl

theorem Device.enterFrom_formed (m : Mode) (h : d.formed) : (d.enterFrom m).formed :=
  Device.setMode_formed (d := { d with prev := d.mode }) _ h

theorem Device.enterStop_formed (h : d.formed) : d.enterStop.formed := Device.setMode_formed (d := d.stopPads) _ h

theorem Device.dozeExit_formed (b : Nat) (h : d.formed) : (d.dozeExit b).formed := by
  unfold Device.dozeExit
  split
  · exact Device.setMode_formed _ h
  · exact h

theorem Device.assertLines_formed (b m : Nat) (h : d.formed) : (d.assertLines b m).formed := by
  unfold Device.assertLines
  dsimp only
  split
  · exact formed_of_mem (by simp -implicitDefEqProofs) h
  · split
    · split <;> exact formed_of_mem (by simp -implicitDefEqProofs) h
    · exact Device.dozeExit_formed _ (formed_of_mem (by simp -implicitDefEqProofs) h)

theorem Device.setLine_formed (b k : Nat) (h : d.formed) : (d.setLine b k).formed := by
  unfold Device.setLine
  split
  · exact Device.assertLines_formed _ _ h
  · unfold Device.countAbsent
    split
    · exact formed_of_mem (by simp -implicitDefEqProofs) h
    · exact h

/-! ### The reactions of Ringmaster -/

@[simp] theorem Device.enginesStop_mem (keep : Nat → Bool) : (d.enginesStop keep).mem = d.mem := by
  unfold Device.enginesStop
  refine foldl_mem _ (fun e n => ?_) _
  split <;> rfl

@[simp] theorem Device.settlePark_mem (b : Nat) : (d.settlePark b).mem = d.mem := by
  unfold Device.settlePark
  extract_lets d1
  split <;> simp -implicitDefEqProofs [d1]

@[simp] theorem Device.parkAll_mem (keep : Nat → Bool) : (d.parkAll keep).mem = d.mem := by
  unfold Device.parkAll
  extract_lets d1
  refine (foldl_mem _ (fun e c => ?_) _).trans (foldl_mem _ (fun e b => ?_) _)
  · split <;> simp -implicitDefEqProofs
  · split <;> simp -implicitDefEqProofs

@[simp] theorem Device.fedStatus_mem (k v : Nat) : (d.fedStatus k v).mem = d.mem := by
  unfold Device.fedStatus
  split
  · split <;> rfl
  · rfl

@[simp] theorem Device.leaveRounds_mem (k : Nat) : (d.leaveRounds k).mem = d.mem := by
  unfold Device.leaveRounds
  refine foldl_mem _ (fun e j => ?_) _
  split <;> rfl

@[simp] theorem Device.commitStatus_mem (k v : Nat) : (d.commitStatus k v).mem = d.mem := by
  unfold Device.commitStatus
  refine (foldl_mem _ (fun e n => ?_) _).trans (Device.fedStatus_mem ..)
  extract_lets x
  split
  · split
    · rfl
    · split <;> simp -implicitDefEqProofs
  · rfl

@[simp] theorem Device.closeManifest_mem (k v : Nat) : (d.closeManifest k v).mem = d.mem := by simp -implicitDefEqProofs [Device.closeManifest]

@[simp] theorem Device.failCommits_mem : d.failCommits.mem = d.mem := by
  unfold Device.failCommits
  dsimp only
  refine foldl_mem _ (fun e k => ?_) _
  split
  · split
    · rfl
    · split
      · exact Device.closeManifest_mem ..
      · split
        · exact Device.closeManifest_mem ..
        · exact (Device.draw_mem _).trans (Device.closeManifest_mem ..)
  · rfl

@[simp] theorem Device.wakeFor_mem (c : Nat) : (d.wakeFor c).mem = d.mem := by
  unfold Device.wakeFor
  split <;> rfl

@[simp] theorem Device.deferReaction_mem (n r : Nat) : (d.deferReaction n r).mem = d.mem := Device.wakeFor_mem ..

theorem Device.enterSafe_formed (h : d.formed) : d.enterSafe.formed := by
  unfold Device.enterSafe
  split
  · exact h
  · split
    · exact formed_of_mem (Device.deferReaction_mem ..) h
    · exact Device.enterFrom_formed _ (formed_of_mem (by simp -implicitDefEqProofs) h)

theorem Device.snNotice_formed (h : d.formed) : d.snNotice.formed := Device.setLine_formed _ _ h

theorem Device.snChange_formed (h : d.formed) : d.snChange.formed :=
  Device.snNotice_formed (d := { d with sn := { d.sn with hbDue := true } }) h

theorem Device.setRole_formed (r : Nat) (h : d.formed) : (d.setRole r).formed := by
  unfold Device.setRole
  split
  · exact h
  · exact Device.snChange_formed (formed_of_mem (by simp -implicitDefEqProofs) h)

theorem Device.setReady_formed (v : Bool) (h : d.formed) : (d.setReady v).formed := by
  unfold Device.setReady
  split
  · exact h
  · exact Device.snChange_formed (formed_of_mem (by simp -implicitDefEqProofs) h)

theorem Device.writePairing_formed (role cause : Nat) (h : d.formed) : (d.writePairing role cause).formed :=
  Device.writeRecord_formed _ _ _ _ _ h

theorem Device.snFlag_formed (bit : Nat) (v : Bool) (h : d.formed) : (d.snFlag bit v).formed := by
  unfold Device.snFlag
  split
  · exact h
  · split
    · exact Device.snNotice_formed (formed_of_mem (Device.setFlag_mem ..) h)
    · exact formed_of_mem (Device.setFlag_mem ..) h

theorem Device.resyncEnd_formed (h : d.formed) : d.resyncEnd.formed := by
  unfold Device.resyncEnd
  split
  · exact formed_of_mem rfl (Device.snFlag_formed 5 false h)
  · exact h

theorem Device.leavePair_formed (h : d.formed) : d.leavePair.formed := h

theorem Device.switchover_formed (src : Nat) (safe : Bool) (h : d.formed) : (d.switchover src safe).formed := by
  have h1 := Device.setRole_formed 0 (Device.setReady_formed false (d := d.snSend [snFrame 0x46 0 (leBytes 8 src)]) h)
  unfold Device.switchover
  split
  · have h2 := Device.writePairing_formed 0 3 (Device.leavePair_formed (Device.resyncEnd_formed h1))
    dsimp only
    generalize (((d.snSend [snFrame 0x46 0 (leBytes 8 src)]).setReady false).setRole 0).resyncEnd.leavePair.writePairing 0 3 = y at h2 ⊢
    split
    · exact Device.enterStop_formed (formed_of_mem (by simp -implicitDefEqProofs) h2)
    · exact h2
  · split
    · exact Device.writePairing_formed _ _ (Device.setReady_formed _ h)
    · exact h

/-- The changes of mode of some reactions. -/
theorem Device.reactAll_formed (rs : List (Nat × Nat)) (h : d.formed) : (d.reactAll rs).formed := by
  unfold Device.reactAll
  extract_lets paired own safe d1 d2 d3
  have h1 : d1.formed := foldl_formed _ (fun e r he => ite_formed (Device.switchover_formed _ _ he) he) _ h
  have h2 : d2.formed := ite_formed (Device.enterSafe_formed h1) h1
  exact ite_formed (formed_of_mem rfl h2) (formed_of_mem rfl h2)

theorem Device.reactIrq_formed (n r : Nat) (h : d.formed) : (d.reactIrq n r).formed := by
  unfold Device.reactIrq
  split
  · exact h
  · exact formed_of_mem (by simp -implicitDefEqProofs) (Device.setLine_formed (d.fld Reg.RMS_NB 0 9) 26 h)

theorem Device.react_formed (n r : Nat) (h : d.formed) : (d.react n r).formed := by
  unfold Device.react
  split
  · exact formed_of_mem (Device.deferReaction_mem ..) h
  · exact Device.reactAll_formed _ (Device.reactIrq_formed _ _ h)

@[simp] theorem Device.logBegin_mem : d.logBegin.mem = d.mem := by
  unfold Device.logBegin
  split <;> rfl

@[simp] theorem Device.logEntry_mem (it : LogItem) (first : Bool) : (d.logEntry it first).mem = d.mem := by
  unfold Device.logEntry
  dsimp only
  split
  · simp -implicitDefEqProofs
  · split
    · rw [Device.logBegin_mem]
    · rfl

theorem Device.countEvent_formed (n : Nat) (h : d.formed) : (d.countEvent n).2.formed := by
  unfold Device.countEvent
  dsimp only
  split
  · exact h
  · exact h

@[simp] theorem Device.noteEvent_mem (n c detail : Nat) (inj : Bool) : (d.noteEvent n c detail inj).mem = d.mem := by
  unfold Device.noteEvent
  generalize d.verdict n c = v
  obtain ⟨cls, react, esc⟩ := v
  dsimp only
  split
  · exact Device.wr_mem ..
  · exact (Device.logEntry_mem ..).trans (Device.wr_mem ..)

theorem Device.classifyAt_formed (n c detail : Nat) (inj : Bool) (h : d.formed) : (d.classifyAt n c detail inj).formed :=
  formed_of_mem (Device.followFault_mem ..) (Device.react_formed _ _ (formed_of_mem (Device.noteEvent_mem ..) h))

theorem Device.classifyCounted_formed (n detail : Nat) (inj : Bool) (h : d.formed) :
    (d.classifyCounted n detail inj).formed := by
  unfold Device.classifyCounted
  exact ite_formed (Device.classifyAt_formed _ _ _ _ (Device.countEvent_formed _ h)) h

theorem Device.classify_formed (n detail : Nat) (inj : Bool) (h : d.formed) : (d.classify n detail inj).formed := by
  unfold Device.classify
  exact ite_formed (Device.classifyCounted_formed _ _ _ (formed_of_mem (Device.bump_mem ..) h)) h

/-- An event of a Ringmaster source, with everything that it brings about. -/
theorem Device.raise_formed (n detail : Nat) (h : d.formed) : (d.raise n detail).formed := by
  unfold Device.raise
  split
  · exact Device.classify_formed _ _ _ h
  · exact h

/-! ### Checked reads and writes -/

theorem Device.countCe_formed (agent a cls : Nat) (h : d.formed) : (d.countCe agent a cls).formed :=
  Device.raise_formed _ _ (formed_of_mem (by simp -implicitDefEqProofs) h)

theorem Device.countUe_formed (agent a : Nat) (h : d.formed) : (d.countUe agent a).formed := by
  have h1 := formed_of_mem (Device.bump_mem d Reg.MEM_ECCSTAT 16 16) h
  unfold Device.countUe
  exact Device.raise_formed _ _ (ite_formed h1 (formed_of_mem (Device.wr64_mem ..) h1))

theorem Device.checkRead_formed (agent a : Nat) (h : d.formed) : (d.checkRead agent a).2.formed := by
  unfold Device.checkRead
  split
  · exact h
  · exact Device.countCe_formed _ _ _ h
  · exact Device.countCe_formed _ _ _ h
  · exact Device.countUe_formed _ _ h

theorem Device.checkSpan_formed (agent a n : Nat) (h : d.formed) : (d.checkSpan agent a n).2.formed := by
  unfold Device.checkSpan
  generalize d.badWords a n = l
  suffices hs : ∀ r : Bool × Device, r.2.formed →
      (l.foldl (fun r w => let q := r.2.checkRead agent (8 * w); (r.1 && q.1, q.2)) r).2.formed from hs (true, d) h
  induction l with
  | nil => exact fun _ hr => hr
  | cons w l ih => exact fun r hr => ih _ (Device.checkRead_formed _ _ hr)

theorem Device.unitUpdate_formed (agent a v : Nat) (h : d.formed) : (d.unitUpdate agent a v).formed := by
  unfold Device.unitUpdate
  extract_lets r
  have hr : r.2.formed := Device.checkRead_formed _ _ h
  split
  · exact Device.unitWrite_formed _ _ hr
  · exact hr

theorem Device.clobberCheck_formed (path w before : Nat) (h : d.formed) : (d.clobberCheck path w before).formed := by
  unfold Device.clobberCheck
  split
  · exact h
  · extract_lets after
    split
    · exact formed_of_mem (by simp -implicitDefEqProofs) h
    · exact Device.raise_formed _ _ (formed_of_mem (by simp -implicitDefEqProofs) h)

theorem Device.wordWrite_formed (agent path a : Nat) (whole : Bool) (bs : List Byte) (h : d.formed) :
    (d.wordWrite agent path a whole bs).formed := by
  unfold Device.wordWrite
  extract_lets e d1 w0 old0 old1 d2 d3 d4
  split
  · exact Device.countUe_formed _ _ h
  · have h1 : d1.formed := by
      dsimp only [d1]
      split
      · exact h
      · exact Device.checkRead_formed _ _ h
    have h2 : d2.formed := Device.poke_formed _ _ (Device.setEcc_formed _ _ h1)
    have h3 : d3.formed := by
      dsimp only [d3]
      split
      · exact h2
      · exact Device.markDirty_formed _ h2
    have h4 : d4.formed := Device.clobberCheck_formed _ _ _ h3
    split
    · exact Device.clobberCheck_formed _ _ _ h4
    · exact h4

theorem Device.memWrite_formed (agent path a : Nat) (bs : List Byte) (h : d.formed) : (d.memWrite agent path a bs).formed :=
  Device.wordWrite_formed _ _ _ _ _ h

theorem Device.writeSpan_formed (agent path a : Nat) (bs : List Byte) (h : d.formed) : (d.writeSpan agent path a bs).formed := by
  unfold Device.writeSpan
  generalize bs.length + 1 = n
  induction n generalizing d a bs with
  | zero => exact h
  | succ n ih =>
    unfold Device.writeSpan.go
    split
    · exact h
    · exact ih _ _ (Device.memWrite_formed _ _ _ _ h)

theorem Device.setImageBit_formed (agent bit : Nat) (v : Bool) (h : d.formed) : (d.setImageBit agent bit v).formed :=
  Device.memWrite_formed _ _ _ _ h

end Sys2Proof.Machine
end

