-- ==== Sys2Proof/Tests/Slice0.lean ====
section
/-! SUPPORT. The author's own tests: ill-formed commands that WellFormed refuses, single commands against numbers worked out from the
tables of the spec, and for each statement with hypotheses a state and operands that meet them. -/

open Sys2Proof Sys2Proof.Machine Sys2Proof.Claims

namespace Sys2Proof.Tests

set_option Elab.async false

/-! ### Small states -/

/-- The device at reset. -/
def d0 : Device := State.reset.dev

/-- Berth 0 with an instruction of 32 bits. -/
def i0 : Site := ⟨0, false⟩

/-- The device at reset with berth 0 changed. -/
def withB (f : Berth → Berth) : Device := d0.setBerth 0 (f (d0.berth 0))

/-- The device at reset with register words changed. -/
def withR (l : List (Nat × Nat)) : Device := l.foldl (fun d q => d.wr q.1 q.2) d0

/-- A berth with general registers of its window changed. -/
def gprs (l : List (Nat × Nat)) (x : Berth) : Berth := l.foldl (fun y q => y.setReg q.1 (BitVec.ofNat 32 q.2)) x

/-- A berth with special registers changed. -/
def srs (l : List (Nat × Nat)) (x : Berth) : Berth := l.foldl (fun y q => y.setSr q.1 q.2) x

/-- The configuration at reset. -/
def cf : Straps := Straps.initial

/-- The device at reset with berth 0 at an address of its tile SRAM, at a level, with special registers changed. -/
def atLevel (pl : Nat) (l : List (Nat × Nat)) : Device := withB fun x => { srs ((0, pl) :: l) x with pc := 0x1000 }

/-- A device whose tracking entry 0 holds the word at the start of tile SRAM 0. -/
def held (h : Holder) (d : Device) : Device := { d with bol := { d.bol with entries := [(0, some ⟨0x100000000, h, false, 3, 9⟩)] } }

/-- Manifest 0 of berth 0. -/
def m0 : Manifest := ⟨0, false, false, 0, [], 64, false, none, false⟩

/-- A device that holds manifest 0. -/
def withM (m : Manifest) (d : Device) : Device := d.setManifest 0 (some m)

/-- Berth 0 is a member of the running cycle of class 0, whose class manifest is open. -/
def inCycle (l : List Nat) : Device :=
  (withB (gprs [(16, 0x100)])).setCls 0 { d0.cls 0 with running := true, expected := l }
    |>.setManifest 16 (some { m0 with owner := 0 })

/-- The host's secure writer. -/
def ho : Writer := .host true

/-- The device at reset whose engine 0 runs at a program word. -/
def eng (w : Nat) (f : Engine → Engine) : Device := d0.setEngine 0 (f { d0.engine 0 with run := true, prog := [(0, w)] })

/-- The device at reset with a migration of tile 0 from engine 0 to engine 1 in a phase. -/
def migrates (phase : Nat) (shifted : Bool) (f : Engine → Engine) : Device :=
  ((((eng 0x5000 f).setTileReg 0 54 (9 + 16 * phase + 4096)).setTileReg 0 55 8).setMigration 0 (some ⟨0, 1, 0, false, shifted⟩))

/-- The device at reset with a state of the line-phase tracker. -/
def tracks (l : List (Nat × Nat)) (f : LptSys → LptSys) : Device := { withR l with lpt := f d0.lpt }

/-- A committed manifest of berth 0 with a guard and a write. -/
def m1 : Manifest := { m0 with acts := [.guard 0x100000000 0 0, .put 0x100000004 9], committed := true }

/-- A good beat of zeros that writes every byte. -/
def beat0 : Beat := { data := 0, strb := 0xFFFFFFFF, check := .good }

/-- An image of one segment of 8 bytes for the start of tile SRAM 0, signed with the private key 1 and the nonce 1. -/
def signedImage : List Byte := leBytes 54 0x2CE1F2D1176B00000000000000009CC9AFD400000000000000D80000000100000001000000000000000000000007000000014D495351 ++
  leBytes 54 0x6840B6CBCE5E316B5733CE2B169E0F7C4AEBE78E9B7F1AFEE242E34F96C298D84539A1F4A033EB2D817D0377F240A463E5E6BCF84742 ++
  leBytes 54 0xBCF847422CE1F2D1176B07060504030201000000000800000090000000010000000000000000000000000000000000000000F551BF37 ++
  leBytes 54 0xF90F78D1DF7E6F810F252262821779193A7ED2F9131A683BEB1B8425CF16CC7596C298D84539A1F4A033EB2D817D0377F240A463E5E6

/-- A QS-2 in which every core has one berth asleep and the others parked. -/
def sleepy : Device := (List.range 8).foldl (fun d c =>
  (d.wr (Reg.CAR_PARKED c) 0xFFFE).setBerth (16 * c) { d.berth (16 * c) with wait := .sleep 0 false })
    { Device.fresh { cf with qs := .qs2 } with mode := .stop }

/-- The device at reset in a re-lock. -/
def relocks (r : Relock) : Device := { d0 with pwr := { d0.pwr with relock := some r } }

/-- The timebase of a device stands at a count. -/
def atTime (t : Nat) (d : Device) : Device := { d with tb := { d.tb with now := BitVec.ofNat 64 t } }

/-- The device at reset as device 5 of a ring, whose port 0 is in a state, with other registers changed. -/
def ring (port : Nat) (l : List (Nat × Nat)) : Device := withR ((Reg.BEY_CFG, 0x40005) :: (Reg.BEY_PORT 0, port) :: l)

/-- A frame of the link, from a device to another, as it is read. -/
def fr (type src dst gen : Nat) (payload : List Byte) : BeyFrame :=
  ⟨type, false, false, 0, src, dst, gen, 0, 0, payload, beyBody type 0 0 src dst gen 0 0 payload⟩

/-- The frame as it arrives. -/
def bf (g : BeyFrame) : FrameIn := (beyFrame g.body, .term)

/-- A waiting control frame. -/
def out0 : OutFrame := ⟨true, beyBody 0x25 0 0 5 1023 0 0 0 (leBytes 8 0), false, none, false, false, false⟩

/-- The device at reset whose receive buffer 0 of the link, for any source, lies at the start of tile SRAM 0. -/
def rxRing : Device := (ring 2 [(Reg.BEY_RXB 0, 0x83FF)]).wr64 (Reg.BEY_RXA 0) 0x100000000

/-- MAC 0 runs with receive buffer 0 at the start of tile SRAM 0. -/
def rxMac : Device := (withR [(Reg.NET_CFG 0, 1), (Reg.NET_RXB 0, 0x40000800), (Reg.NET_RXS 0, 8 * 2 ^ 16)]).wr64 (Reg.NET_RXA 0) 0x100000000

/-- A frame of 64 bytes for every station, up to its FCS: an EtherType and the bytes behind it. -/
def mf (rest : List Byte) : List Byte := List.replicate 6 0xFF ++ List.replicate 6 0 ++ rest ++ List.replicate (48 - rest.length) 0

/-- The frame with its FCS. -/
def fcs (b : List Byte) : List Byte := b ++ leBytes 4 (crc32 0xFFFFFFFF b)

/-- The device in slot 0 of sync group 0, coordinated by a device, with a state of the slot. -/
def group (coord : Nat) (l : List (Nat × Nat)) (f : SgState → SgState) : Device :=
  let d := ring 2 ([(Reg.BEY_SGCFG 0, 0x100), (Reg.BEY_SGCRD 0, coord), (Reg.BEY_SGPER 0, 5000)] ++ l)
  d.setSg 0 (f (d.sg 0))

/-- The device at reset with the Safety Net on and its lane locked, in a role and a mode, with flags of NET_SNSTAT and other registers
changed. -/
def sn (role : Nat) (mode : Mode) (flags : Nat) (l : List (Nat × Nat)) (f : SnSys → SnSys) : Device :=
  { withR ([(Reg.NET_SNCFG, 1), (Reg.NET_SNSTAT, role + flags)] ++ l) with mode := mode, sn := f { d0.sn with locked := true } }

/-- A Safety Net frame as it arrives. -/
def sf (g : SnFrame) : FrameIn := (snFrame g.type g.cycle g.payload, .term)

/-- The log of cycle 1: one line of zeros at the start of tile SRAM 0. -/
def log1 : CycleLog := ⟨1, [(0x100000000, List.replicate 64 0)], 0, false, 0, false, false, 0⟩

/-- A request frame of the Ndouc link. -/
def nf (code : Nat) (payload : List Byte) : List Byte :=
  let h := [0xA5, BitVec.ofNat 8 code, 9, BitVec.ofNat 8 payload.length] ++ payload
  h ++ leBytes 4 (crc32c h)

/-- The device at reset unlocked to a level, with other registers changed. -/
def unlocked (l : Nat) (r : List (Nat × Nat)) : Device := withR ((Reg.DBG_AUTH, l) :: r)

/-- The Gangway. -/
def gw : Writer := .gangway

/-- The step answers a next state. -/
def runs (s : State) : Bool :=
  match step s with
  | .next _ => true
  | _ => false

/-- The device after a command. -/
def after (c : Instr) (d : Device) : Device :=
  match exec c ⟨[], d⟩ with
  | .next t => t.dev
  | _ => d

/-! ### Well-formedness refuses what has no encoding or names nothing -/

theorem test_wf_accepts : Instr.wf cf (.add i0 1 2 3) = true ∧ Instr.wf cf (.add ⟨511, true⟩ 1 1 3) = true ∧
    Instr.wf cf (.targetRead 0x100000000 15 0 3 0) = true := by decide
theorem test_wf_berth : Instr.wf { cf with qs := .qs2 } (.add ⟨128, false⟩ 1 2 3) = false := by decide
theorem test_wf_writer : Instr.wf cf (.memClrCe (.berth 512)) = false := by decide
theorem test_wf_tag : Instr.wf { cf with qs := .qs2 } (.loadReturn 128 0) = false := by decide
theorem test_wf_short_destination : Instr.wf cf (.add ⟨0, true⟩ 1 2 3) = false := by decide
theorem test_wf_short_register : Instr.wf cf (.sub ⟨0, true⟩ 1 1 16) = false ∧ Instr.wf cf (.srai ⟨0, true⟩ 1 1 2) = false := by decide
theorem test_wf_no_short_form : Instr.wf cf (.mul ⟨0, true⟩ 1 2 3) = false := by decide
theorem test_wf_short_immediate : Instr.wf cf (.addi ⟨0, true⟩ 16 16 128) = false ∧ Instr.wf cf (.addi ⟨0, true⟩ 16 16 127) = true ∧
    Instr.wf cf (.jmp ⟨0, true⟩ 1024) = false := by decide
theorem test_wf_memory : Instr.wf cf (.lw ⟨0, true⟩ 16 (.base 17 64 0)) = false ∧ Instr.wf cf (.lw ⟨0, true⟩ 16 (.base 17 60 0)) = true ∧
    Instr.wf cf (.lb i0 16 (.page 0)) = false := by decide
theorem test_wf_bit : Instr.wf cf (.bld ⟨0, true⟩ 16 (.base 1 0)) = false ∧ Instr.wf cf (.bldn i0 16 (.page 0)) = false := by decide
theorem test_wf_macx : Instr.wf cf (.macx i0 1 2 1 false false false) = false ∧ Instr.wf cf (.macx i0 1 2 2 true false false) = false := by
  decide
theorem test_wf_nop : Instr.wf cf (.cNop i0) = false := by decide
theorem test_wf_unused_operands : Instr.wf cf (.mpin i0 1 2 3 1 0) = false ∧ Instr.wf cf (.mcommit i0 1 2 0) = false ∧
    Instr.wf cf (.waitt i0 1 2 0 1 false) = false ∧ Instr.wf cf (.waitt i0 1 0 0 3 false) = false := by decide
theorem test_wf_fence : Instr.wf cf (.fence i0 0) = false ∧ Instr.wf cf (.fence ⟨0, true⟩ 7) = false := by decide
theorem test_wf_parts : Instr.wf { cf with qs := .qs4 } (.reclass .gangway 16 0) = false ∧
    Instr.wf { cf with qs := .qs4 } (.twinActivate 8) = false ∧ Instr.wf { cf with qs := .qs4 } (.peNop 32) = false ∧
    Instr.wf { cf with qs := .qs4 } (.padInputChange 4 0 .high) = false ∧ Instr.wf { cf with qs := .qs4 } (.comparatorTrip 8 0) = false ∧
    Instr.wf { cf with qs := .qs4 } (.scrubWord 4) = false ∧ Instr.wf { cf with qs := .qs4 } (.scrubWord 8) = true := by decide
theorem test_wf_fields : Instr.wf cf (.maintRequest .gangway 0) = false ∧ Instr.wf cf (.maintRequest .gangway 6) = false ∧
    Instr.wf cf (.blockLock 3) = false ∧ Instr.wf cf (.blockLockLoss 3) = false ∧ Instr.wf cf (.xev 0 0 1023 0) = false ∧
    Instr.wf cf (.lighthouseConfig .gangway 9 0) = false ∧ Instr.wf cf (.vddMonitor 3) = false := by decide
theorem test_wf_supply : Instr.wf { cf with qs := .qs4 } (.supplyFail 6) = false ∧ Instr.wf { cf with qs := .qs4 } (.supplyFail 5) = true := by
  decide
theorem test_wf_sensors : Instr.wf cf (.sensorRead [(63, 0), (64, 0)]) = false := by decide
theorem test_wf_burst : Instr.wf cf (.targetWrite 0x100000000 0 3 []) = false ∧
    Instr.wf cf (.targetWrite 0x100000000 0 3 (List.replicate 17 ⟨0, 0, .good⟩)) = false := by decide

/-! ### Witnesses: integer, memory and control instructions -/

/-- IntegerResults, BitFieldResults, TransfersGoWhereTheySay and LoopsRepeat: at reset berth 0 stands ready to issue, and a jump through
a register that holds zero has an even target. -/
theorem test_witness_IntegerResults_BitFieldResults_TransfersGoWhereTheySay : d0.ready i0 = true ∧
    ((d0.berth 0).srN 12 * 2 ^ 32 + ((d0.berth 0).operand 0).toNat) % 2 = 0 := by decide +kernel

theorem test_witness_LoopsRepeat :
    (let x := srs [(28, 0xF0F00004), (32, 2)] (d0.berth 0)
     x.srN 28 = (x.pc.toNat + i0.len) % 2 ^ 32 ∧ 1 < x.srN 32 ∧ ∀ m : BitVec 2, 0 < m → x.srN (32 + m.toNat) = 0) ∧
    ∀ m : BitVec 2, (d0.berth 0).srN (32 + m.toNat) = 0 := by decide +kernel

theorem test_witness_AccessesEnterTheirQueues : d0.ready i0 = true ∧ d0.loadFree 0 = true ∧ d0.storeFree 0 = true ∧
    reaches d0 0 0 4 false 0x100000000 ∧ reaches d0 0 0x1FFFFC 4 true 0x1001FFFFC := by
  refine ⟨?_, ?_, ?_, ⟨.sram 0 0, ?_⟩, ⟨.sram 0 0x1FFFFC, ?_⟩⟩ <;> decide +kernel

/-- AccessFaults: misaligned words and halfwords, in the tile SRAM and outside, and bytes and words at which nothing stands. -/
theorem test_witness_AccessFaults :
    (∀ bank ∈ [0, 0x20000],
     let d := withB fun x => { gprs [(16, 3)] (srs [(0, 1), (12, bank)] x) with pc := 0x1000 }
     let a := address (d.berth 0) (.base 16 0 0)
     enters d i0 1 ∧ (d.berth 0).pl = 1 ∧ inWindow a = false ∧ a % 4 ≠ 0 ∧ a % 2 ≠ 0 ∧
     instAddress (srs [(11, 2)] (d.berth 0)) 0 % 4 ≠ 0) ∧
    (let d := withB fun x => gprs [(16, 0x200000)] (srs [(11, 0x200000)] x)
     let a := address (d.berth 0) (.base 16 0 0)
     enters d i0 2 ∧ (d.berth 0).pl = 2 ∧ inWindow a = false ∧ a % 4 = 0 ∧ instAddress (d.berth 0) 0 = a ∧
     ∀ n ∈ [1, 2, 4], ∀ w ∈ [false, true], noAccess d 0 a n w) := by decide +kernel

theorem test_witness_AccessesComplete :
    (let x := { d0.berth 0 with shadow := some (8, 7) }
     x.shadow = some (8, 7)) ∧
    (let e : LoadEntry := ⟨some 8, .memory 0 4 true, 0, 0, none, false⟩
     let d := withB fun x => { x with loads := [e] }
     let x := d.berth 0
     x.loads[0]? = some e ∧ (x.loads.filter fun f => f.seq = e.seq) = [e] ∧ d.loadReady 0 e = true ∧
     (d.placeFor 0 0).global = some 0x100000000 ∧ d.eccAt 0x100000000 = .clean ∧ d.parkAsked 0 = false ∧ d.watched = false) ∧
    (let s : StoreEntry := ⟨0x1FFFFC, 4, 0, 0, 2, false⟩
     let d := withB fun x => { x with stores := [s] }
     (d.berth 0).stores[0]? = some s ∧ s.addr % s.size = 0 ∧ d.storeReady 0 s = true ∧
     (d.placeFor 0 s.addr).global = some 0x1001FFFFC ∧ d.eccAt 0x1001FFFFC = .clean ∧ d.tracked 0x1001FFFFC = none) := by decide +kernel

/-- The 16 bytes from an address are reached word by word and hold no error and no tracked bollard; the berth is FREE. -/
def recordOk (d : Device) (b off : Nat) (w : Bool) (g : Nat) : Bool :=
  ((List.range 4).all fun k => match d.access b (d.berth b).pl ((d.berth b).stackAddr (off + 4 * k)) 4 w with
    | .ok p => p.global == some (g + 4 * k)
    | .error _ => false) && ((List.range 16).all fun k => d.eccAt (g + k) == .clean && (d.tracked (g + k)).isNone) && !d.timed b

theorem test_recordAt {d : Device} {b off : Nat} {w : Bool} {g : Nat} (h : recordOk d b off w g = true) : recordAt d b off w g := by
  simp only [recordOk, Bool.and_eq_true, Bool.not_eq_true', List.all_eq_true, List.mem_range] at h
  refine ⟨fun k hk => ?_, fun k hk => ?_, .inl h.2⟩
  · have := h.1.1 k hk
    split at this
    · exact ⟨_, by assumption, by simpa using this⟩
    · cases this
  · have := h.1.2 k hk
    simp only [beq_iff_eq, Option.isNone_iff_eq_none] at this
    exact ⟨this.1, fun _ => this.2⟩

theorem test_frameAt {d : Device} {b off : Nat} {w : Bool} {h : Nat}
    (a : ∀ q, q < 4 → recordOk d b (off + 16 * q) w (h + 16 * q) = true) : frameAt d b off w h := fun q hq => test_recordAt (a q hq)

theorem test_witness_CallsAndReturns :
    (let d := withB (gprs [(7, 0x1000)])
     let x := d.berth 0
     (d.ready i0 = true ∧ x.stores = [] ∧ x.nres < 5 ∧ 0x1000 % 16 = 0 ∧ x.srN 8 + 16 ≤ 0x1000 ∧ relative x.pc 0 % 2 = 0) ∧
     recordAt d 0 0xFF0 true 0x100000FF0) ∧
    (let d := (withB fun x => (gprs [(7, 0x1000)] x).setWindow 1 2).poke 0x100001000 (leBytes 4 0x100 ++ leBytes 4 0x5B000000)
     let x := d.berth 0
     (d.ready i0 = true ∧ x.stores = [] ∧ 1 < x.nres ∧
      d.value 0x100001004 4 / 2 ^ 24 = frameCheck (d.value 0x100001000 4) (d.value 0x100001004 4 % 2 ^ 18) false ∧
      d.value 0x100001000 4 = 0x100 ∧ (x.operand 7).toNat = 0x1000) ∧ recordAt d 0 0x1000 false 0x100001000) := by
  refine ⟨⟨?_, test_recordAt ?_⟩, ?_, test_recordAt ?_⟩ <;> decide +kernel

/-- A berth with a number of frames in its window file and a window stack pointer. -/
def windowed (nres wsp : Nat) : Device := withB fun x => (gprs [(7, 0x1000)] (srs [(5, wsp)] x)).setWindow 1 nres

/-- CallsAndReturns: the call that spills, and the return that refills. -/
theorem test_witness_CallsAndReturns_spill_and_refill :
    (let d := windowed 5 0x2000
     let x := d.berth 0
     (d.ready i0 = true ∧ x.stores = [] ∧ x.nres = 5 ∧ x.srN 5 = 0x2000 ∧ 0x2000 + 64 ≤ x.srN 6 ∧ (x.operand 7).toNat = 0x1000) ∧
     recordAt d 0 0xFF0 true 0x100000FF0 ∧ frameAt d 0 0x2000 true 0x100002000) ∧
    (let d := (windowed 1 0x2040).poke 0x100001000 (leBytes 4 0x100 ++ leBytes 4 0x5B000000)
     (d.ready i0 = true ∧ (d.berth 0).stores = [] ∧ (d.berth 0).nres = 1 ∧
      d.value 0x100001004 4 / 2 ^ 24 = frameCheck (d.value 0x100001000 4) (d.value 0x100001004 4 % 2 ^ 18) false) ∧
     recordAt d 0 0x1000 false 0x100001000 ∧ slidesBack d 0 0x100002000) := by
  refine ⟨⟨?_, test_recordAt ?_, test_frameAt ?_⟩, ?_, test_recordAt ?_, ?_, fun _ => ⟨?_, ?_, test_frameAt ?_⟩⟩ <;> decide +kernel

theorem test_witness_WindowsOverlap : (d0.berth 0).cwp < 6 := by decide +kernel

theorem test_witness_MacxAccumulates :
    let d := withB (gprs [(16, 0x1FFFFC), (17, 0)])
    let x := d.berth 0
    d.ready i0 = true ∧ x.stores = [] ∧ d.timed 0 = false ∧ (x.operand 16).toNat = 0x1FFFFC ∧ (x.operand 17).toNat = 0 ∧
    d.eccAt (sramBase 0 + 0x1FFFFC) = .clean ∧ d.eccAt (sramBase 0) = .clean ∧ macxSizes 0 true = true ∧ macxSizes 15 false = true ∧
    bitOf 0x1FFFFC 20 ≠ bitOf 0 20 := by decide +kernel

theorem test_witness_ImageBitAccess :
    let k := 16 * cf.imageS - 1
    let d := withB (gprs [(16, k)])
    let x := d.berth 0
    d.ready i0 = true ∧ x.stores = [] ∧ d.timed 0 = false ∧ d.loadFree 0 = true ∧ bitNumber x (.base 16 0) = k ∧
    d.bitFault x.pl k false = none ∧ d.bitFault x.pl k true = none ∧ d.eccAt (bitAddr k) = .clean ∧
    d.tracked (bitAddr k / 4 * 4) = none := by decide +kernel

/-! ### Single commands against numbers worked out from the spec, and standard check values -/

/-- R118: the sum wraps. -/
theorem test_add_wraps : ((after (.add i0 16 17 18) (withB (gprs [(17, 0xFFFFFFFF), (18, 2)]))).berth 0).reg 16 = 1 := by decide +kernel

/-- R118: a register shift takes rs2[4:0], and SRA copies the sign. -/
theorem test_sra_takes_five_bits : ((after (.sra i0 16 17 18) (withB (gprs [(17, 0x80000000), (18, 33)]))).berth 0).reg 16 = 0xC0000000 := by
  decide +kernel

/-- R118: MULH is the high word of the signed product, MULHU of the unsigned one. -/
theorem test_mulh_signs :
    ((after (.mulh i0 16 17 17) (withB (gprs [(17, 0xFFFFFFFF)]))).berth 0).reg 16 = 0 ∧
    ((after (.mulhu i0 16 17 17) (withB (gprs [(17, 0xFFFFFFFF)]))).berth 0).reg 16 = 0xFFFFFFFE := by decide +kernel

/-- R119: INS with a source that is also the destination. -/
theorem test_ins_same_register : ((after (.ins i0 16 16 8 7) (withB (gprs [(16, 0x123456AB)]))).berth 0).reg 16 = 0x1234ABAB := by
  decide +kernel

/-- Writes of g0 are discarded. -/
theorem test_g0_stays_zero : ((after (.addi i0 0 0 5) d0).berth 0).reg 0 = 0 := by decide +kernel

/-- R121: a halfword is stored little-endian once its store is performed, and no byte beside it. -/
theorem test_store_half :
    let d := after (.storePerformed 0 0) (after (.sh i0 17 (.base 16 0xFFE 0)) (withB (gprs [(16, 0x102), (17, 0xAABBCCDD)])))
    d.byte 0x1000000FF = 0 ∧ d.byte 0x100000100 = 0xDD ∧ d.byte 0x100000101 = 0xCC ∧ d.byte 0x100000102 = 0 := by decide +kernel

/-- R121: LB extends the sign once the load returns. -/
theorem test_load_byte :
    ((after (.loadReturn 0 0) (after (.lb i0 16 (.base 0 0x40 0)) (d0.poke 0x100000040 [0x80]))).berth 0).reg 16 = 0xFFFFFF80 := by
  decide +kernel

/-- R84, R125: a branch back by 8 bytes from the reset vector, at its taken and its other outcome. -/
theorem test_branch_back :
    ((after (.bne i0 16 0 0x3FFC) (withB (gprs [(16, 1)]))).berth 0).pc = 0x7F0EFFFF8 ∧
    ((after (.bne i0 16 0 0x3FFC) d0).berth 0).pc = 0x7F0F00004 := by decide +kernel

/-- R94, R97: SYSCALL 0x800 at USER enters MONITOR at EVB + 0x40 × 10. -/
theorem test_syscall_monitor :
    let x := (after (.syscall i0 0x800) (atLevel 0 [(62, 0x2000), (63, 0)])).berth 0
    x.pc = 0x2280 ∧ x.srN 0 = 0x12 ∧ x.srN 56 = 0x1004 ∧ x.srN 58 = 0 := by decide +kernel

/-- R92, R130: MACX of two halfwords of −1 adds 1 and steps both pointers. -/
theorem test_macx_accumulates :
    let x := (after (.macx i0 16 17 0 false false false)
      ((withB (gprs [(16, 0x100), (17, 0x200)])).poke 0x100000100 [0xFF, 0xFF] |>.poke 0x100000200 [0xFF, 0xFF])).berth 0
    x.acc = 1 ∧ x.reg 16 = 0x102 ∧ x.reg 17 = 0x202 := by decide +kernel

/-- R131: EDGR delivers a rising edge and keeps the bit. -/
theorem test_edgr :
    let d := after (.edgr i0 16 (.base 0 3)) (withB (gprs [(16, 1)]))
    d.byte 0x200000000 = 8 ∧ ((d.berth 0).loads.map fun e => e.src) = [.value 1] := by decide +kernel

/-- R188: the word of an acquired bollard: HELD, USER 7, owner 0. -/
theorem test_btry_word :
    (after (.btry i0 16 0 17 0) (withB (gprs [(17, 7)]))).value 0x100000000 4 = lockWord 1 false 0 0 7 := by decide +kernel

/-- R222, R224: an engine's JMP X-- goes to its target while the decremented X is not zero. -/
theorem test_engine_jmp :
    ((after (.peJmp 0) (eng 0x1209 fun x => x.setRg peX 2)).engine 0).pc = 9 ∧
    ((after (.peJmp 0) (eng 0x1209 fun x => x.setRg peX 1)).engine 0).pc = 1 := by decide +kernel

/-- CRC-32C and CRC-32 of "123456789". -/
theorem test_crc :
    crc32c [0x31, 0x32, 0x33, 0x34, 0x35, 0x36, 0x37, 0x38, 0x39] = 0xE3069283 ∧
    crc32 0xFFFFFFFF [0x31, 0x32, 0x33, 0x34, 0x35, 0x36, 0x37, 0x38, 0x39] = 0xCBF43926 := by decide +kernel

/-- SHA-256 of "abc" (FIPS 180-4). -/
theorem test_sha256 : sha256 [0x61, 0x62, 0x63] = 0xBA7816BF8F01CFEA414140DE5DAE2223B00361A396177A9CB410FF61F20015AD := by decide +kernel

/-! ### Witnesses: exceptions, special registers and waits -/

theorem test_witness_ExceptionsAndInterruptsEnter :
    enters (atLevel 0 []) i0 1 ∧ ((atLevel 0 []).berth 0).pl = 0 ∧ enters (atLevel 0 []) i0 2 ∧ enters d0 i0 2 ∧
    (d0.berth 0).pl = 2 ∧
    (let d := atLevel 5 [(19, 2 ^ 31), (20, 2 ^ 31)]
     let x := d.berth 0
     d.mayIssue 0 = true ∧ x.faults = [] ∧ x.loads = [] ∧ x.stores = [] ∧ x.writes = [] ∧ x.shadow = none ∧ x.nres < 5 ∧ d.watched = false ∧
     bitOf (x.srN 0) 2 = true ∧ x.pl < 2 ∧ bitOf (x.srN 0) 3 = false ∧ bitOf (x.srN 20) 31 = true ∧ bitOf (x.srN 19) 31 = true ∧
     ∀ j, j < 31 → ¬ (bitOf (x.srN 20) j = true ∧ bitOf (x.srN 19) j = true)) := by decide +kernel

/-- ExceptionsAndInterruptsEnter: each of the ILLEGAL forms. -/
theorem test_witness_illegalForm : illegalForm i0 (.macx i0 1 2 2 true false false) ∧ illegalForm i0 (.fence i0 0) ∧
    illegalForm i0 (.waitt i0 1 0 0 3 false) ∧ illegalForm i0 (.waitt i0 1 2 0 1 false) ∧ illegalForm i0 (.waitt i0 1 0 2 2 false) ∧
    illegalForm i0 (.mpin i0 1 2 3 1 0) ∧ illegalForm i0 (.mcommit i0 1 2 0) ∧ illegalForm ⟨0, true⟩ (.lw ⟨0, true⟩ 24 (.page 0)) :=
  ⟨.inl ⟨1, 2, 2, true, false, false, rfl, by decide⟩, .inr (.inl rfl), .inr (.inr (.inl ⟨1, 0, 0, 3, false, rfl, by decide⟩)),
    .inr (.inr (.inl ⟨1, 2, 0, 1, false, rfl, by decide⟩)), .inr (.inr (.inl ⟨1, 0, 2, 2, false, rfl, by decide⟩)),
    .inr (.inr (.inr (.inl ⟨1, 2, 3, 0, rfl, by decide⟩))), .inr (.inr (.inr (.inr (.inl ⟨1, 2, rfl, by decide⟩)))),
    .inr (.inr (.inr (.inr (.inr ⟨24, .page 0, rfl, rfl, by decide⟩))))⟩

theorem test_witness_RetxRestores :
    (let d := withB fun x => (srs [(0, 0x12)] x).setWindow 1 2
     let x := d.berth 0
     d.ready i0 = true ∧ x.pl = 2 ∧ bitOf (x.srN 0) 4 = true ∧ 1 < x.nres ∧ x.stores = [] ∧ x.srPair (level 2) % 2 ^ 50 % 2 = 0) ∧
    (let d := withB fun x => { (srs [(0, 9), (40, 1)] x).setWindow 1 2 with pc := 0x1000 }
     let x := d.berth 0
     d.ready i0 = true ∧ x.pl = 1 ∧ bitOf (x.srN 0) 3 = true ∧ 1 < x.nres ∧ x.stores = [] ∧
     x.srPair (level 1) % 2 ^ 50 % 2 = 1 ∧ bitOf (x.srN 0) 4 = false ∧ x.nres < 5) := by decide +kernel

/-- RetxRestores: EXL 0, a refill, and an odd EPC with EXL of MONITOR 1. -/
theorem test_witness_RetxRestores_traps_and_refill :
    (d0.ready i0 = true ∧ (d0.berth 0).pl = 2 ∧ (d0.berth 0).stores = [] ∧ bitOf ((d0.berth 0).srN 0) 4 = false ∧ (d0.berth 0).nres < 5) ∧
    (let d := (windowed 1 0x2040).setBerth 0 (((windowed 1 0x2040).berth 0).setSr 0 0x12)
     (d.ready i0 = true ∧ (d.berth 0).pl = 2 ∧ (d.berth 0).stores = [] ∧ bitOf ((d.berth 0).srN 0) 4 = true ∧
      (d.berth 0).srPair (level 2) % 2 ^ 50 % 2 = 0) ∧ slidesBack d 0 0x100002000) ∧
    (∀ q ∈ [(2, 0x12, 56), (1, 0x19, 40)],
     let d := (withB fun x => { (srs [(0, q.2.1), (q.2.2, 1)] x).setWindow 1 2 with pc := 0x1000 }).wr (Reg.RMS_CFG 0x20) 0x21001
     let x := d.berth 0
     d.ready i0 = true ∧ x.pl = q.1 ∧ bitOf (x.srN 0) (2 + q.1) = true ∧ bitOf (x.srN 0) 4 = true ∧ 1 < x.nres ∧ x.stores = [] ∧
     x.srPair (level q.1) % 2 ^ 50 % 2 = 1 ∧ quietSource d 0x20) := by
  refine ⟨?_, ⟨?_, ?_, fun _ => ⟨?_, ?_, test_frameAt ?_⟩⟩, ?_⟩ <;> decide +kernel

theorem test_witness_PrivilegeIsChecked :
    enters (atLevel 0 []) i0 1 ∧ ((atLevel 0 []).berth 0).pl < readLevel 5 ∧ (5, 1, 0xFFFFFFFF) ∈ plainSrs ∧
    enters (atLevel 1 []) i0 1 ∧ ((atLevel 1 []).berth 0).pl < readLevel 64 ∧ (64, 2, 0xFFFFFFFF) ∈ plainSrs ∧
    d0.ready i0 = true ∧ unlistedSr 21 ∧ (d0.berth 0).pc.toNat % 2 ^ 32 + i0.len < 2 ^ 32 := by decide +kernel

theorem test_witness_SpecialRegisterAccess :
    d0.ready i0 = true ∧ readLevel 64 ≤ (d0.berth 0).pl ∧ unlistedSr 127 ∧ unlistedSr 21 ∧ (64, 2, 0xFFFFFFFF) ∈ plainSrs ∧
    (let d := withB fun x => { gprs [(16, 2)] (srs [(0, 1)] x) with pc := 0x1000 }
     let x := d.berth 0
     d.ready i0 = true ∧ enters d i0 1 ∧ x.pl = 1 ∧ (x.operand 16).toNat % 4 = 2) ∧
    (let x := (withB (gprs [(16, 3)])).berth 0
     (withB (gprs [(16, 3)])).ready i0 = true ∧ x.stores = [] ∧ x.pl = 2 ∧ (x.operand 16).toNat % 4 = 3) := by decide +kernel

theorem test_witness_FenceAndWaits :
    (d0.readyButLoads i0 = true ∧ d0.externalLoads 0 = [] ∧ (d0.berth 0).stores = [] ∧ (d0.berth 0).loads = []) ∧
    (let d := withB fun x => { x with stores := [⟨0, 4, 0, 0, 2, false⟩] }
     d.readyButLoads i0 = true ∧ d.externalLoads 0 = [] ∧ (2 : BitVec 4).getLsbD 1 = true ∧ (d.berth 0).stores ≠ []) ∧
    (∀ e ∈ [(⟨none, .memory 0 4 false, 0, 0, none, false⟩ : LoadEntry), ⟨none, .value 1, 0, 0, none, false⟩],
     let d := withB fun x => { x with loads := [e] }
     d.readyButLoads i0 = true ∧ d.externalLoads 0 = [] ∧ (d.berth 0).loads = [e]) ∧
    d0.ready i0 = true ∧ 1 ≤ (d0.berth 0).pl := by decide +kernel

/-! ### Witnesses: bollards, manifests and the pin port -/

/-- BcasComparesAndSwaps, BollardAcquire and BollardReleaseAndTimeout: a free word, the berth's own, another's, and a wait for it. -/
theorem test_witness_BcasComparesAndSwaps_BollardAcquire_BollardReleaseAndTimeout :
    (bolReady d0 i0 0 0 0x100000000 ∧ d0.tracked 0x100000000 = none ∧ d0.freeEntry = some 0) ∧
    (let e : BolEntry := ⟨0x100000000, .berth 0, false, 3, 9⟩
     let d := held (.berth 0) d0
     bolReady d i0 0 0 0x100000000 ∧ d.tracked 0x100000000 = some (0, e) ∧ e.holder = .berth 0 ∧ d.waiters 0x100000000 = []) ∧
    (let e : BolEntry := ⟨0x100000000, .berth 1, false, 3, 9⟩
     let d := held (.berth 1) d0
     bolReady d i0 0 0 0x100000000 ∧ d.tracked 0x100000000 = some (0, e) ∧ e.holder ≠ .berth 0 ∧ d.rd (Reg.BOL_TMO 0) ≠ 0 ∧
     d.closes 0 8 e.holder = false ∧
     bolReady (d.wr (Reg.BOL_TMO 0) 0) i0 0 0 0x100000000 ∧ (d.wr (Reg.BOL_TMO 0) 0).rd (Reg.BOL_TMO 0) = 0) ∧
    (let w : Wait := .bollard 16 0x100000000 0 5 false 9
     let d := held (.berth 1) (withB fun x => { x with wait := w })
     (d.berth 0).wait = w ∧ d.tracked 0x100000000 = some (0, ⟨0x100000000, .berth 1, false, 3, 9⟩) ∧ d.tbNow < 5 ∧
     5 ≤ ({ d with tb := { d.tb with now := 5 } } : Device).tbNow ∧ d.parkAsked 0 = false) := by decide +kernel

/-- A berth that waits for the word at the start of tile SRAM 0, or for the next one, since an arrival number. -/
def waiting (b word arr : Nat) (d : Device) : Device :=
  d.setBerth b { d.berth b with wait := .bollard 16 (0x100000000 + 4 * word) arr 5 false 9 }

/-- BollardAcquire: berth 1 holds the word and waits for one that berth 0 holds. -/
theorem test_witness_BollardAcquire_deadlock :
    let d := waiting 1 1 0 (held (.berth 1) d0)
    let e : Device := { d with bol := { d.bol with entries := d.bol.entries ++ [(1, some ⟨0x100000004, .berth 0, false, 3, 9⟩)] } }
    bolReady e i0 0 0 0x100000000 ∧ e.tracked 0x100000000 = some (0, ⟨0x100000000, .berth 1, false, 3, 9⟩) ∧
    e.rd (Reg.BOL_TMO 0) ≠ 0 ∧ link e (.berth 1) 1 = some (.berth 0) := by decide +kernel

/-- BollardReleaseAndTimeout: a release with two waiters of one priority, of which the earlier stands before the other. -/
theorem test_witness_BollardReleaseAndTimeout_handover :
    let d := waiting 5 0 2 (waiting 9 0 1 (held (.berth 0) d0))
    let e := (d.wr (Reg.CAR_PARKREQ 0) 0).wr (Reg.CAR_PARKED 0) 0
    bolReady e i0 0 0 0x100000000 ∧ e.tracked 0x100000000 = some (0, ⟨0x100000000, .berth 0, false, 3, 9⟩) ∧
    9 ∈ e.waiters 0x100000000 ∧ 5 ∈ e.waiters 0x100000000 ∧ (e.berth 9).wait = .bollard 16 0x100000000 1 5 false 9 ∧ e.parkAsked 9 = false ∧
    ∀ c, c ∈ e.waiters 0x100000000 → c ≠ 9 → e.eprio c < e.eprio 9 ∨ e.eprio c = e.eprio 9 ∧
      (e.arrivalOf 9 < e.arrivalOf c ∨ e.arrivalOf 9 = e.arrivalOf c ∧ 9 < c) := by decide +kernel

/-- BollardReleaseAndTimeout: plain stores to a tracked word, of USER alone and of the state too. -/
theorem test_witness_BollardReleaseAndTimeout_clobber :
    ∀ v ∈ [7, 2 ^ 31],
      let st : StoreEntry := ⟨0, 4, v, 0, 2, false⟩
      let d := (held (.berth 1) (withB fun x => { x with stores := [st] })).wr (Reg.RMS_CFG 0x24) 0x21001
      (d.berth 0).stores[0]? = some st ∧ d.storeReady 0 st = true ∧ (d.placeFor 0 0).global = some 0x100000000 ∧
      d.eccAt 0x100000000 = .clean ∧ d.tracked 0x100000000 = some (0, ⟨0x100000000, .berth 1, false, 3, 9⟩) ∧
      (decide (v / 2 ^ 15 % 2 ^ 17 = d.value 0x100000000 4 / 2 ^ 15) == (v == 7)) = true ∧ quietSource d 0x24 := by decide +kernel

/-- BollardReleaseAndTimeout: a reset of the holder, for whose word berth 5 waits. -/
theorem test_witness_BollardReleaseAndTimeout_abandon :
    let d := waiting 5 0 2 (held (.berth 1) d0)
    let owns (q : Nat × Option BolEntry) : Bool := decide (q.2.map BolEntry.holder = some (.berth 1))
    (d.arrives ho Reg.PWR_BRST = true ∧ d.trusted ho = true ∧ d.present 1 = true ∧
     d.bol.entries.filter owns = [(0, some ⟨0x100000000, .berth 1, false, 3, 9⟩)] ∧ d.eccAt 0x100000000 = .clean ∧
     d.scn.gate = none ∧ ∀ c, c ∈ d.waiters 0x100000000 → (d.berth c).bolWait.map Prod.fst = some 0x100000000) ∧
    (∀ h m, d.manifest h = some m → m.owner ≠ 1) ∧ ∀ c, (d.cls c).running = false := by
  refine ⟨by decide +kernel, nofun, fun _ => rfl⟩

/-- ManifestsOpenAndFill: what MOPEN takes and refuses. -/
theorem test_witness_ManifestsOpenAndFill_open :
    (mftReady d0 i0 ∧ bitOf ((d0.berth 0).operand 0).toNat 8 = false ∧ openWord ((d0.berth 0).operand 0).toNat ∧ d0.manifest 0 = none ∧
     d0.mftBytes + 64 ≤ 0x20000) ∧
    (let d := inCycle [0]
     mftReady d i0 ∧ bitOf ((d.berth 0).operand 16).toNat 8 = true ∧ d.classOf 0 = some 0 ∧
     (withB (gprs [(16, 0x100)])).classOf 0 = none) ∧
    (let d := withB (gprs [(16, 2), (17, 4)])
     mftReady d i0 ∧ openWord 2 ∧ ¬d.gateHeld 0 1 = true ∧ ¬openWord 4 ∧ ¬openWord 3 ∧
     ({ d with scn := { d.scn with gate := some ⟨1, 0⟩ } } : Device).gateHeld 0 1 = true ∧ (d.berth 0).pl = 2) ∧
    (let d := (List.range 16).foldl (fun d h => d.setManifest h (some m0)) d0
     mftReady d i0 ∧ ∀ k, k < 16 → d.manifest k ≠ none) ∧
    (let d := (List.range 15).foldl (fun d h => d.setManifest h (some { m0 with bytes := 8736 })) d0
     mftReady d i0 ∧ d.manifest 15 = none ∧ (∀ j, j < 15 → d.manifest j ≠ none) ∧ 0x20000 < d.mftBytes + 64) := by decide +kernel

/-- ManifestsOpenAndFill: the actions on a berth manifest. -/
theorem test_witness_ManifestsOpenAndFill :
    (let d := withM m0 d0
     mftReady d i0 ∧ d.manifest 0 = some m0 ∧ m0.owner = 0 ∧ m0.committed = false ∧ (guardsOf m0.acts).length < 16 ∧ room d m0 16 ∧
     d.mftWord (d.ctx i0) 0 false = .ok 0x100000000 ∧ d.mftWord (d.ctx i0) 0 true = .ok 0x100000000 ∧ 7 < d.cfg.tiles ∧
     d0.manifest 0 = none) ∧
    (let m : Manifest := { m0 with owner := 1 }
     let d := withM m d0
     mftReady d i0 ∧ d.manifest 0 = some m ∧ m.owner ≠ 0) ∧
    (let d : Device := { withM m0 d0 with cfg := { cf with qs := .qs4 } }
     mftReady d i0 ∧ d.manifest 0 = some m0 ∧ d.cfg.tiles ≤ 4) ∧
    (let d := inCycle [0]
     mftReady d i0 ∧ (d.manifest 16).isSome = true ∧ bitOf ((d.berth 0).operand 16).toNat 8 = true ∧ d.classOf 0 = some 0) ∧
    (let m : Manifest := { m0 with acts := List.replicate 16 (.guard 0x100000000 0 0) }
     let d := withM m d0
     mftReady d i0 ∧ d.manifest 0 = some m ∧ 16 ≤ (guardsOf m.acts).length) ∧
    (let m : Manifest := { m0 with bytes := 0x20000 }
     let d := withM m d0
     mftReady d i0 ∧ d.manifest 0 = some m ∧ m.acts.length < 4096 ∧ d.mftActs < 8192 ∧ 0x20000 < d.mftBytes + 16) := by decide +kernel

theorem test_acts (m : Manifest) :
    (((withM m0 d0).setManifest 1 (some m)).setManifest 2 (some m)).mftActs = 0 + 0 + m.acts.length + m.acts.length := rfl

theorem test_witness_ManifestsOpenAndFill_counts :
    ∃ m : Manifest, 4096 ≤ m.acts.length ∧
      (let d := withM m d0
       d.ready i0 = true ∧ d.timed 0 = false ∧ d.loadFree 0 = true ∧ d.manifest 0 = some m ∧ m.owner = 0 ∧ m.committed = false) ∧
      (let d := ((withM m0 d0).setManifest 1 (some m)).setManifest 2 (some m)
       d.ready i0 = true ∧ d.timed 0 = false ∧ d.loadFree 0 = true ∧ d.manifest 0 = some m0 ∧ m0.acts.length < 4096 ∧ 8192 ≤ d.mftActs) := by
  have h : (List.replicate 4096 (MftAct.put 0x100000000 0)).length = 4096 := List.length_replicate
  refine ⟨{ m0 with acts := List.replicate 4096 (.put 0x100000000 0) }, h.ge, ⟨rfl, rfl, rfl, rfl, rfl, rfl⟩,
    rfl, rfl, rfl, rfl, by decide, ?_⟩
  rw [test_acts, h]

/-- ManifestsOpenAndFill: a descriptor at the start of the SRAM, with a payload of 14 bytes at its end, and ones that MSEND refuses. -/
theorem test_witness_ManifestsOpenAndFill_send :
    (let d := (withM m0 d0).poke 0x100000000 (leBytes 4 0x000E0002 ++ leBytes 4 0x1FFFF2 ++ leBytes 4 1 ++ leBytes 4 7)
     mftReady d i0 ∧ d.manifest 0 = some m0 ∧ d.mftWord (d.ctx i0) 0 false = .ok 0x100000000 ∧
     (∀ j, j < 16 → d.eccAt (0x100000000 + j) = .clean) ∧ d.value 0x100000000 1 = 2 ∧ d.value 0x100000001 1 = 0 ∧
     d.value 0x100000002 2 = 14 ∧ d.value 0x100000008 4 < 2 ^ 18 ∧ d.sendArgOk 2 14 (d.value 0x10000000C 4) = true ∧
     d.value 0x100000004 4 + d.value 0x100000008 4 * 2 ^ 32 = 0x1001FFFF2 ∧
     sendPlace d.cfg 0 0x1001FFFF2 = some 0x1001FFFF2 ∧ sendPlace d.cfg 0 (0x1001FFFF2 + 14 - 1) = some (0x1001FFFF2 + 14 - 1) ∧
     (∀ j, j < 14 → d.eccAt (0x1001FFFF2 + j) = .clean) ∧ room d m0 48 ∧ regionPlaced d.cfg (0x100000000, 16) = true) ∧
    (let d := withM m0 (withB (gprs [(16, 0x1FFFF8)]))
     mftReady d i0 ∧ d.manifest 0 = some m0 ∧ d.mftWord (d.ctx i0) 0x1FFFF8 false = .ok 0x1001FFFF8 ∧
     regionPlaced d.cfg (0x1001FFFF8, 16) = false ∧ ∀ j, j < 16 → d.eccAt (0x1001FFFF8 + j) = .clean) ∧
    (let d := (withM m0 d0).poke 0x100000000 (leBytes 4 0x000E0002 ++ leBytes 4 0 ++ leBytes 4 6 ++ leBytes 4 7)
     mftReady d i0 ∧ d.manifest 0 = some m0 ∧ sendPlace d.cfg 0 0x600000000 = none) ∧
    (withM m0 d0).value 0x100000000 1 = 0 := by decide +kernel

theorem test_witness_ManifestCommitsAndAborts :
    (∀ m ∈ [m0, { m0 with sync := true }, { m0 with edit := true }],
     let d := withM m d0
     mftReady d i0 ∧ d.manifest 0 = some m ∧ m.owner = 0 ∧ m.committed = false ∧ d.scn.queue.contains (.berth 0) = false ∧
     ∀ j, j < 16 → (d.sg j).undecided = false) ∧
    (let d := withM m0 (withB (gprs [(16, 2 ^ 31 - 1), (17, 2 ^ 31)]))
     mftReady d i0 ∧ d.manifest 0 = some m0 ∧ d.tbNow = 0 ∧ d.fld Reg.MFT_LEAD 0 12 < 3 * (2 ^ 31 - 1) ∧
     ((d.berth 0).operand 16).toNat = 2 ^ 31 - 1 ∧ ((d.berth 0).operand 17).toNat = 2 ^ 31) ∧
    (∀ l ∈ [[0], [0, 1]],
     let d := inCycle l
     mftReady d i0 ∧ (d.manifest 16).isSome = true ∧ d.classOf 0 = some 0 ∧ ∀ j, j < 16 → (d.sg j).undecided = false) := by
  decide +kernel

theorem test_witness_PinsAndEnginePort :
    (d0.ready i0 = true ∧ d0.loadFree 0 = true) ∧
    (let d := d0.setEngine 7 { d0.engine 7 with rx := [5] }
     d.engPresent 7 = true ∧ d.txHeld 7 = false ∧ (d.engine 7).tx.length < d.fifoDepth 7 ∧ (d.engine 7).rx = [5] ∧
     d.fifoDepth 7 ≠ 0) := by decide +kernel

/-! ### Witnesses: the Carousel, twin pairs, the memories' upkeep and the host's bollards -/

theorem test_witness_BerthCommands :
    (let d := (withB fun x => { x with armed := true }).wr64 (Reg.CAR_TCMP 0 0) 0
     d.present 0 = true ∧ (d.berth 0).armed = true ∧ (d.berth 0).wait = .none ∧ (d.berth 0).woke = none ∧ d.mode ≠ .doze ∧
     d.rd64 (Reg.CAR_TCMP 0 0) ≤ d.tbNow) ∧
    (d0.berth 0).armed = false ∧ d0.tbNow < (withR [(Reg.CAR_TCMP 0 0, 1)]).rd64 (Reg.CAR_TCMP 0 0) ∧
    (d0.arrives ho (Reg.CAR_PARKREQ 0) = true ∧ d0.present 0 = true ∧ d0.parkAsked 0 = false ∧ (d0.berth 0).wait = .none) ∧
    (d0.arrives ho (Reg.CAR_PARKREQ 31) = true ∧ d0.present 511 = true ∧ d0.parkAsked 511 = true ∧ d0.twinMis (pairOf 31) = false ∧
     d0.car.copying = [] ∧ d0.mode ≠ .doze ∧ ({ d0 with mode := .doze } : Device).arrives ho (Reg.CAR_PARKREQ 31) = true) ∧
    (let d := withB fun x => { x with stores := [⟨0, 4, 0, 0, 2, false⟩] }
     d.present 0 = true ∧ (d.berth 0).idle = false ∧ d0.parkAsked 511 = true) ∧
    (d0.arrives ho (Reg.CAR_RECLASS 31) = true ∧ 31 < d0.cfg.cores ∧ d0.present 511 = true ∧ d0.parked 0 = false ∧
     d0.parked 511 = true ∧ ((reclassTimed 15 7 16 4 4 : Nat) : BitVec 32).toNat = reclassTimed 15 7 16 4 4 ∧
     reclassTimed 15 0 4 1 1 = 0x10441F ∧
     (∀ j, j < 16 → j ≠ 15 → d0.timed (496 + j) = false)) ∧
    d0.arrives ho (Reg.CAR_BRCLR 31) = true := by decide +kernel

theorem test_witness_TwinPairsAndBerthResets :
    (let d := withR [(Reg.CAR_TWIN 7, 2), (Reg.CAR_PARKED 30, 0xFFFF), (Reg.CAR_PARKED 31, 0xFFFF)]
     d.twinEn 15 = true ∧ d.twinAct 15 = false ∧ 15 / 2 < d.cfg.tiles ∧ d.car.copying.contains 15 = false ∧
     (∀ b, b < 16 * lowCore 15 + 32 → 16 * lowCore 15 ≤ b → d.parked b = true)) ∧
    (let d : Device := { d0 with car := { d0.car with copying := [15] } }
     d.car.copying = [15] ∧ d.car.unparks = [] ∧ d.bol.entries = []) ∧
    (let d := withR [(Reg.CAR_TWIN 0, 0x100), (Reg.CAR_PARKED 0, 0xFFFF), (Reg.CAR_PARKED 1, 0xFFFF)]
     d.twinEn 0 = false ∧ d.twinAct 0 = true ∧ ∀ b, b < 16 * lowCore 0 + 32 → 16 * lowCore 0 ≤ b → d.parked b = true) ∧
    (d0.arrives ho Reg.PWR_CRST = true ∧ d0.trusted ho = true ∧ 31 < d0.cfg.cores ∧ d0.twinAct (pairOf 31) = false ∧
     d0.arrives ho Reg.PWR_BRST = true ∧ d0.present 511 = true) := by decide +kernel

theorem test_witness_MemoryUpkeep : d0.scrubs 0 = true ∧ d0.scrubs 8 = true ∧ (withR [(Reg.MEM_SCRUB, 0)]).scrubs 7 = false ∧
    d0.arrives ho Reg.MEM_CLR = true ∧ d0.arrives ho Reg.BOL_CLR = true := by decide +kernel

theorem test_witness_HostBollards :
    (let d := held (.berth 1) (d0.wr64 Reg.BOL_FADDR 0x100000000)
     d.arrives ho Reg.BOL_FORCE = true ∧ bitsOf (d.rd64 Reg.BOL_FADDR) 0 50 = 0x100000000 ∧ bolAddrOk d.cfg 0x100000000 = true ∧ d.eccAt 0x100000000 = .clean ∧
     d.tracked 0x100000000 = some (0, ⟨0x100000000, .berth 1, false, 3, 9⟩) ∧ d.waiters 0x100000000 = [] ∧ d.present 511 = true ∧
     (d.berth 511).wait = .none) ∧
    (let d := d0.wr64 Reg.BOL_FADDR 0x2001FFFFC
     bolAddrOk d.cfg 0x2001FFFFC = true ∧ d.tracked 0x2001FFFFC = none ∧ bitsOf (d.value 0x2001FFFFC 4) 30 2 ≠ 1) ∧
    (let d : Device := { withR [(Reg.QSP_FEAT_ACCEPT2, 16), (Reg.QSP_FEAT_DONE, 1)] with bol := { d0.bol with hostAddr := 0x100000000 } }
     d.arrives ho Reg.BOL_HOP = true ∧ d.hostBolHere ho = true ∧ bolAddrOk d.cfg 0x100000000 = true ∧ d.tracked 0x100000000 = none ∧
     d.freeEntry = some 0 ∧ bitsOf (d.value 0x100000000 4) 30 2 = 0) ∧
    (let d := held .gangway { withR [(Reg.DBG_AUTH, 2)] with bol := { d0.bol with gwAddr := 0x100000000 } }
     d.arrives .gangway Reg.BOL_HOP = true ∧ d.hostBolHere .gangway = true ∧ d.waiters 0x100000000 = [] ∧
     d.tracked 0x100000000 = some (0, ⟨0x100000000, .gangway, false, 3, 9⟩)) ∧
    (let d : Device := { withR [(Reg.QSP_FEAT_ACCEPT2, 16), (Reg.QSP_FEAT_DONE, 1), (Reg.RMS_CFG 0x22, 0)] with
       bol := { d0.bol with hostAddr := 0x100000000 }, mem := { d0.mem with ecc := [(0x20000000, .uncorrectable)] } }
     d.arrives ho Reg.BOL_HOP = true ∧ d.hostBolHere ho = true ∧ d.eccAt 0x100000000 = .uncorrectable ∧
     d.flag (Reg.RMS_CFG 0x22) 12 = false) := by decide +kernel

/-! ### Witnesses: pin engines and pads -/

theorem test_witness_EnginesExecute_words :
    ∀ w ∈ [0x0100, 0x1000, 0x113F, 0x123F, 0x2A07, 0x3101, 0x311F, 0x421F, 0x5000, 0x6202, 0x6242, 0x62C2, 0x721F, 0x7300, 0x9000,
      0x9800, 0xA807, 0xB000, 0xBFFF], engAt (eng w id) 0 w := by decide +kernel

theorem test_witness_EnginesExecute :
    ((eng 0 id).engine 0).flag peShift 2 = false ∧ ((eng 0 id).engine 0).flag peShift 3 = false ∧
    ((eng 0x5000 id).engine 0).rx.length < (eng 0x5000 id).fifoDepth 0 ∧
    (let d := eng 0x5800 fun x => { x with tx := [5] }
     engAt d 0 0x5800 ∧ (d.engine 0).tx = [5] ∧ d.fifoDepth 0 ≠ 0) ∧
    (let d := eng 0x8FF8 fun x => x.setRg pePins 0x2000
     engAt d 0 0x8FF8 ∧ 0x8FF8 = 0x8000 + 128 * 31 + 64 * 1 + 8 * 7 ∧ (d.engine 0).padOf 31 = some 31 ∧ d.lowerOwns 0 31 = false) ∧
    (let d := eng 0x9400 fun x => x.setRg peCntcmp 9
     engAt d 0 0x9400 ∧ ((d.engine 0).rg peCnt + 1) % 2 ^ 24 ≠ (d.engine 0).rg peCntcmp % 2 ^ 24) ∧
    (let d := (eng 0xFFFF id).setFlag (Reg.RMS_CFG 0x18) 12 false
     engAt d 0 0xFFFF ∧ d.flag (Reg.RMS_CFG 0x18) 12 = false) := by decide +kernel

theorem test_witness_EnginesExecute_jumps : ∀ q ∈ jmpConds d0 0 (d0.engine 0), engAt (eng (0x1000 + 256 * q.1 + 63) id) 0 (0x1000 + 256 * q.1 + 63) := by
  decide +kernel

theorem test_witness_EnginesExecute_frame : (∀ code, peDecode ((eng 0x0100 id).engine 0).current ≠ .error code) ∧
    (eng 0x0100 id).fifoDepth 0 ≠ 0 := ⟨nofun, by decide +kernel⟩

theorem test_witness_EnginesExecute_waits :
    (let d := (eng 0x2A07 fun x => { x with wait := .cond true 0 }).setTileReg 0 48 0x80
     engWaits d 0 0x2A07 (.cond true 0) ∧ bitOf (d.tileReg 0 48) 7 = true) ∧
    (let d := eng 0x2A00 fun x => { x with wait := .cond false 0 }
     engWaits d 0 0x2A00 (.cond false 0) ∧ bitOf (d.tileReg 0 48) 0 = false) ∧
    (let d := eng 0xAC07 fun x => { x with wait := .flag }
     engWaits d 0 0xAC07 .flag ∧ bitOf (d.tileReg 0 48) 7 = false) ∧
    engWaits (eng 0xBFFF fun x => { x with wait := .delay 4095 }) 0 0xBFFF (.delay 4095) ∧
    (let d := eng 0x5C00 fun x => { x with wait := .pull, tx := [5] }
     engWaits d 0 0x5C00 .pull ∧ (d.engine 0).tx = [5]) := by decide +kernel

theorem test_witness_EnginesAreControlled :
    (d0.arrives ho (engOffset 63 2) = true ∧ engPlain d0 63 ∧ d0.migrating 63 = false ∧ d0.pwr.relock = none ∧
     (d0.engine 63).run = false ∧ (d0.engine 63).err = 0) ∧
    (let d := d0.setEngine 0 ((d0.engine 0).setFld peStat 22 2 1)
     engPlain d 0 ∧ d.migrating 0 = false ∧ (d.engine 0).run = false ∧ (d.engine 0).err ≠ 0) ∧
    (engPlain (eng 0 id) 0 ∧ (eng 0 id).migrating 0 = false ∧ ((eng 0 id).engine 0).run = true) ∧
    ((∀ j, j < 8 → engPlain d0 (56 + j) ∧ d0.migrating (56 + j) = false ∧ (d0.engine (56 + j)).err = 0) ∧ d0.engPresent 56 = true ∧
     d0.arrives ho (engOffset 56 51) = true ∧ d0.arrives ho (engOffset 56 52) = true) ∧
    (d0.mode ≠ .doze ∧ d0.arrives ho (engOffset 56 49) = true ∧ d0.arrives ho (engOffset 56 50) = true) ∧
    (d0.arrives ho (0x40000 + 0x1000 * 63 + 0x100 + 4 * 63) = true ∧ d0.engPresent 63 = true ∧ d0.mode ≠ .run) ∧
    ({ d0 with mode := .run, scn := { d0.scn with gate := some ⟨4, 0⟩ } } : Device).gateIs 4 = true := by decide +kernel

theorem test_witness_MigrationMovesAnEngine :
    ∀ r ∈ [false, true],
      let d := (d0.setTileReg 0 55 8).setEngine 0 { d0.engine 0 with run := r }
      d.arrives ho (engOffset 0 53) = true ∧ d.engPresent 0 = true ∧ d.migPhase 0 = 0 ∧ (d.engine 1).run = false ∧ (d.engine 1).err = 0 ∧
      (d.engine 1).fld pePins 8 6 = 0 ∧ d.handleEngine 0 0 = some 0 ∧ (∀ j, j < 8 → j ≠ 0 → d.handleEngine 0 j ≠ some 1) ∧
      (∀ j, j < 8 → (d.engine j).flag peShift 14 = false) ∧ d.mode ≠ .run := by decide +kernel

theorem test_witness_MigrationMovesAnEngine_phases :
    (let d := migrates 1 false id
     d.migPhase 0 = 1 ∧ d.migSrc 0 = 0 ∧ d.migDst 0 = 1 ∧ (d.engine 0).run = true ∧ (d.engine 0).wait = .none ∧ d.fenced 0 = true) ∧
    (let d := migrates 1 false fun x => { x with prog := [] }
     d.migPhase 0 = 1 ∧ d.engPresent 0 = true ∧ d.arrives ho (engOffset 0 53) = true) ∧
    (∀ h ∈ [false, true],
     let d := migrates 2 h id
     d.migPhase 0 = 2 ∧ d.migSrc 0 ≠ d.migDst 0 ∧ d.migOf 0 = some ⟨0, 1, 0, false, h⟩) ∧
    (let d := migrates 3 false id
     d.migPhase 0 = 3 ∧ (d.engine 0).rx = [] ∧ d.migHandle 0 < 8) := by decide +kernel

theorem test_unrouted : unrouted d0 := fun t i h k => (by decide +kernel : ∀ t, t < 8 → ∀ i, i < 32 → d0.fld (Reg.PAD_CFG t i) 20 5 = 0) t h i k

/-- Pad 0 of tile 0 driven to 0 and to 1 by its safe-force, and left undriven with each pull. -/
theorem test_witness_PadsTakeLevelsAndWrites_levels :
    (d0.isolated = false ∧ 7 < d0.cfg.tiles ∧ d0.padDriveBy Engine.seen 7 31 = .highZ ∧ d0.padDriveBy Engine.seen 0 0 = .highZ) ∧
    (let d := withR [(Reg.PAD_SFST 0, 1), (Reg.PAD_CFG 0 0, 0)]
     d.isolated = false ∧ d.fld (Reg.PAD_CFG 0 0) 11 2 = 0 ∧ d.padDriveBy Engine.seen 0 0 = .zero) ∧
    (let d := withR [(Reg.PAD_SFST 0, 1), (Reg.PAD_CFG 0 0, 0x800)]
     d.isolated = false ∧ d.padDriveBy Engine.seen 0 0 = .one) ∧
    (∀ q ∈ [0, 1, 2, 3],
     let d := withR [(Reg.PAD_CFG 0 0, q)]
     d.padDriveBy Engine.seen 0 0 = .highZ ∧ d.padFunction 0 0 ≠ 1 ∧ d.fld (Reg.PAD_CFG 0 0) 0 2 = q) ∧
    (let d : Device := { d0 with mode := .factory }
     d.isolated = false ∧ d.padDriveBy Engine.seen 0 0 = .block) ∧
    (let d := withR [(Reg.PAD_CFG 7 31, 0x80)]
     d.padDriveBy Engine.seen 7 31 = .highZ ∧ d.padFunction 7 31 = 1) ∧
    ({ d0 with cfg := { cf with qs := .qs4 } } : Device).cfg.tiles ≤ 4 ∧
    (∀ q ∈ [0, 512],
     let d := withR [(Reg.PAD_CFG 7 31, 0x80), (Reg.PAD_CMP 7 1, q)]
     d.cmpRuns 15 = true ∧ d.pad.cmpDue = [] ∧ d.fld (Reg.PAD_CMP 7 1) 0 10 = q ∧ d.flag (Reg.PAD_CMP 7 1) 16 = false) ∧
    (1800000 * 0 + 7200000 : Int) < 1024 * 1800000 ∧ (1024 * 0 : Int) < 1800000 * 512 - 7200000 ∧ d0.cmpRuns 0 = false := by decide +kernel

theorem test_witness_PadsTakeLevelsAndWrites :
    ([Reg.PAD_CFG 7 31, Reg.PAD_DOUT 7, Reg.PAD_OWN 7 31, Reg.PAD_SFST 7, Reg.PAD_IMGB 7, Reg.PAD_LATCH 7, Reg.PAD_STAT 7,
      Reg.PAD_CMP 7 1].all fun o => d0.arrives ho o) = true ∧ d0.identity ho = .secure ∧
    (withR [(Reg.RMS_CFG 6, 0)]).flag (Reg.RMS_CFG 6) 12 = false ∧
    (let d := withB (srs [(0, 1)])
     d.arrives (.berth 0) (Reg.PAD_OWN 7 31) = true ∧ d.arrives (.berth 0) (Reg.PAD_IMGB 7) = true ∧
     d.arrives (.berth 0) (Reg.PAD_CMP 7 1) = true ∧ d.identity (.berth 0) ≠ .secure) := by decide +kernel

/-! ### Witnesses: events, time and the line phase -/

theorem test_onlyClassesTake {d : Device} {n : Nat} (h : d.mode = .run ∧ n ≠ 127 ∧ d.flag Reg.DBG_TCTL 4 = false ∧ d.eng.engines = [] ∧
    d.lptSrc ≠ 2 ∧ d.flag (Reg.EVF_WAKE (n / 32)) (n % 32) = false ∧
    (∀ k, k < 4 → d.flag Reg.TB_CAPCFG (8 * k + 7) = false ∧ d.flag Reg.EVF_RMSCH (8 * k + 7) = false) ∧
    (∀ c, c < d.cfg.cores → ∀ m, m < 8 → d.lineTakes c m n = false) ∧
    ∀ g, g < 16 → d.flag (Reg.EVF_GRP g) 7 = false ∧ d.flag (Reg.EVF_GRP g) 15 = false) : onlyClassesTake d n :=
  ⟨h.1, h.2.1, h.2.2.1, h.2.2.2.1, h.2.2.2.2.1, h.2.2.2.2.2.1, h.2.2.2.2.2.2.1, fun c m a b => h.2.2.2.2.2.2.2.1 c a m b,
    h.2.2.2.2.2.2.2.2⟩

theorem test_witness_EventFabricActs :
    (let d : Device := { d0 with mode := .run, evf := { d0.evf with pulses := [0] } }
     d.chLevel 0 = true ∧ 0 ∉ d.evf.asserted ∧ onlyClassesTake d 0 ∧ ∀ c, c < 16 → d.clsOn c = false) ∧
    d0.chLevel 127 = false ∧ d0.isolated = false ∧ d0.arrives ho (Reg.EVF_FIRE 3) = true ∧ d0.arrives ho (Reg.EVF_CHCFG 127) = true ∧
    d0.arrives ho (Reg.EVF_GRP 15) = true ∧ d0.arrives ho Reg.EVF_SWI = true ∧ d0.present 511 = true ∧
    (d0.berth 511).wait = .none ∧ (d0.berth 511).woke = none ∧ d0.mode ≠ .doze ∧
    (let d := withR [(Reg.CAR_TWIN 0, 0x100)]
     d.arrives ho Reg.EVF_SWI = true ∧ d.present 31 = false ∧ 31 < d.cfg.berths) ∧ (Device.fresh { cf with qs := .qs4 }).arrives ho Reg.EVF_SWI = true ∧
    ({ cf with qs := .qs4 } : Straps).berths ≤ 256 := by
  refine ⟨⟨?_, ?_, test_onlyClassesTake ?_, ?_⟩, ?_⟩ <;> decide +kernel

theorem test_witness_TimebaseAndLinePhase :
    (d0.arrives ho Reg.TB_STEP = true ∧ d0.flag Reg.TB_CTRL 0 = false ∧ d0.mode ≠ .run ∧
     ({ d0 with mode := .run } : Device).arrives ho Reg.TB_STEP = true ∧
     (withR [(Reg.TB_CTRL, 1)]).flag Reg.TB_CTRL 0 = true ∧ (withR [(Reg.TB_CTRL, 1)]).arrives ho Reg.TB_STEP = true) ∧
    (let d : Device := { d0 with tb := { d0.tb with step := some (0xFFFFFFFF, 2) } }
     d.tb.step = some (0xFFFFFFFF, 2) ∧ (0 : Int) + 8 * (BitVec.ofNat 32 0xFFFFFFFF).toInt < 0) ∧
    (let d : Device := { d0 with tb := { d0.tb with step := some (1, 2) } }
     d.tb.step = some (1, 2) ∧ d.tbNow % 8 = 0 ∧ (0 : Int) ≤ d.tbNow + 8 * (BitVec.ofNat 32 1).toInt) ∧
    d0.tb.step = none ∧ d0.arrives ho (Reg.TB_CMP 15) = true ∧ d0.arrives ho (Reg.TB_CMPPER 15) = true ∧
    (let d : Device := { (withR [(Reg.TB_CMPPER 15, 2 ^ 31 + 5)]).wr64 (Reg.TB_CMP 15) 0 with tb := { d0.tb with armed := [15] } }
     d.tbDue 15 = true ∧ d0.tbDue 15 = false) ∧
    ({ d0 with tb := { d0.tb with pps := [2 ^ 64 - 1] } } : Device).tb.pps = [2 ^ 64 - 1] ∧
    (let d := tracks [(Reg.LPT_CFG, 9)] fun x => { x with arrivals := [(7, 5)] }
     d.lpt.arrivals = [(7, 5)] ∧ d.lptOff = false ∧ d.lptState = 0 ∧ d.lpt.last = none) ∧
    (let d := tracks [(Reg.LPT_CFG, 9), (Reg.LPT_STAT, 1)] fun x => { x with arrivals := [(7, 5)], last := some 6 }
     d.lptOff = false ∧ d.lpt.last = some 6 ∧ 2 * (7 - 6) < d.lptReference) ∧
    (let d := (tracks [(Reg.LPT_STAT, 10)] fun x => { x with edges := 7500000, last := some 0, place := 1 }).setFlag (Reg.RMS_CFG 5) 12 false
     d.lptState = 2 ∧ 3 * d.lptPeriod ≤ 2 * d.lptSince ∧ d.flag (Reg.RMS_CFG 5) 12 = false) ∧
    d0.lptState = 0 ∧
    (let d := tracks [(Reg.LPT_STAT, 11)] fun x => { x with edges := 40000000 }
     d.lptState = 3 ∧ d.fld Reg.LPT_CFG 16 4 = 8 ∧ 8 * d.lptPeriod ≤ d.lpt.edges - d.lpt.holdFrom) ∧
    d0.arrives ho Reg.LPT_CFG = true ∧ d0.arrives ho Reg.LPT_STAT = true ∧ (tracks [] fun x => { x with wraps := 1 }).lpt.wraps ≠ 0 ∧
    d0.lpt.wraps = 0 := by decide +kernel

/-! ### Witnesses: the scan sequencer and the manifest unit -/

theorem test_witness_ClassesTickAndRelease :
    (d0.arrives ho (Reg.SCN_CLS 15) = true ∧ d0.clsOn 15 = false ∧ d0.rd (Reg.SCN_PER 15) < 15625) ∧
    (let d := withR [(Reg.SCN_PER 15, 15625)]
     d.clsOn 15 = false ∧ 15625 ≤ d.rd (Reg.SCN_PER 15) ∧ d.rd64 (Reg.SCN_START 15) < 2 ^ 63 ∧ d.tbNow < 2 ^ 63) ∧
    (let d : Device := { (withR [(Reg.SCN_CLS 15, 1)]).wr64 (Reg.SCN_NEXT 15) 0 with mode := .run }
     d.clsOn 15 = true ∧ d.clsByChannel 15 = false ∧ d.rd64 (Reg.SCN_NEXT 15) ≤ d.tbNow ∧ (d.cls 15).running = false ∧
     latchesNothing d 15 ∧
     (let e := (d.setCls 15 { d.cls 15 with running := true }).setFlag (Reg.RMS_CFG 0x25) 12 false
      e.clsOn 15 = true ∧ e.clsByChannel 15 = false ∧ e.rd64 (Reg.SCN_NEXT 15) ≤ e.tbNow ∧ e.mode = .run ∧ (e.cls 15).running = true ∧
      e.flag (Reg.RMS_CFG 0x25) 12 = false)) ∧
    (let d : Device := { (Device.fresh { cf with qs := .qs2 }).wr (Reg.SCN_BIND 0) 31 with mode := .run }
     let e := d.setCls 15 { d.cls 15 with latching := true, release := true }
     latched e 15 [] ∧ (e.cls 15).release = true ∧ e.mode = .run ∧ e.expectedSet 15 = [0] ∧ (e.berth 0).wait = .none ∧
     (e.berth 0).woke = none ∧ e.latchBehind 15 = false) ∧
    (d0.cls 0).latching = false ∧
    (let d := (d0.setCls 0 { d0.cls 0 with latching := true }).setCls 15 { d0.cls 15 with latching := true }
     d.latchBehind 15 = true ∨ d.latchBehind 0 = true) ∧ 2500000000 < (withR [(Reg.SCN_PER 15, 2500000001)]).rd (Reg.SCN_PER 15) := by decide +kernel

/-- Class 15 is triggered by channel 0, on which a pulse stands, in RUN; its cycle runs or not. -/
def byChannel (runs : Bool) : Device :=
  let d := withR [(Reg.SCN_CLS 15, 3), (Reg.RMS_CFG 0x25, 0), (Reg.RMS_CFG 4, 0)]
  { d.setCls 15 { d.cls 15 with running := runs } with mode := .run, evf := { d0.evf with pulses := [0] } }

/-- ClassesTickAndRelease: an assertion of the channel of a class. -/
theorem test_witness_ClassesTickAndRelease_channel : ∀ r, let d := byChannel r
    (d.clsOn 15 = true ∧ d.clsByChannel 15 = true ∧ d.fld (Reg.SCN_CLS 15) 8 7 = 0 ∧ (∀ j, j < 16 → j ≠ 15 → d.clsOn j = false) ∧
     d.chLevel 0 = true ∧ 0 ∉ d.evf.asserted ∧ d.tbNow + 1 < 2 ^ 64 ∧ (d.cls 15).running = r ∧ latchesNothing d 15 ∧
     d.flag (Reg.RMS_CFG 0x25) 12 = false ∧ d.flag (Reg.RMS_CFG 4) 12 = false) ∧ onlyClassesTake d 0 := by
  intro r
  refine ⟨?_, test_onlyClassesTake ?_⟩ <;> revert r <;> decide +kernel

/-- The map of a register: its first entries stand at the start of tile SRAM 0. -/
def maps (reg : Nat) (vs : List Nat) (d : Device) : Device :=
  (d.wr64 reg (0x100000000 + vs.length * 2 ^ 53)).poke 0x100000000 (vs.flatMap (leBytes 8))

theorem test_mapped {d : Device} {reg : Nat} {vs : List Nat} (h : (d.mapAddr reg % 8 == 0 && d.mapCount reg == vs.length &&
    (List.range vs.length).all fun i => match placeOf d.cfg none (d.mapAddr reg + 8 * i) with
      | some (.sram _ _) => d.eccAt (d.mapAddr reg + 8 * i) == .clean && d.value (d.mapAddr reg + 8 * i) 8 == vs.getD i 0
      | _ => false) = true) : mapped d reg vs := by
  simp only [Bool.and_eq_true, beq_iff_eq, List.all_eq_true, List.mem_range] at h
  refine ⟨h.1.1, h.1.2, fun i hi => ?_⟩
  have := h.2 i hi
  split at this
  · rw [Bool.and_eq_true, beq_iff_eq, beq_iff_eq] at this
    exact ⟨⟨_, _, by assumption⟩, this⟩
  · cases this

/-- ClassesTickAndRelease: a tick that latches the pads of the last tile into the last words of the image, and the transfer of a word. -/
theorem test_witness_ClassesTickAndRelease_latches :
    (let w := 2 * cf.imageS - 12
     let d : Device := { maps (Reg.SCN_LMAP 15) [w + 2 ^ 32 + 2 ^ 40 * 7] ((withR [(Reg.SCN_CLS 15, 1)]).wr64 (Reg.SCN_NEXT 15) 0) with mode := .run }
     (d.clsOn 15 = true ∧ d.clsByChannel 15 = false ∧ d.rd64 (Reg.SCN_NEXT 15) ≤ d.tbNow ∧ d.mode = .run ∧ (d.cls 15).running = false ∧
      d.flag (Reg.SCN_STW 15) 0 = false ∧ d.eccAt (buffer d w) = .clean ∧ d.bol.entries = [] ∧ d.tileOn 7 = true) ∧
     latches d w 1 7 (d.padInWord 7) ∧ mapped d (Reg.SCN_LMAP 15) [w + 2 ^ 32 + 2 ^ 40 * 7]) ∧
    (let w := 2 * cf.imageS - 16
     let d := d0.setCls 15 { d0.cls 15 with latching := true, assembled := [w] }
     latched d 15 [w] ∧ d.latchBehind 15 = false ∧ (d.cls 15).release = false ∧ w % 8 = 0 ∧ d.eccAt (buffer d w) = .clean ∧
     d.eccAt (imageBase + w) = .clean ∧ d.bol.entries = []) := by
  refine ⟨⟨?_, ⟨?_, ?_, ?_, ?_, .inl ⟨rfl, ?_⟩⟩, test_mapped ?_⟩, ?_⟩ <;> decide +kernel

/-- Berth 0 waits for its manifest's commit, which stands alone in the queue; the guarded word holds v. -/
def commits (v : Nat) : Device :=
  { (withM m1 (withB fun x => { x with wait := .commit 16 0 })).poke 0x100000000 (leBytes 4 v) with
    scn := { (withM m1 d0).scn with queue := [.berth 0] } }

theorem test_witness_CommitsApply :
    (∀ v ∈ [0, 1],
     let d := commits v
     d.manifest 0 = some m1 ∧ m1.acts = [.guard 0x100000000 0 0, .put 0x100000004 9] ∧ m1.passed = false ∧ d.scn.queue = [.berth 0] ∧
     d.flag Reg.DBG_TCTL 5 = false ∧ d.eccAt 0x100000000 = .clean ∧ d.eccAt 0x100000004 = .clean ∧ d.bol.entries = [] ∧
     (d.berth 0).wait = .commit 16 0 ∧ (d.berth 0).reads = [] ∧ d.value 0x100000000 4 = v) ∧
    (∀ sync ∈ [false, true],
     let m : Manifest := { m1 with instant := some 0, sync := sync }
     let d := withM m d0
     d.manifest 0 = some m ∧ m.committed = true ∧ d.scn.queue.contains (.berth 0) = false ∧
     3 * 0 ≤ 3 * d.tbNow + d.fld Reg.MFT_LEAD 0 12 ∧ 3 * d.tbNow + d.fld Reg.MFT_LEAD 0 12 < 3 * 1000) ∧
    d0.scn.queue = [] := by decide +kernel

theorem test_witness_CommitsApply_others (v : Nat) :
    (∀ j, (commits v).coreHalted j = false) ∧ ∀ j, j ≠ 0 → ∀ r, ((commits v).berth j).wait ≠ .commit r 0 := by
  constructor
  · intro j
    have h : (commits v).rd Reg.DBG_HALTED = 0 := rfl
    simp [Device.coreHalted, Device.flag, h, bitOf]
  · intro j hj r
    have h : (commits v).berths = [(0, { d0.berth 0 with wait := .commit 16 0 })] := rfl
    simp [Device.berth, h, Store.get, hj.symm, berthDefault, Berth.reset]

theorem test_beginsAlone {d : Device} {n : Nat} {q : Commit} {m : Manifest} (hm : d.manifest n = some m) (hq : d.scn.queue = [q])
    (hr : d.rd Reg.DBG_HALTED = 0 ∧ d.flag Reg.DBG_TCTL 5 = false) (hb : d.berths = []) : beginsAlone d n q m :=
  ⟨hm, hq, hr.2, fun j => by simp [Device.coreHalted, Device.flag, hr.1, bitOf], fun b rd h => by
    simp [Device.berth, hb, berthDefault, Berth.reset] at h⟩

/-- The commit of a manifest of berth 0 stands alone in the queue. -/
def alone (m : Manifest) : Device := { withM m d0 with scn := { (withM m d0).scn with queue := [.berth 0] } }

/-- The commit of the class manifest of class 15 stands alone in the queue, in RUN. -/
def classAlone (m : Manifest) (l : List (Nat × Nat)) : Device :=
  let d := (withR l).setManifest 31 (some m)
  { d with mode := .run, scn := { d.scn with queue := [.cls 15] } }

/-- CommitsApply: pads, engines and a send; a scheduled one that still is ahead, and one that is late; and an edit. -/
theorem test_witness_CommitsApply_actions :
    let acts : List MftAct := [.pins 7 1 1 .secure, .start 7 0x80 .secure, .send 2 9 [1]]
    (beginsAlone (alone { m1 with acts := acts }) 0 (.berth 0) { m1 with acts := acts } ∧ d0.pwr.relock = none ∧ d0.macQueue 0 = [] ∧
     engPlain d0 63 ∧ d0.migrating 63 = false ∧ (d0.engine 63).err = 0) ∧
    (∀ v ∈ [8, 7], beginsAlone (alone { m1 with acts := acts, instant := some v }) 0 (.berth 0) { m1 with acts := acts, instant := some v }) ∧
    d0.tbNow < 8 ∧ 3 * d0.tbNow + 22 ≤ 3 * 8 ∧ 3 * 7 < 3 * d0.tbNow + 22 ∧
    beginsAlone (alone { m1 with acts := [], edit := true }) 0 (.berth 0) { m1 with acts := [], edit := true } ∧
    d0.flag Reg.SCN_STAT 0 = false ∧ (withR [(Reg.SCN_STAT, 1)]).flag Reg.SCN_STAT 0 = true := by
  refine ⟨⟨test_beginsAlone rfl rfl ?_ rfl, ?_⟩, fun v hv => test_beginsAlone rfl rfl (by revert v; decide +kernel) rfl, ?_, ?_, ?_,
    test_beginsAlone rfl rfl ?_ rfl, ?_⟩ <;> decide +kernel

/-- CommitsApply: a class commit with an output map, and one whose guard fails. -/
theorem test_witness_CommitsApply_class :
    (let w := 2 * cf.imageS - 8
     let m : Manifest := { m0 with acts := [.put (imageBase + w) 9] }
     let d := maps (Reg.SCN_OMAP 15) [w + 2 ^ 32 + 2 ^ 48, w + 4 * 1 + 2 ^ 33 + 2 ^ 40 * 63] (classAlone m [])
     beginsAlone d 31 (.cls 15) m ∧ outMapped d 15 w 1 63 ∧ d.mode = .run ∧ d.snRole ≠ 2 ∧ d.scn.capture = none ∧ d.bol.entries = []) ∧
    (let m : Manifest := { m0 with acts := [.guard 0x100000000 1 0] }
     let d := classAlone m [(Reg.RMS_CFG 0x26, 0x21001)]
     beginsAlone d 31 (.cls 15) m ∧ d.eccAt 0x100000000 = .clean ∧ d.value 0x100000000 4 ≠ 1 ∧ (d.cls 15).kept = false ∧
     d.mapCount (Reg.SCN_OMAP 15) = 0 ∧ quietSource d 0x26) := by
  refine ⟨⟨test_beginsAlone rfl rfl ?_ rfl, ⟨?_, ?_, ?_, ?_, ?_, ?_, test_mapped ?_, ?_⟩, ?_⟩, test_beginsAlone rfl rfl ?_ rfl, ?_⟩ <;>
    decide +kernel

theorem test_witness_ScanUpkeep :
    (let d := withR [(Reg.SCN_EDIT, 0x10000)]
     d.flag Reg.SCN_EDIT 16 = true ∧ d.flag Reg.SCN_STAT 0 = false ∧ ∀ j, j < 16 → (d.cls j).running = false) ∧
    (d0.flag Reg.SCN_EDIT 16 = false ∧ d0.arrives ho Reg.SCN_CKPT = true ∧ d0.scn.capture = none ∧ d0.scn.gate = none ∧
     d0.arrives ho Reg.SCN_MNT = true ∧ d0.arrives ho (Reg.SCN_OVR 15) = true ∧ d0.arrives ho Reg.MFT_CLR = true ∧
     d0.mode = .service ∧ d0.tbNow % 250000 = 0 ∧ d0.bol.entries = [] ∧ ({ d0 with mode := .run } : Device).mode ≠ .service) ∧
    (let d : Device := { d0 with scn := { d0.scn with gate := some ⟨3, Writer.who ho⟩ } }
     d.scn.capture = none ∧ d.scn.gate = some ⟨3, Writer.who ho⟩) ∧
    (let k : Capture := ⟨false, 0, true, 0, 1, 0x20000, List.replicate 48 0⟩
     let d : Device := { d0 with scn := { d0.scn with capture := some k } }
     d.scn.capture = some k ∧ k.fixed = true ∧ d.mftBytes ≤ 0x20000 ∧ 0x20000 < (withM { m0 with bytes := 0x20001 } d).mftBytes ∧
     d.arrives ho Reg.SCN_CKPT = true) := by decide +kernel

/-! ### Witnesses: Ringmaster, the Lighthouses and Quayside -/

theorem test_witness_RingmasterSourcesAndLog :
    (d0.arrives ho Reg.RMS_CLEAR = true ∧ d0.trusted ho = true ∧ d0.rmsClass 0xFF < 4 ∧ d0.flag (Reg.RMS_STATN 0xFF) 3 = false ∧
     rmsExists 0xFF = true ∧ (withR [(Reg.RMS_STATN 0, 4)]).rmsClass 0 = 4 ∧ d0.arrives ho Reg.RMS_INJ = true ∧ d0.mode ≠ .factory) ∧
    (let d : Device := { withR [(Reg.RMS_CFG 0, 0x21001)] with mode := .factory }
     d.arrives ho Reg.RMS_INJ = true ∧ d.mode = .factory ∧ quietSource d 0) ∧
    (d0.arrives ho Reg.RMS_RAISE = true ∧ quietSource (withR [(Reg.RMS_CFG 0xFF, 0xFF1002)]) 0xFF ∧
     d0.arrives (.host false) Reg.RMS_RAISE = true ∧ d0.trusted (.host false) = false) ∧
    (let d : Device := { d0 with rms := { d0.rms with ready := true, queue := [.entry 0xFF 1 0 0 1 3 7 0] } }
     d.logRuns = true ∧ d.rms.resetDue = none ∧ d.rms.queue = [.entry 0xFF 1 0 0 1 3 7 0]) ∧
    (let d : Device := { d0 with rms := { d0.rms with ready := true, resetDue := some .ringmaster, queue := [.entry 0xFF 4 0 0 1 3 7 0] } }
     d.logRuns = true ∧ d.rms.resetDue = some .ringmaster ∧ ([] : List LogItem).any LogItem.holdsReset = false) ∧
    d0.logRuns = false ∧ d0.rms.ready = false ∧ d0.isolated = false ∧ d0.mem.ecc = [] := by decide +kernel

theorem test_witness_LighthousesWatch :
    (d0.arrives ho (Reg.LHS_CFG 8) = true ∧ d0.lhsExists 8 = true ∧ d0.flag Reg.LHS_LOCK 0 = false ∧
     (withR [(Reg.LHS_LOCK, 1)]).flag Reg.LHS_LOCK 0 = true) ∧
    (let d := d0.setFlag (Reg.RMS_CFG 0x3F) 12 false
     d.arrives (.berth 0) (Reg.LHS_SERVE 8) = true ∧ d.lhsExists 8 = true ∧ d.flag (Reg.RMS_CFG 0x3F) 12 = false ∧
     0 = d.fld (Reg.LHS_OWNER 8) 0 9 ∧ d.lhsExpired 8 = false ∧ d.lhsOn 8 = false ∧ 250 * d.fld (Reg.LHS_WIN 8) 0 26 ≤ 0) ∧
    (let d := (withR [(Reg.LHS_CFG 8, 1), (Reg.LHS_WIN 8, 1)]).setFlag (Reg.RMS_CFG 0x3F) 12 false
     d.arrives (.berth 1) (Reg.LHS_SERVE 8) = true ∧ 1 ≠ d.fld (Reg.LHS_OWNER 8) 0 9 ∧ d.lhsOn 8 = true ∧
     d.lpt.edges - d.lhs.started.get (fun _ => 0) 8 < 250 * d.fld (Reg.LHS_WIN 8) 0 26 ∧
     (let e : Device := { d with lhs := { d.lhs with started := [(8, 0)] } }
      (e.lhs.started.any fun x => x.1 == 8) = true ∧ e.lpt.edges < e.lhs.started.get (fun _ => 0) 8 + 250 * e.fld (Reg.LHS_WIN 8) 0 26)) ∧
    (let d := (withR [(Reg.LHS_CFG 8, 1)]).setFlag (Reg.RMS_CFG 0x3F) 12 false
     d.arrives (.berth 0) (Reg.LHS_SERVE 8) = true ∧ 0 = d.fld (Reg.LHS_OWNER 8) 0 9 ∧ d.lhsExpired 8 = true ∧
     (d.lhs.started.any fun x => x.1 == 8) = false) ∧
    (let d := (atLevel 0 [(62, 0x2000), (63, 0)]).setFlag (Reg.RMS_CFG 0x3F) 12 false
     enters d i0 1 ∧ (d.berth 0).pl = 0 ∧ d.lhsExists 8 = true ∧ d.flag (Reg.RMS_CFG 0x3F) 12 = false) ∧
    (∀ m ∈ [Mode.run, .factory],
     let d : Device := { withR [(Reg.LHS_CFG 8, 1), (Reg.RMS_CFG 0x3E, 0)] with mode := m }
     d.lhsExpired 8 = true ∧ d.rms.resetDue = none ∧ d.flag (Reg.RMS_CFG 0x3E) 12 = false ∧ d0.lhsExpired 8 = false ∧
     d.mode.safeFrom = true ∧ d.mode ≠ .deepSleep) ∧
    (let d := (relocks ⟨6, 1, 0, some 8, some 9, some 16, true, false⟩).wr Reg.CLK_STAT 12
     d.lockWatched = true ∧ d0.lockWatched = false) ∧
    (let d := withR [(Reg.LHS_CFG 7, 5), (Reg.RMS_CFG 0x47, 0)]
     d.lhsExpired 7 = true ∧ 7 < d.cfg.tiles ∧ d.flag (Reg.RMS_CFG (0x40 + 7)) 12 = false ∧ d.twinAct 14 = false ∧ d.twinAct 15 = false) ∧
    (d0.isolated = false ∧ (withR [(Reg.RMS_CFG 0x3C, 0)]).flag (Reg.RMS_CFG 0x3C) 12 = false) ∧
    d0.arrives ho Reg.LHS_RCCLR = true ∧ d0.mode ≠ .factory ∧ (0x5C1E : BitVec 32).toNat % 2 ^ 16 = 0x5C1E ∧
    ({ d0 with mode := .factory } : Device).arrives ho Reg.LHS_RCCLR = true := by decide +kernel

theorem test_quietPort (d : Device) (x : Berth) (h : d.berths = [(0, x)]) (hu : d.unsent 0 = false) (hr : x.reads = [])
    (hm : d.qsp.msi = [] ∧ d.qsp.load = none) : quietPort d := by
  have g (b : Nat) (hb : b ≠ 0) : d.berth b = Berth.reset := by simp [Device.berth, h, Store.get, hb.symm, berthDefault]
  have g0 : d.berth 0 = x := by simp [Device.berth, h, Store.get]
  refine ⟨fun b => ?_, fun b r hrs => ?_, hm⟩ <;> by_cases hb : b = 0
  · exact hb ▸ hu
  · simp [Device.unsent, g b hb, Berth.reset]
  · subst hb; simp [g0, hr] at hrs
  · simp [g b hb, Berth.reset] at hrs

/-- Berth 0 with an access in flight on the initiator port. -/
def inFlight (o : InitOwner) (write : Bool) (f : Berth → Berth) : Device :=
  { withB f with qsp := { d0.qsp with requests := [⟨o, 0, 4, write, 0, 3, 0, 0⟩] } }

theorem test_witness_QuaysidePorts_responses :
    (let d := inFlight .msi true fun x => { x with seq := 1 }
     quietPort d ∧ d.qsp.held = false ∧ d.isolated = false ∧ d.qsp.requests[0]? = some ⟨.msi, 0, 4, true, 0, 3, 0, 0⟩) ∧
    (let d := inFlight (.fetch 0) false fun x => { x with seq := 1 }
     quietPort d ∧ d.qsp.held = false ∧ d.isolated = false ∧ d.qsp.requests[0]? = some ⟨.fetch 0, 0, 4, false, 0, 3, 0, 0⟩) ∧
    (let t : StoreEntry := ⟨2 ^ 49, 4, 0, 0, 2, true⟩
     let d := inFlight (.store 0 0) true fun x => { x with stores := [t] }
     quietPort d ∧ d.qsp.held = false ∧ (d.berth 0).wait = .none ∧ (d.berth 0).faults = [] ∧ d.parkAsked 0 = false ∧
     t ∈ (d.berth 0).stores) ∧
    (let l : LoadEntry := ⟨some 8, .memory (2 ^ 49) 4 false, 0, 0, none, false⟩
     let d := inFlight (.load 0 0) false fun x => { x with loads := [l] }
     quietPort d ∧ (d.berth 0).loads = [l] ∧ (d.berth 0).wait = .none ∧ (d.berth 0).faults = [] ∧ d.parkAsked 0 = false ∧
     d.flag Reg.DBG_TCTL 3 = false) := by
  refine ⟨⟨test_quietPort _ _ rfl ?_ rfl ⟨rfl, rfl⟩, ?_⟩, ⟨test_quietPort _ _ rfl ?_ rfl ⟨rfl, rfl⟩, ?_⟩,
    ⟨test_quietPort _ _ rfl ?_ rfl ⟨rfl, rfl⟩, ?_⟩, test_quietPort _ _ rfl ?_ rfl ⟨rfl, rfl⟩, ?_⟩ <;> decide +kernel

/-- QuaysidePorts: the first beat of an image is awaited, alone on the port; and DEEP-SLEEP. -/
theorem test_witness_QuaysidePorts_image :
    (let r : InitReq := ⟨.image true, 12, 20, false, 0, 2, 0, 0⟩
     let d : Device := { d0 with qsp := { d0.qsp with load := some (true, 12), requests := [r] } }
     (d.qsp.held = false ∧ d.isolated = false ∧ d.qsp.requests = [r] ∧ d.qsp.load = some (true, 12) ∧
      d.qsp.got.length + 32 - r.addr % 32 < 0x80 ∧ d.qsp.msi = []) ∧
     (∀ b, d.unsent b = false) ∧ ∀ b, ∀ q ∈ (d.berth b).reads, q.sent = true) ∧
    ({ d0 with mode := .deepSleep } : Device).mode = .deepSleep := ⟨⟨by decide +kernel, fun _ => rfl, nofun⟩, rfl⟩

theorem test_sramBeat (d : Device) (attr : BitVec 2) (base t o : Nat) (h : (base % 32 == 0 && targetPlace d.cfg base == some (.sram t o) &&
    d.tileOn t && (attr.getLsbD 1 || !d.flag Reg.QSP_TACL t) && (List.range 4).all fun k => d.eccAt (base + 8 * k) == .clean) = true) :
    sramBeat d attr base := by
  simp only [Bool.and_eq_true, Bool.or_eq_true, beq_iff_eq, Bool.not_eq_true', List.all_eq_true, List.mem_range] at h
  exact ⟨h.1.1.1.1, ⟨t, o, h.1.1.1.2, h.1.1.2, h.1.2⟩, h.2⟩

theorem test_burst : ∀ k, k < 16 →
    (let d := withR [(Reg.QSP_FEAT_ACCEPT2, 4), (Reg.QSP_FEAT_DONE, 1)]
     let base := 0x100000000 + 32 * k
     (base % 32 == 0 && targetPlace d.cfg base == some (.sram 0 (32 * k)) && d.tileOn 0 &&
      ((0 : BitVec 2).getLsbD 1 || !d.flag Reg.QSP_TACL 0) && (List.range 4).all fun k => d.eccAt (base + 8 * k) == .clean) = true) := by
  decide +kernel

/-- QuaysidePorts: one beat at the end of a tile SRAM by a non-secure requester, and a burst of 16 with the feature. -/
theorem test_witness_QuaysidePorts :
    (d0.targetReady = true ∧ sramBeat d0 0 0x1071FFFE0 ∧ burstOk 0x1071FFFE0 0 = true ∧ beatsOf 0x1071FFFE0 0 1 = [(0x1071FFFE0, 1)] ∧
     beat0.check = .good ∧ ∀ j, j < 8 → d0.tracked (0x1071FFFE0 + 4 * j) = none) ∧
    (let d := withR [(Reg.QSP_FEAT_ACCEPT2, 4), (Reg.QSP_FEAT_DONE, 1)]
     d.targetReady = true ∧ d.hostFeature 2 = true ∧ burstOk 0x100000000 15 = true ∧ (∀ k, k < 16 → sramBeat d 0 (0x100000000 + 32 * k)) ∧
     ∀ j, j < 8 * 16 → d.tracked (0x100000000 + 4 * j) = none) ∧
    (let d := d0.setFlag (Reg.RMS_CFG 0x48) 12 false
     d.targetReady = true ∧ d.flag (Reg.RMS_CFG 0x48) 12 = false ∧ beatMapped d.cfg 0 1 = false) ∧
    ({ d0 with qsp := { d0.qsp with held := true } } : Device).qsp.held = true ∧ d0.qsp.requests = [] ∧ d0.bol.entries = [] ∧ quietPort d0 := by
  refine ⟨⟨?_, test_sramBeat _ _ _ 7 0x1FFFE0 ?_, ?_⟩, ⟨?_, ?_, ?_, fun k hk => test_sramBeat _ _ _ 0 (32 * k) (test_burst k hk), ?_⟩, ?_, ?_, ?_, ?_,
    fun _ => rfl, nofun, rfl, rfl⟩ <;> decide +kernel

theorem test_witness_QuaysideMailboxesAndCommands :
    (let d := withR [(Reg.QSP_FEAT_DONE, 1), (Reg.QSP_FEAT_ACCEPT2, 8)]
     d.arrives ho Reg.QSP_H2D = true ∧ d.hostFeature 3 = true ∧ d.fld Reg.QSP_DBNB 0 9 = 0 ∧ d.present 0 = true ∧
     (d.berth 0).wait = .none ∧ (d.berth 0).woke = none ∧ d.mode ≠ .doze ∧ d.arrives ho Reg.QSP_DBELL = true ∧ d.arrives (.berth 0) Reg.QSP_D2H = true ∧
     d.arrives (.berth 0) Reg.QSP_HSWI = true ∧ d.arrives ho Reg.QSP_FEAT_DONE = true ∧ d.flag Reg.QSP_FEAT_DONE 0 = true) ∧
    d0.hostFeature 3 = false ∧ d0.flag Reg.QSP_FEAT_DONE 0 = false ∧
    (d0.arrives ho Reg.QSP_CMD = true ∧ d0.trusted ho = true ∧ d0.qsp.load = none ∧ d0.mode = .service ∧ d0.qsp.requests.length < 512 ∧
     d0.qsp.held = false ∧ d0.hostFeature 1 = false ∧
     ({ d0 with qsp := { d0.qsp with load := some (true, 0) } } : Device).qsp.load.isSome = true) ∧
    (let d : Device := { d0 with mode := .stop, qsp := { d0.qsp with entry := some 0x100000000 } }
     d.arrives ho Reg.QSP_CMD = true ∧ d.mode = .stop ∧ d.qsp.entry = some 0x100000000 ∧ d.bol.entries = [] ∧ d.present 0 = true ∧
     0 ∉ d.car.copying ∧ d.twinAct 0 = false ∧ noCycles d ∧ d.eccAt (bootInfo + 0x10) = .clean ∧ d0.qsp.entry = none) ∧
    (let d : Device := { d0 with mode := .run }
     d.arrives ho Reg.QSP_CMD = true ∧ d.mode = .run) ∧ ∀ g, d0.eccAt g = .clean := by
  refine ⟨?_, ?_, ?_, ?_, ?_, ?_, fun _ => rfl⟩ <;> decide +kernel

/-- The signed image's header and segments pass every check on a device that holds the hash of its key, while it loads it. -/
theorem test_witness_image_accepted :
    let d : Device := { Device.fresh { cf with rotpkHash := 0xD875DB7DEF232236AEC738C6B0BB3E80142F5D0FD8F4DF24FED6EEF5CBB50D9F } with qsp := { d0.qsp with load := some (true, 0) } }
    d.qsp.load = some (true, 0) ∧ d.qsp.held = false ∧ d.bol.entries = [] ∧ noCycles d ∧ 0 ∉ d.car.copying ∧ d.twinAct 0 = false ∧
    d.qsp.got = [] ∧ imageRefused d.cfg signedImage = none ∧ (signedImage.take 0x7F).length < 0x80 ∧
    (withR [(Reg.RMS_CFG 0x48, 0)]).flag (Reg.RMS_CFG 0x48) 12 = false := by decide +kernel

/-- Its CRC and its signature are right. -/
theorem test_witness_image_signed : imageOutcome signedImage = 0 := by decide +kernel

/-! ### Witnesses: supplies, resets, modes, clocks and temperature -/

theorem test_witness_SuppliesComeAndGo :
    (({ d0 with mode := .off } : Device).mode = .off ∧ d0.mode ≠ .off ∧ (d0.setBank 7 .rising).bank 7 = .rising ∧ 7 < d0.cfg.tiles ∧
     d0.bank 0 ≠ .rising ∧ d0.bank 7 = .low18 ∧ (d0.setBank 7 .high33).bank 7 ≠ .low18) ∧
    (let d : Device := { d0.setBank 7 .down with mode := .off }
     d.mode = .off ∧ d.bank 7 = .down) ∧
    (let d : Device := { d0 with mode := .ramp }
     d.mode = .ramp ∧ d.suppliesGood = true) := by decide +kernel

theorem test_witness_ResetsEnterAndLeave :
    (d0.isolated = false ∧ d0.arrives ho Reg.PWR_RST = true ∧ d0.trusted ho = true ∧ d0.bol.entries = []) ∧
    (d0.pwr.rstLow = false ∧ ({ d0 with pwr := { d0.pwr with rstLow := true } } : Device).pwr.rstLow = true) ∧
    (let d : Device := { d0 with mode := .reset, pwr := { d0.pwr with por := true, lost := true } }
     d.pwr.por = true ∧ d.pwr.lost = true ∧ d0.pwr.por = false) ∧
    (0x9E37 : BitVec 32).toNat % 2 ^ 16 = 0x9E37 ∧ (0x9E37 : BitVec 32).getLsbD 17 = false ∧
    (let d : Device := { d0 with mode := .reset }
     d.mode = .reset ∧ d.pwr.cool = none ∧ d.pwr.vmon = 0 ∧ d.fld Reg.CLK_MON 0 2 = 0) ∧
    (let d : Device := { withR [(Reg.RMS_CFG 0x3B, 0), (Reg.RMS_CFG 0x3C, 0), (Reg.CLK_MON, 1)] with
       mode := .reset, pwr := { d0.pwr with vmon := 2, cool := some 100 } }
     d.mode = .reset ∧ silent d 0x3B ∧ silent d 0x3C ∧ d.pwr.cool = some 100) ∧
    ({ d0 with mode := .reset, pwr := { d0.pwr with cool := some 99 } } : Device).pwr.cool = some 99 ∧ d0.mode ≠ .reset := by
  decide +kernel

theorem test_witness_SleepAndRecovery :
    (sleepy.mode = .stop ∧ sleepy.cfg.cores = 8 ∧ (∀ c, c < 8 → sleepy.coreOn c = true ∧ sleepy.coreGated c = true) ∧
     (∃ c, c < 8 ∧ sleepy.coreOn c = true) ∧ ({ d0 with mode := .safe } : Device).mode = .safe ∧ d0.arrives ho Reg.PWR_SLEEP = true) ∧
    (let d := sleepy.wr Reg.PWR_SLEEP 1
     d.mode = .stop ∧ d.flag Reg.PWR_SLEEP 0 = true ∧ (∀ c, c < 8 → d.coreQuiet c = true) ∧ (∀ p, p < 2 → d.portState p = 0) ∧
     d.flag Reg.NET_SNSTAT 6 = false ∧ d.flag Reg.DBG_CTRL 0 = false ∧ d0.flag Reg.PWR_SLEEP 0 = false) ∧
    (let d : Device := { withR [(Reg.PWR_WAKEVEC + 4, 2 ^ 31)] with
       mode := .deepSleep, prev := .service, pwr := { d0.pwr with wake := some 3 } }
     d.mode = .deepSleep ∧ d.pwr.wake = some 3 ∧ d.present 0 = true ∧ 0 ∉ d.car.copying ∧ d.twinAct 0 = false ∧ d.rms.deferred = [] ∧ 0 < d.cfg.tiles ∧
     d.flag (Reg.PWR_WAKEVEC + 4) 31 = true ∧ d.prev ≠ .deepSleep ∧ ∀ t, t < d.cfg.tiles → d.flag (Reg.THM_TILE t) 19 = false) ∧
    (let d : Device := { d0 with mode := .safe }
     d.arrives ho Reg.PWR_RECOVER = true ∧ d.trusted ho = true ∧ d.mode = .safe ∧ d.recoverable = true ∧ (∀ n ∈ levelSources, d.flag (Reg.RMS_STATN n) 3 = false) ∧ d.allHalted = false ∧
     ({ d.wr Reg.DBG_HALTED 0xFFFFFFFF with cfg := d.cfg } : Device).allHalted = true ∧ d0.mode ≠ .safe) := by
  decide +kernel

theorem test_witness_ClocksChange :
    (let d := atTime 8 { d0 with pwr := { d0.pwr with divs := [(4, 2), (5, 1)] } }
     d.pwr.divs = [(4, 2), (5, 1)] ∧ (∀ y ∈ [(5, 1)], d.tbNow < y.1 + 4) ∧ 4 + 4 ≤ d.tbNow ∧ d.tbNow % 8 = 0 ∧ d0.pwr.divs = [] ∧
     d0.arrives ho Reg.CLK_DIV = true) ∧
    (d0.arrives ho Reg.CLK_RELOCK = true ∧ d0.gateHeld (Writer.who ho) 5 = false ∧ d0.pwr.relock = none ∧
     (let d : Device := { relocks ⟨0, 0, 0, none, none, none, false, false⟩ with
        scn := { d0.scn with gate := some ⟨5, Writer.who ho⟩ } }
      d.gateHeld (Writer.who ho) 5 = true ∧ d.mode ≠ .run ∧ d.pwr.relock.isSome = true) ∧
     (let e := (eng 0 id).wr64 Reg.CLK_TCRIT 1
      let d : Device := { e with mode := .run, scn := { d0.scn with gate := some ⟨5, Writer.who ho⟩ } }
      d.arrives ho Reg.CLK_RELOCK = true ∧ d.gateHeld (Writer.who ho) 5 = true ∧ d.criticalRuns = true)) ∧
    (let d := atTime 8 (relocks ⟨6, 1, 0, none, none, none, false, false⟩)
     d.pwr.relock = some ⟨6, 1, 0, none, none, none, false, false⟩ ∧ 6 + 2 ≤ d.tbNow ∧ d.tbNow % 8 = 0) ∧
    (relocks ⟨6, 1, 0, some 8, none, none, false, false⟩).pwr.relock = some ⟨6, 1, 0, some 8, none, none, false, false⟩ ∧
    (∀ f ∈ [false, true],
     let d := (atTime 2500009 (relocks ⟨6, 1, 0, some 8, some 9, none, false, f⟩)).setFlag (Reg.RMS_CFG 0x3D) 12 false
     d.pwr.relock = some ⟨6, 1, 0, some 8, some 9, none, false, f⟩ ∧ 9 + 2500000 ≤ d.tbNow ∧ silent d 0x3D) ∧
    (let d := atTime 16016 (relocks ⟨6, 1, 0, some 8, some 9, some 16, true, false⟩)
     d.pwr.relock = some ⟨6, 1, 0, some 8, some 9, some 16, true, false⟩ ∧ 16 + 16000 ≤ d.tbNow ∧ d.tbNow % 8 = 0 ∧
     16 + 16000 ≤ 9 + 2500000) ∧
    (let r : Relock := ⟨6, 1, 0, some 8, some 9, some 2484010, true, false⟩
     (relocks r).pwr.relock = some r ∧ 9 + 2500000 < 2484010 + 16000 ∧ r.met = false) ∧
    (let r : Relock := ⟨6, 1, 0, some 8, some 9, some 2484009, true, false⟩
     r.met = true) ∧
    d0.pwr.relock = none ∧ d0.mode ≠ .off ∧ d0.mode ≠ .ramp ∧ d0.isolated = false ∧ silent (withR [(Reg.RMS_CFG 0x3D, 0)]) 0x3D := by decide +kernel

theorem test_witness_TemperatureIsWatched :
    (∀ x ∈ [(-400 : Int), 539, 540, 999],
     let d : Device := { withR [(Reg.RMS_CFG 0x38, 0), (Reg.RMS_CFG 0x39, 0), (Reg.RMS_CFG 0x3A, 0)] with mode := .run }
     d.isolated = false ∧ d.pwr.temps = [] ∧ 7 < d.cfg.tiles ∧ -400 ≤ x ∧ x < 1000 ∧ silent d 0x38 ∧ silent d 0x39 ∧ silent d 0x3A ∧
     d.pwr.tripAt = none ∧ d.mode.safeFrom = true ∧ d.mode ≠ .deepSleep ∧ d.flag (Reg.THM_TILE 0) 19 = false ∧
     (let e : Device := { d with mode := .factory }
      e.isolated = false ∧ e.mode.safeFrom = true ∧ e.mode ≠ .deepSleep)) ∧
    ({ d0 with mode := .reset } : Device).mode = .reset ∧
    (let d : Device := { d0 with pwr := { d0.pwr with tripAt := some 0 }, lpt := { d0.lpt with edges := 2500 } }
     d.pwr.tripAt = some 0 ∧ 0 + 2500 ≤ d.lpt.edges ∧ d.isolated = false ∧ d0.lpt.edges < 0 + 2500) ∧
    (let d : Device := { d0 with pwr := { d0.pwr with temps := [(63, 461)] } }
     7 < d.cfg.tiles ∧ d.tileOn 7 = true ∧ d.hottest (List.range' 56 8) = some (63, 461) ∧
     (d.wr Reg.PWR_STAT 0).tileOn 7 = false) ∧
    d0.arrives ho Reg.THM_PEAK = true ∧ silent (withR [(Reg.RMS_CFG 0x3B, 0)]) 0x3B := by decide +kernel

/-! ### Witnesses: the Beyram link, its sync groups and the MACs -/

theorem test_witness_BeyramPortsAndFrames :
    ((ring 0 []).beyRuns = true ∧ (ring 0 []).portState 0 = 0 ∧ (ring 2 []).portState 0 = 2 ∧ ({ d0 with mode := .deepSleep } : Device).beyRuns = false ∧
     silent (ring 2 [(Reg.RMS_CFG 0x28, 0)]) 0x28 ∧ (ring 2 [(Reg.RMS_CFG 0x28, 0)]).portState 0 = 2 ∧ (ring 2 []).dupAddr = false ∧
     0 ∉ (ring 0 []).bey.locked ∧ 0 ∈ ({ ring 0 [] with bey := { d0.bey with locked := [0] } } : Device).bey.locked) ∧
    (let g := fr 0x20 6 1023 0 (leBytes 8 0)
     let bad := (bf g).1.take 12 ++ [9] ++ (bf g).1.drop 13
     let d := ring 1 [(Reg.RMS_CFG 0x28, 0)]
     let e : Device := { d with bey := { d.bey with errors := [(0, List.replicate 7 0)] } }
     heard d 0 0x20 (bf g) g ∧ beyRead (bad, .term) = .badCrc ∧ fieldAt bad 0 1 = 0x20 ∧ d.bey.errors.get (fun _ => []) 0 = [] ∧
     d.portState 0 ≠ 0 ∧ e.bey.errors.get (fun _ => []) 0 = List.replicate 7 0 ∧ e.tbNow < 0 + 250000 ∧ silent e 0x28) ∧
    (∀ control ∈ [false, true],
     let own : OutFrame := { out0 with control := control }
     let d : Device := { ring 2 [] with bey := { d0.bey with ownQueue := [own] } }
     d.waiting 0 = [] ∧ d.bey.ownQueue = [own] ∧ d.waiting 1 = [] ∧ d.startsOwn own = control ∧
     ((ring 2 []).setWaiting 0 [own]).waiting 0 = [own] ∧ ((ring 2 []).setWaiting 0 [own]).bey.ownQueue = []) := by decide +kernel

theorem test_witness_BeyramPortsAndFrames_link :
    (let g := fr 0x25 6 1023 0 (leBytes 8 0)
     heard (ring 2 []) 0 0x25 (bf g) g ∧ g.src ≠ (ring 2 []).beyAddr ∧ (ring 2 []).deliveredHere g = true ∧
     (let d := ring 2 [(Reg.BEY_PORT 1, 2)]
      heard d 0 0x25 (bf g) g ∧ d.isMe g.dst = false ∧ g.hops < 999 ∧ d.portState 1 = 2)) ∧
    (ring 2 []).flag Reg.BEY_XEV 0 = false ∧
    (let d := ring 2 [(Reg.BEY_XEV, 1)]
     d.beyRuns = true ∧ d.portState 0 = 2 ∧ d.flag Reg.BEY_XEV 0 = true ∧ d.flag Reg.DBG_XTRIG 0 = false) := by decide +kernel

theorem test_witness_BeyramTimeAndElection :
    ((ring 2 []).beyRuns = true ∧ (ring 2 []).portState 0 = 2 ∧ (ring 1 []).portState 0 ≠ 2) ∧
    (let g := fr 0x21 6 1023 0 (leBytes 8 0)
     heard (ring 2 []) 0 0x21 (bf g) g ∧ (ring 2 []).dupAddr = false) ∧
    (let g := fr 0x22 6 1023 0 (leBytes 16 0)
     heard (ring 2 []) 0 0x22 (bf g) g ∧ (ring 2 []).bey.delays.get (fun _ => []) 0 = []) ∧
    (let d := ring 2 [(Reg.BEY_STAT, 2)]
     d.beyRuns = true ∧ d.timeMaster = true ∧ d.originates = true ∧ d.portState 0 = 2 ∧ (ring 2 []).timeMaster = false) ∧
    (let g := fr 0x23 6 1023 0 (leBytes 16 0 ++ leBytes 2 6 ++ leBytes 2 1 ++ leBytes 4 0)
     let d := ring 2 [(Reg.RMS_CFG 0x29, 0)]
     let e : Device := { d with bey := { d.bey with copies := [(0, some ⟨0, 3, 0, false⟩)] } }
     heard d 0 0x23 (bf g) g ∧ g.src ≠ d.beyAddr ∧ d.deliveredHere g = true ∧ d.bey.epoch < fieldAt g.payload 18 2 ∧
     d.flag Reg.TB_CTRL 0 = false ∧ silent d 0x29 ∧ d.bey.copies.get (fun _ => none) 0 = none ∧
     e.bey.copies.get (fun _ => none) 0 = some ⟨0, 3, 0, false⟩ ∧ heard e 0 0x23 (bf g) g ∧ d.fld Reg.BEY_STAT 16 10 ≠ 6 ∧
     (e.wr Reg.BEY_STAT (6 * 2 ^ 16)).fld Reg.BEY_STAT 16 10 = fieldAt g.payload 16 2 % 2 ^ 10 ∧
     ((fieldAt g.payload 0 8 : Int) - (15 : Nat)).natAbs < max 16 (8 * e.intv) ∧ d.portState 1 ≠ 2 ∧
     (e.wr (Reg.BEY_PORT 1) 2).portState 1 = 2) ∧
    (let d := ring 2 [(Reg.RMS_CFG 0x29, 0)]
     d.timeMaster = false ∧ d.bey.syncAt + 3 * d.intv ≤ (atTime (3 * d.intv) d).tbNow ∧
     d.flag Reg.TB_CTRL 0 = false ∧
     d.tbNow < ({ d with bey := { d.bey with syncAt := 1 } } : Device).bey.syncAt + 3 * d.intv) := by decide +kernel

theorem test_witness_BeyramTimeAndElection_election :
    (let g := fr 0x24 4 1023 0 (leBytes 1 0 ++ leBytes 2 1 ++ leBytes 5 0)
     let d := ring 2 []
     heard d 0 0x24 (bf g) g ∧ g.src ≠ d.beyAddr ∧ d.deliveredHere g = true ∧ d.bey.epoch < fieldAt g.payload 1 2 ∧
     d.bey.electNo ≤ fieldAt g.payload 1 2 ∧
     betterThan (fieldAt g.payload 0 1, g.src) (d.fld Reg.BEY_CFG 10 8, d.beyAddr) = true ∧ d.bey.electing = false) ∧
    (let d : Device := { ring 2 [] with bey := { d0.bey with electing := true } }
     d.bey.electing = true ∧ d.originates = true ∧ d.bey.electAt + 2 * d.intv ≤ (atTime (2 * d.intv) d).tbNow) ∧
    (∀ back ∈ [none, some 7],
     let g := fr 0x26 5 1023 0 (leBytes 8 0)
     let d : Device := { ring 2 [] with bey := { d0.bey with probes := [⟨0, 0, 0, back, none⟩] } }
     heard d 0 0x26 (bf g) g ∧ g.src = d.beyAddr ∧ 0 / 16 % 2 ^ 32 = g.txtime ∧ d.bey.probes = [⟨0, 0, 0, back, none⟩] ∧
     0 + 500000 ≤ (atTime 500000 d).tbNow ∧ d.tbNow < 0 + 500000) := by decide +kernel

theorem test_witness_LinkDataAndMacs :
    (let g := fr 0x01 6 1023 0 (leBytes 8 7)
     let d : Device := { ring 2 [] with bey := { d0.bey with sources := [(6, some (0, 0))] } }
     heard d 0 0x01 (bf g) g ∧ g.src ≠ d.beyAddr ∧ d.deliveredHere g = true ∧ d.bey.sources.get (fun _ => none) g.src = some (0, 0) ∧
     (g.txtime + 2 ^ 32 - 0) % 2 ^ 32 = 0 ∧ heard (ring 2 []) 0 0x01 (bf g) g ∧ (ring 2 []).bey.sources.get (fun _ => none) g.src = none ∧
     (ring 2 []).beyMatch g = none ∧ heard rxRing 0 0x01 (bf g) g ∧ rxRing.deliveredHere g = true ∧ rxRing.beyMatch g = some 0 ∧
     rxRing.fld (Reg.BEY_RXB 0) 10 4 = g.gen ∧
     rxRing.flag (Reg.BEY_RXB 0) 17 = false ∧ rxRing.flag (Reg.BEY_RXB 0) 24 = false ∧ rxRing.bey.deferred = [] ∧
     0 + 1000000000 ≤ (atTime 1000000000 d).tbNow ∧ d.tbNow < 0 + 1000000000) ∧
    rxTakes rxRing (rxRing.beyBuffer 0) 8 ∧ d0.arrives ho Reg.BEY_CLR = true ∧
    (rxMac.macRuns 0 = true ∧ (fcs (mf [8, 0])).length = 64 ∧
     fieldAt (fcs (mf [8, 0])) 60 4 = crc32 0xFFFFFFFF ((fcs (mf [8, 0])).take 60) ∧
     fieldAt (mf [8, 0] ++ [0, 0, 0, 0]) 60 4 ≠ crc32 0xFFFFFFFF ((mf [8, 0] ++ [0, 0, 0, 0]).take 60) ∧
     pauseQuanta ((fcs (mf [0x88, 8, 0, 1, 0xFF, 0xFF])).take 60) = some 0xFFFF ∧ pauseQuanta (mf [8, 0]) = none ∧
     rxMac.macTakes 0 (mf [8, 0]) = true ∧ rxMac.macMatch 0 (mf [9, 0]) = none ∧ rxMac.macMatch 0 (mf [8, 0]) = some 0 ∧
     rxMac.flag (Reg.NET_RXB 0) 31 = false ∧ rxMac.mac.deferred = []) ∧
    rxTakes rxMac (rxMac.macBuffer 0) 60 ∧ d0.macRuns 0 = false ∧
    (∀ more ∈ [[], [(7, mf [8, 0])]],
     let d := rxMac.setMacQueue 0 [(7, mf [8, 0]) :: more]
     d.macRuns 0 = true ∧ d.mac.pause.get (fun _ => 0) 0 ≤ d.tbNow ∧ d.flag (Reg.NET_GCTL 0) 0 = false ∧
     d.macQueue 0 = [(7, mf [8, 0]) :: more]) ∧
    (let run : GateRun := ⟨0, 10, 100, [(255, 10), (1, 90)]⟩
     let last : GateRun := { run with entry := 1, until_ := 99 }
     let past : GateRun := { run with entry := 1, until_ := 100 }
     let d := ((rxMac.wr (Reg.NET_GCTL 0) 1).wr (Reg.NET_GCCYC 0) 100).setGateRun 0 (some run)
     d.flag (Reg.NET_GCTL 0) 0 = true ∧ d.gateRun 0 = some run ∧ d.tbNow < run.until_ ∧ run.until_ ≤ (atTime 10 d).tbNow ∧
     run.until_ < run.cycleEnd ∧ run.list[run.entry + 1]? = some (1, 90) ∧
     (d.setGateRun 0 (some last)).gateRun 0 = some last ∧ last.until_ ≤ (atTime 99 d).tbNow ∧ last.until_ < last.cycleEnd ∧
     last.list[last.entry + 1]? = none ∧
     (d.setGateRun 0 (some past)).gateRun 0 = some past ∧ past.cycleEnd ≤ past.until_ ∧ past.until_ ≤ (atTime 100 d).tbNow ∧
     0 < d.rd (Reg.NET_GCCYC 0) ∧ d.rd64 (Reg.NET_GCBASE 0) ≤ past.cycleEnd) := by
  refine ⟨?_, ⟨?_, ?_, ?_, ?_, fun _ => rfl, ?_⟩, ?_, ?_, ⟨?_, ?_, ?_, ?_, fun _ => rfl, ?_⟩, ?_⟩ <;> decide +kernel

theorem test_noneWaits (d : Device) (h : d.scn.manifests = []) (j : Nat) : noneWaits d j := fun k m _ e => by
  simp [Device.manifest, h, manifestDefault] at e

theorem test_witness_SyncGroupRounds :
    (let d := group 5 [] id
     d.sgCoordinates 0 = true ∧ d.sgStart 0 ≤ d.tbNow ∧ 2 * d.rd Reg.BEY_RTT + 5000 ≤ d.rd (Reg.BEY_SGPER 0) ∧
     0 < d.rd (Reg.BEY_SGPER 0) ∧ (d.sg 0).known = false ∧ noneWaits d 0 ∧ (group 6 [] id).sgCoordinates 0 = false) ∧
    (let g := fr 0x10 6 1023 0 (leBytes 24 0)
     let d := group 6 [] id
     heard d 0 0x10 (bf g) g ∧ d.sgFrameSlot g = some 0 ∧ d.fromCoordinator 0 g = true ∧ (d.sg 0).known = false ∧
     (d.sg 0).unsure = [] ∧ noneWaits d 0) ∧
    (∀ v ∈ [0, 1, 2],
     let g := fr 0x11 6 1023 0 (leBytes 24 0 ++ leBytes 1 v ++ leBytes 7 0)
     let d := group 5 [] fun x => { x with known := true }
     let x := d.sg 0
     heard d 0 0x11 (bf g) g ∧ d.sgFrameSlot g = some 0 ∧ d.sgCoordinates 0 = true ∧ x.known = true ∧ g.gen = x.round % 16 ∧
     fieldAt g.payload 4 4 = x.round ∧ fieldAt g.payload 24 1 = v ∧ x.decided = .unknown ∧ x.votes = [] ∧ x.noes = []) ∧
    (let d := group 5 [] fun x => { x with known := true, undecided := true, vd := 7, coord := 5 }
     let x := d.sg 0
     d.sgOn 0 = true ∧ x.undecided = true ∧ x.voted = false ∧ d.beyFrozen = false ∧ x.vd ≤ (atTime 7 d).tbNow ∧ d.tbNow < x.vd ∧
     d.sgCoordinates 0 = true ∧ x.known = true ∧ x.coord = d.beyAddr ∧ x.decided = .unknown ∧
     d.sgStart 0 + x.round * d.sgPer 0 + 2 * x.rtt + 3750 ≤ (atTime 3750 d).tbNow) ∧
    (∀ v ∈ [1, 2],
     let g := fr 0x12 6 1023 1 (leBytes 4 0 ++ leBytes 4 1 ++ leBytes 17 0 ++ leBytes 1 v ++ leBytes 6 0)
     let d := group 6 [] fun x => { x with known := true, undecided := true, v := 500 }
     let x := d.sg 0
     heard d 0 0x12 (bf g) g ∧ d.sgFrameSlot g = some 0 ∧ d.fromCoordinator 0 g = true ∧ noneWaits d 0 ∧
     d.flag (Reg.BEY_SGCFG 0) 10 = false ∧ x.known = true ∧ x.undecided = true ∧ x.joined = [] ∧ x.unsure = [] ∧
     fieldAt g.payload 4 4 = x.round + 1 ∧ g.gen = fieldAt g.payload 4 4 % 16 ∧ d.tbNow + 500 ≤ x.v ∧
     d.flag (Reg.BEY_SGCFG 0) 9 = false ∧ fieldAt g.payload 25 1 = v) ∧
    (let d := group 6 [(Reg.RMS_CFG 0x2D, 0)] fun x => { x with undecided := true, v := 500, coord := 6 }
     let e : Device := { d with bey := { d.bey with reports := [⟨6, 0, true, 0, none⟩, ⟨6, 1, true, 0, none⟩] } }
     let x := d.sg 0
     d.sgOn 0 = true ∧ x.undecided = true ∧ d.flag (Reg.BEY_SGCFG 0) 10 = false ∧ x.joined = [] ∧ d.bey.reports = [] ∧ silent d 0x2D ∧
     d.flag (Reg.BEY_SGCFG 0) 9 = false ∧ x.v ≤ d.tbNow + 500 ∧ noneWaits d 0 ∧
     e.bey.reports = [⟨x.coord, 0, true, 0, none⟩, ⟨x.coord, 1, true, 0, none⟩] ∧ x.since ≤ 0 ∧ (e.sg 0).undecided = true ∧
     (group 6 [] fun x => { x with undecided := true, v := 501 }).tbNow + 500 < 501) := by
  refine ⟨⟨?_, ?_, ?_, ?_, ?_, test_noneWaits _ rfl _, ?_⟩, ⟨?_, ?_, ?_, ?_, ?_, test_noneWaits _ rfl _⟩, ?_, ?_, fun v hv => ?_,
    ?_, ?_, ?_, ?_, ?_, ?_, ?_, ?_, test_noneWaits _ rfl _, ?_⟩
  any_goals decide +kernel
  have h : ∀ v ∈ [1, 2],
      let g := fr 0x12 6 1023 1 (leBytes 4 0 ++ leBytes 4 1 ++ leBytes 17 0 ++ leBytes 1 v ++ leBytes 6 0)
      let d := group 6 [] fun x => { x with known := true, undecided := true, v := 500 }
      let x := d.sg 0
      (heard d 0 0x12 (bf g) g ∧ d.sgFrameSlot g = some 0 ∧ d.fromCoordinator 0 g = true) ∧
      d.flag (Reg.BEY_SGCFG 0) 10 = false ∧ x.known = true ∧ x.undecided = true ∧ x.joined = [] ∧ x.unsure = [] ∧
      fieldAt g.payload 4 4 = x.round + 1 ∧ g.gen = fieldAt g.payload 4 4 % 16 ∧ d.tbNow + 500 ≤ x.v ∧
      d.flag (Reg.BEY_SGCFG 0) 9 = false ∧ fieldAt g.payload 25 1 = v := by decide +kernel
  exact ⟨(h v hv).1.1, (h v hv).1.2.1, (h v hv).1.2.2, test_noneWaits _ rfl _, (h v hv).2⟩

/-! ### Witnesses: the Safety Net -/

theorem test_witness_SafetyNetPairs :
    (let d := sn 2 .run 0 [] id
     d.snOn = true ∧ d.sn.locked = true ∧ d.sn.silent = false ∧ d.sn.hbDue = true ∧
     ({ d.sn with silent := true } : SnSys).silent = true ∧ d.flag Reg.NET_SNSTAT 6 = false ∧ d.sn.lastHb = none) ∧
    (let g : SnFrame := ⟨0x40, 0, leBytes 32 0⟩
     snHeard (sn 3 .standby 0 [] id) 0x40 (sf g) g ∧ (sn 3 .standby 0 [] id).snRole ≠ 2 ∧ (sn 2 .run 0 [] id).snRole = 2 ∧
     snRead ((sf g).1, .termBad) = none ∧ (sn 3 .standby 0 [] id).sn.staged = none) ∧
    (∀ m ∈ [1, 2],
     let d := sn 2 .run 0 [(Reg.RMS_CFG 0x30, 0)] fun x => { x with lastHb := some 0, missed := m }
     d.sn.lastHb = some 0 ∧ d.snOn = true ∧ 0 + 2500 * (d.sn.missed + 1) ≤ (atTime 7500 d).tbNow ∧ d.sn.missed = m ∧ silent d 0x30 ∧
     d.snRole = 2) ∧
    stages (sn 3 .standby 8 [] id) ∧ (sn 3 .standby 8 [] id).flag Reg.NET_SNSTAT 3 = true ∧
    (d0.arrives ho Reg.NET_SNCTL = true ∧ d0.snRole = 0 ∧ (sn 0 .stop 0 [] id).mode = .stop ∧ (sn 0 .run 0 [] id).sn.handedOver = false ∧
     d0.mode ≠ .run ∧ d0.mode ≠ .stop ∧ d0.snRole ≠ 1 ∧ d0.sn.hbDue = true ∧
     ({ d0 with sn := { d0.sn with hbDue := false } } : Device).flag Reg.NET_SNSTAT 6 = false ∧ d0.arrives ho Reg.NET_SNCLR = true) := by
  decide +kernel

theorem test_witness_SafetyNetPairs_pairing :
    (∀ v ∈ [0, 1],
     let g : SnFrame := ⟨0x47, 0, leBytes 4 0 ++ leBytes 4 v ++ leBytes 8 0⟩
     let d := sn 1 .run 0 [(Reg.RMS_CFG 0x36, 0)] id
     snHeard d 0x47 (sf g) g ∧ d.snRole = 1 ∧ fieldAt g.payload 0 4 = d.rd Reg.NET_SNID ∧ d.sn.asked = 0 ∧
     fieldAt g.payload 4 1 = v ∧ silent d 0x36 ∧ d.mode = .run) ∧
    (let g : SnFrame := ⟨0x47, 0, leBytes 16 0⟩
     let d := sn 1 .stop 0 [] fun x => { x with asked := 1 }
     snHeard d 0x47 (sf g) g ∧ fieldAt g.payload 0 4 = d.rd Reg.NET_SNID ∧ d.sn.asked = 1 ∧
     fieldAt g.payload 4 1 = 0 ∧ d.mode = .stop ∧ fieldAt g.payload 0 4 ≠ (sn 1 .stop 0 [(Reg.NET_SNID, 1)] id).rd Reg.NET_SNID) ∧
    (∀ r ∈ [1, 2, 6], (sn r .run 0 [] id).arrives ho Reg.NET_SNCTL = true ∧ (sn r .run 0 [] id).snRole = r) ∧
    (∀ r ∈ [3, 5], (sn r .standby 0 [] id).arrives ho Reg.NET_SNCTL = true ∧ (sn r .standby 0 [] id).snRole = r) := by decide +kernel

theorem test_witness_SafetyNetLogs :
    (let d := sn 2 .run 0 [] fun x => { x with logs := [log1] }
     d.snOn = true ∧ d.snRole = 2 ∧ d.sn.logs = [log1] ∧ log1.sent = false ∧ log1.k < 2 ^ 32 ∧ log1.lines.length < 2 ^ 32 ∧
     log1.c < 2 ^ 64 ∧ (∀ q ∈ log1.lines, q.2.length = 64) ∧ d0.sn.logs = []) ∧
    (let g : SnFrame := ⟨0x44, 0, leBytes 8 1⟩
     let d := sn 2 .run 0 [] id
     let e := sn 2 .run 32 [] fun x => { x with rsDone := true }
     snHeard d 0x44 (sf g) g ∧ d.flag Reg.NET_SNSTAT 5 = false ∧ snHeard e 0x44 (sf g) g ∧ e.flag Reg.NET_SNSTAT 5 = true ∧
     e.sn.rsDone = true ∧ cycleAfter (fieldAt g.payload 0 4) e.sn.rsRead = true) ∧
    (let g : SnFrame := ⟨0x45, 0, leBytes 8 1⟩
     let d := sn 2 .run 0 [] fun x => { x with logs := [log1] }
     let e := sn 2 .run 0 [(Reg.RMS_CFG 0x31, 0)] id
     snHeard d 0x45 (sf g) g ∧ log1.k = fieldAt g.payload 0 4 ∧ log1.again = false ∧
     snHeard e 0x45 (sf g) g ∧ e.sn.logs = [] ∧ silent e 0x31 ∧ e.flag Reg.NET_SNCFG 8 = false) ∧
    (∀ k ∈ [1, 2],
     let g : SnFrame := ⟨0x41, k, leBytes 16 1⟩
     let d := sn 3 .standby 0 [] id
     stages d ∧ snHeard d 0x41 (sf g) g ∧ d.sn.whole = none ∧ d.sn.staged = none ∧ d.flag Reg.NET_SNSTAT 5 = false ∧ g.cycle = k ∧
     d.rd Reg.NET_SNACK = 0 ∧ d.sn.lastNak = none) ∧ cycleAfter 2 1 = true := by decide +kernel

theorem test_witness_SafetyNetLogs_standby :
    (∀ p ∈ [none, some (leBytes 32 0)],
     let g : SnFrame := ⟨0x42, 1, leBytes 72 0x100000000⟩
     let t : Staging := ⟨1, 1, 0, [], p⟩
     let d := sn 3 .standby 0 [] fun x => { x with staged := some t }
     stages d ∧ snHeard d 0x42 (sf g) g ∧ d.sn.staged = some t ∧ t.k = g.cycle ∧ t.k < 2 ^ 32 ∧ d.sn.lastNak = none) ∧
    (let r := (0x100000000, List.replicate 64 (0 : Byte))
     let g : SnFrame := ⟨0x43, 1, leBytes 4 1 ++ leBytes 4 (logCrc [r]) ++ leBytes 24 0⟩
     let t : Staging := ⟨1, 1, 0, [r], none⟩
     let d := sn 3 .standby 0 [] fun x => { x with staged := some t }
     stages d ∧ snHeard d 0x43 (sf g) g ∧ d.sn.staged = some t ∧ t.k = g.cycle ∧ d.sn.whole = none ∧
     t.k = (d.rd Reg.NET_SNACK + 1) % 2 ^ 32 ∧ t.recs.length = t.nlines ∧ fieldAt g.payload 0 4 = t.nlines ∧
     fieldAt g.payload 4 4 = logCrc t.recs ∧ ({ t with recs := [] } : Staging).recs.length ≠ t.nlines) ∧
    (∀ a ∈ [64 * 0x4000000, 64 * 0x3000000],
     let l : CycleLog := { log1 with lines := [(a, List.replicate 64 0)] }
     let d := sn 3 .standby 0 [] fun x => { x with whole := some l }
     d.sn.whole = some l ∧ d.sn.applying = false ∧ d.snRole = 3 ∧ l.lines = [(a, List.replicate 64 0)] ∧ d.tileOn 0 = true ∧
     placeOf d.cfg none a = (if a = 64 * 0x4000000 then some (.sram 0 0) else none) ∧ d.bol.entries = []) ∧
    (let d := sn 3 .standby 0 [] fun x => { x with whole := some log1, applying := true }
     d.sn.applying = true ∧ d.sn.staged = none ∧ log1.edit = false ∧ d.flag Reg.NET_SNSTAT 5 = false ∧ log1.k < 2 ^ 32 ∧
     d0.sn.whole = none) := by decide +kernel

theorem test_witness_SafetyNetTakesOver :
    (let d := ((sn 2 .run 16 [(Reg.RMS_CFG 0x32, 0), (Reg.NET_SNCYC, 1)] id).setCls 0 { d0.cls 0 with doneAt := 0 })
     let e : Device := { d with scn := { d.scn with queue := [.cls 0] } }
     e.fld Reg.NET_SNCFG 4 4 = 0 ∧ e.lockedWait 0 = true ∧ .cls 0 ∈ e.scn.queue ∧ silent e 0x32 ∧
     (e.cls 0).doneAt + 250 * max 1 (e.fld Reg.NET_SNCFG 16 8) ≤ (atTime 250 e).tbNow ∧ d0.lockedWait 0 = false) ∧
    (let g : SnFrame := ⟨0x46, 0, leBytes 8 0⟩
     let d := sn 3 .standby 8 [] id
     snHeard d 0x46 (sf g) g ∧ stages d ∧ d.flag Reg.NET_SNSTAT 3 = true ∧ (sn 2 .run 0 [] id).snRole ≠ 3) ∧
    (let d := sn 3 .standby 8 [] fun x => { x with partner := { x.partner with role := 2 } }
     let e : Device := { d with pad := { d.pad with level := [(43, true)] } }
     e.snOn = true ∧ e.padIn 1 11 = true ∧ 1 < e.cfg.tiles ∧ e.eng.engines = [] ∧ e.padDrive 1 11 = .highZ ∧ e.sn.partner.role = 2 ∧
     stages e ∧ e.flag Reg.NET_SNSTAT 3 = true ∧ d0.padIn 1 11 = false) ∧
    (let d := sn 3 .standby 8 [(Reg.RMS_CFG 0x34, 0), (Reg.RMS_CFG 0x37, 0)] fun x => { x with trigger := some (7, 0) }
     let e : Device := { d with pad := { d.pad with level := [(43, true)] } }
     e.sn.trigger = some (7, 0) ∧ e.psense = true ∧ 0 + 250 * max 1 (e.fld Reg.NET_SNCFG 24 8) ≤ (atTime 250 e).tbNow ∧ silent e 0x34 ∧
     d.psense = false ∧ d.sn.applying = false ∧ d.mode = .standby ∧ d.snRole = 3 ∧ d.enabledClasses = [] ∧ silent d 0x37) ∧
    (let d : Device := { sn 2 .run 0 [] id with scn := { d0.scn with gate := some ⟨2, Writer.who ho⟩ } }
     d.arrives ho Reg.NET_SNCTL = true ∧ d.snRole = 2 ∧ d.mode ≠ .doze ∧ d.flag Reg.NET_SNSTAT 5 = false ∧
     d.gateHeld (Writer.who ho) 2 = true) := by decide +kernel

theorem test_witness_SafetyNetTakesOver_unrouted :
    unrouted { sn 3 .standby 8 [] fun x => { x with partner := { x.partner with role := 2 } } with pad := { d0.pad with level := [(43, true)] } } :=
  fun t i h k => (by decide +kernel : ∀ t, t < 8 → ∀ i, i < 32 →
    (sn 3 .standby 8 [] fun x => { x with partner := { x.partner with role := 2 } }).fld (Reg.PAD_CFG t i) 20 5 = 0) t h i k

/-- SafetyNetTakesOver: a resynchronisation with one line left, and with none, before and after the standby's next apply. -/
theorem test_witness_SafetyNetTakesOver_resync :
    (∀ n ∈ [0, 1],
     let d := sn 2 .run 32 [(Reg.NET_SNACK, n)] fun x => { x with rsLines := [0x4000000] }
     let e := sn 2 .run 32 [(Reg.NET_SNACK, n)] id
     d.snOn = true ∧ d.snRole = 2 ∧ d.flag Reg.NET_SNSTAT 5 = true ∧ d.sn.logs = [] ∧ d.sn.rsLines = [0x4000000] ∧
     d.mem.ecc = [] ∧ e.sn.rsLines = [] ∧ e.sn.rsDone = false ∧ cycleAfter (e.rd Reg.NET_SNACK) e.sn.rsRead = (n == 1)) ∧
    (let g : SnFrame := ⟨0x48, 0, leBytes 72 0x100000000⟩
     let d := sn 3 .standby 32 [] id
     d.snRole = 3 ∧ d.mode = .standby ∧ d.flag Reg.NET_SNSTAT 5 = true ∧ snHeard d 0x48 (sf g) g ∧
     recordsOf g.payload = [(64 * 0x4000000, List.replicate 64 0)] ∧ d.bol.entries = [] ∧
     placeOf d.cfg none (64 * 0x4000000) = some (.sram 0 0) ∧ d.tileOn 0 = true) ∧
    (∀ n ∈ [0, 1],
     let g : SnFrame := ⟨0x49, 0, leBytes 8 0⟩
     let d := sn 3 .standby 32 [(Reg.NET_SNACK, n)] id
     snHeard d 0x49 (sf g) g ∧ fieldAt g.payload 0 4 = d.sn.rsSent ∧ cycleAfter (d.rd Reg.NET_SNACK) d.sn.rsRead = (n == 1)) := by
  decide +kernel

/-! ### Witnesses: debug and plain register writes -/

theorem test_asks (d : Device) (code l : Nat) (f : List Byte) (h : (d.linkRuns && !d.uart && !d.dbg.mute && ndoucGood f && fieldAt f 1 1 == code &&
    f != d.dbg.lastReq && d.dbg.executing.isNone && ndoucLevel code == some l && decide (l ≤ d.authLevel)) = true) :
    asks d code f ((f.drop 4).take (fieldAt f 3 1)) := by
  simp only [Bool.and_eq_true, beq_iff_eq, bne_iff_ne, Option.isNone_iff_eq_none, decide_eq_true_eq, Bool.not_eq_true'] at h
  obtain ⟨⟨⟨⟨⟨⟨⟨⟨a, b⟩, m⟩, c⟩, e⟩, g⟩, i⟩, j⟩, k⟩ := h
  exact ⟨a, b, m, c, e, g, i, ⟨l, j, k⟩, rfl⟩

/-- AES-CMAC (RFC 4493) with a key of zeros, of the challenge 7, the device 0 and the level 2 (R482), worked out by hand of the standard. -/
theorem test_witness_unlock_response : unlockResponse 0 0 7 2 = 0x410B0B5334ED6582 := by decide +kernel

theorem test_witness_NdoucAnswers :
    asks d0 0x01 (nf 1 []) [] ∧ asks d0 0x02 (nf 2 []) [] ∧
    (let p := leBytes 4 2 ++ leBytes 8 0x410B0B5334ED6582
     let d : Device := { withR [(Reg.DBG_AUTH, 4)] with dbg := { d0.dbg with chal := some 7 } }
     asks d 0x03 (nf 3 p) p ∧ p.length = 12 ∧ zeroAt p 1 3 = true ∧ d.flag Reg.DBG_AUTH 6 = false ∧ d.dbg.chal = some 7 ∧
     d.rd Reg.DBG_HALTED = 0 ∧ fieldAt p 4 8 = 0x410B0B5334ED6582 ∧ d.cfg.dbgKey = 0 ∧ d.cfg.devid = 0 ∧ fieldAt p 0 1 = 2 ∧
     unlockPermits (d.fld Reg.DBG_AUTH 2 2) (fieldAt p 0 1) = true) ∧
    asks (unlocked 1 []) 0x30 (nf 0x30 []) [] ∧ asks (unlocked 1 []) 0x31 (nf 0x31 (leBytes 4 0)) (leBytes 4 0) ∧
    (asks (unlocked 1 []) 0x31 (nf 0x31 (leBytes 4 1 ++ leBytes 4 65)) (leBytes 4 1 ++ leBytes 4 65) ∧ d0.dbg.vrx.length < 64) ∧
    (let p := leBytes 4 1 ++ leBytes 8 (2 ^ 48 - 1)
     asks (unlocked 2 []) 0x40 (nf 0x40 p) p ∧ fieldAt p 4 8 < 2 ^ 48 ∧ (unlocked 2 []).authFull = true ∧
     (unlocked 2 []).mode = .service ∧ (unlocked 2 []).qsp.load = none) ∧
    (d0.linkRuns = true ∧ d0.uart = false ∧ ndoucGood (nf 0x11 []) = true ∧ nf 0x11 [] ≠ d0.dbg.lastReq ∧ d0.dbg.executing = none ∧
     fieldAt (nf 0x11 []) 1 1 = 0x11 ∧ d0.authLevel < 2 ∧ ndoucGood [] = false ∧
     ({ d0 with dbg := { d0.dbg with lastReq := nf 1 [] } } : Device).dbg.lastReq = nf 1 []) := by
  refine ⟨test_asks _ _ 0 _ ?_, test_asks _ _ 0 _ ?_, ⟨test_asks _ _ 0 _ ?_, ?_⟩, test_asks _ _ 1 _ ?_, test_asks _ _ 1 _ ?_,
    ⟨test_asks _ _ 1 _ ?_, ?_⟩, ⟨test_asks _ _ 2 _ ?_, ?_⟩, ?_⟩ <;> decide +kernel

/-- NdoucAnswers: an exchange executes, with the idle time past or not; and the UART. -/
theorem test_witness_NdoucAnswers_executing :
    (∀ m ∈ [false, true],
     let w : NdoucWait := ⟨0x10, 9, 0, [], [], false⟩
     let d : Device := { d0 with dbg := { d0.dbg with executing := some w, mute := m, lastReq := nf 0x10 [] } }
     d.linkRuns = true ∧ d.uart = false ∧ ndoucGood (nf 0x10 []) = true ∧ fieldAt (nf 0x10 []) 1 1 = 0x10 ∧
     nf 0x10 [] = d.dbg.lastReq ∧ nf 0x10 [0, 0, 0, 0] ≠ d.dbg.lastReq ∧ d.dbg.executing = some w) ∧
    (withR [(Reg.DBG_STAT, 1)]).uart = true := by decide +kernel

theorem test_witness_GangwayReachesTheDevice :
    (let p := leBytes 8 0x1071FFFFC ++ leBytes 4 1
     let d := unlocked 2 []
     asks d 0x10 (nf 0x10 p) p ∧ asks d 0x11 (nf 0x11 p) p ∧ fieldAt p 0 8 = 0x1071FFFFC ∧ fieldAt p 8 4 = 1 ∧
     d.eccAt 0x1071FFFFC = .clean ∧ targetPlace d.cfg 0x1071FFFFC = some (.sram 7 0x1FFFFC) ∧ d.tileOn 7 = true ∧
     d.tracked 0x1071FFFFC = none) ∧
    (let w : NdoucWait := ⟨0x10, 9, 0, [windowBase + 0x380000 + 0x400 * 511 + 4 * 31], [], false⟩
     let d : Device := { d0 with dbg := { d0.dbg with executing := some w } }
     d.dbg.executing = some w ∧ d0.dbg.executing = none ∧ d.authLevel = 0 ∧
     (d.wr Reg.DBG_AUTH 1).authLevel ≠ 0 ∧ d0.linkRuns = true ∧ d0.uart = false ∧ ndoucGood (nf 0x10 []) = true ∧
     fieldAt (nf 0x10 []) 1 1 = 0x10 ∧ nf 0x10 [] ≠ d.dbg.lastReq) ∧
    (asks (unlocked 2 []) 0x20 (nf 0x20 (leBytes 4 (2 ^ 31))) (leBytes 4 (2 ^ 31)) ∧ fieldAt (leBytes 4 (2 ^ 31)) 0 4 = 2 ^ 31 ∧
     mayHalt (unlocked 2 []) 31 ∧ asks (unlocked 2 []) 0x21 (nf 0x21 (leBytes 4 1)) (leBytes 4 1)) ∧
    (let d := unlocked 2 [(Reg.DBG_HALTED, 2 ^ 31)]
     atHalt d 511 ∧ asks d 0x22 (nf 0x22 (leBytes 4 511)) (leBytes 4 511) ∧ d.dbg.steps = [] ∧
     asks d 0x23 (nf 0x23 (leBytes 4 511 ++ leBytes 4 3)) (leBytes 4 511 ++ leBytes 4 3) ∧ fieldAt (leBytes 4 511 ++ leBytes 4 3) 0 4 = 511 ∧
     d.flag Reg.DBG_ITRST 0 = true ∧ d.dbg.fed = none) ∧
    (decodeFed 3).isSome = true := by
  refine ⟨⟨test_asks _ _ 1 _ ?_, test_asks _ _ 2 _ ?_, ?_⟩, ?_, ⟨test_asks _ _ 2 _ ?_, ?_, ?_, test_asks _ _ 2 _ ?_⟩,
    ⟨?_, test_asks _ _ 2 _ ?_, ?_, test_asks _ _ 2 _ ?_, ?_⟩, ?_⟩ <;> decide +kernel

/-- The word 3 is the encoding of ADD of registers 0. -/
theorem test_witness_feedsAdd : decodeFed 3 = some (aluOp addFn 0 0 0) := rfl

theorem test_witness_DebugRegistersAct :
    ([Reg.DBG_HALT, Reg.DBG_RESUME, Reg.DBG_STEP, Reg.DBG_ITR, Reg.DBG_TSW, Reg.DBG_TCTL, Reg.DBG_VTX, Reg.DBG_UNLKREQ].all fun o =>
      (unlocked 2 []).arrives gw o && (unlocked 2 []).dbgWritable gw o) = true ∧ mayHalt (unlocked 2 []) 31 ∧
    (let d := atTime 8 { unlocked 2 [(Reg.DBG_HALTED, 2 ^ 31)] with dbg := { d0.dbg with resume := [(2 ^ 31, 4)] } }
     d.dbg.resume = [(2 ^ 31, 4)] ∧ d.dbg.remote = [] ∧ 4 + 4 ≤ d.tbNow ∧ d.tbNow % 8 = 0 ∧ d.coreHalted 31 = true ∧ d.flag Reg.DBG_XMASK 31 = false ∧
     d.twinLow 31 = false ∧ d.twinHigh 31 = false ∧ (atTime 7 d).tbNow < 4 + 4) ∧
    (let d := unlocked 2 [(Reg.DBG_HALTED, 2 ^ 31), (Reg.DBG_ITRSEL, 511)]
     atHalt d 511 ∧ d.dbg.steps = [] ∧ d.fld Reg.DBG_ITRSEL 0 9 = 511 ∧ d.flag Reg.DBG_ITRST 0 = true ∧ d.dbg.fed = none ∧
     (d.berth 511).loads = [] ∧ (d.berth 511).stores = [] ∧ d.twinDiffers 511 = false) ∧
    (let d := atTime 8 { d0 with dbg := { d0.dbg with steps := [(0, 0, true)], fed := some 0 } }
     d.dbg.steps = [(0, 0, true)] ∧ d.dbg.fedHeld = none ∧ d.dbg.fedWait = .none ∧ 0 ∈ d.dbg.steps.map Prod.fst ∧ (0 + 11) / 8 * 8 ≤ d.tbNow ∧ (d.berth 0).loads = [] ∧ (d.berth 0).wait = .none ∧
     d.dbg.executing = none ∧ d.dbg.fed = some 0 ∧ (d.berth 0).stores = [] ∧ d0.dbg.steps = [] ∧ d0.dbg.fed = none) ∧
    (let d : Device := { (unlocked 4 []).wr64 Reg.DBG_UNLK 0x410B0B5334ED6582 with dbg := { d0.dbg with chal := some 7 } }
     d.arrives ho Reg.DBG_UNLKREQ = true ∧ d.dbgWritable ho Reg.DBG_UNLKREQ = true ∧ d.flag Reg.DBG_AUTH 6 = false ∧
     d.dbg.chal = some 7 ∧ d.rd Reg.DBG_HALTED = 0 ∧ d.rd64 Reg.DBG_UNLK = 0x410B0B5334ED6582 ∧ d.cfg.dbgKey = 0 ∧
     d.cfg.devid = 0 ∧
     unlockPermits (d.fld Reg.DBG_AUTH 2 2) 2 = true) := by decide +kernel

theorem test_witness_DebugRegistersAct_terminal_and_trace :
    (d0.arrives ho Reg.DBG_CHAL = true ∧ d0.dbgReadable ho Reg.DBG_CHAL = true ∧ d0.fld Reg.DBG_AUTH 2 2 = 0 ∧
     d0.arrives ho Reg.DBG_VRX = true ∧ d0.dbgReadable ho Reg.DBG_VRX = true ∧ d0.dbg.vtx.length < 64 ∧
     64 ≤ ({ d0 with dbg := { d0.dbg with vtx := List.replicate 64 0 } } : Device).dbg.vtx.length) ∧
    (let d := atTime 9 (unlocked 2 [(Reg.DBG_TCTL, 0x41)])
     let two : TracePacket := ⟨8, 0, List.replicate 16 0⟩
     let e : Device := { d with dbg := { d.dbg with trace := { d.dbg.trace with queue := List.replicate 31 two } } }
     let full : Device := { d with dbg := { d.dbg with trace := { d.dbg.trace with queue := List.replicate 32 two } } }
     d.flag Reg.DBG_TCTL 6 = true ∧ d.flag Reg.DBG_TCTL 0 = true ∧ d.flag Reg.DBG_TSTAT 24 = false ∧ d.dbg.trace.pending = 0 ∧
     d.dbg.trace.load ≤ 62 ∧ e.dbg.trace.load = 62 ∧ (∀ x ∈ e.dbg.trace.queue, x.ts < e.tbNow) ∧ 62 < full.dbg.trace.load ∧
     d.traceAsleep = false ∧ d.arrives gw Reg.DBG_TCTL = true ∧ d.dbgWritable gw Reg.DBG_TCTL = true ∧ d0.flag Reg.DBG_TCTL 6 = false) ∧
    (unlocked 2 []).arrives gw Reg.DBG_TSW = true ∧ (unlocked 2 []).dbgWritable gw Reg.DBG_TSW = true := by decide +kernel

theorem test_witness_RegisterWritesStore : d0.arrives ho Reg.PWR_STOPRUN = true ∧ d0.arrives ho (Reg.RMS_WIN 0xFF) = true ∧
    rmsExists 0xFF = true ∧ d0.flag Reg.RMS_LOCK 0 = false ∧ (withR [(Reg.RMS_LOCK, 1)]).flag Reg.RMS_LOCK 0 = true ∧
    d0.arrives gw Reg.PWR_STOPRUN = false ∧ d0.entitled gw Reg.PWR_STOPRUN = false ∧
    (∀ q ∈ writtenWords, d0.arrives ho q.1 = true) ∧ (∀ q ∈ writtenPairs, d0.arrives ho q.1 = true) ∧
    (d0.arrives ho (Reg.LHS_TMO 8) = true ∧ d0.lhsExists 8 = true ∧ d0.flag Reg.LHS_LOCK 0 = false ∧
     (withR [(Reg.LHS_LOCK, 1)]).flag Reg.LHS_LOCK 0 = true) ∧
    (∀ q ∈ fixedBits, d0.arrives ho (Reg.RMS_CFG q.1) = true) ∧ d0.arrives ho Reg.RMS_LOCK = true ∧ d0.arrives ho Reg.LHS_LOCK = true ∧
    (let d := atLevel 0 [(62, 0x2000), (63, 0)]
     enters d i0 1 ∧ (d.berth 0).pl = 0) ∧
    (let d := withR [(Reg.QSP_TACL, 0x400), (Reg.RMS_CFG 0x48, 0)]
     d.targetReady = true ∧ d.flag (Reg.RMS_CFG 0x48) 12 = false ∧ d.flag Reg.QSP_TACL 10 = true) ∧
    (({ d0 with mode := .deepSleep } : Device).pathRuns ho = false ∧ d0.entitled ho 2 = true ∧ regStart 2 = false) := by decide +kernel

/-! ### Witnesses: the queue, reset and the form of memory -/

theorem test_witness_EmptyQueueIdles : State.reset.pending = [] ∧ d0.mode ≠ .reset ∧ d0.mode ≠ .ramp ∧ d0.mode ≠ .off ∧
    (let d : Device := { d0 with qsp := { d0.qsp with boot := false } }
     d.pwr.again = false ∧ d.dbg.uart = [] ∧ (∀ p ∈ d.berths, p.2.writes = []) ∧ d.qsp.boot = false ∧ d.dbg.trace.queue = [] ∧ d.eng.engines = [] ∧ d.scn.edges = [] ∧ d.pad.cmpDue = [] ∧ d.scn.capture = none ∧
     ∀ p ∈ d.allPads, d.padLevel (p / 32) (p % 32) = some (d.padIn (p / 32) (p % 32))) := by decide +kernel

theorem test_witness_WellFormedQueuesRun : (∀ c ∈ ([.add i0 1 2 3, .hostReset] : List Instr), Instr.wf cf c = true) ∧
    runs ⟨[.hostReset], d0⟩ = true := by decide +kernel

theorem test_witness_MemoryFormIsKept : Memory.wf (d0.poke 0x100000000 [1, 0, 2]).mem = true ∧ Memory.wf d0.mem = true ∧
    runs ⟨[.hostReset], d0⟩ = true := by decide +kernel

end Sys2Proof.Tests
end

section
/-! PROOF. RegisterWritesStore fails in one part: it gives the PRIV of a USER berth's refused write the register's address in EADDR. R97
puts a data address there for the causes 3 to 6 and 8 alone, and the model's entry (`Berth.enterRegs`) leaves zero for PRIV, cause 2. -/

open Sys2Proof.Machine Sys2Proof.Claims

namespace Sys2Proof.Proofs

/-- The device at reset but for berth 0, which stands at USER in its tile SRAM. -/
def userBerthDevice : Device :=
  State.reset.dev.setBerth 0 { (State.reset.dev.berth 0).setSr 0 0 with pc := 0x1000 }

/-- The state in which that berth is about to write a register, and its instruction. -/
def userBerthState : State := ⟨[], userBerthDevice⟩
def userSite : Site := ⟨0, false⟩

/-- The register with which the refutation is made: PWR_STAT, at the start of the window. -/
def userWrite : Instr := .registerWrite (.berth userSite.b) (BitVec.ofNat 24 Reg.PWR_STAT) 0

theorem userBerth_enters : enters userBerthDevice userSite 1 := by decide +kernel

theorem userBerth_pl : (userBerthDevice.berth userSite.b).pl = 0 := by decide +kernel

/-- The write raises PRIV at SUPERVISOR with an EADDR of zero. -/
theorem userWrite_raises_priv_eaddr_zero (t : State) (h : exec userWrite userBerthState = .next t) :
    (t.dev.berth userSite.b).srN (level 1 + 3) = 2 ∧ (t.dev.berth userSite.b).srPair (level 1 + 4) = 0 := by
  have hexec : exec userWrite userBerthState = execRegisterWrite (.berth userSite.b) (BitVec.ofNat 24 Reg.PWR_STAT) 0 userBerthState := rfl
  rw [hexec, execRegisterWrite, State.upd_eq, Host.Outcome.next.injEq] at h
  subst h
  decide +kernel

/-- Refutes O56: the PRIV of a USER berth's write leaves EADDR zero (R97), where the statement has the register's address. -/
theorem not_registerWritesStore : ¬ Obligations.RegisterWritesStore := by
  unfold Obligations.RegisterWritesStore
  intro h
  obtain ⟨_, _, _, _, _, _, hpriv, _⟩ := h userBerthState userSite (.berth userSite.b) 0 0 (BitVec.ofNat 24 Reg.PWR_STAT) 0
  obtain ⟨t, hrun, _, _, hentered⟩ := hpriv userBerth_enters userBerth_pl (.inl (by decide))
  obtain ⟨_, _, _, haddr, _⟩ := hentered
  rw [(userWrite_raises_priv_eaddr_zero t hrun).2] at haddr
  exact absurd haddr (by decide)

end Sys2Proof.Proofs
end

section
/-! PROOF. AccessesComplete fails in one part: it keeps the wait of a berth whose load returns. A load of a timed berth outside
deterministic space is a timing breach (R123), whose stall lasts while operations of the berth are in flight (R50): the return of the last
of them ends the stall (`Berth.unstall` in `Device.settlePark`), and with it the wait. -/

open Sys2Proof.Machine

namespace Sys2Proof.Proofs

/-- A load of the first word of the Image Store into register 8 of window 0. -/
def imageLoad : LoadEntry := ⟨some 8, .memory imageBase 4 false, 0, 0, none, false⟩

/-- The device at reset but for berth 0, which is TIMED, in slot 0 with one entry of each queue, and stalls after the breach of its load
from the Image Store (R50, R123). -/
def stalledDevice : Device :=
  (State.reset.dev.wr (Reg.CAR_BCFG 0 0) 0x104401).setBerth 0
    { State.reset.dev.berth 0 with wait := .breach, loads := [imageLoad], seq := 1 }

/-- The state in which that load is about to return. -/
def stalledState : State := ⟨[], stalledDevice⟩

theorem stalled_load_ready : stalledDevice.loadReady 0 imageLoad = true := by decide +kernel

theorem stalled_load_place : (stalledDevice.placeFor 0 imageBase).global = some imageBase := by decide +kernel

theorem stalled_unwatched : stalledDevice.watched = false := by decide +kernel

theorem stalled_park_not_asked : stalledDevice.parkAsked 0 = false := by decide +kernel

/-- The return of the berth's only load ends the stall. -/
theorem loadReturn_ends_stall (t : State) (h : exec (.loadReturn 0 0) stalledState = .next t) : (t.dev.berth 0).wait = .none := by
  have hexec : exec (.loadReturn 0 0) stalledState = execLoadReturn 0 0 stalledState := rfl
  rw [hexec, execLoadReturn, State.upd_eq, Host.Outcome.next.injEq] at h
  subst h
  decide +kernel

/-- Refutes O8: the return of the last operation in flight of a timed berth that stalls after a breach ends its wait (R50), which the
statement has stand. -/
theorem not_accessesComplete : ¬ Obligations.AccessesComplete := by
  unfold Obligations.AccessesComplete
  rintro ⟨_, hload, _⟩
  obtain ⟨t, hrun, _, _, _, _, _, _, _, hwait, _⟩ :=
    hload stalledState 0 0 imageLoad imageBase 4 false imageBase rfl rfl (.inr (.inr rfl)) (by decide) stalled_load_ready
      stalled_load_place rfl stalled_park_not_asked stalled_unwatched
  have hbreach : (t.dev.berth 0).wait = .breach := hwait
  rw [loadReturn_ends_stall t hrun] at hbreach
  cases hbreach

end Sys2Proof.Proofs
end

section
/-! PROOF. TwinPairsAndBerthResets fails in one part: it has a reset berth stand as after reset in every state. Once the reset has
taken effect, the berth's bollards are abandoned (R202), and the read of a lock word that has become uncorrectable raises source 0x22 (R170),
whose reaction IRQ asserts line 26 of berth RMS_NB.BERTH (R441). Where that is the reset berth itself, which for berth 0 holds until software
changes RMS_NB, its IPEND holds the line after the reset. -/

open Sys2Proof.Machine

namespace Sys2Proof.Proofs

/-- A bollard in the first word of tile SRAM 0 that berth 0 holds. -/
def lostBollard : BolEntry := ⟨sramBase 0, .berth 0, false, 0, 0⟩

/-- The device at reset but for that bollard, whose lock word has become uncorrectable. -/
def lostBollardDevice : Device :=
  { State.reset.dev with
    bol := { State.reset.dev.bol with entries := [(0, some lostBollard)] }
    mem := { State.reset.dev.mem with ecc := [(sramBase 0 / 8, .uncorrectable)] } }

/-- The state in which the host, with the secure attribute, is about to reset berth 0. -/
def lostBollardState : State := ⟨[], lostBollardDevice⟩
def secureHost : Writer := .host true

theorem lostBollard_write_arrives : lostBollardDevice.arrives secureHost Reg.PWR_BRST = true := by decide +kernel

theorem lostBollard_berth_present : lostBollardDevice.present 0 = true := by decide +kernel

/-- The reset leaves line 26 pending at the berth. -/
theorem berthReset_leaves_line_pending (t : State) (h : exec (.berthReset secureHost 0) lostBollardState = .next t) :
    (t.dev.berth 0).srN 20 = 2 ^ 26 := by
  have hexec : exec (.berthReset secureHost 0) lostBollardState = execBerthReset secureHost 0 lostBollardState := rfl
  rw [hexec, execBerthReset, State.upd_eq, Host.Outcome.next.injEq] at h
  subst h
  decide +kernel

/-- Refutes O25: the abandonment of a bollard on an uncorrectable word leaves Ringmaster's line pending at the berth that has been reset
(R202, R441), where the statement has the berth as after reset. -/
theorem not_twinPairsAndBerthResets : ¬ Obligations.TwinPairsAndBerthResets := by
  unfold Obligations.TwinPairsAndBerthResets
  intro h
  obtain ⟨_, _, _, _, hreset⟩ := h lostBollardState 0 secureHost 0 0
  obtain ⟨t, hrun, _, _, hberth, _, _⟩ := hreset lostBollard_write_arrives rfl lostBollard_berth_present
  have hclear : (t.dev.berth 0).srN 20 = Berth.reset.srN 20 := congrArg (fun x => Berth.srN x 20) hberth
  rw [berthReset_leaves_line_pending t hrun] at hclear
  exact absurd hclear (by decide)

end Sys2Proof.Proofs
end

section
/-! PROOF. Fields of a word bit by bit, the window file seen through its registers (R69, R71), and the reset values (R103). -/

open Sys2Proof Sys2Proof.Machine Sys2Proof.Claims

namespace Sys2Proof.Proofs

/-! ### Fields of numbers -/

theorem bitOf_eq_testBit (v i : Nat) : bitOf v i = v.testBit i := by
  rw [bitOf, Nat.testBit_eq_decide_div_mod_eq]
  exact Bool.eq_iff_iff.mpr (by simp)

theorem testBit_bitsOf (v lo w k : Nat) : (bitsOf v lo w).testBit k = (decide (k < w) && v.testBit (lo + k)) := by
  rw [bitsOf, Nat.testBit_mod_two_pow, Nat.testBit_div_two_pow, Nat.add_comm]

/-- A replaced field, bit by bit. -/
theorem testBit_setBits (v lo w x k : Nat) :
    (setBits v lo w x).testBit k = if lo ≤ k ∧ k < lo + w then x.testBit (k - lo) else v.testBit k := by
  have hsplit : setBits v lo w x = 2 ^ lo * (2 ^ w * (v / 2 ^ (lo + w)) + x % 2 ^ w) + v % 2 ^ lo := by
    unfold setBits
    ring
  rw [hsplit, Nat.testBit_two_pow_mul_add _ (Nat.mod_lt _ (Nat.two_pow_pos lo)),
    Nat.testBit_two_pow_mul_add _ (Nat.mod_lt _ (Nat.two_pow_pos w)), Nat.testBit_mod_two_pow, Nat.testBit_mod_two_pow,
    Nat.testBit_div_two_pow]
  by_cases hlo : k < lo
  · simp [hlo, Nat.not_le.mpr hlo]
  · by_cases hw : k - lo < w
    · simp [hlo, hw, Nat.not_lt.mp hlo, (by omega : k < lo + w)]
    · rw [if_neg (by omega : ¬(lo ≤ k ∧ k < lo + w))]
      simp [hlo, hw, (by omega : k - lo - w + (lo + w) = k)]

theorem bitsOf_setBits_same (v lo w x : Nat) : bitsOf (setBits v lo w x) lo w = x % 2 ^ w := by
  refine Nat.eq_of_testBit_eq fun k => ?_
  rw [testBit_bitsOf, testBit_setBits, Nat.testBit_mod_two_pow]
  by_cases hk : k < w <;> simp [hk]

theorem bitsOf_setBits_other {v lo w x lo' w' : Nat} (h : lo' + w' ≤ lo ∨ lo + w ≤ lo') :
    bitsOf (setBits v lo w x) lo' w' = bitsOf v lo' w' := by
  refine Nat.eq_of_testBit_eq fun k => ?_
  rw [testBit_bitsOf, testBit_bitsOf, testBit_setBits]
  by_cases hk : k < w'
  · rw [if_neg (by omega)]
  · simp [hk]

theorem bitsOf_mod {v lo w n : Nat} (h : lo + w ≤ n) : bitsOf (v % 2 ^ n) lo w = bitsOf v lo w := by
  refine Nat.eq_of_testBit_eq fun k => ?_
  rw [testBit_bitsOf, testBit_bitsOf, Nat.testBit_mod_two_pow]
  by_cases hk : k < w
  · simp [hk, (by omega : lo + k < n)]
  · simp [hk]

theorem bitOf_mod {v i n : Nat} (h : i < n) : bitOf (v % 2 ^ n) i = bitOf v i := by
  rw [bitOf_eq_testBit, bitOf_eq_testBit, Nat.testBit_mod_two_pow, decide_eq_true h, Bool.true_and]

/-! ### The window (R71) -/

section
variable (x : Berth)

theorem srN_lt (n : Nat) : x.srN n < 2 ^ 32 := (x.sr.get srDefault n).isLt

theorem cwp_setWindow {c : Nat} (n : Nat) (h : c < 8) : (x.setWindow c n).cwp = c := by
  rw [Berth.cwp, Berth.setWindow, Berth.srN_setSr_same, bitsOf_mod (by decide), bitsOf_setBits_other (.inl (by decide)),
    bitsOf_setBits_same]
  exact Nat.mod_eq_of_lt h

theorem nres_setWindow (c : Nat) {n : Nat} (h : n < 8) : (x.setWindow c n).nres = n := by
  rw [Berth.nres, Berth.setWindow, Berth.srN_setSr_same, bitsOf_mod (by decide), bitsOf_setBits_same]
  exact Nat.mod_eq_of_lt h

theorem phys_of_gpr_eq {x y : Berth} (h : y.gpr = x.gpr) (p : Nat) : y.phys p = x.phys p := by
  rw [Berth.phys, Berth.phys, h]

/-- A register of the window that has slid. -/
theorem reg_setWindow {c : Nat} (n r : Nat) (h : c < 8) : (x.setWindow c n).reg r = x.phys (physReg c r) := by
  rw [Berth.reg, cwp_setWindow x n h, phys_of_gpr_eq (Berth.setWindow_gpr x c n)]

/-- The caller's p0 to p7 and the callee's a0 to a7 are the same physical registers (Table 3.1). -/
theorem physReg_slid {c r : Nat} (h1 : 24 ≤ r) (h2 : r < 32) : physReg ((c + 1) % 6) (r - 16) = physReg c r := by
  unfold physReg
  rw [if_neg (by omega), if_pos (by omega), if_neg (by omega), if_neg (by omega)]
  omega

theorem physReg_global {c r : Nat} (h : r < 8) : physReg c r = r := if_pos h

/-- No two registers of a window are the same physical register. -/
theorem physReg_inj {c r q : Nat} (hr : r < 32) (hq : q < 32) (h : physReg c r = physReg c q) : r = q := by
  unfold physReg at h
  split_ifs at h <;> omega

end

/-- Settles O10: after a slide each register number names the physical register that R71 gives it. -/
theorem windowsOverlap : Obligations.WindowsOverlap := by
  intro x n m hc
  have hnext : (x.cwp + 1) % 6 < 8 := by omega
  have hback : ((x.cwp + 1) % 6 + 5) % 6 = x.cwp := by omega
  refine ⟨fun r h1 h2 => ?_, fun r hr => ?_, fun r _ => ?_⟩
  · rw [reg_setWindow x n _ hnext, physReg_slid h1 h2, Berth.reg]
  · rw [reg_setWindow x n r hnext, physReg_global hr, Berth.reg, physReg_global hr]
  · rw [cwp_setWindow x n hnext, hback, reg_setWindow _ m r (by omega), phys_of_gpr_eq (Berth.setWindow_gpr ..), Berth.reg]

/-! ### Reset (R103) -/

/-- A device reset takes every berth to its reset state. -/
theorem berth_deviceReset (d : Device) (cause : ResetCause) (b : Nat) : (d.deviceReset cause).berth b = Berth.reset := rfl

/-- The special registers that Table 3.5 does not list with another value are zero at reset. -/
theorem srDefault_unlisted {n : Nat} (h : ∀ q ∈ specialReset, q.1 ≠ n) : srDefault n = 0 := by
  simp only [specialReset, List.forall_mem_cons] at h
  obtain ⟨h0, h4, h6, h46, h47, h62, h63, _⟩ := h
  unfold srDefault
  rw [if_neg (Ne.symm h0), if_neg (Ne.symm h4), if_neg (Ne.symm h6), if_neg (not_or.mpr ⟨Ne.symm h46, Ne.symm h62⟩),
    if_neg (not_or.mpr ⟨Ne.symm h47, Ne.symm h63⟩)]

theorem reset_window_values : ∀ q ∈ windowReset, State.reset.dev.rd q.1 = q.2 := by decide +kernel

/-- Settles O57: a reset berth is `Berth.reset`, and `State.reset` lists two registers only, CLK_STAT and QSP_HPEND. -/
theorem resetValues : Obligations.ResetValues := by
  refine ⟨fun d cause b => ?_, rfl, rfl, rfl, fun _ => rfl, rfl, rfl, fun _ => ⟨rfl, rfl⟩, reset_window_values, fun off hc hq => ?_⟩
  · rw [berth_deviceReset]
    refine ⟨rfl, by decide, by decide, fun p => ?_, by decide, fun n hn => ?_, rfl, rfl, rfl⟩
    · simp [Berth.phys, Berth.reset]
    · show (srDefault n).toNat = 0
      rw [srDefault_unlisted hn]
      rfl
  · show Store.get [(Reg.CLK_STAT, (0x28 : Word)), (Reg.QSP_HPEND, 4)] (regDefault _) off = _
    rw [Store.get_cons, if_neg (Ne.symm hc), Store.get_cons, if_neg (Ne.symm hq), Store.get_nil]

end Sys2Proof.Proofs
end

section
/-! PROOF. What a command comes to whose instruction issues at a berth that is ready and changes that berth alone, said once; and with it
the branches and jumps (R84, R124, R125). -/

open Sys2Proof Sys2Proof.Machine Sys2Proof.Claims

namespace Sys2Proof.Proofs

/-! ### A command's completion -/

theorem completes_of_exec {c : Instr} {s : State} {f : Device → Device} {P : Device → Prop} (h : exec c s = s.upd f)
    (hP : P { f s.dev with cfg := s.dev.cfg }) : Completes c s P := ⟨_, h, rfl, rfl, hP⟩

/-- The second device differs from the first in one berth at most. -/
def DiffersAt (d : Device) (b : Nat) (e : Device) : Prop := ∀ z, e.setBerth b z = d.setBerth b z

theorem differsAt_refl (d : Device) (b : Nat) : DiffersAt d b d := fun _ => rfl

theorem setBerth_setBerth (d : Device) (b : Nat) (y z : Berth) : (d.setBerth b y).setBerth b z = d.setBerth b z := by
  unfold Device.setBerth
  congr 1
  exact Store.put_put _ _ _ _ _

theorem differsAt_setBerth (d : Device) (b : Nat) (y : Berth) : DiffersAt d b (d.setBerth b y) := setBerth_setBerth d b y

section
variable {d d' : Device} {i : Site}

/-- An effect that nothing watches and that breaks no timing leaves the berth gone on, and nothing else of the device. -/
theorem leaves_complete_of {c : Ctx} {e : Effect} (hb : c.b = i.b) (hd : DiffersAt d i.b d') (hwatched : d.watched = false)
    (hbreach : d.timed i.b = false ∨ e.breach = 0) (hfetch : d.timed i.b = false ∨ d.fetchBreach i.b c.pc = false) :
    d.Leaves i ((d'.berth i.b).advance c.pc c.len e).issued { d'.complete c e with cfg := d.cfg } := by
  rw [← hb] at hd hbreach hfetch
  set y := (d'.berth i.b).advance c.pc c.len e with hy
  have hset : d'.setBerth c.b y = d.setBerth c.b y := hd y
  have hwatched' : d'.watched = false := by
    rw [← Device.watched_setBerth d' c.b y, hset, Device.watched_setBerth, hwatched]
  have htimed : (d'.setBerth c.b y).timed c.b = (d.setBerth c.b y).timed c.b := by rw [hset]
  have hfetch' : (d'.setBerth c.b y).fetchBreach c.b c.pc = (d.setBerth c.b y).fetchBreach c.b c.pc := by rw [hset]
  rw [Device.complete_quiet d' c e hwatched' (hbreach.imp_left htimed.trans) (hfetch.imp htimed.trans hfetch'.trans),
    hb, ← hy, ← hb, hset, hb]
  exact d.leaves_inside i y _

/-- An effect on a berth that is ready leaves the berth gone on, and nothing else of the device. -/
theorem leaves_complete {e : Effect} (hd : DiffersAt d i.b d') (hready : d.ready i = true)
    (hbreach : d.timed i.b = false ∨ e.breach = 0) :
    d.Leaves i ((d'.berth i.b).advance (d.berth i.b).pc.toNat i.len e).issued
      { d'.complete (d.ctx i) e with cfg := d.cfg } := by
  obtain ⟨_, _, _, _, _, hwatched, _, _, _, _, hfetch⟩ := d.ready_parts i hready
  exact leaves_complete_of (c := d.ctx i) rfl hd hwatched hbreach hfetch

/-- The issue of an instruction whose effect changes its berth alone. -/
theorem leaves_issue {op : Op} {e : Effect} (hready : d.ready i = true) (hrun : op.run (d.ctx i) d = .done d' e)
    (hd : DiffersAt d i.b d') (hbreach : d.timed i.b = false ∨ e.breach = 0) :
    d.Leaves i ((d'.berth i.b).advance (d.berth i.b).pc.toNat i.len e).issued { d.issue i op with cfg := d.cfg } := by
  rw [d.issue_ready i op hready, hrun]
  exact leaves_complete hd hready hbreach

/-- The issue of an instruction that transfers control and changes nothing else of the device than its berth. -/
theorem leaves_jump {op : Op} {e : Effect} {t : Nat} (hready : d.ready i = true) (hrun : op.run (d.ctx i) d = .done d' e)
    (hd : DiffersAt d i.b d') (hbreach : d.timed i.b = false ∨ e.breach = 0) (ht : e.target = some t) (hs : e.shadow = none) :
    d.Leaves i ((d'.berth i.b).goesTo t) { d.issue i op with cfg := d.cfg } := by
  have h := leaves_issue hready hrun hd hbreach
  rwa [Berth.advance, ht, hs] at h

end

/-! ### Branches and jumps -/

/-- The target of a relative transfer (R84). -/
theorem relTarget_eq_relative {w : Nat} (pc : Addr) (disp : BitVec w) :
    relTarget pc.toNat (disp.signExtend 32) = relative pc disp.toInt := by
  unfold relTarget relative BitVec.signExtend
  rw [BitVec.toNat_ofInt]
  congr 1
  omega

/-- A branch instruction goes to its target where its condition holds. -/
theorem branches_of_exec {s : State} {i : Site} {c : Instr} {reads : List Nat} {cond : Berth → Bool} {taken : Bool}
    {disp : BitVec 14} (hexec : exec c s = s.upd fun d => d.issue i (branchOp reads cond disp)) (hready : s.dev.ready i = true)
    (hcond : cond (s.dev.berth i.b) = taken) : branches s i c taken disp := by
  refine completes_of_exec hexec ?_
  have hrun : (branchOp reads cond disp).run (s.dev.ctx i) s.dev = .done s.dev
      (if taken then Effect.jump (relTarget (s.dev.berth i.b).pc.toNat (disp.signExtend 32)) 1 else Effect.next) := by
    rw [← hcond]
    rfl
  cases taken with
  | true =>
    rw [← relTarget_eq_relative]
    exact leaves_jump hready hrun (differsAt_refl _ _) (.inr rfl) rfl rfl
  | false => exact leaves_issue hready hrun (differsAt_refl _ _) (.inr rfl)

theorem geCond_eq (a b : Word) : geCond a b = !a.slt b := by
  rw [geCond, BitVec.slt, ← decide_not]
  exact decide_eq_decide.mpr not_lt.symm

theorem geuCond_eq (a b : Word) : geuCond a b = !a.ult b := by
  rw [geuCond, BitVec.ult, ← decide_not]
  exact decide_eq_decide.mpr not_lt.symm

/-- Settles O4: a branch is its condition's transfer or the next instruction, and a jump its transfer. -/
theorem transfersGoWhereTheySay : Obligations.TransfersGoWhereTheySay := by
  refine ⟨fun s i rs1 rs2 m disp hready => ⟨?_, ?_, ?_, ?_⟩, fun s i rt bk disp hready => ⟨?_, fun heven => ?_⟩⟩
  · simp only [branchTable, List.forall_mem_cons]
    exact ⟨branches_of_exec rfl hready rfl, branches_of_exec rfl hready rfl, branches_of_exec rfl hready rfl,
      branches_of_exec rfl hready (geCond_eq _ _), branches_of_exec rfl hready rfl, branches_of_exec rfl hready (geuCond_eq _ _),
      fun _ h => absurd h List.not_mem_nil⟩
  · simp only [branchImmTable, List.forall_mem_cons]
    exact ⟨branches_of_exec rfl hready rfl, branches_of_exec rfl hready rfl, branches_of_exec rfl hready rfl,
      branches_of_exec rfl hready (geCond_eq _ _), fun _ h => absurd h List.not_mem_nil⟩
  · refine branches_of_exec rfl hready ?_
    rw [bitOf_eq_testBit, BitVec.testBit_toNat, beq_true]
  · refine branches_of_exec rfl hready ?_
    rw [bitOf_eq_testBit, BitVec.testBit_toNat, beq_false]
  · refine completes_of_exec (f := fun d => d.issue i (jmpOp disp)) rfl ?_
    rw [← relTarget_eq_relative]
    exact leaves_jump hready rfl (differsAt_refl _ _) (.inr rfl) rfl rfl
  · refine completes_of_exec (f := fun d => d.issue i (jmprOp rt bk)) rfl ?_
    have ht : (s.dev.berth i.b).regTarget rt bk =
        (s.dev.berth i.b).srN (12 + bk.toNat) * 2 ^ 32 + ((s.dev.berth i.b).operand rt.toNat).toNat := by
      rw [Berth.regTarget, Berth.banked, Nat.mod_eq_of_lt (BitVec.isLt _)]
    rw [← ht] at heven ⊢
    have hrun : (jmprOp rt bk).run (s.dev.ctx i) s.dev = .done s.dev (Effect.jump ((s.dev.berth i.b).regTarget rt bk) 1) :=
      if_neg (show ¬ (s.dev.berth i.b).regTarget rt bk % 2 = 1 by omega)
    exact leaves_jump hready hrun (differsAt_refl _ _) (.inr rfl) rfl rfl

end Sys2Proof.Proofs
end

section
/-! PROOF. Exception entry (R97) at a boundary where nothing of the berth is in flight and the window has a frame left: the berth that it
leaves, and nothing else of the device. -/

open Sys2Proof Sys2Proof.Machine Sys2Proof.Claims

namespace Sys2Proof.Proofs

/-! ### What stands -/

section
variable {d e : Device} {b : Nat}

theorem onlyBerth_dropNeed (d : Device) (b : Nat) : d.OnlyBerth b (d.dropNeed b) := ⟨fun _ _ => rfl, fun _ _ => rfl, rfl⟩

theorem onlyBerth_issuedOne (d : Device) (b : Nat) (l : Bool) : d.OnlyBerth b (d.issuedOne b l) :=
  ⟨fun _ hc => Device.issuedOne_berth_other d l (Ne.symm hc), fun _ _ => rfl, rfl⟩

theorem onlyBerth_dropNeed_of (h : d.OnlyBerth b e) : d.OnlyBerth b (e.dropNeed b) := by
  obtain ⟨hberth, hrd, heq⟩ := h
  refine ⟨hberth, hrd, ?_⟩
  rw [heq]
  simp only [Device.dropNeed, List.filter_filter, Bool.and_self]

theorem onlyBerth_setBerth_of (y : Berth) (h : d.OnlyBerth b e) : d.OnlyBerth b (e.setBerth b y) := by
  obtain ⟨hberth, hrd, heq⟩ := h
  refine ⟨fun c hc => (Device.berth_setBerth_other e y (Ne.symm hc)).trans (hberth c hc), hrd, ?_⟩
  conv_lhs => rw [heq]
  rfl

theorem onlyBerth_cfg (h : d.OnlyBerth b e) : d.OnlyBerth b { e with cfg := d.cfg } := by
  have hcfg : e.cfg = d.cfg := by rw [h.2.2]
  rw [← hcfg]
  exact h

end

/-! ### The operations in flight of a berth that has none -/

theorem opsIn_idle {d : Device} {b : Nat} (sel : Nat → Bool) (hl : (d.berth b).loads = []) (hs : (d.berth b).stores = []) :
    d.opsIn b sel = [] := by simp [Device.opsIn, hl, hs]

theorem drain_idle {d : Device} {b : Nat} (sel : Nat → Bool) (hl : (d.berth b).loads = []) (hs : (d.berth b).stores = []) :
    d.drain b sel = d := by rw [Device.drain, opsIn_idle sel hl hs, List.foldl_nil]

theorem unstall_of_waits_none {x : Berth} (h : x.wait = .none) : x.unstall = x := if_neg (by simp [h])

/-- With nothing in flight an exception finds nothing to complete. -/
theorem finish_idle {d : Device} {b : Nat} (hl : (d.berth b).loads = []) (hs : (d.berth b).stores = [])
    (hw : (d.berth b).wait = .none) : d.finish b = d.setBerth b (d.berth b) := by
  simp [Device.finish, drain_idle _ hl hs, hl, unstall_of_waits_none hw]

/-! ### The berth at a handler -/

/-- The berth past a slide forward without a spill. -/
def slid (x : Berth) : Berth := x.setWindow ((x.cwp + 1) % 6) (x.nres + 1)

/-- The berth that an entry to level t without a spill leaves (R97). -/
def handled (x : Berth) (t : Nat) (r : Raised) : Berth :=
  { slid (x.enterRegs t r) with
    pc := BitVec.ofNat 50 ((slid (x.enterRegs t r)).vector t r.code), wait := .none, reads := [], beats := [], badBeat := none }

/-- What EADDR takes: an address for the causes that have one (R97). -/
def faultAddr (r : Raised) : Nat := if r.code ∈ [3, 4, 5, 6, 8, 11] then r.addr else 0

/-- PSR at the handler: the level, IE 0 and EXL of the level 1. -/
def handlerPsr (psr t : Nat) : Nat := setBits (setBits (setBits psr 0 2 t) 2 1 0) (2 + t) 1 1

theorem srN_of_sr_eq {x y : Berth} (n : Nat) (h : y.sr = x.sr) : y.srN n = x.srN n := by rw [Berth.srN, Berth.srN, h]

section
variable {x : Berth} {t : Nat} {r : Raised}

/-- The special registers past an entry's steps 1 to 3 (R97). -/
theorem srN_enterRegs (n : Nat) : (x.enterRegs t r).srN n =
    if 0 = n then handlerPsr (x.srN 0) t % 2 ^ 32
    else if excBase t + 5 = n then faultAddr r / 2 ^ 32 % 2 ^ 18 % 2 ^ 32
    else if excBase t + 4 = n then faultAddr r % 2 ^ 32 % 2 ^ 32
    else if excBase t + 3 = n then (r.code + 2 ^ 8 * r.sub + 2 ^ 16 * r.line + 2 ^ 31 * bit01 r.imp) % 2 ^ 32
    else if excBase t + 2 = n then x.srN 0 % 2 ^ 32
    else if excBase t + 1 = n then r.epc / 2 ^ 32 % 2 ^ 18 % 2 ^ 32
    else if excBase t = n then r.epc % 2 ^ 32 % 2 ^ 32
    else x.srN n := by
  have hsr : (x.enterRegs t r).srN n = (((((((x.setSr (excBase t) (r.epc % 2 ^ 32)).setSr (excBase t + 1)
      (r.epc / 2 ^ 32 % 2 ^ 18)).setSr (excBase t + 2) (x.srN 0)).setSr (excBase t + 3)
      (r.code + 2 ^ 8 * r.sub + 2 ^ 16 * r.line + 2 ^ 31 * bit01 r.imp)).setSr (excBase t + 4) (faultAddr r % 2 ^ 32)).setSr
      (excBase t + 5) (faultAddr r / 2 ^ 32 % 2 ^ 18)).setSr 0 (handlerPsr (x.srN 0) t)).srN n := srN_of_sr_eq n rfl
  rw [hsr]
  simp only [Berth.srN_setSr]

/-- The entry's registers lie behind PSR and WSTAT. -/
theorem excBase_ge (t : Nat) : 40 ≤ excBase t := by
  unfold excBase
  split <;> decide

theorem srN_enterRegs_other {n : Nat} (h0 : n ≠ 0) (h : n < excBase t ∨ excBase t + 5 < n) : (x.enterRegs t r).srN n = x.srN n := by
  rw [srN_enterRegs, if_neg (by omega), if_neg (by omega), if_neg (by omega), if_neg (by omega), if_neg (by omega), if_neg (by omega),
    if_neg (by omega)]

theorem srN_enterRegs_wstat : (x.enterRegs t r).srN 4 = x.srN 4 :=
  srN_enterRegs_other (by decide) (.inl (lt_of_lt_of_le (by decide) (excBase_ge t)))

theorem cwp_enterRegs : (x.enterRegs t r).cwp = x.cwp := by rw [Berth.cwp, Berth.cwp, srN_enterRegs_wstat]

theorem nres_enterRegs : (x.enterRegs t r).nres = x.nres := by rw [Berth.nres, Berth.nres, srN_enterRegs_wstat]

theorem srN_slid {n : Nat} (h : n ≠ 4) : (slid x).srN n = x.srN n := by
  rw [slid, Berth.setWindow, Berth.srN_setSr, if_neg (Ne.symm h)]

theorem srN_handled (n : Nat) : (handled x t r).srN n = (slid (x.enterRegs t r)).srN n := srN_of_sr_eq n rfl

theorem srN_handled_other {n : Nat} (h : n ≠ 4) : (handled x t r).srN n = (x.enterRegs t r).srN n := by
  rw [srN_handled, srN_slid h]

theorem srN_handled_free {n : Nat} (h0 : n ≠ 0) (h4 : n ≠ 4) (h : n < excBase t ∨ excBase t + 5 < n) :
    (handled x t r).srN n = x.srN n := by rw [srN_handled_other h4, srN_enterRegs_other h0 h]

theorem cwp_handled : (handled x t r).cwp = (x.cwp + 1) % 6 := by
  rw [Berth.cwp, srN_handled, ← Berth.cwp, slid, cwp_setWindow _ _ (by omega), cwp_enterRegs]

theorem nres_handled (h : x.nres < 5) : (handled x t r).nres = x.nres + 1 := by
  rw [Berth.nres, srN_handled, ← Berth.nres, slid, nres_enterRegs, nres_setWindow _ _ (by omega)]

theorem srN_handled_psr : (handled x t r).srN 0 = handlerPsr (x.srN 0) t % 2 ^ 32 := by
  rw [srN_handled_other (by decide), srN_enterRegs, if_pos rfl]

theorem srPair_handled_epc (he : r.epc < 2 ^ 50) : (handled x t r).srPair (excBase t) = r.epc := by
  have hk := excBase_ge t
  rw [Berth.srPair, srN_handled_other (by omega), srN_handled_other (by omega), srN_enterRegs, srN_enterRegs, if_neg (by omega)]
  simp
  omega

theorem srN_handled_estat : (handled x t r).srN (excBase t + 2) = x.srN 0 := by
  have hk := excBase_ge t
  rw [srN_handled_other (by omega), srN_enterRegs]
  simpa using srN_lt x 0

theorem srN_handled_ecause (hi : r.imp = false) (hc : r.code < 2 ^ 8) (hs : r.sub < 2 ^ 8) (hl : r.line < 2 ^ 8) :
    (handled x t r).srN (excBase t + 3) = r.code + 2 ^ 8 * r.sub + 2 ^ 16 * r.line := by
  have hk := excBase_ge t
  rw [srN_handled_other (by omega), srN_enterRegs]
  simp [hi, bit01]
  omega

theorem srPair_handled_eaddr (ha : faultAddr r < 2 ^ 50) : (handled x t r).srPair (excBase t + 4) = faultAddr r := by
  have hk := excBase_ge t
  rw [Berth.srPair, srN_handled_other (by omega), srN_handled_other (by omega), srN_enterRegs, srN_enterRegs]
  simp
  omega

theorem pc_handled : (handled x t r).pc = BitVec.ofNat 50 (x.srPair (excBase t + 6) + 0x40 * r.code) := by
  have hk := excBase_ge t
  have hevb : ∀ n, excBase t + 5 < n → (slid (x.enterRegs t r)).srN n = x.srN n := fun n hn => by
    rw [srN_slid (by omega), srN_enterRegs_other (by omega) (.inr hn)]
  show BitVec.ofNat 50 ((slid (x.enterRegs t r)).vector t r.code) = _
  rw [Berth.vector, Berth.srPair, hevb _ (by omega), hevb _ (by omega), ← Berth.srPair, Nat.mul_comm 0x40]
  exact BitVec.eq_of_toNat_eq (by simp)

/-- PSR's fields at a handler of SUPERVISOR or MONITOR. -/
theorem handlerPsr_fields {psr : Nat} (h1 : 1 ≤ t) (h2 : t ≤ 2) : bitsOf (handlerPsr psr t) 0 2 = t ∧
    bitOf (handlerPsr psr t) 2 = false ∧ bitOf (handlerPsr psr t) (2 + t) = true := by
  unfold handlerPsr
  refine ⟨?_, ?_, ?_⟩
  · rw [bitsOf_setBits_other (.inl (by omega)), bitsOf_setBits_other (.inl (by omega)), bitsOf_setBits_same]
    omega
  · rw [bitOf_eq_testBit, testBit_setBits, if_neg (by omega), testBit_setBits, if_pos (by omega)]
    simp
  · rw [bitOf_eq_testBit, testBit_setBits, if_pos (by omega)]
    simp

end

/-- What the entry of an exception leaves, where the device has changed nowhere but in its berth before. -/
theorem enteredWith_setBerth {d e : Device} {i : Site} {x : Berth} {t : Nat} {r : Raised} (hd : d.OnlyBerth i.b e)
    (hsr : x.sr = (d.berth i.b).sr) (hgpr : x.gpr = (d.berth i.b).gpr) (hnres : (d.berth i.b).nres < 5) (h1 : 1 ≤ t) (h2 : t ≤ 2)
    (hepc : r.epc < 2 ^ 50) (haddr : faultAddr r < 2 ^ 50) (himp : r.imp = false) (hcode : r.code < 2 ^ 8) (hsub : r.sub < 2 ^ 8)
    (hline : r.line < 2 ^ 8) :
    enteredWith d i t r.code r.sub r.line r.epc (faultAddr r) { e.setBerth i.b (handled x t r) with cfg := d.cfg } := by
  have hx (n : Nat) : x.srN n = (d.berth i.b).srN n := srN_of_sr_eq n hsr
  have hcwp : x.cwp = (d.berth i.b).cwp := by rw [Berth.cwp, Berth.cwp, hx]
  have hn : x.nres = (d.berth i.b).nres := by rw [Berth.nres, Berth.nres, hx]
  have hpair (n : Nat) : x.srPair n = (d.berth i.b).srPair n := by rw [Berth.srPair, Berth.srPair, hx, hx]
  have hpsr := handlerPsr_fields (psr := x.srN 0) h1 h2
  have hberth : Device.berth { e.setBerth i.b (handled x t r) with cfg := d.cfg } i.b = handled x t r :=
    Device.berth_setBerth_same ..
  unfold enteredWith
  rw [hberth]
  refine ⟨srPair_handled_epc hepc, ?_, srN_handled_ecause himp hcode hsub hline, srPair_handled_eaddr haddr, ?_, ?_, ?_, ?_, ?_, ?_, hgpr,
    rfl, rfl, fun n h0 h4 hn => ?_, onlyBerth_cfg (onlyBerth_setBerth_of _ hd)⟩
  · rw [← hx]
    exact srN_handled_estat
  · rw [srN_handled_psr, bitsOf_mod (by decide), hpsr.1]
  · rw [srN_handled_psr, bitOf_mod (by decide), hpsr.2.1]
  · rw [srN_handled_psr, bitOf_mod (by omega), hpsr.2.2]
  · rw [pc_handled, hpair]
    rfl
  · rw [cwp_handled, hcwp]
  · rw [nres_handled (by omega), hn]
  · rw [← hx]
    exact srN_handled_free h0 h4 hn

/-! ### Taking an exception -/

/-- An entry with a frame left in the window sets the berth alone, where nothing watches. -/
theorem enterHandler_forward {d : Device} {b t : Nat} {r : Raised} (hn : (d.berth b).nres < 5) (hw : d.watched = false) :
    d.enterHandler b t r .forward = d.setBerth b (handled (d.berth b) t r) := by
  have hspills : (d.berth b).spills = false := beq_eq_false_iff_ne.mpr (by omega)
  have hspills' : ((d.berth b).enterRegs t r).spills = false := by
    rw [Berth.spills, nres_enterRegs]
    exact hspills
  simp only [Device.enterHandler, hspills, Bool.false_and, Bool.false_eq_true, if_false, if_true, Device.slideForward,
    Device.berth_setBerth_same, hspills', setBerth_setBerth]
  rw [Device.traceFlow_unwatched _ _ _ _ _ (by rw [Device.watched_setBerth, hw])]
  rfl

theorem enterLevel_forward {d : Device} {b t : Nat} {r : Raised} (hn : (d.berth b).nres < 5) (hw : d.watched = false) :
    d.enterLevel b t r = d.setBerth b (handled (d.berth b) t r) := by
  have hspills : (d.berth b).spills = false := beq_eq_false_iff_ne.mpr (by omega)
  rw [Device.enterLevel, if_neg (by simp [Device.spillsOutside, hspills]), enterHandler_forward hn hw]

/-- The berth stands at a boundary from which an exception is taken without a spill. -/
structure Settled (d : Device) (b : Nat) : Prop where
  loads : (d.berth b).loads = []
  stores : (d.berth b).stores = []
  waits : (d.berth b).wait = .none
  nres : (d.berth b).nres < 5
  watched : d.watched = false

section
variable {d : Device} {b : Nat} {r : Raised}

/-- What an exception comes to at such a boundary: where EXL of its target is 0, the entry to it; where EXL of SUPERVISOR is 1 and that of
MONITOR 0, DOUBLE at MONITOR (R99). -/
theorem takeException_settled (h : Settled d b) : d.takeException b r =
    if r.target (d.berth b).pl = 2 then
      if (d.berth b).exl 2 then ((d.dropNeed b).setBerth b (d.berth b)).monitorFault b
      else (d.dropNeed b).setBerth b (handled (d.berth b) 2 r)
    else if (d.berth b).exl 1 then
      if (d.berth b).exl 2 then ((d.dropNeed b).setBerth b (d.berth b)).monitorFault b
      else (d.dropNeed b).setBerth b
        (handled (d.berth b) 2 { r with code := 11, sub := r.code, addr := 0, line := 0, imp := false, epc := r.at_ })
    else (d.dropNeed b).setBerth b (handled (d.berth b) 1 r) := by
  obtain ⟨hl, hs, hw, hn, hwatched⟩ := h
  have hspills : (d.berth b).spills = false := beq_eq_false_iff_ne.mpr (by omega)
  have hfinish : (d.dropNeed b).finish b = (d.dropNeed b).setBerth b (d.berth b) :=
    finish_idle (d := d.dropNeed b) hl hs hw
  have hberth : ((d.dropNeed b).setBerth b (d.berth b)).berth b = d.berth b := Device.berth_setBerth_same ..
  have hfault (l : Nat) : ((d.dropNeed b).setBerth b (d.berth b)).spillFault b l = none := by
    rw [Device.spillFault, hberth]
    exact if_pos hspills
  have henter (l : Nat) (q : Raised) : ((d.dropNeed b).setBerth b (d.berth b)).enterLevel b l q =
      (d.dropNeed b).setBerth b (handled (d.berth b) l q) := by
    rw [enterLevel_forward (by rw [hberth]; exact hn) (by rw [Device.watched_setBerth]; exact hwatched), hberth, setBerth_setBerth]
  have hmonitor (q : Raised) : ((d.dropNeed b).setBerth b (d.berth b)).enterMonitor b q true =
      if (d.berth b).exl 2 then none else some ((d.dropNeed b).setBerth b (handled (d.berth b) 2 q)) := by
    rw [Device.enterMonitor, hberth, hfault]
    simp only [Option.isSome_none, Bool.and_false, Bool.false_eq_true, if_false, if_true, henter]
  unfold Device.takeException
  rw [if_neg (by rw [hspills]; exact fun h => Bool.false_ne_true h.2), hfinish]
  simp only [hberth, hfault, henter, hmonitor]
  by_cases ht : r.target (d.berth b).pl = 2
  · cases h2 : (d.berth b).exl 2 <;> simp [ht]
  · cases h1 : (d.berth b).exl 1
    · simp [ht]
    · cases h2 : (d.berth b).exl 2 <;> simp [ht]

end

end Sys2Proof.Proofs
end

section
/-! PROOF. The exceptions that an instruction raises at a berth that is ready (R96, R97), interrupts (R93) and the checks of privilege
(R88, R91). -/

open Sys2Proof Sys2Proof.Machine Sys2Proof.Claims

namespace Sys2Proof.Proofs

/-- What an instruction at the boundary raises: the system calls name the next instruction (R94). -/
def raisedAt (d : Device) (i : Site) (code sub a : Nat) : Raised :=
  let pc := (d.berth i.b).pc.toNat
  ⟨code, sub, 0, a, false, if code = 9 ∨ code = 10 then seqPc pc i.len else pc, pc⟩

section
variable {d : Device} {i : Site} {t code sub a : Nat}

theorem waits_none_of_mayIssue {b : Nat} (h : d.mayIssue b = true) : (d.berth b).wait = .none := by
  simp only [Device.mayIssue, Bool.and_eq_true, beq_iff_eq] at h
  exact h.1.2

/-- The boundary at which an instruction's exception is taken. -/
theorem settled_issuedOne (hready : d.ready i = true) (hs : (d.berth i.b).stores = []) (hn : (d.berth i.b).nres < 5) :
    Settled (d.issuedOne i.b) i.b := by
  obtain ⟨hmay, _, _, hl, _, hw, _⟩ := d.ready_parts i hready
  have hb := Device.issuedOne_berth_same d i.b false
  refine ⟨?_, ?_, ?_, ?_, (d.watched_congr _ fun _ _ => rfl).trans hw⟩ <;> rw [hb]
  · exact hl
  · exact hs
  · exact waits_none_of_mayIssue hmay
  · exact hn

/-- An instruction that raises an exception: its fetch breaks no timing of a timed berth, so that nothing else follows. -/
theorem issue_exc {op : Op} (hready : d.ready i = true) (hrun : op.run (d.ctx i) d = .exc d code sub a)
    (htimed : ((d.issuedOne i.b).takeException i.b (raisedAt d i code sub a)).timed i.b = d.timed i.b) :
    d.issue i op = (d.issuedOne i.b).takeException i.b (raisedAt d i code sub a) := by
  obtain ⟨_, _, _, _, _, _, _, _, _, _, hfetch⟩ := d.ready_parts i hready
  rw [d.issue_ready i op hready, hrun]
  show (if d.fetchBreach i.b (d.berth i.b).pc.toNat then
      ((d.issuedOne i.b).takeException i.b (raisedAt d i code sub a)).breach i.b 2
    else (d.issuedOne i.b).takeException i.b (raisedAt d i code sub a)) = _
  rcases hfetch with h | h
  · rw [Device.breach_free _ _ _ (htimed.trans h), ite_self]
  · rw [h]
    rfl

theorem epc_lt (d : Device) (i : Site) (code sub a : Nat) : (raisedAt d i code sub a).epc < 2 ^ 50 := by
  have hpc : (d.berth i.b).pc.toNat < 2 ^ 50 := (d.berth i.b).pc.isLt
  unfold raisedAt seqPc
  dsimp only
  split <;> omega

theorem target_eq (r : Raised) (pl : Nat) : r.target pl = 1 ∨ r.target pl = 2 := by
  unfold Raised.target
  split_ifs <;> simp

/-- An entry whose level's EXL is 0, with a frame left in the window. -/
theorem takeException_enters {b : Nat} {r : Raised} (h : Settled d b) (ht : r.target (d.berth b).pl = t)
    (hexl : (d.berth b).exl t = false) : d.takeException b r = (d.dropNeed b).setBerth b (handled (d.berth b) t r) := by
  rw [takeException_settled h]
  rcases target_eq r (d.berth b).pl with h1 | h2
  · obtain rfl : t = 1 := ht.symm.trans h1
    rw [if_neg (by omega), if_neg (by simp [hexl])]
  · obtain rfl : t = 2 := ht.symm.trans h2
    rw [if_pos h2, if_neg (by simp [hexl])]

/-- An instruction's exception enters the level that Table 3.8 gives it. -/
theorem entered_of_exc {op : Op} (h : enters d i t) (hrun : op.run (d.ctx i) d = .exc d code sub a)
    (ht : (raisedAt d i code sub a).target (d.berth i.b).pl = t) (hcode : code < 2 ^ 8) (hsub : sub < 2 ^ 8)
    (ha : faultAddr (raisedAt d i code sub a) < 2 ^ 50) :
    enteredWith d i t code sub 0 (raisedAt d i code sub a).epc (faultAddr (raisedAt d i code sub a))
      { d.issue i op with cfg := d.cfg } := by
  obtain ⟨hready, hs, hn, hexl⟩ := h
  have hb := Device.issuedOne_berth_same d i.b false
  have htake : (d.issuedOne i.b).takeException i.b (raisedAt d i code sub a) =
      ((d.issuedOne i.b).dropNeed i.b).setBerth i.b (handled (d.berth i.b).issued t (raisedAt d i code sub a)) := by
    rw [takeException_enters (t := t) (settled_issuedOne hready hs hn) (by rw [hb]; exact ht) (by rw [hb]; exact hexl), hb]
  have hlevel : 1 ≤ t ∧ t ≤ 2 := by
    rcases target_eq (raisedAt d i code sub a) (d.berth i.b).pl with h' | h' <;> omega
  rw [issue_exc hready hrun (by rw [htake]; rfl), htake]
  exact enteredWith_setBerth (onlyBerth_dropNeed_of (onlyBerth_issuedOne d i.b false)) rfl rfl hn hlevel.1 hlevel.2
    (epc_lt d i code sub a) ha rfl hcode hsub (show 0 < 2 ^ 8 by decide)

/-- ILLEGAL and PRIV are raised at the instruction, at SUPERVISOR, or at MONITOR from there, with no address (R95, R97). -/
theorem entered_of_exc_plain {op : Op} (h : enters d i t) (hcode : code = 1 ∨ code = 2)
    (hrun : op.run (d.ctx i) d = .exc d code 0 0) (ht : t = if (d.berth i.b).pl = 2 then 2 else 1) :
    entered d i t code 0 (d.berth i.b).pc.toNat 0 { d.issue i op with cfg := d.cfg } := by
  rcases hcode with rfl | rfl <;> exact entered_of_exc h hrun ht.symm (by decide) (by decide) (show 0 < 2 ^ 50 by decide)

end

/-! ### Exceptions and interrupts -/

/-- A form that Table 4.3 and its like make ILLEGAL issues as an undefined instruction does (R114). -/
theorem exec_illegal {i : Site} {c : Instr} (s : State) (h : c = .undefinedInstruction i ∨ illegalForm i c) :
    exec c s = s.upd fun d => d.issue i undefinedOp := by
  rcases h with rfl | ⟨rx, ry, k, w, n, l, rfl, hk⟩ | rfl | ⟨rd, rs1, rs2, m, l, rfl, hm⟩ | ⟨rd, rs1, rs2, k, rfl, hr⟩ |
    ⟨rd, rs1, rfl, hr⟩ | ⟨rd, m, rfl, hshort, hz⟩
  · rfl
  · show (s.upd fun d => d.issue i ((macxOp rx ry k w n l).legal (macxSizes k w))) = _
    rw [hk]
    rfl
  · rfl
  · have hlegal : waittLegal rs1 rs2 m = false := by
      simp only [waittLegal, Bool.and_eq_false_iff, Bool.or_eq_false_iff, bne_eq_false_iff_eq, beq_eq_false_iff_ne]
      tauto
    show (s.upd fun d => d.issue i ((waittOp rd rs1 rs2 m l).legal (waittLegal rs1 rs2 m))) = _
    rw [hlegal]
    rfl
  · show (s.upd fun d => d.issue i ((mpinOp rd rs1 rs2 1 k).legal (rs2 == 0))) = _
    rw [beq_eq_false_iff_ne.mpr hr]
    rfl
  · show (s.upd fun d => d.issue i ((mcommitOp rd rs1 0).legal (rs1 == 0))) = _
    rw [beq_eq_false_iff_ne.mpr hr]
    rfl
  · show (s.upd fun d => d.issue i (if i.short && zeroHalf rd m then undefinedOp else loadOp 4 false rd m)) = _
    rw [hshort, hz]
    rfl

/-- The lowest-numbered line that is pending and enabled is the one that the boundary takes (R93). -/
theorem interruptLine_eq {d : Device} {b k : Nat} (hs : (d.berth b).shadow = none) (hie : bitOf ((d.berth b).srN 0) 2 = true)
    (hpl : (d.berth b).pl < 2) (hexl : bitOf ((d.berth b).srN 0) 3 = false) (hk : k < 32)
    (hp : bitOf ((d.berth b).srN 20) k = true) (hm : bitOf ((d.berth b).srN 19) k = true)
    (hlow : ∀ j, j < k → ¬ (bitOf ((d.berth b).srN 20) j = true ∧ bitOf ((d.berth b).srN 19) j = true)) :
    d.interruptLine b = some k := by
  unfold Device.interruptLine
  simp only [hie, hpl, hexl, hs, decide_true, Option.isNone_none, Bool.not_false, Bool.and_self, if_true]
  rw [List.find?_range_eq_some]
  refine ⟨by simp [hp, hm], List.mem_range.mpr hk, fun j hj => ?_⟩
  rw [Bool.not_eq_true', ← Bool.not_eq_true, Bool.and_eq_true]
  exact hlow j hj

/-- Settles O13: each is one exception of Table 3.8, taken at a boundary where nothing of the berth is in flight. -/
theorem exceptionsAndInterruptsEnter : Obligations.ExceptionsAndInterruptsEnter := by
  refine ⟨fun s i code t henters => ⟨fun hcode ht => ?_, fun hcode ht => ?_, fun ht c hc => ?_⟩, ?_⟩
  · have hrun : (syscallOp code).run (s.dev.ctx i) s.dev = .exc s.dev 9 0 0 := by
      rw [syscallOp, if_pos hcode]
      rfl
    exact completes_of_exec (f := fun d => d.issue i (syscallOp code)) rfl
      (entered_of_exc henters hrun ht.symm (by decide) (by decide) (by decide : 0 < 2 ^ 50))
  · have hrun : (syscallOp code).run (s.dev.ctx i) s.dev = .exc s.dev 10 0 0 := by
      rw [syscallOp, if_neg (by omega)]
      rfl
    exact completes_of_exec (f := fun d => d.issue i (syscallOp code)) rfl
      (entered_of_exc henters hrun ht.symm (by decide) (by decide) (by decide : 0 < 2 ^ 50))
  · exact completes_of_exec (exec_illegal s hc) (entered_of_exc_plain henters (.inl rfl) rfl ht)
  · intro s b k d x hmay hf hl hs hw hshadow hn hwatched hie hpl hexl hk hp hm hlow
    refine completes_of_exec (f := fun d => d.interruptEntry b.toNat) rfl ?_
    have hpc : x.pc.toNat < 2 ^ 50 := x.pc.isLt
    have hsettled : Settled d b.toNat := ⟨hl, hs, waits_none_of_mayIssue hmay, hn, hwatched⟩
    have hentry : d.interruptEntry b.toNat = (d.dropNeed b.toNat).setBerth b.toNat
        (handled x 1 ⟨12, 0, k, 0, false, x.pc.toNat, x.pc.toNat⟩) := by
      rw [Device.interruptEntry, if_neg (by simp [hmay, hf, d.externalLoads_nil _ hl, x]),
        interruptLine_eq hshadow hie hpl hexl hk hp hm hlow]
      exact takeException_enters hsettled rfl hexl
    rw [hentry]
    exact enteredWith_setBerth (i := ⟨b, false⟩) (onlyBerth_dropNeed d b.toNat) rfl rfl hn (le_refl 1) (by decide) hpc
      (show 0 < 2 ^ 50 by decide) rfl (show 12 < 2 ^ 8 by decide) (show 0 < 2 ^ 8 by decide) (show k < 2 ^ 8 by omega)

end Sys2Proof.Proofs
end

section
/-! PROOF. Special registers (R87 to R91): what RDSR and WRSR come to at a berth that is ready, number by number. -/

open Sys2Proof Sys2Proof.Machine Sys2Proof.Claims

namespace Sys2Proof.Proofs

/-! ### The berth that goes on -/

/-- The loop check reads and writes special registers alone. -/
theorem loopLevels_of_sr_eq {x y : Berth} (h : y.sr = x.sr) (next : Nat) (l : List Nat) :
    y.loopLevels next l = ({ y with sr := (x.loopLevels next l).1.sr }, (x.loopLevels next l).2) := by
  induction l generalizing x y with
  | nil =>
    show (y, next) = ({ y with sr := x.sr }, next)
    rw [← h]
  | cons n r ih =>
    have hn (m : Nat) : y.srN m = x.srN m := srN_of_sr_eq m h
    have hset (m v : Nat) : (y.setSr m v).sr = (x.setSr m v).sr := by rw [Berth.setSr, Berth.setSr, h]
    unfold Berth.loopLevels
    simp only [hn]
    split
    · split
      · exact Prod.ext (by rw [← hset]; rfl) rfl
      · exact ih (hset _ _)
    · exact ih h

/-- The loop check changes counts of loop levels alone (R127). -/
theorem srN_loopLevels (x : Berth) (next j : Nat) (l : List Nat) (h : ∀ n ∈ l, 32 + n ≠ j) :
    (x.loopLevels next l).1.srN j = x.srN j := by
  induction l generalizing x with
  | nil => rfl
  | cons n r ih =>
    obtain ⟨hn, hr⟩ := List.forall_mem_cons.mp h
    unfold Berth.loopLevels
    dsimp only
    split
    · split
      · exact (Berth.srN_setSr ..).trans (if_neg hn)
      · exact (ih _ hr).trans ((Berth.srN_setSr ..).trans (if_neg hn))
    · exact ih _ hr

section
variable {x y : Berth} {i : Site}

/-- A berth past an issue that takes special registers and a PC and transfers no control. -/
def movedOn (y : Berth) (sr : Store Word) (pc : Addr) : Berth := { y.issued with sr := sr, pc := pc, shadow := none }

/-- A berth that differs from another in no special register and not in its PC goes on as that one does. -/
theorem goesOn_of_sr_eq (hsr : y.sr = x.sr) (hpc : y.pc = x.pc) : y.goesOn i = movedOn y (x.goesOn i).sr (x.goesOn i).pc := by
  simp only [Berth.goesOn, Berth.advance, Effect.next, hpc, loopLevels_of_sr_eq hsr, Berth.issued, movedOn]

theorem goesOn_self (x : Berth) (i : Site) : x.goesOn i = movedOn x (x.goesOn i).sr (x.goesOn i).pc := goesOn_of_sr_eq rfl rfl

theorem srN_goesOn {j : Nat} (h : j < 32 ∨ 35 < j) : (x.goesOn i).srN j = x.srN j := by
  refine (srN_of_sr_eq j rfl).trans (srN_loopLevels x (seqPc x.pc.toNat i.len) j [3, 2, 1, 0] fun n hn => ?_)
  fin_cases hn <;> omega

theorem cwp_goesOn : (x.goesOn i).cwp = x.cwp := by rw [Berth.cwp, srN_goesOn (.inl (by decide)), ← Berth.cwp]

theorem gpr_goesOn : (x.goesOn i).gpr = x.gpr := by
  rw [goesOn_self]
  rfl

theorem setPhys_eq (x : Berth) (p : Nat) (v : Word) : x.setPhys p v = { x with gpr := (x.setPhys p v).gpr } := by
  unfold Berth.setPhys
  split <;> rfl

/-- With no load in flight a register's write changes the register file alone. -/
theorem setReg_eq (r : Nat) (v : Word) (hl : x.loads = []) : x.setReg r v = { x with gpr := (x.setPhys (physReg x.cwp r) v).gpr } := by
  have hloads : x.setReg r v = { x.setPhys (physReg x.cwp r) v with loads := x.loads } := by
    rw [Berth.setReg, hl]
    rfl
  rw [hloads, setPhys_eq]

/-- A berth none of whose loads is in flight takes a register and goes on. -/
theorem goesOn_setReg (rd : Reg5) (v : Word) (hl : x.loads = []) : (x.setReg rd.toNat v).goesOn i = x.wrote i rd v := by
  set g := (x.setPhys (physReg x.cwp rd.toNat) v).gpr with hg
  calc (x.setReg rd.toNat v).goesOn i
      = movedOn (x.setReg rd.toNat v) (x.goesOn i).sr (x.goesOn i).pc :=
        goesOn_of_sr_eq (Berth.setReg_sr ..) (by rw [setReg_eq _ _ hl])
    _ = { movedOn x (x.goesOn i).sr (x.goesOn i).pc with gpr := g } := by rw [setReg_eq _ _ hl]; rfl
    _ = { x.goesOn i with gpr := g } := by rw [← goesOn_self]

/-- Among the registers of the window only g0 lies at the start of the window file. -/
theorem physReg_eq_zero_iff (c : Nat) (r : Reg5) : physReg c r.toNat = 0 ↔ r = 0 := by
  rw [← BitVec.toNat_inj]
  unfold physReg
  split_ifs <;> simp <;> omega

theorem reg_wrote (rd : Reg5) (v : Word) : (x.wrote i rd v).reg rd.toNat = if rd = 0 then 0 else v := by
  have hphys : (x.wrote i rd v).reg rd.toNat = (x.setPhys (physReg x.cwp rd.toNat) v).phys (physReg x.cwp rd.toNat) := by
    rw [Berth.reg]
    exact (phys_of_gpr_eq rfl _).trans (congrArg _ (congrArg (physReg · rd.toNat) cwp_goesOn))
  rw [hphys, Berth.phys_setPhys]
  simp [physReg_eq_zero_iff]

end

/-- An instruction that changes its berth and goes on (R29). -/
theorem leaves_next {d d' : Device} {i : Site} {op : Op} (hready : d.ready i = true)
    (hrun : op.run (d.ctx i) d = .done d' Effect.next) (hd : DiffersAt d i.b d') (hpc : (d'.berth i.b).pc = (d.berth i.b).pc) :
    d.Leaves i ((d'.berth i.b).goesOn i) { d.issue i op with cfg := d.cfg } := by
  have h := leaves_issue hready hrun hd (.inr rfl)
  rwa [← hpc] at h

/-! ### RDSR and WRSR -/

theorem srReadLevel_eq (n : Nat) : srReadLevel n = readLevel n := by
  unfold srReadLevel readLevel
  congr 1
  exact propext (by omega)

/-- RDSR at a level that may read the number. -/
theorem rdsr_reads {s : State} {i : Site} (rd : Reg5) {sr : BitVec 7} (hready : s.dev.ready i = true)
    (hlevel : readLevel sr.toNat ≤ (s.dev.berth i.b).pl) {v : Nat}
    (hv : s.dev.srRead i.b sr.toNat (s.dev.berth i.b).pc.toNat = v) :
    Completes (.rdsr i rd sr) s fun e => s.dev.Leaves i ((s.dev.berth i.b).wrote i rd (BitVec.ofNat 32 v)) e := by
  obtain ⟨_, _, _, hl, _⟩ := s.dev.ready_parts i hready
  have hrun : (rdsrOp rd sr).run (s.dev.ctx i) s.dev =
      .done (s.dev.setBerth i.b ((s.dev.berth i.b).setReg rd.toNat (BitVec.ofNat 32 v))) Effect.next := by
    rw [← hv]
    exact if_neg (by rw [srReadLevel_eq]; exact Nat.not_lt.mpr hlevel)
  refine completes_of_exec (f := fun d => d.issue i (rdsrOp rd sr)) rfl ?_
  rw [← goesOn_setReg rd _ hl]
  have h := leaves_next hready hrun (differsAt_setBerth _ _ _) (by rw [Device.berth_setBerth_same, setReg_eq _ _ hl])
  rwa [Device.berth_setBerth_same] at h

/-- WRSR of a number but PSR, at a level that may write it. -/
theorem wrsr_writes {s : State} {i : Site} {sr : BitVec 7} (r : Reg5) (hready : s.dev.ready i = true) (h0 : sr ≠ 0)
    (hlevel : srWriteLevel sr.toNat ≤ (s.dev.berth i.b).pl) {y : Berth}
    (hy : (s.dev.berth i.b).srWrite sr.toNat ((s.dev.berth i.b).operand r.toNat).toNat (s.dev.berth i.b).pl = y)
    (hpc : y.pc = (s.dev.berth i.b).pc) : Completes (.wrsr i sr r) s fun e => s.dev.Leaves i (y.goesOn i) e := by
  have hrun : (wrsrOp sr r).run (s.dev.ctx i) s.dev = .done (s.dev.setBerth i.b y) Effect.next := by
    rw [← hy]
    refine (if_neg ?_).trans (if_neg fun h => h0 h.1)
    rintro (h | h)
    · exact absurd h (Nat.not_lt.mpr hlevel)
    · exact h0 h.1
  refine completes_of_exec (f := fun d => d.issue i (wrsrOp sr r)) rfl ?_
  have h := leaves_next hready hrun (differsAt_setBerth _ _ _) (by rw [Device.berth_setBerth_same]; exact hpc)
  rwa [Device.berth_setBerth_same] at h

theorem srMask_unlisted {n : Nat} (h : unlistedSr n) : srMask n = 0 := by
  unfold srMask
  rw [if_neg (by omega), if_neg (by omega), if_neg (by omega), if_neg (by omega), if_neg (by omega)]
  rfl

theorem srRead_unlisted {d : Device} {b n pc : Nat} (h : unlistedSr n) : d.srRead b n pc = 0 := by
  have hmask := srMask_unlisted h
  unfold Device.srRead
  rw [if_neg (by omega), if_neg (by omega), if_neg (by omega), if_neg (by omega), if_neg (by omega)]

theorem readLevel_unlisted {n : Nat} (h : unlistedSr n) : readLevel n = 0 := by
  unfold readLevel
  rw [if_neg (by omega), if_neg (by omega)]

theorem srWriteLevel_unlisted {n : Nat} (h : unlistedSr n) : srWriteLevel n = 0 := by
  unfold srWriteLevel
  rw [if_neg (by omega), if_neg (by omega)]

/-- A number whose write column names no bits keeps its value. -/
theorem srWrite_of_srMask_zero {x : Berth} {n v l : Nat} (h0 : n ≠ 0) (h18 : n ≠ 18) (h20 : n ≠ 20) (h : srMask n = 0) :
    x.srWrite n v l = x := by
  rw [Berth.srWrite, if_neg h0, if_neg h20, if_neg h18, if_pos h]

/-- R89: a number that Table 3.5 lacks reads as zero at every level. -/
theorem rdsr_unlisted {s : State} {i : Site} (rd : Reg5) {sr : BitVec 7} (hready : s.dev.ready i = true) (h : unlistedSr sr.toNat) :
    Completes (.rdsr i rd sr) s fun e => s.dev.Leaves i ((s.dev.berth i.b).wrote i rd 0) e :=
  rdsr_reads rd hready (by rw [readLevel_unlisted h]; exact Nat.zero_le _) (srRead_unlisted h)

/-- R89: and it ignores writes. -/
theorem wrsr_unlisted {s : State} {i : Site} {sr : BitVec 7} (r : Reg5) (hready : s.dev.ready i = true) (h : unlistedSr sr.toNat) :
    Completes (.wrsr i sr r) s fun e => s.dev.Leaves i ((s.dev.berth i.b).goesOn i) e :=
  wrsr_writes r hready (by rintro rfl; revert h; decide) (by rw [srWriteLevel_unlisted h]; exact Nat.zero_le _)
    (srWrite_of_srMask_zero (by omega) (by omega) (by omega) (srMask_unlisted h)) rfl

/-- The plain registers take the level and the bits of Table 3.5. -/
theorem plainSrs_rules : ∀ q ∈ plainSrs, srWriteLevel q.1 = q.2.1 ∧ srMask q.1 = q.2.2 ∧ srMask q.1 ≠ 0 ∧ q.1 ≠ 0 ∧ q.1 ≠ 18 ∧ q.1 ≠ 20 := by
  decide

theorem completes_mono {c : Instr} {s : State} {P Q : Device → Prop} (h : Completes c s P) (hPQ : ∀ e, P e → Q e) : Completes c s Q := by
  obtain ⟨t, hexec, hpending, hcfg, hP⟩ := h
  exact ⟨t, hexec, hpending, hcfg, hPQ _ hP⟩

/-- Settles O15: an access above the berth's level is PRIV (R91), and a number that Table 3.5 lacks is nothing (R89). -/
theorem privilegeIsChecked : Obligations.PrivilegeIsChecked := by
  refine ⟨fun s i rd sr c henters hpl => ?_, fun s i rd sr hready hun _ => ⟨?_, wrsr_unlisted rd hready hun⟩⟩
  · have traps {q : Instr} {op : Op} (hexec : exec q s = s.upd fun d => d.issue i op)
        (hrun : op.run (s.dev.ctx i) s.dev = .exc s.dev 2 0 0) :
        Completes q s fun e => entered s.dev i 1 2 0 (s.dev.berth i.b).pc.toNat 0 e :=
      completes_of_exec hexec (entered_of_exc_plain henters (.inr rfl) hrun (by rw [if_neg (by omega)]))
    refine ⟨fun h0 => ⟨traps (op := retxOp) rfl (if_pos h0), traps (op := sleepOp rd c) rfl ?_⟩,
      fun h => traps (op := rdsrOp rd sr) rfl (if_pos ?_), fun q hq hsr h => traps (op := wrsrOp sr rd) rfl (if_pos (.inl ?_))⟩
    · exact if_pos (decide_eq_true h0)
    · rw [srReadLevel_eq]
      exact h
    · rw [hsr, (plainSrs_rules q hq).1]
      exact h
  · refine completes_mono (rdsr_unlisted rd hready hun) fun e he => ⟨he, ?_⟩
    rw [he.1, reg_wrote, ite_self]

end Sys2Proof.Proofs
end

section
/-! PROOF. Special registers, number by number: what RDSR and WRSR come to (R88 to R92, R105). -/

open Sys2Proof Sys2Proof.Machine Sys2Proof.Claims

namespace Sys2Proof.Proofs

/-- The numbers with bits that a write replaces are the plain registers and ESTAT and ECAUSE of each level (Table 3.5). -/
theorem srMask_ne_zero_iff : ∀ n < 128, srMask n ≠ 0 ↔ n = 42 ∨ n = 43 ∨ n = 58 ∨ n = 59 ∨ n ∈ plainSrs.map Prod.fst := by
  decide

/-- R88, R89: what a number outside the feature registers reads as. -/
theorem srRead_eq {d : Device} {b n pc : Nat} (hn : n < 128) (h : n < 112 ∨ 119 < n) : d.srRead b n pc =
    if n = 1 then pc % 2 ^ 32 else if n = 2 then pc / 2 ^ 32 else if n = 3 then b
    else if n = 0 ∨ n = 4 ∨ n = 18 ∨ n = 20 ∨ n = 42 ∨ n = 43 ∨ n = 58 ∨ n = 59 ∨ n ∈ plainSrs.map Prod.fst then (d.berth b).srN n
    else 0 := by
  rw [Device.srRead, if_neg (show ¬(112 ≤ n ∧ n ≤ 119) by omega)]
  simp only [srMask_ne_zero_iff n hn]

section
variable {s : State} {i : Site} {sr : BitVec 7} (r : Reg5) (hready : s.dev.ready i = true)
include hready

/-- R88: a plain register takes the bits that Table 3.5 gives it. -/
theorem wrsr_plain {q : Nat × Nat × Nat} (hq : q ∈ plainSrs) (hsr : sr.toNat = q.1) (hlevel : q.2.1 ≤ (s.dev.berth i.b).pl) :
    Completes (.wrsr i sr r) s fun e => s.dev.Leaves i
      (((s.dev.berth i.b).setSr q.1 (((s.dev.berth i.b).operand r.toNat).toNat &&& q.2.2)).goesOn i) e := by
  obtain ⟨hl, hm, hne, h0, h18, h20⟩ := plainSrs_rules q hq
  refine wrsr_writes r hready (by rintro rfl; exact h0 hsr.symm) (by rw [hsr, hl]; exact hlevel) ?_ rfl
  rw [hsr, Berth.srWrite, if_neg h0, if_neg h20, if_neg h18, if_neg hne, hm]

/-- R88, R89: a register that a write leaves alone. -/
theorem wrsr_stands (h : sr = 1 ∨ sr = 2 ∨ sr = 3 ∨ sr = 4 ∨ 112 ≤ sr.toNat ∨ unlistedSr sr.toNat) :
    Completes (.wrsr i sr r) s fun e => s.dev.Leaves i ((s.dev.berth i.b).goesOn i) e := by
  have hrules : ∀ n < 128, n = 1 ∨ n = 2 ∨ n = 3 ∨ n = 4 ∨ 112 ≤ n ∨ unlistedSr n →
      srWriteLevel n = 0 ∧ srMask n = 0 ∧ n ≠ 0 ∧ n ≠ 18 ∧ n ≠ 20 := by decide
  simp only [← BitVec.toNat_inj] at h
  obtain ⟨hl, hm, h0, h18, h20⟩ := hrules sr.toNat sr.isLt h
  exact wrsr_writes r hready (by rintro rfl; exact h0 rfl) (by rw [hl]; exact Nat.zero_le _)
    (srWrite_of_srMask_zero h0 h18 h20 hm) rfl

/-- R105: OCX_FEAT0 reads what the quality stage's size gives. -/
theorem rdsr_feat0 (rd : Reg5) : Completes (.rdsr i rd 112) s fun e => s.dev.Leaves i ((s.dev.berth i.b).wrote i rd
    (match s.dev.cfg.qs with
      | .qs2 => 0x09104201
      | .qs4 => 0x11104411
      | .qs8 => 0x21104821)) e := by
  have hv : s.dev.srRead i.b 112 (s.dev.berth i.b).pc.toNat = feature s.dev.cfg 0 := rfl
  have hfeat : BitVec.ofNat 32 (feature s.dev.cfg 0) = match s.dev.cfg.qs with
      | .qs2 => 0x09104201
      | .qs4 => 0x11104411
      | .qs8 => 0x21104821 := by
    unfold feature Straps.tiles
    cases s.dev.cfg.qs <;> rfl
  rw [← hfeat]
  exact rdsr_reads rd hready (Nat.zero_le _) hv

end

/-! ### PSR (R90) -/

/-- PSR as a write leaves it. -/
def psrTaken (old v pl level : Nat) : Nat := pl + 4 * bitsOf v 2 2 + 16 * (if level = 2 then bitsOf v 4 1 else bitsOf old 4 1)

theorem bitsOf_one_eq (v i : Nat) : bitsOf v i 1 = bit01 (bitOf v i) := by
  rcases Nat.mod_two_eq_zero_or_one (v / 2 ^ i) with h | h <;> simp [bitsOf, bitOf, bit01, h]

/-- The fields of PSR past a write. -/
theorem psrTaken_fields {old v pl level : Nat} (hpl : pl < 4) :
    bitsOf (psrTaken old v pl level % 2 ^ 32) 0 2 = pl ∧ bitOf (psrTaken old v pl level % 2 ^ 32) 2 = bitOf v 2 ∧
    bitOf (psrTaken old v pl level % 2 ^ 32) 3 = bitOf v 3 ∧
    bitOf (psrTaken old v pl level % 2 ^ 32) 4 = if level = 2 then bitOf v 4 else bitOf old 4 := by
  have hexl : (if level = 2 then bitsOf v 4 1 else bitsOf old 4 1) = bit01 (if level = 2 then bitOf v 4 else bitOf old 4) := by
    rw [bitsOf_one_eq, bitsOf_one_eq]
    split <;> rfl
  unfold psrTaken
  rw [hexl]
  generalize (if level = 2 then bitOf v 4 else bitOf old 4) = m
  have hm : bit01 m = if m then 1 else 0 := rfl
  refine ⟨?_, ?_, ?_, ?_⟩
  · show (pl + 4 * (v / 2 ^ 2 % 2 ^ 2) + 16 * bit01 m) % 2 ^ 32 / 2 ^ 0 % 2 ^ 2 = pl
    have : bit01 m ≤ 1 := by cases m <;> decide
    omega
  · simp only [bitsOf, bitOf]
    exact Bool.eq_iff_iff.mpr (by simp; omega)
  · simp only [bitsOf, bitOf]
    exact Bool.eq_iff_iff.mpr (by simp; omega)
  · simp only [bitsOf, bitOf]
    rw [hm]
    cases m <;> simp <;> omega

/-- A write that does not raise PL above the writer's level is taken. -/
theorem psrWrite_taken {old v level : Nat} (h : v % 4 = 3 ∨ v % 4 ≤ level) :
    psrWrite old v level = some (psrTaken old v (if v % 4 = 3 then old % 4 else v % 4) level) := if_neg (by omega)

theorem pl_eq_mod (x : Berth) : x.pl = x.srN 0 % 4 := by
  rw [Berth.pl, bitsOf, Nat.pow_zero, Nat.div_one]
  rfl

/-- A write of PSR that does not raise PL, with nothing in flight, is taken. -/
theorem wrsr_psr {s : State} {i : Site} (r : Reg5) (hready : s.dev.ready i = true) (hstores : (s.dev.berth i.b).stores = [])
    (hpl : (s.dev.berth i.b).pl = 1 ∨ (s.dev.berth i.b).pl = 2)
    {v : Nat} (hoperand : ((s.dev.berth i.b).operand r.toNat).toNat = v) (hv : v % 4 = 3 ∨ v % 4 ≤ (s.dev.berth i.b).pl) :
    Completes (.wrsr i 0 r) s fun e => s.dev.Leaves i (((s.dev.berth i.b).setSr 0 (psrTaken ((s.dev.berth i.b).srN 0) v
      (if v % 4 = 3 then (s.dev.berth i.b).pl else v % 4) (s.dev.berth i.b).pl)).goesOn i) e := by
  obtain ⟨_, _, _, hl, _⟩ := s.dev.ready_parts i hready
  set x := s.dev.berth i.b with hx
  have hwrite : psrWrite (x.srN 0) v x.pl = some (psrTaken (x.srN 0) v (if v % 4 = 3 then x.pl else v % 4) x.pl) :=
    (psrWrite_taken hv).trans (by rw [← pl_eq_mod])
  have hrun : (wrsrOp 0 r).run (s.dev.ctx i) s.dev = .done (s.dev.setBerth i.b
      (x.setSr 0 (psrTaken (x.srN 0) v (if v % 4 = 3 then x.pl else v % 4) x.pl))) Effect.next := by
    refine (if_neg ?_).trans ((if_neg ?_).trans ?_)
    · rintro (h | ⟨-, h⟩)
      · have hlevel : x.pl < 1 := h
        omega
      · have hnone : (psrWrite (x.srN 0) (x.operand r.toNat).toNat x.pl).isNone = true := h
        rw [hoperand, hwrite] at hnone
        exact Bool.false_ne_true hnone
    · rintro ⟨-, h⟩
      simp [Device.windowBusy, Device.ctx, opsIn_idle _ hl hstores] at h
    · show Issued.done (s.dev.setBerth i.b (x.setSr 0 ((psrWrite (x.srN 0) (x.operand r.toNat).toNat x.pl).getD (x.srN 0)))) _ = _
      rw [hoperand, hwrite, Option.getD_some]
  refine completes_of_exec (f := fun d => d.issue i (wrsrOp 0 r)) rfl ?_
  have h := leaves_next hready hrun (differsAt_setBerth _ _ _) (by rw [Device.berth_setBerth_same]; rfl)
  rwa [Device.berth_setBerth_same] at h

/-- R90: what the write leaves in PSR. -/
theorem psr_written {d e : Device} {i : Site} {v : Nat} (hpl : (d.berth i.b).pl = 1 ∨ (d.berth i.b).pl = 2)
    (hv : v % 4 = 3 ∨ v % 4 ≤ (d.berth i.b).pl)
    (he : d.Leaves i (((d.berth i.b).setSr 0 (psrTaken ((d.berth i.b).srN 0) v
      (if v % 4 = 3 then (d.berth i.b).pl else v % 4) (d.berth i.b).pl)).goesOn i) e) :
    let x := d.berth i.b
    let y := e.berth i.b
    y.pl = (if v % 4 = 3 then x.pl else v % 4) ∧ bitOf (y.srN 0) 2 = bitOf v 2 ∧ bitOf (y.srN 0) 3 = bitOf v 3 ∧
    bitOf (y.srN 0) 4 = (if x.pl = 2 then bitOf v 4 else bitOf (x.srN 0) 4) ∧ y.gpr = x.gpr ∧ d.OnlyBerth i.b e := by
  obtain ⟨hy, honly⟩ := he
  dsimp only
  have hsr (k : Nat) : (((d.berth i.b).setSr 0 k).goesOn i).srN 0 = k % 2 ^ 32 := by
    rw [srN_goesOn (.inl (by decide)), Berth.srN_setSr_same]
  have hfields := psrTaken_fields (old := (d.berth i.b).srN 0) (v := v) (level := (d.berth i.b).pl)
    (pl := if v % 4 = 3 then (d.berth i.b).pl else v % 4) (by split <;> omega)
  rw [hy, Berth.pl, hsr, gpr_goesOn]
  exact ⟨hfields.1, hfields.2.1, hfields.2.2.1, hfields.2.2.2, rfl, honly⟩

/-- Settles O16: RDSR and WRSR by the number, and PSR by its own rule (R90). -/
theorem specialRegisterAccess : Obligations.SpecialRegisterAccess := by
  refine ⟨fun s i rd sr hready hlevel hn => ?_, fun s i sr r hready => ⟨fun q hq hsr hlevel => wrsr_plain r hready hq hsr hlevel,
    fun hsr hlevel => ?_, fun hsr => ?_, wrsr_stands r hready⟩, fun s i rd sr hready => ⟨rdsr_unlisted rd hready, ?_⟩,
    fun s i r hready => ⟨fun henters hpl hv => ?_, fun hstores hpl hv => ?_⟩⟩
  · exact completes_mono (rdsr_reads rd hready hlevel (srRead_eq sr.isLt hn)) fun e he => ⟨_, he, rfl⟩
  · subst hsr
    exact wrsr_writes (sr := 20) r hready (by decide) hlevel rfl rfl
  · subst hsr
    refine wrsr_writes (sr := 18) r hready (by decide) (Nat.zero_le _) ?_ rfl
    rw [Berth.srWrite, if_neg (by decide), if_neg (by decide), if_pos (by decide)]
    cases bitOf ((s.dev.berth i.b).operand r.toNat).toNat 8 && bitOf ((s.dev.berth i.b).srN 18) 8 <;> rfl
  · rintro rfl
    exact rdsr_feat0 hready rd
  · refine completes_of_exec (f := fun d => d.issue i (wrsrOp 0 r)) rfl (entered_of_exc_plain henters (.inr rfl) (if_pos (.inr ⟨rfl, ?_⟩))
      (by rw [if_neg (by omega)]))
    exact Option.isNone_iff_eq_none.mpr (if_pos (by
      show (s.dev.berth i.b).pl < ((s.dev.berth i.b).operand r.toNat).toNat % 4 ∧ ((s.dev.berth i.b).operand r.toNat).toNat % 4 ≠ 3
      omega))
  · exact completes_mono (wrsr_psr r hready hstores hpl rfl hv) fun e he => psr_written hpl hv he

end Sys2Proof.Proofs
end

section
/-! PROOF. AccessFaults fails in one part: it takes every value of a bank register. A bank has 18 bits (Table 3.5) and the instructions write
no more of it, so that an address lies below 2^50 and EADDR holds it; a state with a wider bank forms an address that EADDR cuts. Where the
address lies below 2^50 the statement holds (`accessFaults_of_lt`). -/

open Sys2Proof Sys2Proof.Machine Sys2Proof.Claims

namespace Sys2Proof.Proofs

/-! ### The faults at an address below 2^50 -/

/-- R96: an access outside the control window is refused for its alignment first, and else for what stands at the address. -/
theorem access_refused {d : Device} {b a n code : Nat} {write : Bool} (hwindow : inWindow a = false)
    (h : code = 3 ∧ a % n ≠ 0 ∨ code = 4 ∧ a % n = 0 ∧ noAccess d b a n write) :
    d.access b (d.berth b).pl a n write = .error code := by
  rcases h with ⟨rfl, hn⟩ | ⟨rfl, _, h⟩
  · rw [Device.access]
    exact (if_neg (by simp [hwindow])).trans (if_pos hn)
  · exact h

theorem memAddr_eq_address (x : Berth) (m : Mem) : x.memAddr m = address x m := by
  cases m with
  | base rs1 disp bk =>
    rw [Berth.memAddr, Berth.banked, Berth.plus, Nat.mod_eq_of_lt (BitVec.isLt _)]
    rfl
  | page u6 => rfl

section
variable {d : Device} {i : Site} {t code a n : Nat} {op : Op} (h : enters d i t) (ht : t = if (d.berth i.b).pl = 2 then 2 else 1)
  (ha : a < 2 ^ 50)
include h ht ha

/-- An access that raises ALIGN or ACCESS enters the level that Table 3.8 gives it, with its address in EADDR. -/
theorem entered_of_access (hcode : code = 3 ∨ code = 4) (hrun : op.run (d.ctx i) d = .exc d code 0 a) :
    entered d i t code 0 (d.berth i.b).pc.toNat a { d.issue i op with cfg := d.cfg } := by
  rcases hcode with rfl | rfl <;> exact entered_of_exc h hrun ht.symm (by decide) (by decide) ha

/-- A load that ALIGN or ACCESS stops. -/
theorem entered_of_load {rd : Nat} {signed : Bool} (hwindow : inWindow a = false)
    (hfault : code = 3 ∧ a % n ≠ 0 ∨ code = 4 ∧ a % n = 0 ∧ noAccess d i.b a n false)
    (hrun : op.run (d.ctx i) d = d.loadAt (d.ctx i) rd a n signed) :
    entered d i t code 0 (d.berth i.b).pc.toNat a { d.issue i op with cfg := d.cfg } := by
  refine entered_of_access h ht ha (by omega) (hrun.trans ?_)
  have haccess : d.access (d.ctx i).b (d.ctx i).level a n false = .error code := access_refused hwindow hfault
  rw [Device.loadAt]
  simp only [haccess]

/-- A store that ALIGN or ACCESS stops. -/
theorem entered_of_store {v : Nat} (hwindow : inWindow a = false)
    (hfault : code = 3 ∧ a % n ≠ 0 ∨ code = 4 ∧ a % n = 0 ∧ noAccess d i.b a n true)
    (hrun : op.run (d.ctx i) d = d.storeAt (d.ctx i) a n v) :
    entered d i t code 0 (d.berth i.b).pc.toNat a { d.issue i op with cfg := d.cfg } := by
  refine entered_of_access h ht ha (by omega) (hrun.trans ?_)
  have haccess : d.access (d.ctx i).b (d.ctx i).level a n true = .error code := access_refused hwindow hfault
  rw [Device.storeAt]
  simp only [haccess, if_neg (show ¬(code = 2 ∧ n = 4) by omega)]

end

/-- What AccessFaults says, of addresses below 2^50. -/
theorem accessFaults_of_lt (s : State) (i : Site) (rd : Reg5) (m : Mem) (u : BitVec 19) (t code : Nat) (h : enters s.dev i t)
    (ht : t = if (s.dev.berth i.b).pl = 2 then 2 else 1) :
    let d := s.dev
    let x := d.berth i.b
    let traps (c : Instr) (a : Nat) : Prop := Completes c s fun e => entered d i t code 0 x.pc.toNat a e
    let faulty (a n : Nat) (write : Bool) : Prop :=
      a < 2 ^ 50 ∧ inWindow a = false ∧ (code = 3 ∧ a % n ≠ 0 ∨ code = 4 ∧ a % n = 0 ∧ noAccess d i.b a n write)
    (∀ q ∈ loadTable, (i.short = true → zeroHalf rd m = false) → faulty (address x m) q.2.1 false →
      traps (q.1 i rd m) (address x m)) ∧
    (∀ q ∈ storeTable, faulty (address x m) q.2 true → traps (q.1 i rd m) (address x m)) ∧
    (faulty (instAddress x u) 4 false → traps (.lwi i rd u) (instAddress x u)) ∧
    (faulty (instAddress x u) 4 true → traps (.swi i rd u) (instAddress x u)) := by
  intro d x traps faulty
  have hload {c : Instr} {n : Nat} (signed : Bool) (hc : exec c s = s.upd fun d => d.issue i (loadOp n signed rd m))
      (hf : faulty (address x m) n false) : traps c (address x m) :=
    completes_of_exec hc (entered_of_load (signed := signed) h ht hf.1 hf.2.1 hf.2.2 (by rw [← memAddr_eq_address]; rfl))
  have hstore {c : Instr} {n : Nat} (hc : exec c s = s.upd fun d => d.issue i (storeOp n rd m))
      (hf : faulty (address x m) n true) : traps c (address x m) :=
    completes_of_exec hc (entered_of_store h ht hf.1 hf.2.1 hf.2.2 (by rw [← memAddr_eq_address]; rfl))
  refine ⟨?_, ?_, fun ⟨ha, hwindow, hfault⟩ => ?_, fun ⟨ha, hwindow, hfault⟩ => ?_⟩
  · simp only [loadTable, List.forall_mem_cons]
    refine ⟨fun _ => hload _ rfl, fun _ => hload _ rfl, fun _ => hload _ rfl, fun _ => hload _ rfl, fun hshort => hload false ?_,
      fun _ hq => absurd hq List.not_mem_nil⟩
    show (s.upd fun d => d.issue i (if i.short && zeroHalf rd m then undefinedOp else loadOp 4 false rd m)) = _
    rw [if_neg (by simpa using hshort)]
  · simp only [storeTable, List.forall_mem_cons]
    exact ⟨hstore rfl, hstore rfl, hstore rfl, fun _ hq => absurd hq List.not_mem_nil⟩
  · exact completes_of_exec (f := fun d => d.issue i (lwiOp rd u)) rfl (entered_of_load h ht ha hwindow hfault rfl)
  · exact completes_of_exec (f := fun d => d.issue i (swiOp rd u)) rfl (entered_of_store h ht ha hwindow hfault rfl)

/-! ### The state with a wide bank -/

/-- The device at reset but for BANK0 of berth 0, which holds 2^18. -/
def wideBankDevice : Device := State.reset.dev.setBerth 0 ((State.reset.dev.berth 0).setSr 12 (2 ^ 18))

/-- The state in which that berth is about to load the byte at address 0 of its bank. -/
def wideBankState : State := ⟨[], wideBankDevice⟩
def wideBankSite : Site := ⟨0, false⟩
def wideBankLoad : Instr := .lb wideBankSite 0 (.base 0 0 0)

/-- The load stands at a boundary, and its address, outside every memory, raises ACCESS. -/
theorem wideBank_faults : enters wideBankDevice wideBankSite 2 ∧ (wideBankDevice.berth 0).pl = 2 ∧
    address (wideBankDevice.berth 0) (.base 0 0 0) = 2 ^ 50 ∧ inWindow (2 ^ 50) = false ∧ noAccess wideBankDevice 0 (2 ^ 50) 1 false := by
  decide +kernel

/-- EADDR keeps 50 bits of that address (Table 3.5). -/
theorem wideBankLoad_eaddr_zero (t : State) (h : exec wideBankLoad wideBankState = .next t) :
    (t.dev.berth 0).srPair (level 2 + 4) = 0 := by
  have hexec : exec wideBankLoad wideBankState = execLb wideBankSite 0 (.base 0 0 0) wideBankState := rfl
  rw [hexec, execLb, State.upd_eq, Host.Outcome.next.injEq] at h
  subst h
  decide +kernel

/-- Refutes O7: where a bank register holds 2^18, which no instruction writes, the access's address does not fit EADDR (R97). -/
theorem not_accessFaults : ¬ Obligations.AccessFaults := by
  unfold Obligations.AccessFaults
  intro h
  obtain ⟨henters, hpl, haddress, hwindow, hnone⟩ := wideBank_faults
  obtain ⟨hloads, _⟩ := h wideBankState wideBankSite 0 (.base 0 0 0) 0 2 4 henters (if_pos hpl).symm
  obtain ⟨t, hrun, _, _, hentered⟩ := hloads (.lb, 1, true) (List.mem_cons_self ..) (fun h => absurd h Bool.false_ne_true)
    (by rw [show wideBankState.dev.berth wideBankSite.b = wideBankDevice.berth 0 from rfl, haddress]
        exact ⟨hwindow, .inr ⟨rfl, Nat.mod_one _, hnone⟩⟩)
  obtain ⟨_, _, _, headdr, _⟩ := hentered
  rw [show t.dev.berth wideBankSite.b = t.dev.berth 0 from rfl, wideBankLoad_eaddr_zero t hrun] at headdr
  exact absurd (headdr.trans haddress) (by decide)

end Sys2Proof.Proofs
end

section
/-! PROOF. What the device raises when a fault has only its record (R437 to R440): an event of a source with a logged class and no reaction,
and the monitor fault (R99), which parks its berth and raises OCX_MONFAULT. -/

open Sys2Proof Sys2Proof.Machine Sys2Proof.Claims

namespace Sys2Proof.Proofs

/-! ### The FAULT level -/

/-- The second device differs from the first in the event fabric alone: in its state and the merge registers (R306). -/
structure FabricOnly (d e : Device) : Prop where
  eq : e = { d with evf := e.evf, regs := e.regs }
  rd : ∀ off, off < Reg.EVF_MERGE 0 ∨ Reg.EVF_MERGE 4 ≤ off → e.rd off = d.rd off

section
variable {d e f : Device}

theorem FabricOnly.refl (d : Device) : FabricOnly d d := ⟨rfl, fun _ _ => rfl⟩

theorem FabricOnly.trans (h : FabricOnly d e) (k : FabricOnly e f) : FabricOnly d f := by
  refine ⟨?_, fun off ho => (k.rd off ho).trans (h.rd off ho)⟩
  rw [k.eq, h.eq]

theorem fabricOnly_foldl {β : Type} (g : Device → β → Device) (l : List β) (h : ∀ e, ∀ b ∈ l, FabricOnly e (g e b)) :
    FabricOnly d (l.foldl g d) := by
  induction l generalizing d with
  | nil => exact .refl d
  | cons b r ih => exact (h d b (List.mem_cons_self ..)).trans (ih fun e c hc => h e c (List.mem_cons_of_mem _ hc))

theorem fabricOnly_chPulse {n : Nat} (hn : n < 128) : FabricOnly d (d.chPulse n) := by
  unfold Device.chPulse
  split
  · exact .refl d
  · split
    · exact ⟨rfl, fun off ho => Device.rd_wr_other _ _ (by unfold Reg.EVF_MERGE at ho ⊢; omega)⟩
    · exact ⟨rfl, fun _ _ => rfl⟩

theorem fabricOnly_setLevel (code : Nat) (v : Bool) : FabricOnly d (d.setLevel code v) := by
  unfold Device.setLevel
  split
  · exact .refl d
  · have hfall (e : Device) : FabricOnly e e.evfFall := ⟨rfl, fun _ _ => rfl⟩
    refine FabricOnly.trans ?_ (hfall _)
    refine FabricOnly.trans (e := { d with evf := { d.evf with
        high := if v then d.evf.high ++ [code] else d.evf.high.filter (· != code) } }) ⟨rfl, fun _ _ => rfl⟩ ?_
    refine fabricOnly_foldl _ _ fun e n hn => ?_
    split
    · exact fabricOnly_chPulse (List.mem_range.mp (List.mem_filter.mp hn).1)
    · exact .refl e

theorem fabricOnly_followFault : FabricOnly d d.followFault := fabricOnly_setLevel _ _

end

/-! ### An event with a logged class and no reaction -/

/-- The queue of the fault log takes an entry behind the others (R445). -/
theorem logEntry_queues (d : Device) (it : LogItem) (h : (d.rms.queue.filter fun i => i != LogItem.count).length < 32) :
    ∃ r, d.logEntry it false = { d with rms := r } ∧ r.queue = d.rms.queue ++ [it] := by
  have hbegin (e : Device) : ∃ r, e.logBegin = { e with rms := r } ∧ r.queue = e.rms.queue := by
    unfold Device.logBegin
    split <;> exact ⟨_, rfl, rfl⟩
  unfold Device.logEntry
  rw [if_neg (Nat.not_le.mpr h)]
  dsimp only
  split
  · obtain ⟨r, hr, hq⟩ := hbegin { d with rms := { d.rms with queue := d.rms.queue ++ [it] } }
    exact ⟨r, hr, hq⟩
  · exact ⟨_, rfl, rfl⟩

/-- What an event changes that has its record alone. -/
structure EventOnly (n : Nat) (d e : Device) : Prop where
  eq : e = { d with evf := e.evf, regs := e.regs, rms := e.rms }
  rd : ∀ off, off ≠ Reg.RMS_STATN n → off < Reg.EVF_MERGE 0 ∨ Reg.EVF_MERGE 4 ≤ off → e.rd off = d.rd off

section
variable {n : Nat} {d e : Device} (h : EventOnly n d e)
include h

theorem EventOnly.berth (b : Nat) : e.berth b = d.berth b := by
  rw [h.eq]
  rfl

theorem EventOnly.mem : e.mem = d.mem := by rw [h.eq]

theorem EventOnly.cfg : e.cfg = d.cfg := by rw [h.eq]

end

/-- A reaction of 0 changes nothing (Table 14.2). -/
theorem react_none (d : Device) (n : Nat) : d.react n 0 = d := by
  have hends : d.endsSleep 0 = false := by simp [Device.endsSleep]
  rw [Device.react, hends]
  show (if 0 = 0 ∨ 256 ≤ n then d else _).reactMode n 0 = d
  rw [if_pos (.inl rfl)]
  have hown : (if d.mode = .factory then [(n, 0)].filter (fun r => r.1 == 256) else [(n, 0)]) = [] ∨
      (if d.mode = .factory then [(n, 0)].filter (fun r => r.1 == 256) else [(n, 0)]) = [(n, 0)] := by
    split
    · by_cases hn : n = 256 <;> simp [hn]
    · exact .inr rfl
  unfold Device.reactMode Device.reactAll
  rcases hown with h | h <;> simp only [h] <;> simp

section
variable {d : Device} {n detail : Nat}

/-- Class and reaction follow the configuration of the source. -/
theorem verdict_quiet (h : quietSource d n) : d.verdict n 1 = (d.fld (Reg.RMS_CFG n) 0 2, 0, false) := by
  obtain ⟨_, _, h3a, h3e, _, hcls, hreact, hlim, _⟩ := h
  unfold Device.fld at hcls hreact hlim ⊢
  have hesc : (decide ((if bitsOf (d.rd (Reg.RMS_CFG n)) 16 8 = 0 then 1 else bitsOf (d.rd (Reg.RMS_CFG n)) 16 8) ≤ 1) ||
      n == 0x3A || n == 0x3E) = false := by
    rw [if_neg (by omega)]
    simp [h3a, h3e]
    omega
  unfold Device.verdict
  simp only [hesc, hreact]
  simp
  omega

/-- The state word past an event: the total counts, the class rises to the event's, and the event is the first of its window (R437). -/
def eventWord (w cls : Nat) : Nat :=
  setBits (setBits (setBits w 16 16 (satInc (bitsOf w 16 16) 0xFFFF) % 2 ^ 32) 0 3 (max (bitsOf w 0 3) cls)) 8 8 1

theorem eventWord_fields (w : Nat) {cls : Nat} (h : cls < 8) :
    bitsOf (eventWord w cls % 2 ^ 32) 8 8 = 1 ∧ bitsOf (eventWord w cls % 2 ^ 32) 16 16 = min (bitsOf w 16 16 + 1) 0xFFFF ∧
    bitsOf (eventWord w cls % 2 ^ 32) 0 3 = max (bitsOf w 0 3) cls := by
  have htotal : bitsOf w 16 16 < 2 ^ 16 := Nat.mod_lt _ (by decide)
  have hclass : bitsOf w 0 3 < 2 ^ 3 := Nat.mod_lt _ (by decide)
  unfold eventWord
  refine ⟨?_, ?_, ?_⟩
  · rw [bitsOf_mod (by decide), bitsOf_setBits_same]
    rfl
  · rw [bitsOf_mod (by decide), bitsOf_setBits_other (.inr (by decide)), bitsOf_setBits_other (.inr (by decide)), bitsOf_mod (by decide),
      bitsOf_setBits_same, satInc]
    split <;> omega
  · rw [bitsOf_mod (by decide), bitsOf_setBits_other (.inl (by decide)), bitsOf_setBits_same]
    omega

theorem verdict_congr {e : Device} (c : Nat) (h : e.rd (Reg.RMS_CFG n) = d.rd (Reg.RMS_CFG n)) : e.verdict n c = d.verdict n c := by
  unfold Device.verdict
  rw [h]

theorem statn_ne_cfg (hn : n < 256) : Reg.RMS_STATN n ≠ Reg.RMS_CFG n := by
  unfold Reg.RMS_STATN Reg.RMS_CFG
  omega

/-- What an event of a quiet source notes at a count of 1: its state word and an entry at the end of the fault log's queue. -/
theorem noteEvent_quiet {e : Device} (inj : Bool) (hverdict : e.verdict n 1 = (d.fld (Reg.RMS_CFG n) 0 2, 0, false))
    (hcls : d.fld (Reg.RMS_CFG n) 0 2 ≠ 0) (hroom : (e.rms.queue.filter fun i => i != LogItem.count).length < 32) :
    ∃ r, e.noteEvent n 1 detail inj = { e.wr (Reg.RMS_STATN n) (setBits (setBits (e.rd (Reg.RMS_STATN n)) 0 3
        (max (e.rmsClass n) (d.fld (Reg.RMS_CFG n) 0 2 + 1))) 8 8 1) with rms := r } ∧
      r.queue = e.rms.queue ++ [.entry n (d.fld (Reg.RMS_CFG n) 0 2 + 1) 0 (4 * bit01 inj) 1 e.mode.code detail e.tbNow] := by
  unfold Device.noteEvent
  rw [hverdict]
  dsimp only
  rw [if_neg fun h => hcls h.1]
  obtain ⟨r, hr, hq⟩ := logEntry_queues (e.wr (Reg.RMS_STATN n) (setBits (setBits (e.rd (Reg.RMS_STATN n)) 0 3
        (max (e.rmsClass n) (d.fld (Reg.RMS_CFG n) 0 2 + 1))) 8 8 1))
    (.entry n (d.fld (Reg.RMS_CFG n) 0 2 + 1) 0 (bit01 false + 4 * bit01 inj) 1 e.mode.code detail e.tbNow) hroom
  refine ⟨r, hr, hq.trans ?_⟩
  rw [show bit01 false = 0 from rfl, Nat.zero_add]
  rfl

/-- The first event of a window (R437). -/
theorem countEvent_first (h : d.fld (Reg.RMS_STATN n) 8 8 = 0) : ∃ r, d.countEvent n = (1, { d with rms := r }) ∧ r.queue = d.rms.queue :=
  ⟨_, if_pos (.inl h), rfl⟩

/-- An event of a quiet source that TOTAL has counted leaves its state word, an entry of the fault log and the FAULT level. -/
theorem classifyCounted_quiet (h : quietSource d n) (inj : Bool) : ∃ r,
    d.classifyCounted n detail inj = Device.followFault { d.wr (Reg.RMS_STATN n) (setBits (setBits (d.rd (Reg.RMS_STATN n)) 0 3
      (max (d.rmsClass n) (d.fld (Reg.RMS_CFG n) 0 2 + 1))) 8 8 1) with rms := r } ∧
    r.queue = d.rms.queue ++ [.entry n (d.fld (Reg.RMS_CFG n) 0 2 + 1) 0 (4 * bit01 inj) 1 d.mode.code detail d.tbNow] := by
  obtain ⟨_, _, _, _, henabled, hcls, _, _, hcount, hroom⟩ := id h
  obtain ⟨r1, hevent, hq1⟩ := countEvent_first hcount
  have hverdict : Device.verdict { d with rms := r1 } n 1 = (d.fld (Reg.RMS_CFG n) 0 2, 0, false) :=
    (verdict_congr (d := d) 1 rfl).trans (verdict_quiet h)
  obtain ⟨r, hnote, hq⟩ := noteEvent_quiet (d := d) (e := { d with rms := r1 }) (detail := detail) inj hverdict (by omega) (hq1 ▸ hroom)
  refine ⟨r, ?_, hq.trans ?_⟩
  · rw [Device.classifyCounted, if_pos henabled, hevent, Device.classifyAt, hverdict, react_none, hnote]
    rfl
  · rw [← hq1]
    rfl

/-- A quiet source stays one where its state word is written and no event is in its window. -/
theorem quietSource_wr {v : Nat} (h : quietSource d n) (hn : n < 256) (hv : bitsOf v 8 8 = 0) :
    quietSource (d.wr (Reg.RMS_STATN n) v) n := by
  have hcfg : (d.wr (Reg.RMS_STATN n) v).rd (Reg.RMS_CFG n) = d.rd (Reg.RMS_CFG n) := Device.rd_wr_other _ _ (statn_ne_cfg hn)
  obtain ⟨h0, h1, h2, h3, henabled, hcls, hreact, hlim, hcount, hroom⟩ := h
  unfold Device.flag at henabled
  unfold Device.fld at hcls hreact hlim hcount
  unfold quietSource Device.flag Device.fld
  dsimp only
  rw [hcfg, Device.rd_wr_same, bitsOf_mod (by decide)]
  exact ⟨h0, h1, h2, h3, henabled, hcls, hreact, hlim, hv, hroom⟩

theorem rd_withRms (d : Device) (r : RmsSys) (off : Nat) : Device.rd { d with rms := r } off = d.rd off := rfl

/-- What stands past the writes of the state word and the FAULT level. -/
theorem eventOnly_followFault (v w : Nat) (r : RmsSys) :
    EventOnly n d (Device.followFault { (d.wr (Reg.RMS_STATN n) v).wr (Reg.RMS_STATN n) w with rms := r }) ∧
    (Device.followFault { (d.wr (Reg.RMS_STATN n) v).wr (Reg.RMS_STATN n) w with rms := r }).rd (Reg.RMS_STATN n) = w % 2 ^ 32 ∧
    (Device.followFault { (d.wr (Reg.RMS_STATN n) v).wr (Reg.RMS_STATN n) w with rms := r }).rms = r := by
  obtain ⟨hfabric, hrd⟩ := fabricOnly_followFault (d := { (d.wr (Reg.RMS_STATN n) v).wr (Reg.RMS_STATN n) w with rms := r })
  refine ⟨⟨?_, fun off hoff hevf => (hrd off hevf).trans ?_⟩, (hrd _ (.inr ?_)).trans ?_, ?_⟩
  · rw [hfabric]
    rfl
  · rw [rd_withRms ((d.wr (Reg.RMS_STATN n) v).wr (Reg.RMS_STATN n) w), Device.rd_wr_other _ _ (Ne.symm hoff),
      Device.rd_wr_other _ _ (Ne.symm hoff)]
  · unfold Reg.EVF_MERGE Reg.RMS_STATN
    omega
  · rw [rd_withRms ((d.wr (Reg.RMS_STATN n) v).wr (Reg.RMS_STATN n) w), Device.rd_wr_same]
  · rw [hfabric]

/-- An event of a quiet source has its record alone. -/
theorem raise_quiet (h : quietSource d n) (hn : n < 256) (hdetail : detail < 2 ^ 24) :
    logged d n detail 0 (d.raise n detail) ∧ EventOnly n d (d.raise n detail) := by
  obtain ⟨hexists, hhere, _, _, _, hcls, _, _, hcount, _⟩ := id h
  obtain ⟨v, hv, hraise⟩ : ∃ v, v = setBits (d.rd (Reg.RMS_STATN n)) 16 16 (satInc (bitsOf (d.rd (Reg.RMS_STATN n)) 16 16) 0xFFFF) ∧
      d.raise n detail = (d.wr (Reg.RMS_STATN n) v).classifyCounted n detail false := by
    refine ⟨_, rfl, ?_⟩
    rw [Device.raise, if_pos hhere, Nat.mod_eq_of_lt hdetail, Device.classify, if_pos hexists]
    rfl
  have hquiet : quietSource (d.wr (Reg.RMS_STATN n) v) n := by
    refine quietSource_wr h hn ?_
    rw [hv, bitsOf_setBits_other (.inl (by decide))]
    exact hcount
  obtain ⟨r, heq, hq⟩ := classifyCounted_quiet (detail := detail) hquiet false
  have hcfg : (d.wr (Reg.RMS_STATN n) v).fld (Reg.RMS_CFG n) 0 2 = d.fld (Reg.RMS_CFG n) 0 2 :=
    congrArg (bitsOf · 0 2) (Device.rd_wr_other _ _ (statn_ne_cfg hn))
  have hclass : (d.wr (Reg.RMS_STATN n) v).rmsClass n = d.rmsClass n := by
    rw [Device.rmsClass, Device.fld, Device.rd_wr_same, hv, bitsOf_mod (by decide), bitsOf_setBits_other (.inl (by decide))]
    rfl
  rw [hcfg, hclass, Device.rd_wr_same] at heq
  rw [hcfg] at hq
  obtain ⟨w, hw, heq⟩ : ∃ w, w = eventWord (d.rd (Reg.RMS_STATN n)) (d.fld (Reg.RMS_CFG n) 0 2 + 1) ∧
      d.raise n detail = Device.followFault { (d.wr (Reg.RMS_STATN n) v).wr (Reg.RMS_STATN n) w with rms := r } :=
    ⟨_, by rw [hv]; rfl, hraise.trans heq⟩
  obtain ⟨honly, hword, hrms⟩ := eventOnly_followFault (n := n) (d := d) v w r
  rw [← heq] at honly hword hrms
  obtain ⟨hfirst, htotal, hmax⟩ := eventWord_fields (d.rd (Reg.RMS_STATN n)) (cls := d.fld (Reg.RMS_CFG n) 0 2 + 1) (by omega)
  rw [← hw, ← hword] at hfirst htotal hmax
  refine ⟨⟨hfirst, htotal, hmax, ?_, ?_⟩, honly⟩
  · rw [hrms, hq]
    rfl
  · rw [honly.eq]

end

end Sys2Proof.Proofs
end

section
/-! PROOF. The monitor fault (R99) at a boundary where nothing of the berth is in flight: the berth is parked where it stands, and
OCX_MONFAULT has its record. -/

open Sys2Proof Sys2Proof.Machine Sys2Proof.Claims

namespace Sys2Proof.Proofs

/-! ### Parking a berth at rest -/

section
variable {d : Device} {b : Nat}

theorem bitOf_setBits_one (v k : Nat) : bitOf (setBits v k 1 1) k = true := by
  rw [bitOf_eq_testBit, testBit_setBits, if_pos (by omega), Nat.sub_self]
  rfl

theorem setFlag_true (d : Device) (off k : Nat) : ∃ v, d.setFlag off k true = d.wr off v ∧ bitOf v k = true :=
  ⟨_, rfl, bitOf_setBits_one _ _⟩

/-- The park of a berth at rest (R31): its bits of CAR_PARKREQ and CAR_PARKED are set. -/
theorem parkBerth_eq (hl : (d.berth b).loads = []) (hs : (d.berth b).stores = []) (hw : (d.berth b).writes = [])
    (hr : (d.berth b).reads = []) (hwait : (d.berth b).wait = .none) : ∃ v w,
    d.parkBerth b = (((d.dropNeed b).wr (Reg.CAR_PARKREQ (coreOf b)) v).setBerth b (d.berth b)).wr (Reg.CAR_PARKED (coreOf b)) w ∧
    bitOf v (b % 16) = true ∧ bitOf w (b % 16) = true := by
  have hleave : (d.berth b).leaveWait = d.berth b := by
    unfold Berth.leaveWait
    rw [hwait]
  have hidle : (d.berth b).idle = true := by simp [Berth.idle, hl, hs, hw, hr, hwait]
  obtain ⟨v, hask, hv⟩ := setFlag_true (d.dropNeed b) (Reg.CAR_PARKREQ (coreOf b)) (b % 16)
  have hasked : ((d.dropNeed b).wr (Reg.CAR_PARKREQ (coreOf b)) v).parkAsked b = true := by
    rw [Device.parkAsked, Device.flag, Device.rd_wr_same, bitOf_mod (by omega), hv]
  obtain ⟨w, hpark, hw'⟩ := setFlag_true (((d.dropNeed b).wr (Reg.CAR_PARKREQ (coreOf b)) v).setBerth b (d.berth b))
    (Reg.CAR_PARKED (coreOf b)) (b % 16)
  have hreads : { d.berth b with reads := [] } = d.berth b := by rw [← hr]
  refine ⟨v, w, ?_, hv, hw'⟩
  unfold Device.parkBerth Device.settlePark Device.setParkAsk Device.setParked
  dsimp only
  rw [hask, hleave, Device.berth_setBerth_same, unstall_of_waits_none hwait, setBerth_setBerth, Device.berth_setBerth_same, hidle, hreads,
    setBerth_setBerth, Bool.and_true, hpark]
  exact if_pos hasked

/-- The registers and the memories past the park of a berth at rest. -/
structure ParkOnly (b : Nat) (d e : Device) : Prop where
  eq : e = { d with berths := e.berths, car := e.car, regs := e.regs, dbg := e.dbg }
  rd : ∀ off, off ≠ Reg.CAR_PARKREQ (coreOf b) → off ≠ Reg.CAR_PARKED (coreOf b) → e.rd off = d.rd off
  asked : e.parkAsked b = true
  parked : e.parked b = true

theorem ParkOnly.mem {e : Device} (h : ParkOnly b d e) : e.mem = d.mem := by rw [h.eq]

theorem ParkOnly.cfg {e : Device} (h : ParkOnly b d e) : e.cfg = d.cfg := by rw [h.eq]

theorem ParkOnly.mode {e : Device} (h : ParkOnly b d e) : e.mode = d.mode := by rw [h.eq]

theorem ParkOnly.tb {e : Device} (h : ParkOnly b d e) : e.tb = d.tb := by rw [h.eq]

theorem ParkOnly.rms {e : Device} (h : ParkOnly b d e) : e.rms = d.rms := by rw [h.eq]

theorem parkOnly_parkBerth (hl : (d.berth b).loads = []) (hs : (d.berth b).stores = []) (hw : (d.berth b).writes = [])
    (hr : (d.berth b).reads = []) (hwait : (d.berth b).wait = .none) : ParkOnly b d (d.parkBerth b) := by
  obtain ⟨v, w, heq, hv, hparked⟩ := parkBerth_eq hl hs hw hr hwait
  have hne : Reg.CAR_PARKED (coreOf b) ≠ Reg.CAR_PARKREQ (coreOf b) := by
    unfold Reg.CAR_PARKED Reg.CAR_PARKREQ
    omega
  rw [heq]
  refine ⟨rfl, fun off h1 h2 => ?_, ?_, ?_⟩
  · rw [Device.rd_wr_other _ _ (Ne.symm h2), Device.rd_setBerth, Device.rd_wr_other _ _ (Ne.symm h1)]
    rfl
  · rw [Device.parkAsked, Device.flag, Device.rd_wr_other _ _ hne, Device.rd_setBerth, Device.rd_wr_same, bitOf_mod (by omega), hv]
  · rw [Device.parked, Device.flag, Device.rd_wr_same, bitOf_mod (by omega), hparked]

/-- The park of a berth at rest moves no berth. -/
theorem berth_parkBerth (hl : (d.berth b).loads = []) (hs : (d.berth b).stores = []) (hw : (d.berth b).writes = [])
    (hr : (d.berth b).reads = []) (hwait : (d.berth b).wait = .none) (c : Nat) : (d.parkBerth b).berth c = d.berth c := by
  obtain ⟨v, w, heq, _⟩ := parkBerth_eq hl hs hw hr hwait
  rw [heq, Device.berth_wr, Device.berth_setBerth]
  split
  · next h => rw [← h]
  · rfl

/-- An exception that targets MONITOR while EXL of it is 1, or becomes DOUBLE then, is the monitor fault. -/
theorem takeException_monitorFault {r : Raised} (hl : (d.berth b).loads = []) (hs : (d.berth b).stores = [])
    (hwait : (d.berth b).wait = .none) (htwin : d.twinDiffers b = false) (h2 : (d.berth b).exl 2 = true)
    (h1 : r.target (d.berth b).pl ≠ 2 → (d.berth b).exl 1 = true) :
    d.takeException b r = ((d.dropNeed b).setBerth b (d.berth b)).monitorFault b := by
  have hberth : ((d.dropNeed b).setBerth b (d.berth b)).berth b = d.berth b := Device.berth_setBerth_same ..
  have hmonitor (q : Raised) : ((d.dropNeed b).setBerth b (d.berth b)).enterMonitor b q true = none :=
    if_pos (by rw [hberth]; exact h2)
  unfold Device.takeException
  rw [if_neg (by simp [htwin]), finish_idle (d := d.dropNeed b) hl hs hwait]
  dsimp only
  by_cases ht : r.target (d.berth b).pl = 2
  · simp only [hberth, show (d.dropNeed b).berth b = d.berth b from rfl, ht, if_true, hmonitor]
  · simp only [hberth, show (d.dropNeed b).berth b = d.berth b from rfl, if_neg ht, h1 ht, if_true, hmonitor]

end

/-- A source is quiet, and its event logged, by what the registers, the queue and the mode hold. -/
theorem quietSource_congr {d e : Device} {n : Nat} (hcfg : e.cfg = d.cfg) (hrms : e.rms = d.rms)
    (hr : ∀ off, off = Reg.RMS_CFG n ∨ off = Reg.RMS_STATN n → e.rd off = d.rd off) (h : quietSource d n) : quietSource e n := by
  have hhere : e.rmsHere n = d.rmsHere n := by
    unfold Device.rmsHere
    rw [hcfg]
  unfold quietSource Device.flag Device.fld at h ⊢
  dsimp only at h ⊢
  rwa [hhere, hr _ (.inl rfl), hr _ (.inr rfl), hrms]

theorem logged_congr {d e f : Device} {n detail flags : Nat} (hmode : e.mode = d.mode) (htb : e.tb = d.tb) (hrms : e.rms = d.rms)
    (hr : ∀ off, off = Reg.RMS_CFG n ∨ off = Reg.RMS_STATN n → e.rd off = d.rd off) (h : logged e n detail flags f) :
    logged d n detail flags f := by
  have hnow : e.tbNow = d.tbNow := congrArg (fun t => t.now.toNat) htb
  unfold logged Device.rmsClass Device.fld at h ⊢
  dsimp only at h ⊢
  rwa [hr _ (.inl rfl), hr _ (.inr rfl), hrms, hmode, hnow] at h

end Sys2Proof.Proofs
end

section
/-! PROOF. The window file in memory, read (R73, R80): words of the stack that lie in a memory without an error, and the slide back with its
refill. -/

open Sys2Proof Sys2Proof.Machine Sys2Proof.Claims

namespace Sys2Proof.Proofs

/-! ### Words of the stack in a memory -/

/-- The n words of the stack from an offset lie in a memory from global address g on, hold no error, and are accessible to the berth at its
level. -/
def WordsAt (d : Device) (b off n : Nat) (write : Bool) (g : Nat) : Prop :=
  ∀ k < n, (∃ p, d.access b (d.berth b).pl ((d.berth b).stackAddr (off + 4 * k)) 4 write = .ok p ∧ p.global = some (g + 4 * k)) ∧
    d.eccAt (g + 4 * k) = .clean

theorem eq_of_ite_ok {α : Type} {c : Prop} [Decidable c] {p q : α} {e : Nat}
    (h : (if c then Except.ok p else Except.error e : Except Nat α) = .ok q) : p = q := by
  split at h
  · exact Except.ok.inj h
  · cases h

theorem placeFor_of_access {d : Device} {b l a n : Nat} {write : Bool} {p : Place} (h : d.access b l a n write = .ok p) :
    d.placeFor b a = p := by
  unfold Device.access at h
  unfold Device.placeFor
  dsimp only at h
  split at h
  · cases h
  · split at h
    · cases h
    · cases hp : placeOf d.cfg (some (tileOf b)) a with
      | none =>
        rw [hp] at h
        cases h
      | some q =>
        rw [hp] at h
        exact eq_of_ite_ok h

theorem wordsAt_of_recordAt {d : Device} {b off g : Nat} {write : Bool} (h : recordAt d b off write g) : WordsAt d b off 4 write g := by
  obtain ⟨haccess, hclean, _⟩ := h
  exact fun k hk => ⟨haccess k hk, (hclean (4 * k) (by omega)).1⟩

theorem wordsAt_of_frameAt {d : Device} {b off h : Nat} {write : Bool} (hf : frameAt d b off write h) : WordsAt d b off 16 write h := by
  intro k hk
  have hq := wordsAt_of_recordAt (hf (k / 4) (by omega)) (k % 4) (by omega)
  rwa [show off + 16 * (k / 4) + 4 * (k % 4) = off + 4 * k by omega, show h + 16 * (k / 4) + 4 * (k % 4) = h + 4 * k by omega] at hq

/-- A place of a memory, as every function of places takes it. -/
theorem place_of_global {p : Place} {g : Nat} (h : p.global = some g) : p.eccAddr = some g ∧ p.isExternal = false := by
  cases p with
  | sram | image | retained => exact ⟨h, rfl⟩
  | imageBit | window | external => cases h

section
variable {d : Device} {b a g : Nat}

/-- A word of a memory that holds no error is read, and nothing changes. -/
theorem stackRead1_clean (hg : (d.placeFor b a).global = some g) (hclean : d.eccAt g = .clean) : d.stackRead1 b a = (d.value g 4, d) := by
  have hread : d.memRead 0 g 4 = (some (d.value g 4), d) := by
    unfold Device.memRead Device.checkRead
    rw [hclean]
  unfold Device.stackRead1 Device.loadFrom
  generalize d.placeFor b a = p at hg
  cases p with
  | sram | image | retained => simp only [hg, Option.getD_some, hread]
  | imageBit | window | external => cases hg

/-- Words of the stack are read in turn. -/
theorem stackRead_map {l : List Nat} {a v : Nat → Nat} (h : ∀ k ∈ l, d.stackRead1 b (a k) = (v k, d)) :
    d.stackRead b (l.map a) = (l.map v, d) := by
  induction l with
  | nil => rfl
  | cons k r ih =>
    obtain ⟨hk, hr⟩ := List.forall_mem_cons.mp h
    rw [List.map_cons, Device.stackRead, hk]
    dsimp only
    rw [ih hr, List.map_cons]

end

section
variable {d : Device} {b off n g : Nat} {write : Bool} (h : WordsAt d b off n write g)
include h

theorem place_of_wordsAt {k : Nat} (hk : k < n) : (d.placeFor b ((d.berth b).stackAddr (off + 4 * k))).global = some (g + 4 * k) := by
  obtain ⟨⟨p, haccess, hp⟩, _⟩ := h k hk
  rw [placeFor_of_access haccess, hp]

theorem stackRead_of_wordsAt : d.stackRead b ((d.berth b).stackWords off n) = ((List.range n).map fun k => d.value (g + 4 * k) 4, d) :=
  stackRead_map fun k hk => stackRead1_clean (place_of_wordsAt h (List.mem_range.mp hk)) (h k (List.mem_range.mp hk)).2

theorem access_of_wordsAt {a : Nat} (ha : a ∈ (d.berth b).stackWords off n) : ∃ p, d.access b (d.berth b).pl a 4 write = .ok p := by
  obtain ⟨k, hk, rfl⟩ := List.mem_map.mp ha
  obtain ⟨⟨p, haccess, _⟩, _⟩ := h k (List.mem_range.mp hk)
  exact ⟨p, haccess⟩

/-- Nothing forbids an access of the words. -/
theorem stackCheck_of_wordsAt : d.stackCheck b (d.berth b).pl off n write = none := by
  unfold Device.stackCheck
  rw [List.findSome?_eq_none_iff]
  intro a ha
  obtain ⟨p, haccess⟩ := access_of_wordsAt h ha
  rw [haccess]

theorem stackPriv_of_wordsAt : d.stackPriv b (d.berth b).pl off n write = false := by
  unfold Device.stackPriv
  rw [List.any_eq_false]
  intro a ha
  obtain ⟨p, haccess⟩ := access_of_wordsAt h ha
  rw [haccess]
  exact Bool.false_ne_true

theorem stackUe_of_wordsAt : d.stackUe b off n = none := by
  rw [Device.stackUe, Berth.stackWords, List.find?_map, Option.map_eq_none_iff, List.find?_eq_none]
  intro k hk
  have hk := List.mem_range.mp hk
  rw [Function.comp_apply, Device.ueAt, (place_of_global (place_of_wordsAt h hk)).1]
  simp [(h k hk).2]

theorem wordsWanted_of_wordsAt : d.wordsWanted b ((d.berth b).stackWords off n) = [] := by
  rw [Device.wordsWanted, Berth.stackWords, List.filter_eq_nil_iff]
  intro a ha
  obtain ⟨k, hk, rfl⟩ := List.mem_map.mp ha
  rw [(place_of_global (place_of_wordsAt h (List.mem_range.mp hk))).2]
  exact Bool.false_ne_true

end

/-! ### The slide back (R73) -/

theorem refill_of_loads_nil {y : Berth} (p : Nat) (v : Word) (hl : y.loads = []) : y.refill p v = y.setPhys p v := by
  have hset : (y.setPhys p v).loads = y.loads := by
    rw [setPhys_eq]
  rw [Berth.refill, hl, List.map_nil]
  rw [hl] at hset
  rw [← hset]

/-- The refill of a frame sets its sixteen registers. -/
theorem refills_eq {y : Berth} (f : Nat) (word : Nat → Nat) (hl : y.loads = []) :
    ((frameRegs f).zip ((List.range 16).map word)).foldl (fun (z : Berth) q => z.refill q.1 (BitVec.ofNat 32 q.2)) y =
      refilled y f word := by
  have hzip : (frameRegs f).zip ((List.range 16).map word) = (List.range 16).map fun k => (8 + 16 * f + k, word k) :=
    List.zip_map' ..
  rw [hzip, List.foldl_map, refilled]
  generalize List.range 16 = l
  induction l generalizing y with
  | nil => rfl
  | cons k r ih =>
    rw [List.foldl_cons, List.foldl_cons, refill_of_loads_nil _ _ hl]
    exact ih (by rw [setPhys_eq]; exact hl)

/-- What a slide back needs of the berth it is made from. -/
theorem slideBack_eq {d : Device} {b h : Nat} {y : Berth} (hs : slidesBack d b h) (hl : y.loads = [])
    (hwindow : y.srN 4 = (d.berth b).srN 4) (hwsp : y.srN 5 = (d.berth b).srN 5) (hbank : y.srN 7 = (d.berth b).srN 7) :
    (d.setBerth b y).slideBack b = d.setBerth b (slidBack d (d.berth b) y h) := by
  have hcwp : y.cwp = (d.berth b).cwp := by rw [Berth.cwp, hwindow, ← Berth.cwp]
  have hnres : y.nres = (d.berth b).nres := by rw [Berth.nres, hwindow, ← Berth.nres]
  unfold Device.slideBack slidBack
  dsimp only
  rw [Device.berth_setBerth_same, hcwp, Berth.refills, hnres]
  by_cases h1 : (d.berth b).nres = 1
  · obtain ⟨_, hlow, hframe⟩ := hs.2 h1
    have hwords : WordsAt d b ((d.berth b).srN 5 - 64) 16 false h := wordsAt_of_frameAt hframe
    have hread : (d.setBerth b y).stackRead b (y.stackWords ((d.berth b).srN 5 - 64) 16) =
        ((List.range 16).map fun k => d.value (h + 4 * k) 4, d.setBerth b y) :=
      stackRead_map fun k hk => by
        have hplace := place_of_wordsAt hwords (List.mem_range.mp hk)
        rw [Berth.stackAddr, ← hbank] at hplace
        exact stackRead1_clean hplace (hwords k (List.mem_range.mp hk)).2
    rw [if_pos (by rw [h1]; rfl), if_pos h1, Berth.wsp, hwsp, hread]
    dsimp only
    rw [Device.berth_setBerth_same, setBerth_setBerth, refills_eq (y := y.setSr 5 ((d.berth b).srN 5 - 64)) _ _ hl]
  · rw [if_neg (by simpa using h1), if_neg h1, setBerth_setBerth]

end Sys2Proof.Proofs
end

section
/-! PROOF. The return from an exception (R98), and what RETX and RET ask of a slide back (R73, R79). -/

open Sys2Proof Sys2Proof.Machine Sys2Proof.Claims

namespace Sys2Proof.Proofs

/-! ### A slide back that raises nothing -/

theorem drainStack_idle {d : Device} {b : Nat} (offs : List Nat) (hl : (d.berth b).loads = []) (hs : (d.berth b).stores = []) :
    d.drainStack b offs = d := drain_idle _ hl hs

section
variable {d : Device} {b h : Nat} (hs : slidesBack d b h)
include hs

/-- The frame below WSP, where the slide refills. -/
theorem refill_words (hr : (d.berth b).refills = true) :
    (d.berth b).srN 5 % 8 = 0 ∧ 64 ≤ (d.berth b).wsp ∧ WordsAt d b ((d.berth b).wsp - 64) 16 false h := by
  obtain ⟨halign, hlow, hframe⟩ := hs.2 (beq_iff_eq.mp hr)
  exact ⟨halign, hlow, wordsAt_of_frameAt hframe⟩

theorem refillLimit_none : d.refillLimit b = none := by
  unfold Device.refillLimit
  dsimp only
  cases hr : (d.berth b).refills with
  | false => rfl
  | true =>
    obtain ⟨halign, hlow, _⟩ := refill_words hs hr
    rw [if_neg (by simp), if_neg (show ¬ (d.berth b).wsp % 8 ≠ 0 from not_not.mpr halign), if_neg (Nat.not_lt.mpr hlow)]

theorem refillPriv_false :
    ((d.berth b).refills && decide (64 ≤ (d.berth b).wsp) && d.stackPriv b (d.berth b).pl ((d.berth b).wsp - 64) 16 false) = false := by
  cases hr : (d.berth b).refills with
  | false => rfl
  | true => rw [stackPriv_of_wordsAt (refill_words hs hr).2.2, Bool.and_false]

theorem refillFault_none : d.refillFault b (d.berth b).pl = none := by
  unfold Device.refillFault
  dsimp only
  cases hr : (d.berth b).refills with
  | false => rfl
  | true =>
    obtain ⟨_, _, hwords⟩ := refill_words hs hr
    rw [if_neg (by simp), stackCheck_of_wordsAt hwords, stackUe_of_wordsAt hwords]
    rfl

theorem refillWords_arrived : d.wordsWanted b (d.refillWords b) = [] := by
  unfold Device.refillWords
  dsimp only
  cases hr : (d.berth b).refills with
  | false => rfl
  | true => exact wordsWanted_of_wordsAt (refill_words hs hr).2.2

theorem refillBreach_none (hr : (d.berth b).refills = true) : d.timed b = false ∨ d.stackBreach b ((d.berth b).wsp - 64) = 0 := by
  obtain ⟨_, _, hframe⟩ := hs.2 (beq_iff_eq.mp hr)
  exact (hframe 0 (by decide)).2.2

end

/-! ### RETX (R98) -/

theorem retxPsr_eq (est t : Nat) : retxPsr est t = bitsOf est 2 3 * 4 + min t (bitsOf est 0 2) := by
  have hpl : bitsOf est 0 2 = est % 4 := by
    rw [bitsOf, Nat.pow_zero, Nat.div_one]
    rfl
  have hrest : bitsOf est 2 3 = est / 4 % 8 := rfl
  rw [hpl, hrest, retxPsr]
  split <;> omega

theorem excBase_eq_level (t : Nat) : excBase t = level t := rfl

section
variable {d : Device} {i : Site} (hready : d.ready i = true) (h1 : 1 ≤ (d.berth i.b).pl) (hexl : (d.berth i.b).exl (d.berth i.b).pl = true)
include h1 hexl

/-- An odd EPC is ALIGN (R84). -/
theorem retx_odd {h : Nat} (hs : slidesBack d i.b h) (hodd : (d.berth i.b).srPair (level (d.berth i.b).pl) % 2 ^ 50 % 2 = 1) :
    d.retx (d.ctx i) = .exc d 3 0 ((d.berth i.b).srPair (level (d.berth i.b).pl) % 2 ^ 50) := by
  unfold Device.retx
  dsimp only [Device.ctx]
  rw [if_neg (by omega), if_neg (by simp [hexl]), refillPriv_false hs, if_neg Bool.false_ne_true, refillLimit_none hs]
  exact if_pos hodd

include hready

theorem retx_done {h : Nat} (hstores : (d.berth i.b).stores = []) (hs : slidesBack d i.b h)
    (heven : (d.berth i.b).srPair (level (d.berth i.b).pl) % 2 ^ 50 % 2 = 0) : ∃ e : Effect,
    d.retx (d.ctx i) = .done (d.setBerth i.b (slidBack d (d.berth i.b) ((d.berth i.b).setSr 0
      (bitsOf ((d.berth i.b).srN (level (d.berth i.b).pl + 2)) 2 3 * 4 +
        min (d.berth i.b).pl (bitsOf ((d.berth i.b).srN (level (d.berth i.b).pl + 2)) 0 2))) h)) e ∧
    e.target = some ((d.berth i.b).srPair (level (d.berth i.b).pl) % 2 ^ 50) ∧ e.shadow = none ∧ (d.timed i.b = false ∨ e.breach = 0) := by
  obtain ⟨_, _, _, hl, _⟩ := d.ready_parts i hready
  have hbusy : d.windowBusy i.b = false := by
    rw [Device.windowBusy, opsIn_idle _ hl hstores]
    rfl
  have hdrain : (if (d.berth i.b).refills then d.drainStack i.b [(d.berth i.b).wsp - 64] else d) = d := by
    rw [drainStack_idle _ hl hstores, ite_self]
  have hslide := slideBack_eq (y := (d.berth i.b).setSr 0 (retxPsr ((d.berth i.b).srN (excBase (d.berth i.b).pl + 2)) (d.berth i.b).pl)) hs hl
    (by simp [Berth.srN_setSr]) (by simp [Berth.srN_setSr]) (by simp [Berth.srN_setSr])
  rw [retxPsr_eq, excBase_eq_level] at hslide
  unfold Device.retx
  dsimp only [Device.ctx]
  rw [if_neg (by omega), if_neg (by simp [hexl]), refillPriv_false hs, if_neg Bool.false_ne_true, refillLimit_none hs]
  dsimp only
  rw [hdrain, refillFault_none hs, refillWords_arrived hs, hbusy, retxPsr_eq, excBase_eq_level, hslide, if_neg (by omega), if_neg Bool.false_ne_true]
  dsimp only
  rw [if_neg (by simp)]
  refine ⟨_, rfl, rfl, rfl, ?_⟩
  dsimp only
  cases hr : (d.berth i.b).refills with
  | false => exact .inr (if_neg Bool.false_ne_true)
  | true =>
    rw [if_pos rfl]
    exact refillBreach_none hs hr

end

end Sys2Proof.Proofs
end

section
/-! PROOF. RETX (R98): the return, ILLEGAL with EXL 0, and an odd EPC's DOUBLE or monitor fault (R84, R99). -/

open Sys2Proof Sys2Proof.Machine Sys2Proof.Claims

namespace Sys2Proof.Proofs

/-- What the monitor fault leaves, past the park of a berth at rest. -/
theorem monitorFault_of_park {u : Device} {b : Nat} (hb : b < 512) (hpark : ParkOnly b u (u.parkBerth b))
    (hberth : ∀ c, (u.parkBerth b).berth c = u.berth c) (hq : quietSource u 0x20) :
    let e := (u.parkBerth b).raise 0x20 b
    (∀ c, e.berth c = u.berth c) ∧ e.parkAsked b = true ∧ e.parked b = true ∧ logged u 0x20 b 0 e ∧ e.mem = u.mem ∧
      e.timed b = u.timed b ∧ e.cfg = u.cfg := by
  generalize u.parkBerth b = p at hpark hberth
  have hsource (off : Nat) (ho : off = Reg.RMS_CFG 0x20 ∨ off = Reg.RMS_STATN 0x20) : p.rd off = u.rd off := by
    have hlow : off < 0x100000 := by rcases ho with rfl | rfl <;> decide
    exact hpark.rd off (by unfold Reg.CAR_PARKREQ; omega) (by unfold Reg.CAR_PARKED; omega)
  obtain ⟨hlog, hevent⟩ := raise_quiet (d := p) (n := 0x20) (detail := b) (quietSource_congr hpark.cfg hpark.rms hsource hq) (by decide)
    (by omega)
  generalize p.raise 0x20 b = e at hlog hevent
  have hcar (off : Nat) (ho : Reg.CAR_PARKREQ 0 ≤ off) : e.rd off = p.rd off := by
    unfold Reg.CAR_PARKREQ at ho
    exact hevent.rd off (by unfold Reg.RMS_STATN; omega) (.inr (by unfold Reg.EVF_MERGE; omega))
  refine ⟨fun c => (hevent.berth c).trans (hberth c), ?_, ?_, logged_congr hpark.mode hpark.tb hpark.rms hsource hlog,
    hevent.mem.trans hpark.mem, ?_, hevent.cfg.trans hpark.cfg⟩
  · rw [← hpark.asked]
    exact congrArg (bitOf · _) (hcar _ (by unfold Reg.CAR_PARKREQ; omega))
  · rw [← hpark.parked]
    exact congrArg (bitOf · _) (hcar _ (by unfold Reg.CAR_PARKREQ Reg.CAR_PARKED; omega))
  · refine congrArg (bitOf · 0) ((hcar _ (by unfold Reg.CAR_PARKREQ Reg.CAR_BCFG; omega)).trans (hpark.rd _ ?_ ?_))
    · unfold Reg.CAR_BCFG Reg.CAR_PARKREQ
      omega
    · unfold Reg.CAR_BCFG Reg.CAR_PARKED
      omega

/-- What the monitor fault leaves at a berth that is ready. -/
theorem monitorFault_leaves {d : Device} {i : Site} (hready : d.ready i = true) (hstores : (d.berth i.b).stores = [])
    (hq : quietSource d 0x20) :
    let e := ((((d.issuedOne i.b).dropNeed i.b).setBerth i.b (d.berth i.b).issued).parkBerth i.b).raise 0x20 i.b
    (e.berth i.b = (d.berth i.b).issued ∧ (∀ b, b ≠ i.b → e.berth b = d.berth b) ∧ e.parkAsked i.b = true ∧ e.parked i.b = true ∧
      logged d 0x20 i.b 0 e ∧ e.mem = d.mem) ∧ e.timed i.b = d.timed i.b ∧ e.cfg = d.cfg := by
  obtain ⟨hmay, _, _, hl, hw, _⟩ := d.ready_parts i hready
  obtain ⟨hother, hrd, heq⟩ := onlyBerth_setBerth_of (d.berth i.b).issued (onlyBerth_dropNeed_of (onlyBerth_issuedOne d i.b false))
  have hub : (((d.issuedOne i.b).dropNeed i.b).setBerth i.b (d.berth i.b).issued).berth i.b = (d.berth i.b).issued :=
    Device.berth_setBerth_same ..
  dsimp only
  generalize ((d.issuedOne i.b).dropNeed i.b).setBerth i.b (d.berth i.b).issued = u at hother hrd heq hub ⊢
  have hl' : (u.berth i.b).loads = [] := by rw [hub]; exact hl
  have hs' : (u.berth i.b).stores = [] := by rw [hub]; exact hstores
  have hw' : (u.berth i.b).writes = [] := by rw [hub]; exact hw
  have hr' : (u.berth i.b).reads = [] := by rw [hub]; rfl
  have hwait : (u.berth i.b).wait = .none := by rw [hub]; exact waits_none_of_mayIssue hmay
  have hcfg : u.cfg = d.cfg := by rw [heq]
  have hrms : u.rms = d.rms := by rw [heq]
  have hsource (off : Nat) (ho : off = Reg.RMS_CFG 0x20 ∨ off = Reg.RMS_STATN 0x20) : u.rd off = d.rd off :=
    hrd off (by rcases ho with rfl | rfl <;> decide)
  obtain ⟨hberth, hasked, hparked, hlog, hmem, htimed, hecfg⟩ := monitorFault_of_park i.berth.isLt
    (parkOnly_parkBerth hl' hs' hw' hr' hwait) (berth_parkBerth hl' hs' hw' hr' hwait) (quietSource_congr hcfg hrms hsource hq)
  exact ⟨⟨(hberth _).trans hub, fun c hc => (hberth c).trans (hother c hc), hasked, hparked,
    logged_congr (by rw [heq]) (by rw [heq]) hrms hsource hlog, hmem.trans (by rw [heq])⟩,
    htimed.trans (congrArg (bitOf · 0) (hrd _ (by unfold Reg.CAR_BCFG Reg.MEM_INFLT; omega))), hecfg.trans hcfg⟩

theorem withCfg_self {d e : Device} (h : e.cfg = d.cfg) : { e with cfg := d.cfg } = e := by rw [← h]

section
variable {d : Device} {i : Site} (hready : d.ready i = true) (h1 : 1 ≤ (d.berth i.b).pl) (h3 : (d.berth i.b).pl < 3)
  (hstores : (d.berth i.b).stores = [])
include hready h1 hstores

/-- R98: the return. -/
theorem retx_leaves {h : Nat} (hexl : (d.berth i.b).exl (d.berth i.b).pl = true) (hs : slidesBack d i.b h)
    (heven : (d.berth i.b).srPair (level (d.berth i.b).pl) % 2 ^ 50 % 2 = 0) :
    d.Leaves i ((slidBack d (d.berth i.b) ((d.berth i.b).setSr 0
      (bitsOf ((d.berth i.b).srN (level (d.berth i.b).pl + 2)) 2 3 * 4 +
        min (d.berth i.b).pl (bitsOf ((d.berth i.b).srN (level (d.berth i.b).pl + 2)) 0 2))) h).goesTo
      ((d.berth i.b).srPair (level (d.berth i.b).pl) % 2 ^ 50)) { d.issue i retxOp with cfg := d.cfg } := by
  obtain ⟨e, hrun, ht, hshadow, hbreach⟩ := retx_done hready h1 hexl hstores hs heven
  have hleaves := leaves_jump (op := retxOp) hready hrun (differsAt_setBerth _ _ _) hbreach ht hshadow
  rwa [Device.berth_setBerth_same] at hleaves

include h3

/-- R98, R95: with EXL of its level 0 there is nothing to return from. -/
theorem retx_illegal (hexl : (d.berth i.b).exl (d.berth i.b).pl = false) (hn : (d.berth i.b).nres < 5) :
    entered d i (d.berth i.b).pl 1 0 (d.berth i.b).pc.toNat 0 { d.issue i retxOp with cfg := d.cfg } := by
  have hrun : retxOp.run (d.ctx i) d = .exc d 1 0 0 := by
    show d.retx (d.ctx i) = _
    unfold Device.retx
    dsimp only [Device.ctx]
    rw [if_neg (by omega), if_pos hexl]
  exact entered_of_exc_plain ⟨hready, hstores, hn, hexl⟩ (.inl rfl) hrun (by split <;> omega)

variable (hexl : (d.berth i.b).exl (d.berth i.b).pl = true) (hn : 1 < (d.berth i.b).nres)
  (hodd : (d.berth i.b).srPair (level (d.berth i.b).pl) % 2 ^ 50 % 2 = 1)
include hexl hn hodd

omit h3 in
/-- R84, R99: an odd EPC at SUPERVISOR is DOUBLE at MONITOR, with ALIGN for its subcode. -/
theorem retx_double (hpl : (d.berth i.b).pl = 1) (h2 : (d.berth i.b).exl 2 = false) (hnres : (d.berth i.b).nres < 5) :
    enteredWith d i 2 11 3 0 (d.berth i.b).pc.toNat 0 { d.issue i retxOp with cfg := d.cfg } := by
  have hrun : retxOp.run (d.ctx i) d = .exc d 3 0 ((d.berth i.b).srPair (level (d.berth i.b).pl) % 2 ^ 50) :=
    retx_odd h1 hexl (h := 0) ⟨by omega, fun h => absurd h (by omega)⟩ hodd
  have hb := Device.issuedOne_berth_same d i.b false
  set r := raisedAt d i 3 0 ((d.berth i.b).srPair (level (d.berth i.b).pl) % 2 ^ 50) with hr
  set q : Raised := ⟨11, 3, 0, 0, false, (d.berth i.b).pc.toNat, (d.berth i.b).pc.toNat⟩ with hq
  have htarget : r.target ((d.issuedOne i.b).berth i.b).pl = 1 := by
    rw [hb]
    show r.target (d.berth i.b).pl = 1
    rw [hpl]
    rfl
  have htake : (d.issuedOne i.b).takeException i.b r = ((d.issuedOne i.b).dropNeed i.b).setBerth i.b (handled (d.berth i.b).issued 2 q) := by
    rw [takeException_settled (settled_issuedOne hready hstores hnres), htarget, hb, if_neg (by decide),
      if_pos (show (d.berth i.b).issued.exl 1 = true from hpl ▸ hexl), if_neg (by rw [show (d.berth i.b).issued.exl 2 = false from h2]; decide)]
    rfl
  rw [issue_exc hready hrun (by rw [htake]; rfl), htake]
  exact enteredWith_setBerth (r := q) (onlyBerth_dropNeed_of (onlyBerth_issuedOne d i.b false)) rfl rfl hnres (by decide) (by decide)
    (d.berth i.b).pc.isLt (show 0 < 2 ^ 50 by decide) rfl (show 11 < 2 ^ 8 by decide) (show 3 < 2 ^ 8 by decide) (show 0 < 2 ^ 8 by decide)

omit hn hodd in
/-- R99: with EXL of MONITOR 1 too it is the monitor fault, past the park of the berth at its instruction. -/
theorem retx_takes_monitorFault (h2 : (d.berth i.b).exl 2 = true) :
    (d.issuedOne i.b).takeException i.b (raisedAt d i 3 0 ((d.berth i.b).srPair (level (d.berth i.b).pl) % 2 ^ 50)) =
      ((((d.issuedOne i.b).dropNeed i.b).setBerth i.b (d.berth i.b).issued).parkBerth i.b).raise 0x20 i.b := by
  obtain ⟨hmay, _, _, hl, _, _, _, _, _, htwin, _⟩ := d.ready_parts i hready
  have hb := Device.issuedOne_berth_same d i.b false
  have htarget (a : Nat) (h : (raisedAt d i 3 0 a).target (d.berth i.b).pl ≠ 2) : (d.berth i.b).exl 1 = true := by
    have hpl : (d.berth i.b).pl = 1 := by
      by_contra hne
      exact h (if_pos (by omega : (d.berth i.b).pl = 2))
    exact hpl ▸ hexl
  rw [takeException_monitorFault (d := d.issuedOne i.b) (by rw [hb]; exact hl) (by rw [hb]; exact hstores)
    (by rw [hb]; exact waits_none_of_mayIssue hmay) htwin (by rw [hb]; exact h2) (by rw [hb]; exact htarget _), hb]
  rfl

/-- R99: with EXL of MONITOR 1 too it is the monitor fault. -/
theorem retx_monitorFault (h2 : (d.berth i.b).exl 2 = true) (hq : quietSource d 0x20) :
    let e : Device := { d.issue i retxOp with cfg := d.cfg }
    e.berth i.b = (d.berth i.b).issued ∧ (∀ b, b ≠ i.b → e.berth b = d.berth b) ∧ e.parkAsked i.b = true ∧ e.parked i.b = true ∧
      logged d 0x20 i.b 0 e ∧ e.mem = d.mem := by
  have hrun : retxOp.run (d.ctx i) d = .exc d 3 0 ((d.berth i.b).srPair (level (d.berth i.b).pl) % 2 ^ 50) :=
    retx_odd h1 hexl (h := 0) ⟨by omega, fun h => absurd h (by omega)⟩ hodd
  obtain ⟨hleaves, htimed, hcfg⟩ := monitorFault_leaves hready hstores hq
  have htake := retx_takes_monitorFault hready h1 h3 hstores hexl h2
  rw [issue_exc hready hrun (by rw [htake]; exact htimed), htake, withCfg_self hcfg]
  exact hleaves

end

/-- Settles O14: the return, and the faults of its checks in their order. -/
theorem retxRestores : Obligations.RetxRestores := by
  intro s i h hready d x t est to_ exl h1 h3 hstores
  refine ⟨fun hexl hs heven => ?_, fun hexl hn => ?_, fun hexl hn hodd => ⟨fun hpl h2 hnres => ?_, fun h2 hq => ?_⟩⟩
  · exact completes_of_exec (f := fun d => d.issue i retxOp) rfl (retx_leaves hready h1 hstores hexl hs heven)
  · exact completes_of_exec (f := fun d => d.issue i retxOp) rfl (retx_illegal hready h1 h3 hstores hexl hn)
  · exact completes_of_exec (f := fun d => d.issue i retxOp) rfl (retx_double hready h1 hstores hexl hn hodd hpl h2 hnres)
  · refine completes_of_exec (f := fun d => d.issue i retxOp) rfl (retx_monitorFault hready h1 h3 hstores hexl hn hodd ?_ hq)
    rcases h2 with h2 | h2
    · exact h2 ▸ hexl
    · exact h2

end Sys2Proof.Proofs
end

section
/-! PROOF. RET (R78): it reads its record, slides the window back and goes to the record's return address. -/

open Sys2Proof Sys2Proof.Machine Sys2Proof.Claims

namespace Sys2Proof.Proofs

/-- The record at global address g (Table 3.2). -/
def recordIn (d : Device) (g : Nat) : CallRecord := ⟨d.value g 4, d.value (g + 4) 4, d.value (g + 8) 4, d.value (g + 12) 4⟩

/-- The stack accesses of an instruction are no breach where none of them is (R50). -/
theorem breach_of_offsets {d : Device} {b : Nat} {offs : List Nat} (h : ∀ o ∈ offs, d.timed b = false ∨ d.stackBreach b o = 0) :
    d.timed b = false ∨ (offs.map fun o => d.stackBreach b o).foldl max 0 = 0 := by
  cases ht : d.timed b with
  | false => exact .inl rfl
  | true =>
    right
    induction offs with
    | nil => rfl
    | cons o r ih =>
      obtain ⟨ho, hr⟩ := List.forall_mem_cons.mp h
      rw [List.map_cons, List.foldl_cons, ho.resolve_left (by simp [ht])]
      exact ih hr

theorem map_range_four (f : Nat → Nat) (g : Nat) : ((List.range 4).map fun k => f (g + 4 * k)) = [f g, f (g + 4), f (g + 8), f (g + 12)] := by
  simp only [List.range_succ, List.range_zero, List.nil_append, List.cons_append, List.map_cons, List.map_nil, Nat.mul_zero, Nat.add_zero,
    Nat.mul_one, Nat.reduceMul]

theorem callRecord_of_words (u v w z : Nat) : CallRecord.of [u, v, w, z] = ⟨u, v, w, z⟩ := rfl

/-- The berth that a record's return restores (R78). -/
def restored (x : Berth) (r : CallRecord) : Berth := if r.fb then (x.setSr 11 r.sinst).setSr 15 (r.sbank3 % 2 ^ 18) else x

theorem restored_eq (x : Berth) (r : CallRecord) : restored x r = { x with sr := (restored x r).sr } := by
  unfold restored
  split <;> rfl

theorem srN_restored {x : Berth} {r : CallRecord} {n : Nat} (h11 : n ≠ 11) (h15 : n ≠ 15) : (restored x r).srN n = x.srN n := by
  unfold restored
  split
  · rw [Berth.srN_setSr, if_neg (Ne.symm h15), Berth.srN_setSr, if_neg (Ne.symm h11)]
  · rfl

section
variable {d : Device} {b g h sp : Nat} (hl : (d.berth b).loads = []) (hstores : (d.berth b).stores = [])
  (hrecord : recordAt d b sp false g) (hs : slidesBack d b h)
include hrecord

theorem recordRead_eq : d.stackRead b ((d.berth b).stackWords sp 4) =
    ([d.value g 4, d.value (g + 4) 4, d.value (g + 8) 4, d.value (g + 12) 4], d) := by
  rw [stackRead_of_wordsAt (wordsAt_of_recordAt hrecord), map_range_four fun a => d.value a 4]

/-- No check of the record's read fails. (The definition is unfolded as a function, away from its arguments: the kernel would evaluate the
words' addresses.) -/
theorem recordFault_none : d.recordFault b (d.berth b).pl sp = none := by
  have hwords := wordsAt_of_recordAt hrecord
  obtain ⟨F, hF⟩ : ∃ F, F = Device.recordFault := ⟨_, rfl⟩
  rw [← hF]
  delta Device.recordFault at hF
  rw [hF]
  beta_reduce
  rw [stackCheck_of_wordsAt hwords]
  dsimp only
  rw [stackUe_of_wordsAt hwords, Option.map_none]

include hs

/-- No access of the return is a breach. -/
theorem retBreach_none : d.timed b = false ∨
    ((if (d.berth b).refills then [sp, (d.berth b).wsp - 64] else [sp]).map fun o => d.stackBreach b o).foldl max 0 = 0 := by
  refine breach_of_offsets fun o ho => ?_
  split at ho
  · next hr =>
    rcases List.mem_cons.mp ho with rfl | ho
    · exact hrecord.2.2
    · rw [List.mem_singleton.mp ho]
      exact refillBreach_none hs hr
  · rw [List.mem_singleton.mp ho]
    exact hrecord.2.2

include hl

theorem retDo_eq (c : Ctx) (hc : c.b = b) (r : CallRecord) : (d.retDo c sp r).1 =
    d.setBerth b ((slidBack d (d.berth b) (restored (d.berth b) r) h).setReg 7 (BitVec.ofNat 32 (sp + 16))) := by
  subst hc
  have hslide := slideBack_eq (y := restored (d.berth c.b) r) hs (by rw [restored_eq]; exact hl) (srN_restored (by decide) (by decide))
    (srN_restored (by decide) (by decide)) (srN_restored (by decide) (by decide))
  unfold Device.retDo
  dsimp only
  rw [show (if r.fb then ((d.berth c.b).setSr 11 r.sinst).setSr 15 (r.sbank3 % 2 ^ 18) else d.berth c.b) = restored (d.berth c.b) r from rfl,
    hslide, Device.berth_setBerth_same, setBerth_setBerth]

include hstores

/-- R78: a record in order is returned by. -/
theorem ret_done {c : Ctx} (hb : c.b = b) (hlevel : c.level = (d.berth b).pl) (hsp : ((d.berth b).operand 7).toNat = sp)
    (hgood : (recordIn d g).good = true) (heven : (recordIn d g).target % 2 = 0) :
    d.ret c = .done (d.retDo c sp (recordIn d g)).1 (d.retDo c sp (recordIn d g)).2 := by
  have hwords := wordsAt_of_recordAt hrecord
  have hdrain (offs : List Nat) : d.drainStack b offs = d := drainStack_idle _ hl hstores
  unfold Device.ret
  simp only [hb, hlevel, hsp, stackPriv_of_wordsAt hwords, refillPriv_false hs, Bool.or_false, if_neg Bool.false_ne_true, hdrain,
    recordRead_eq hrecord, callRecord_of_words]
  have hlimit := refillLimit_none hs
  have hfault := recordFault_none hrecord
  have hrefill := refillFault_none hs
  generalize d.refillLimit b = u at hlimit ⊢
  generalize d.recordFault b (d.berth b).pl sp = v at hfault ⊢
  generalize d.refillFault b (d.berth b).pl = w at hrefill ⊢
  subst hlimit hfault hrefill
  dsimp only
  rw [wordsWanted_of_wordsAt hwords, if_neg (by simp), ← recordIn, if_neg (by simp [hgood]), if_neg (by omega), refillWords_arrived hs,
    if_neg (by simp)]

end

/-- R78: what RET leaves. -/
theorem ret_leaves {d : Device} {i : Site} {g h : Nat} (hready : d.ready i = true) (hstores : (d.berth i.b).stores = [])
    (hrecord : recordAt d i.b ((d.berth i.b).operand 7).toNat false g) (hs : slidesBack d i.b h)
    (hgood : (recordIn d g).good = true) (heven : (recordIn d g).target % 2 = 0) :
    d.Leaves i (((slidBack d (d.berth i.b) (restored (d.berth i.b) (recordIn d g)) h).setReg 7
      (BitVec.ofNat 32 (((d.berth i.b).operand 7).toNat + 16))).goesTo (recordIn d g).target) { d.issue i retOp with cfg := d.cfg } := by
  obtain ⟨_, _, _, hl, _⟩ := d.ready_parts i hready
  have hrun : retOp.run (d.ctx i) d = _ := ret_done (c := d.ctx i) hl hstores hrecord hs rfl rfl rfl hgood heven
  rw [retDo_eq hl hrecord hs (d.ctx i) rfl] at hrun
  have hleaves := leaves_jump (t := (recordIn d g).target) hready hrun (differsAt_setBerth _ _ _) (retBreach_none hrecord hs) rfl rfl
  rwa [Device.berth_setBerth_same] at hleaves

end Sys2Proof.Proofs
end

section
/-! PROOF. Writes of memory that have no event (R169, R185): bytes of a word, pairs of stack words, and what the completion of an instruction
leaves that has changed memory and its berth alone. -/

open Sys2Proof Sys2Proof.Machine Sys2Proof.Claims

namespace Sys2Proof.Proofs

/-! ### Bytes -/

theorem get_pokeBytes (m : List Host.Cell) (g : Nat) (bs : List Byte) (a : Nat) :
    Store.get (pokeBytes m g bs) (fun _ => 0) a = overlay g bs (Store.get m fun _ => 0) a := by
  induction bs generalizing m g with
  | nil =>
    unfold overlay
    rw [if_neg (by simp)]
    rfl
  | cons v r ih =>
    rw [pokeBytes, ih]
    unfold overlay
    rw [Store.get_put, List.length_cons]
    by_cases hg : g = a
    · subst hg
      rw [if_neg (by omega), if_pos rfl, if_pos (by omega), Nat.sub_self]
      rfl
    · rw [if_neg hg]
      by_cases ha : g + 1 ≤ a ∧ a < g + 1 + r.length
      · rw [if_pos ha, if_pos (by omega), show a - g = (a - (g + 1)) + 1 by omega]
        rfl
      · rw [if_neg ha, if_neg (by omega)]

theorem overlay_append (g : Nat) (xs ys : List Byte) (old : Nat → Byte) :
    overlay (g + xs.length) ys (overlay g xs old) = overlay g (xs ++ ys) old := by
  funext a
  unfold overlay
  rw [List.length_append]
  by_cases h1 : a < g + xs.length
  · rw [if_neg (by omega)]
    by_cases h0 : g ≤ a
    · rw [if_pos ⟨h0, h1⟩, if_pos (by omega), List.getD_append _ _ _ _ (by omega)]
    · rw [if_neg (by omega), if_neg (by omega)]
  · by_cases h2 : a < g + xs.length + ys.length
    · rw [if_pos (by omega), if_pos (by omega), List.getD_append_right _ _ _ _ (by omega)]
      congr 1
      omega
    · rw [if_neg (by omega), if_neg (by omega), if_neg (by omega)]

theorem length_leBytes (n v : Nat) : (leBytes n v).length = n := by
  induction n generalizing v with
  | zero => rfl
  | succ n ih => rw [leBytes, List.length_cons, ih]

theorem leBytes_mod (n v : Nat) : leBytes n (v % 256 ^ n) = leBytes n v := by
  induction n generalizing v with
  | zero => rfl
  | succ n ih =>
    have hlow : BitVec.ofNat 8 (v % 256 ^ (n + 1)) = BitVec.ofNat 8 v := by
      refine BitVec.eq_of_toNat_eq ?_
      rw [BitVec.toNat_ofNat, BitVec.toNat_ofNat, Nat.mod_mod_of_dvd _ (Dvd.intro_left (256 ^ n) (pow_succ 256 n).symm)]
    rw [leBytes, leBytes, hlow, pow_succ, Nat.mul_comm, Nat.mod_mul_right_div_self, ih]

/-! ### A write inside one word -/

/-- The second device differs from the first in memory alone, where the bytes from g on have been written. -/
structure Written (d e : Device) (g : Nat) (bs : List Byte) : Prop where
  eq : e = { d with mem := e.mem }
  byte : ∀ a, e.byte a = overlay g bs d.byte a

theorem byte_poke (d : Device) (g : Nat) (bs : List Byte) (a : Nat) : (d.poke g bs).byte a = overlay g bs d.byte a :=
  get_pokeBytes _ _ _ _

section
variable {d e f : Device} {g : Nat} {bs cs : List Byte}

theorem Written.trans (h : Written d e g bs) (k : Written e f (g + bs.length) cs) : Written d f g (bs ++ cs) := by
  refine ⟨?_, fun a => ?_⟩
  · rw [k.eq, h.eq]
  · rw [k.byte, funext h.byte, overlay_append]

theorem Written.cfg (h : Written d e g bs) : e.cfg = d.cfg := by rw [h.eq]

theorem Written.bol (h : Written d e g bs) : e.bol = d.bol := by rw [h.eq]

theorem Written.tracked (h : Written d e g bs) (a : Nat) : e.tracked a = d.tracked a := by
  rw [Device.tracked, h.bol]
  rfl

theorem Written.placeFor (h : Written d e g bs) (b a : Nat) : e.placeFor b a = d.placeFor b a := by
  rw [Device.placeFor, h.cfg]
  rfl

theorem Written.berth (h : Written d e g bs) (b : Nat) : e.berth b = d.berth b := by
  rw [h.eq]
  rfl

end

theorem clobberCheck_untracked {d : Device} {w : Nat} (path before : Nat) (h : d.tracked w = none) : d.clobberCheck path w before = d := by
  unfold Device.clobberCheck
  rw [h]

theorem written_markDirty {d e : Device} {g : Nat} {bs : List Byte} (a : Nat) (h : Written d e g bs) : Written d (e.markDirty a) g bs := by
  obtain ⟨heq, hbyte⟩ := h
  unfold Device.markDirty
  split
  · refine ⟨?_, hbyte⟩
    rw [heq]
  · exact ⟨heq, hbyte⟩

/-- A write inside a word that holds no error, of tracked words none, has no event. -/
theorem written_wordWrite {d : Device} {agent path g : Nat} {whole : Bool} {bs : List Byte} (hclean : whole = false → d.eccAt g = .clean)
    (h0 : d.tracked (g / 4 * 4) = none) (h4 : 4 < g % 4 + bs.length → d.tracked (g / 4 * 4 + 4) = none) :
    Written d (d.wordWrite agent path g whole bs) g bs := by
  have hfresh : (if whole then d else (d.checkRead agent g).2) = d := by
    cases whole with
    | true => rfl
    | false =>
      rw [if_neg Bool.false_ne_true, Device.checkRead, hclean rfl]
  have hguard : ¬(d.eccAt g = .uncorrectable ∧ whole = false) := by
    rintro ⟨hu, hw⟩
    rw [hclean hw] at hu
    cases hu
  have hecc : Written d ((d.setEcc g .clean).poke g bs) g bs := ⟨rfl, byte_poke (d.setEcc g .clean) g bs⟩
  have hmarked : Written d (if path = 6 ∨ path = 8 then (d.setEcc g .clean).poke g bs else ((d.setEcc g .clean).poke g bs).markDirty g) g bs := by
    split
    · exact hecc
    · exact written_markDirty g hecc
  unfold Device.wordWrite
  rw [if_neg hguard]
  dsimp only
  rw [hfresh]
  generalize (if path = 6 ∨ path = 8 then (d.setEcc g .clean).poke g bs else ((d.setEcc g .clean).poke g bs).markDirty g) = e at hmarked ⊢
  rw [clobberCheck_untracked _ _ ((hmarked.tracked _).trans h0)]
  split
  · next h => rwa [clobberCheck_untracked _ _ ((hmarked.tracked _).trans (h4 h))]
  · exact hmarked

end Sys2Proof.Proofs
end

section
/-! PROOF. The stack in memory, written (R76, R80): records and spilled frames that lie in a memory. -/

open Sys2Proof Sys2Proof.Machine Sys2Proof.Claims

namespace Sys2Proof.Proofs

/-- A place of a memory lies as its address does within a word of 8 bytes. -/
theorem global_mod_eight {c : Straps} {own : Option Nat} {a g : Nat} {p : Place} (h : placeOf c own a = some p) (hg : p.global = some g) :
    g % 8 = a % 8 := by
  unfold placeOf at h
  dsimp only at h
  split_ifs at h
  · cases own with
    | none => cases h
    | some t =>
      obtain rfl := Option.some.inj h
      have hg := Option.some.inj hg
      unfold sramBase at hg
      omega
  · obtain rfl := Option.some.inj h
    have hg := Option.some.inj hg
    unfold sramBase at hg
    omega
  · next hrange =>
    obtain rfl := Option.some.inj h
    have hg : imageBase + (a - imageBase) = g := Option.some.inj hg
    omega
  · obtain rfl := Option.some.inj h
    cases hg
  · next hrange =>
    obtain rfl := Option.some.inj h
    have hg : retainedBase + (a - retainedBase) = g := Option.some.inj hg
    omega
  · obtain rfl := Option.some.inj h
    cases hg
  · obtain rfl := Option.some.inj h
    cases hg

theorem placeFor_mod_eight {d : Device} {b a g : Nat} (hg : (d.placeFor b a).global = some g) : g % 8 = a % 8 := by
  unfold Device.placeFor at hg
  cases hp : placeOf d.cfg (some (tileOf b)) a with
  | none =>
    rw [hp] at hg
    cases hg
  | some p =>
    rw [hp] at hg
    exact global_mod_eight hp hg

/-- Of an aligned pair the second word lies behind the first. -/
theorem stackAddr_pair (x : Berth) {off : Nat} (h : off % 8 = 0) :
    x.stackAddr off % 8 = 0 ∧ x.stackAddr (off + 4) = x.stackAddr off + 4 := by
  unfold Berth.stackAddr
  omega

/-- A pair of stack words in a memory is one word of it. -/
theorem written_stackPair {d : Device} {b level a0 a1 v0 v1 g : Nat} (hg : (d.placeFor b a0).global = some g) (ha : a0 % 8 = 0)
    (h1 : a1 = a0 + 4) (ht0 : d.tracked g = none) (ht4 : d.tracked (g + 4) = none) :
    Written d (d.stackPair b level a0 a1 v0 v1) g (leBytes 4 v0 ++ leBytes 4 v1) := by
  have hmod : g % 8 = 0 := (placeFor_mod_eight hg).trans ha
  have hwrite : Written d (d.memWrite 0 1 g (leBytes 4 v0 ++ leBytes 4 v1)) g (leBytes 4 v0 ++ leBytes 4 v1) := by
    refine written_wordWrite (fun h => absurd h ?_) ?_ fun _ => ?_
    · rw [List.length_append, length_leBytes, length_leBytes]
      decide
    · rwa [show g / 4 * 4 = g by omega]
    · rwa [show g / 4 * 4 = g by omega]
  unfold Device.stackPair
  generalize d.placeFor b a0 = p at hg ⊢
  cases p with
  | sram | image | retained =>
    dsimp only
    rw [if_pos ⟨ha, h1⟩, hg]
    exact hwrite
  | imageBit | window | external => cases hg

/-- The n words of the stack from an offset lie in a memory from global address g on, and none of them is tracked. -/
def PlacedAt (d : Device) (b off n g : Nat) : Prop :=
  ∀ k < n, (d.placeFor b ((d.berth b).stackAddr (off + 4 * k))).global = some (g + 4 * k) ∧ d.tracked (g + 4 * k) = none

theorem pushWrites_idle {d : Device} {b : Nat} (h : (d.berth b).writes = []) : d.pushWrites b = d := by
  rw [Device.pushWrites, h]
  rfl

/-- Pairs of words of the stack that lie in a memory are written in turn. -/
theorem written_stackWrite {b level : Nat} : ∀ (vs : List Nat) {d : Device} {off g : Nat}, vs.length % 2 = 0 → off % 8 = 0 →
    (d.berth b).writes = [] → PlacedAt d b off vs.length g → Written d (d.stackWrite b level off vs) g (vs.flatMap (leBytes 4))
  | [], d, off, g, _, _, hw, _ => by
    rw [Device.stackWrite, pushWrites_idle hw]
    · exact ⟨rfl, fun a => by unfold overlay; rw [if_neg (by simp)]⟩
    · simp
  | [v], _, _, _, hlen, _, _, _ => absurd hlen (by simp)
  | v0 :: v1 :: r, d, off, g, hlen, hoff, hw, hplaced => by
    have hx := stackAddr_pair (d.berth b) hoff
    obtain ⟨hplace, h0⟩ := hplaced 0 (by simp)
    obtain ⟨_, h1⟩ := hplaced 1 (by simp)
    rw [Nat.mul_zero, Nat.add_zero, Nat.add_zero] at hplace
    rw [Nat.mul_zero, Nat.add_zero] at h0
    have hpair := written_stackPair (level := level) (v0 := v0) (v1 := v1) hplace hx.1 hx.2 h0 h1
    rw [Device.stackWrite]
    have hrest := written_stackWrite (level := level) r (d := d.stackPair b level ((d.berth b).stackAddr off) ((d.berth b).stackAddr (off + 4)) v0 v1)
      (off := off + 8) (g := g + 8) (by rw [List.length_cons, List.length_cons] at hlen; omega) (by omega) (by rw [hpair.berth]; exact hw) fun k hk => by
        rw [hpair.berth, hpair.placeFor, hpair.tracked, show off + 8 + 4 * k = off + 4 * (k + 2) by omega,
          show g + 8 + 4 * k = g + 4 * (k + 2) by omega]
        exact hplaced (k + 2) (by simpa using hk)
    rw [List.flatMap_cons, List.flatMap_cons, ← List.append_assoc]
    exact hpair.trans (by rwa [List.length_append, length_leBytes, length_leBytes])

theorem placedAt_of_recordAt {d : Device} {b off g : Nat} (h : recordAt d b off true g) : PlacedAt d b off 4 g :=
  fun k hk => ⟨place_of_wordsAt (wordsAt_of_recordAt h) hk, (h.2.1 (4 * k) (by omega)).2 rfl⟩

theorem placedAt_of_frameAt {d : Device} {b off h : Nat} (hf : frameAt d b off true h) : PlacedAt d b off 16 h := by
  intro k hk
  refine ⟨place_of_wordsAt (wordsAt_of_frameAt hf) hk, ?_⟩
  have htracked := ((hf (k / 4) (by omega)).2.1 (4 * (k % 4)) (by omega)).2 rfl
  rwa [show h + 16 * (k / 4) + 4 * (k % 4) = h + 4 * k by omega] at htracked

end Sys2Proof.Proofs
end

section
/-! PROOF. Calls (R76): what forbids one, and what one that nothing forbids does: its record, its spill and the slide forward. -/

open Sys2Proof Sys2Proof.Machine Sys2Proof.Claims

namespace Sys2Proof.Proofs

/-! ### What forbids a call -/

theorem recordOff_eq {sp : Nat} (h : 16 ≤ sp) (hlt : sp < 2 ^ 32) : recordOff sp = sp - 16 := by
  unfold recordOff
  omega

/-- The frame that a spill takes, where the slide forward spills (R72). -/
def SpillAt (d : Device) (b h : Nat) : Prop :=
  (d.berth b).spills = true →
    (d.berth b).wsp % 8 = 0 ∧ (d.berth b).wsp + 64 ≤ (d.berth b).srN 6 ∧ frameAt d b (d.berth b).wsp true h

section
variable {d : Device} {b h : Nat} (hspill : SpillAt d b h)
include hspill

theorem spillPriv_false : ((d.berth b).spills && d.stackPriv b (d.berth b).pl (d.berth b).wsp 16 true) = false := by
  cases hs : (d.berth b).spills with
  | false => rfl
  | true =>
    obtain ⟨_, _, hframe⟩ := hspill hs
    rw [stackPriv_of_wordsAt (wordsAt_of_frameAt hframe), Bool.and_false]

theorem spillFault_none : d.spillFault b (d.berth b).pl = none := by
  unfold Device.spillFault
  cases hs : (d.berth b).spills with
  | false => exact if_pos hs
  | true =>
    obtain ⟨halign, hroom, hframe⟩ := hspill hs
    simp only [hs, Bool.true_eq_false, if_false, halign, ne_eq, not_true_eq_false, if_neg (Nat.not_lt.mpr hroom),
      stackCheck_of_wordsAt (wordsAt_of_frameAt hframe), Option.map_none]

variable {c : Ctx} {off sp target g : Nat} (hb : c.b = b) (hlevel : c.level = (d.berth b).pl) (hoff : recordOff sp = off)
  (hrecord : recordAt d b off true g) (hsp : sp % 16 = 0) (hlimit : (d.berth b).srN 8 + 16 ≤ sp) (heven : target % 2 = 0)
include hb hlevel hoff hrecord hsp hlimit heven

/-- Nothing forbids a call to an even target whose record and spill lie in a memory within the limits. -/
theorem callFault_none : d.callFault c sp target = none := by
  have hwords := wordsAt_of_recordAt hrecord
  have halign : ¬((d.berth b).spills = true ∧ (d.berth b).wsp % 8 ≠ 0) := fun hs => hs.2 (hspill hs.1).1
  have hroom : ¬((d.berth b).spills = true ∧ (d.berth b).srN 6 < (d.berth b).wsp + 64) :=
    fun hs => absurd (hspill hs.1).2.1 (Nat.not_le.mpr hs.2)
  have hcheck := stackCheck_of_wordsAt hwords
  unfold Device.callFault
  simp only [hb, hlevel, hoff, stackPriv_of_wordsAt hwords, spillPriv_false hspill, Bool.or_false, Bool.false_eq_true, if_false]
  generalize d.stackCheck b (d.berth b).pl off 4 true = u at hcheck ⊢
  subst hcheck
  rw [if_neg (not_not.mpr hsp), if_neg halign, if_neg (Nat.not_lt.mpr hlimit), if_neg hroom, if_neg (by omega)]
  exact spillFault_none hspill

end

/-! ### The call -/

/-- The berth with a call's SP and a function block's INST and BANK3 (R76). -/
def called (x : Berth) (off : Nat) (fb : Option (Word × Word)) : Berth :=
  match fb with
  | some (inst, bank) => ((x.setReg 7 (BitVec.ofNat 32 off)).setSr 11 inst.toNat).setSr 15 (bank.toNat % 2 ^ 18)
  | none => x.setReg 7 (BitVec.ofNat 32 off)

section
variable {x : Berth} {off : Nat} {fb : Option (Word × Word)}

theorem srN_called {n : Nat} (h11 : n ≠ 11) (h15 : n ≠ 15) : (called x off fb).srN n = x.srN n := by
  cases fb with
  | none => exact Berth.srN_setReg ..
  | some q =>
    rw [called, Berth.srN_setSr, if_neg (Ne.symm h15), Berth.srN_setSr, if_neg (Ne.symm h11), Berth.srN_setReg]

theorem cwp_called : (called x off fb).cwp = x.cwp := by rw [Berth.cwp, srN_called (by decide) (by decide), ← Berth.cwp]

theorem phys_called {p : Nat} (h : 8 ≤ p) : (called x off fb).phys p = x.phys p := by
  have hset : (x.setReg 7 (BitVec.ofNat 32 off)).phys p = x.phys p := by
    rw [Berth.phys_setReg, if_neg (by omega), if_neg (by unfold physReg; simp; omega)]
  cases fb with
  | none => exact hset
  | some q => exact (phys_of_gpr_eq rfl p).trans hset

/-- The spill takes the frame as it stands before the call. -/
theorem spilled_called : (called x off fb).spilled.flatMap (leBytes 4) = frameBytes x ((x.cwp + 2) % 6) := by
  unfold Berth.spilled frameRegs frameBytes
  rw [cwp_called, List.map_map, List.flatMap_map]
  refine List.flatMap_congr fun k _ => ?_
  rw [Function.comp_apply, phys_called (by omega)]

end

end Sys2Proof.Proofs
end

section
/-! PROOF. What a call leaves (R72, R76): its record and its spill in memory, and the berth with the window slid. -/

open Sys2Proof Sys2Proof.Machine Sys2Proof.Claims

namespace Sys2Proof.Proofs

/-! ### The slide forward -/

/-- The window past a slide forward, with its spill's count (R72). -/
def slidForward (x z : Berth) : Berth :=
  if x.spills then
    let w := (z.setWindow ((x.cwp + 1) % 6) 5).setSr 5 (x.wsp + 64)
    w.setSr 4 (setBits (w.srN 4) 8 16 (min (bitsOf (w.srN 4) 8 16 + 1) 0xFFFF))
  else z.setWindow ((x.cwp + 1) % 6) (x.nres + 1)

/-- Only memory and one berth of the device differ. -/
def BerthAndMem (d : Device) (b : Nat) (w : Berth) (byte : Nat → Byte) (e : Device) : Prop :=
  ∃ m, e = Device.setBerth { d with mem := m } b w ∧ ∀ a, Device.byte { d with mem := m } a = byte a

theorem satInc_bitsOf (v lo : Nat) : satInc (bitsOf v lo 16) 0xFFFF = min (bitsOf v lo 16 + 1) 0xFFFF := by
  have h : bitsOf v lo 16 < 2 ^ 16 := Nat.mod_lt _ (by decide)
  unfold satInc
  split <;> omega

theorem placedAt_setBerth {d e : Device} {b off n g g0 : Nat} {bs : List Byte} {z : Berth} (h : PlacedAt d b off n g) (he : Written d e g0 bs)
    (hbank : z.srN 7 = (d.berth b).srN 7) : PlacedAt (e.setBerth b z) b off n g := by
  intro k hk
  obtain ⟨hplace, htracked⟩ := h k hk
  rw [← he.tracked] at htracked
  rw [← he.placeFor, Berth.stackAddr, ← hbank] at hplace
  rw [Device.berth_setBerth_same]
  exact ⟨hplace, htracked⟩

theorem byte_setBerth (d : Device) (b : Nat) (z : Berth) (a : Nat) : (d.setBerth b z).byte a = d.byte a := rfl

theorem byte_withMem (d f : Device) (a : Nat) : Device.byte { d with mem := f.mem } a = f.byte a := rfl

theorem setBerth_of_withMem {d e f : Device} {b : Nat} {z : Berth} (he : e = { d with mem := e.mem })
    (hf : f = { e.setBerth b z with mem := f.mem }) : f = Device.setBerth { d with mem := f.mem } b z := by
  generalize f.mem = n at hf ⊢
  generalize e.mem = m at he
  subst he hf
  rfl

/-- The slide forward of a berth whose spill lies in a memory. -/
theorem slideForward_eq {d e : Device} {b level h g : Nat} {bs : List Byte} {z : Berth} (he : Written d e g bs) (hspill : SpillAt d b h)
    (hsr : ∀ n, n = 4 ∨ n = 5 ∨ n = 7 → z.srN n = (d.berth b).srN n) (hwrites : z.writes = [])
    (hframe : z.spilled.flatMap (leBytes 4) = frameBytes (d.berth b) (((d.berth b).cwp + 2) % 6)) :
    BerthAndMem d b (slidForward (d.berth b) z)
      (if (d.berth b).spills then overlay h (frameBytes (d.berth b) (((d.berth b).cwp + 2) % 6)) (overlay g bs d.byte) else overlay g bs d.byte)
      ((e.setBerth b z).slideForward b level) := by
  have hcwp : z.cwp = (d.berth b).cwp := by rw [Berth.cwp, hsr 4 (.inl rfl), ← Berth.cwp]
  have hnres : z.nres = (d.berth b).nres := by rw [Berth.nres, hsr 4 (.inl rfl), ← Berth.nres]
  have hwsp : z.wsp = (d.berth b).wsp := hsr 5 (.inr (.inl rfl))
  have hspills : z.spills = (d.berth b).spills := by rw [Berth.spills, hnres, ← Berth.spills]
  unfold Device.slideForward slidForward
  dsimp only
  rw [Device.berth_setBerth_same, hspills, hcwp, hnres, hwsp, setBerth_setBerth]
  cases hs : (d.berth b).spills with
  | false =>
    rw [if_neg Bool.false_ne_true, if_neg Bool.false_ne_true, if_neg Bool.false_ne_true]
    refine ⟨e.mem, ?_, fun a => ?_⟩
    · rw [← he.eq]
    · rw [← he.eq]
      exact he.byte a
  | true =>
    rw [if_pos rfl, if_pos rfl, if_pos rfl]
    obtain ⟨halign, _, hplaced⟩ := hspill hs
    have hlength : z.spilled.length = 16 := by
      rw [Berth.spilled, List.length_map, frameRegs, List.length_map, List.length_range]
    have hwritten := written_stackWrite (d := e.setBerth b z) (b := b) (level := level) z.spilled (off := (d.berth b).wsp) (g := h)
      (by rw [hlength]) halign (by rw [Device.berth_setBerth_same]; exact hwrites)
      (hlength ▸ placedAt_setBerth (placedAt_of_frameAt hplaced) he (hsr 7 (.inr (.inr rfl))))
    rw [hframe] at hwritten
    generalize (e.setBerth b z).stackWrite b level (d.berth b).wsp z.spilled = f at hwritten ⊢
    have hf : f.berth b = z := (hwritten.berth b).trans (Device.berth_setBerth_same ..)
    unfold Device.slideSpilled
    dsimp only
    rw [hf, hcwp, hwsp, satInc_bitsOf]
    have hdevice : f = Device.setBerth { d with mem := f.mem } b z := setBerth_of_withMem he.eq hwritten.eq
    have hbytes : f.byte = overlay h (frameBytes (d.berth b) (((d.berth b).cwp + 2) % 6)) (overlay g bs d.byte) := by
      funext a
      rw [hwritten.byte]
      unfold overlay
      rw [byte_setBerth, he.byte]
      rfl
    refine ⟨f.mem, ?_, fun a => (byte_withMem d f a).trans (congrFun hbytes a)⟩
    rw [← setBerth_setBerth { d with mem := f.mem } b z, ← hdevice]

/-! ### The call in full -/

theorem slidForward_eq (x z : Berth) : slidForward x z = { z with sr := (slidForward x z).sr } := by
  unfold slidForward
  split <;> rfl

theorem called_eq {x : Berth} (off : Nat) (fb : Option (Word × Word)) (hl : x.loads = []) :
    called x off fb = { x with sr := (called x off fb).sr, gpr := (called x off fb).gpr } := by
  cases fb with
  | none =>
    rw [called, setReg_eq _ _ hl]
  | some q =>
    rw [called, setReg_eq _ _ hl]
    rfl

/-- With no operation of the berth in flight nothing of the record waits (R76). -/
theorem recordWait_idle {d : Device} {b : Nat} (first : Nat) (hw : (d.berth b).writes = []) (hs : (d.berth b).stores = []) :
    d.recordWait b first = d := by
  unfold Device.recordWait
  simp [hw, hs]

theorem recordBytes_eq (x : Berth) (ret : Nat) (fb : Bool) :
    [ret % 2 ^ 32, frameWord ret fb, x.srN 11, x.srN 15].flatMap (leBytes 4) = recordBytes x ret fb := by
  have hret : leBytes 4 (ret % 2 ^ 32) = leBytes 4 ret := leBytes_mod 4 ret
  simp only [List.flatMap_cons, List.flatMap_nil, hret, List.append_nil, Claims.recordBytes, List.append_assoc]

section
variable {d : Device} {b h g sp off : Nat} {c : Ctx} (hl : (d.berth b).loads = []) (hstores : (d.berth b).stores = [])
  (hw : (d.berth b).writes = []) (hspill : SpillAt d b h) (hrecord : recordAt d b off true g) (hoff : recordOff sp = off)
  (halign : off % 8 = 0) (hb : c.b = b)
include hl hstores hw hspill hrecord hoff halign hb

/-- What the call writes and where its window goes. -/
theorem callDo_eq (target : Nat) (fb : Option (Word × Word)) :
    BerthAndMem d b (slidForward (d.berth b) (called (d.berth b) off fb))
      (if (d.berth b).spills then overlay h (frameBytes (d.berth b) (((d.berth b).cwp + 2) % 6))
          (overlay g (recordBytes (d.berth b) (seqPc c.pc c.len) fb.isSome) d.byte)
        else overlay g (recordBytes (d.berth b) (seqPc c.pc c.len) fb.isSome) d.byte) (d.callDo c sp target fb).1 := by
  have hwritten := written_stackWrite (level := c.level)
    [seqPc c.pc c.len % 2 ^ 32, frameWord (seqPc c.pc c.len) fb.isSome, (d.berth b).srN 11, (d.berth b).srN 15] (d := d) (b := b)
    (by simp) halign hw (placedAt_of_recordAt hrecord)
  rw [recordBytes_eq] at hwritten
  have hdrain (offs : List Nat) : d.drainStack b offs = d := drainStack_idle _ hl hstores
  have hcalled := called_eq off fb hl
  obtain ⟨m, hslide, hbyte⟩ := slideForward_eq (level := c.level) (z := called (d.berth b) off fb) hwritten hspill
    (fun n hn => srN_called (by omega) (by omega)) (by rw [hcalled]; exact hw) spilled_called
  refine ⟨m, ?_, hbyte⟩
  have hwait : ∀ e, e = Device.setBerth { d with mem := m } b (slidForward (d.berth b) (called (d.berth b) off fb)) →
      e.recordWait b (d.berth b).seq = e := fun e he => recordWait_idle _
    (by rw [he, Device.berth_setBerth_same, slidForward_eq, hcalled]; exact hw)
    (by rw [he, Device.berth_setBerth_same, slidForward_eq, hcalled]; exact hstores)
  rw [← hslide]
  unfold Device.callDo
  simp only [hb, hoff, hdrain, hwritten.berth]
  cases fb with
  | none => exact hwait _ hslide
  | some q => exact hwait _ hslide

omit hl hstores hw hoff halign hb in
/-- No access of the call is a breach. -/
theorem callBreach_none : d.timed b = false ∨
    ((if (d.berth b).spills then [off, (d.berth b).wsp] else [off]).map fun o => d.stackBreach b o).foldl max 0 = 0 := by
  refine breach_of_offsets fun o ho => ?_
  split at ho
  · next hs =>
    rcases List.mem_cons.mp ho with rfl | ho
    · exact hrecord.2.2
    · rw [List.mem_singleton.mp ho]
      exact ((hspill hs).2.2 0 (by decide)).2.2
  · rw [List.mem_singleton.mp ho]
    exact hrecord.2.2

end

/-! ### The completion of an instruction that has written memory -/

theorem leaves_withMem {d : Device} {i : Site} {e : Effect} (m : MemSys) (w : Berth) (hready : d.ready i = true)
    (hbreach : d.timed i.b = false ∨ e.breach = 0) :
    Device.Leaves { d with mem := m } i (w.advance (d.berth i.b).pc.toNat i.len e).issued
      { (Device.setBerth { d with mem := m } i.b w).complete (d.ctx i) e with cfg := d.cfg } := by
  obtain ⟨_, _, _, _, _, hwatched, _, _, _, _, hfetch⟩ := d.ready_parts i hready
  have h := leaves_complete_of (d := { d with mem := m }) (c := d.ctx i) rfl (differsAt_setBerth _ _ w) hwatched hbreach hfetch
  rwa [Device.berth_setBerth_same] at h

end Sys2Proof.Proofs
end

section
/-! PROOF. CallsAndReturns (R72 to R79, R126): the four calls and RET. -/

open Sys2Proof Sys2Proof.Machine Sys2Proof.Claims

namespace Sys2Proof.Proofs

/-- A call that nothing forbids is made. (The definition is unfolded as a function, away from its arguments: the kernel would evaluate the
words' addresses.) -/
theorem call_done {d : Device} {c : Ctx} {sp target : Nat} {fb : Option (Word × Word)} (hl : (d.berth c.b).loads = [])
    (hsp : ((d.berth c.b).operand 7).toNat = sp) (hfault : d.callFault c sp target = none) :
    d.call c target fb = .done (d.callDo c sp target fb).1 (d.callDo c sp target fb).2 := by
  have hwaits : (d.berth c.b).spillWaits = false := by simp [Berth.spillWaits, hl]
  obtain ⟨F, hF⟩ : ∃ F, F = Device.call := ⟨_, rfl⟩
  rw [← hF]
  delta Device.call at hF
  rw [hF]
  simp only [hsp]
  generalize d.callFault c sp target = u at hfault ⊢
  subst hfault
  dsimp only
  rw [hwaits, if_neg Bool.false_ne_true]

theorem issue_done {d d' : Device} {i : Site} {op : Op} {e : Effect} (hready : d.ready i = true) (hrun : op.run (d.ctx i) d = .done d' e) :
    d.issue i op = d'.complete (d.ctx i) e := by
  rw [d.issue_ready i op hready, hrun]

theorem callOp_run (reads : List Nat) (tgt : Ctx → Berth → Nat) (fbOf : Berth → Option (Word × Word)) (c : Ctx) (d : Device) :
    (callOp reads tgt fbOf).run c d = d.call c (tgt c (d.berth c.b)) (fbOf (d.berth c.b)) := by
  rw [callOp]

/-- A call's effect is its transfer, and no breach. -/
theorem callDo_effect {d : Device} {b h g sp off : Nat} {c : Ctx} (hspill : SpillAt d b h) (hrecord : recordAt d b off true g)
    (hoff : recordOff sp = off) (hb : c.b = b) (target : Nat) (fb : Option (Word × Word)) :
    (d.callDo c sp target fb).2.target = some target ∧ (d.callDo c sp target fb).2.shadow = none ∧
    (d.timed b = false ∨ (d.callDo c sp target fb).2.breach = 0) := by
  subst hb hoff
  exact ⟨rfl, rfl, callBreach_none hspill hrecord⟩

/-- What an instruction leaves that has written memory and its berth alone. -/
def leavesBytes (d : Device) (i : Site) (w : Berth) (byte : Nat → Byte) (e : Device) : Prop :=
  e.berth i.b = w ∧ (∀ a, e.byte a = byte a) ∧ (∀ b, b ≠ i.b → e.berth b = d.berth b) ∧ e.bol = d.bol ∧ e.eng = d.eng ∧ e.pad = d.pad ∧
    e.scn = d.scn

theorem leavesBytes_of_leaves {d e : Device} {i : Site} {m : MemSys} {w : Berth} {byte : Nat → Byte}
    (h : Device.Leaves { d with mem := m } i w e) (hbyte : ∀ a, Device.byte { d with mem := m } a = byte a) : leavesBytes d i w byte e := by
  obtain ⟨hw, hother, _, heq⟩ := h
  refine ⟨hw, fun a => ?_, fun b hb => hother b hb, ?_, ?_, ?_, ?_⟩
  · rw [← hbyte, heq]
    rfl
  all_goals rw [heq]

section
variable {s : State} {i : Site} {c : Instr} {reads : List Nat} {tgt : Ctx → Berth → Nat} {fbOf : Berth → Option (Word × Word)}
  (hexec : exec c s = s.upd fun d => d.issue i (callOp reads tgt fbOf)) (hready : s.dev.ready i = true)
include hexec hready

/-- A call that nothing forbids, with a frame left or with the oldest one spilled. -/
theorem call_completes {g h : Nat} (hstores : (s.dev.berth i.b).stores = []) (hsp : ((s.dev.berth i.b).operand 7).toNat % 16 = 0)
    (hlimit : (s.dev.berth i.b).srN 8 + 16 ≤ ((s.dev.berth i.b).operand 7).toNat)
    (heven : tgt (s.dev.ctx i) (s.dev.berth i.b) % 2 = 0)
    (hrecord : recordAt s.dev i.b (((s.dev.berth i.b).operand 7).toNat - 16) true g) (hspill : SpillAt s.dev i.b h) :
    Completes c s (leavesBytes s.dev i
      ((slidForward (s.dev.berth i.b) (called (s.dev.berth i.b) (((s.dev.berth i.b).operand 7).toNat - 16)
        (fbOf (s.dev.berth i.b)))).goesTo (tgt (s.dev.ctx i) (s.dev.berth i.b)))
      (if (s.dev.berth i.b).spills then overlay h (frameBytes (s.dev.berth i.b) (((s.dev.berth i.b).cwp + 2) % 6))
          (overlay g (Claims.recordBytes (s.dev.berth i.b) (seqPc (s.dev.berth i.b).pc.toNat i.len) (fbOf (s.dev.berth i.b)).isSome) s.dev.byte)
        else overlay g (Claims.recordBytes (s.dev.berth i.b) (seqPc (s.dev.berth i.b).pc.toNat i.len) (fbOf (s.dev.berth i.b)).isSome)
          s.dev.byte)) := by
  obtain ⟨_, _, _, hl, hw, _⟩ := s.dev.ready_parts i hready
  have hoff : recordOff ((s.dev.berth i.b).operand 7).toNat = ((s.dev.berth i.b).operand 7).toNat - 16 :=
    recordOff_eq (by omega) (BitVec.isLt _)
  have hfault : s.dev.callFault (s.dev.ctx i) ((s.dev.berth i.b).operand 7).toNat (tgt (s.dev.ctx i) (s.dev.berth i.b)) = none :=
    callFault_none (c := s.dev.ctx i) hspill rfl rfl hoff hrecord hsp hlimit heven
  obtain ⟨m, hdo, hbyte⟩ := callDo_eq (c := s.dev.ctx i) hl hstores hw hspill hrecord hoff (by omega) rfl
    (tgt (s.dev.ctx i) (s.dev.berth i.b)) (fbOf (s.dev.berth i.b))
  have hrun := call_done (c := s.dev.ctx i) (sp := ((s.dev.berth i.b).operand 7).toNat) (fb := fbOf (s.dev.berth i.b)) hl rfl hfault
  rw [hdo] at hrun
  obtain ⟨htarget, hshadow, hbreach⟩ := callDo_effect (c := s.dev.ctx i) hspill hrecord hoff rfl (tgt (s.dev.ctx i) (s.dev.berth i.b))
    (fbOf (s.dev.berth i.b))
  refine completes_of_exec hexec (leavesBytes_of_leaves (m := m) ?_ hbyte)
  rw [issue_done hready ((callOp_run reads tgt fbOf (s.dev.ctx i) s.dev).trans hrun)]
  have hleaves := leaves_withMem m (slidForward (s.dev.berth i.b) (called (s.dev.berth i.b) (((s.dev.berth i.b).operand 7).toNat - 16)
    (fbOf (s.dev.berth i.b)))) (e := (s.dev.callDo (s.dev.ctx i) ((s.dev.berth i.b).operand 7).toNat
      (tgt (s.dev.ctx i) (s.dev.berth i.b)) (fbOf (s.dev.berth i.b))).2) hready hbreach
  rwa [Berth.advance, htarget, hshadow] at hleaves

/-- The calls of the statement: with a frame left, and with the oldest one spilled. -/
theorem calls_of_exec {target : Nat} {fb : Option (Word × Word)} (htgt : tgt (s.dev.ctx i) (s.dev.berth i.b) = target)
    (hfb : fbOf (s.dev.berth i.b) = fb) : calls s i c target fb := by
  intro g hstores hsp hlimit heven hrecord
  rw [← htgt] at heven
  refine ⟨fun hn => ?_, fun h hn halign hroom hframe => ?_⟩
  · have hspills : (s.dev.berth i.b).spills = false := beq_eq_false_iff_ne.mpr (by omega)
    have hcall := call_completes (h := 0) hexec hready hstores hsp hlimit heven hrecord fun hs => absurd (hspills.symm.trans hs) (by decide)
    rw [slidForward, hspills, if_neg Bool.false_ne_true, if_neg Bool.false_ne_true, htgt, hfb] at hcall
    cases fb <;> exact hcall
  · have hspills : (s.dev.berth i.b).spills = true := beq_iff_eq.mpr hn
    have hcall := call_completes (h := h) hexec hready hstores hsp hlimit heven hrecord fun _ => ⟨halign, hroom, hframe⟩
    rw [slidForward, hspills, if_pos rfl, if_pos rfl, htgt, hfb] at hcall
    cases fb <;> exact hcall

end

/-- The target of a transfer through a register and its bank (R84). -/
theorem regTarget_eq (x : Berth) (rt : Reg5) (bk : BitVec 2) :
    x.regTarget rt bk = x.srN (12 + bk.toNat) * 2 ^ 32 + (x.operand rt.toNat).toNat := by
  rw [Berth.regTarget, Berth.banked, Nat.mod_eq_of_lt (BitVec.isLt _)]

/-- Settles O9: a call is its record, its spill and the slide forward; RET is the slide back, and its record's restored registers. -/
theorem callsAndReturns : Obligations.CallsAndReturns := by
  refine ⟨fun s i rs1 rs2 rt bk d24 d14 hready => ⟨?_, ?_, ?_, ?_⟩, fun s i g h hready => ?_⟩
  · exact calls_of_exec (reads := []) (tgt := fun c _ => relTarget c.pc (d24.signExtend 32)) (fbOf := fun _ => none) rfl hready
      (relTarget_eq_relative _ _) rfl
  · exact calls_of_exec (reads := [rt.toNat]) (tgt := fun _ x => x.regTarget rt bk) (fbOf := fun _ => none) rfl hready
      (regTarget_eq _ _ _) rfl
  · exact calls_of_exec (reads := [rs1.toNat, rs2.toNat]) (tgt := fun c _ => relTarget c.pc (d14.signExtend 32)) (fbOf := fbArgs rs1 rs2)
      rfl hready (relTarget_eq_relative _ _) rfl
  · exact calls_of_exec (reads := [rs1.toNat, rs2.toNat, rt.toNat]) (tgt := fun _ x => x.regTarget rt bk) (fbOf := fbArgs rs1 rs2)
      rfl hready (regTarget_eq _ _ _) rfl
  · intro d x sp lo frame target fb hstores hs _ _ hrecord hgood heven
    refine completes_of_exec (f := fun d => d.issue i retOp) rfl ?_
    exact ret_leaves hready hstores hrecord hs (beq_iff_eq.mpr hgood) heven

end Sys2Proof.Proofs
end

section
/-! PROOF. ImageBitAccess (R82, R131, R132): the operations that deliver an image bit, and those that write it. -/

open Sys2Proof Sys2Proof.Machine Sys2Proof.Claims

namespace Sys2Proof.Proofs

/-! ### One bit of the image -/

/-- The second device differs from the first in memory alone, and there in one image bit at most, which has a value. -/
structure BitSet (d e : Device) (k : Nat) (v : Bool) : Prop where
  eq : e = { d with mem := e.mem }
  bit : e.imageBit k = v
  byte : ∀ a, a ≠ bitAddr k → e.byte a = d.byte a
  others : ∀ j, j ≠ k → e.imageBit j = d.imageBit j

theorem bitAddr_inj {j k : Nat} : bitAddr j = bitAddr k ↔ j / 8 = k / 8 := Nat.add_left_cancel_iff

theorem bitSet_self (d : Device) (k : Nat) : BitSet d d k (d.imageBit k) := ⟨rfl, rfl, fun _ _ => rfl, fun _ _ => rfl⟩

/-- A write of an image bit in a word that holds no error and is not tracked (R132). -/
theorem bitSet_setImageBit {d : Device} {agent k : Nat} (v : Bool) (hclean : d.eccAt (bitAddr k) = .clean)
    (htracked : d.tracked (bitAddr k / 4 * 4) = none) : BitSet d (d.setImageBit agent k v) k v := by
  have hwritten : Written d (d.setImageBit agent k v) (bitAddr k)
      [BitVec.ofNat 8 (setBits (d.byte (bitAddr k)).toNat (k % 8) 1 (bit01 v))] :=
    written_wordWrite (fun _ => hclean) htracked fun h => by rw [List.length_singleton] at h; omega
  obtain ⟨heq, hbyte⟩ := hwritten
  have hsame : (d.setImageBit agent k v).byte (bitAddr k) = BitVec.ofNat 8 (setBits (d.byte (bitAddr k)).toNat (k % 8) 1 (bit01 v)) := by
    rw [hbyte, overlay, if_pos ⟨le_refl _, Nat.lt_succ_self _⟩, Nat.sub_self]
    rfl
  have hother (a : Nat) (ha : a ≠ bitAddr k) : (d.setImageBit agent k v).byte a = d.byte a := by
    rw [hbyte, overlay, if_neg (by rw [List.length_singleton]; omega)]
  have hbit (j : Nat) (hj : j / 8 = k / 8) :
      (d.setImageBit agent k v).imageBit j = (setBits (d.byte (bitAddr k)).toNat (k % 8) 1 (bit01 v)).testBit (j % 8) := by
    rw [Device.imageBit, bitAddr_inj.mpr hj, hsame, BitVec.toNat_ofNat, bitOf_mod (Nat.mod_lt _ (by decide)), bitOf_eq_testBit]
  refine ⟨heq, ?_, hother, fun j hj => ?_⟩
  · rw [hbit k rfl, testBit_setBits, if_pos (by omega), Nat.sub_self]
    cases v <;> rfl
  · by_cases hplace : j / 8 = k / 8
    · rw [hbit j hplace, testBit_setBits, if_neg (by omega), Device.imageBit, bitAddr_inj.mpr hplace, bitOf_eq_testBit]
    · rw [Device.imageBit, hother _ fun h => hplace (bitAddr_inj.mp h), ← Device.imageBit]

/-! ### The operation -/

theorem bitIndex_eq (x : Berth) (n : BitName) : x.bitIndex n = bitNumber x n := by cases n <;> rfl

/-- No packet is recorded of data that nothing watches (R498). -/
theorem traceData_unwatched {d : Device} (b kind a n v : Nat) (h : d.watched = false) : d.traceData b kind a n v = d := by
  unfold Device.watched at h
  rw [Bool.or_eq_false_iff, Bool.and_eq_false_iff, Bool.or_eq_false_iff] at h
  unfold Device.traceData
  split
  · next q =>
    rw [Bool.and_eq_true] at q
    rcases h.1 with g | g
    · simp [Device.record, g]
    · simp [g.2] at q
  · rfl

/-- The device once an operation has written an image bit, if it does. -/
def bitWritten (d : Device) (k : Nat) (w : Option Bool) : Device :=
  match w with
  | some v => d.setImageBit 0 k v
  | none => d

/-- What an operation on an image bit comes to, by what it writes to rd. -/
def bitIssued (d : Device) (c : Ctx) (rd : Reg5) (o : Option Bool) (e : Effect) : Issued :=
  match o with
  | some v => d.fixed c rd.toNat (bit01 v) e
  | none => .done d e

section
variable {d : Device} {c : Ctx} {f : Bool → Bool → Option Bool × Option Bool} {write res : Bool} {rd : Reg5} {n : BitName}
  {k : Nat} {o w : Option Bool}

/-- An image bit operation that nothing forbids. -/
theorem bitOp_run (hl : (d.berth c.b).loads = []) (hs : (d.berth c.b).stores = []) (hfree : d.loadFree c.b = true)
    (hk : bitNumber (d.berth c.b) n = k) (hfault : d.bitFault c.level k write = none) (hclean : d.eccAt (bitAddr k) = .clean)
    (hf : f (((d.berth c.b).operand rd.toNat).getLsbD 0) (d.imageBit k) = (o, w)) (hwatched : (bitWritten d k w).watched = false) :
    ∃ acc, (bitOp f write res rd n).run c d =
      bitIssued (bitWritten d k w) c rd o { Effect.next with breach := 1, access := acc } := by
  have hbit : bitOf ((d.berth c.b).operand rd.toNat).toNat 0 = ((d.berth c.b).operand rd.toNat).getLsbD 0 := by
    rw [bitOf_eq_testBit, BitVec.testBit_toNat]
  refine ⟨(if write then [(true, aliasAddr k, 4)] else []) ++ (if res then [(false, aliasAddr k, 4)] else []), ?_⟩
  rw [bitOp]
  simp only [bitIndex_eq, hk, hfree, hbit, drain_idle _ hl hs, hf, Bool.not_true, Bool.and_false, Bool.false_eq_true, if_false]
  generalize d.bitFault c.level k write = u at hfault ⊢
  subst hfault
  cases w with
  | some v =>
    rw [bitWritten] at hwatched ⊢
    simp only [traceData_unwatched _ _ _ _ _ hwatched]
    cases o <;> rfl
  | none =>
    have hread : (d.checkRead 0 (bitAddr k)).2 = d := by rw [Device.checkRead, hclean]
    simp only [bitWritten] at hwatched
    simp only [hread, bitWritten, traceData_unwatched _ _ _ _ _ hwatched]
    cases o <;> rfl

end

/-! ### What it leaves -/

/-- A berth that differs from another in no special register goes on as that one does, with the load-delay position of its effect. -/
theorem advance_of_sr_eq {x y : Berth} {i : Site} {e : Effect} (hsr : y.sr = x.sr) (ht : e.target = none) :
    (y.advance x.pc.toNat i.len e).issued = { movedOn y (x.goesOn i).sr (x.goesOn i).pc with shadow := e.shadow } := by
  simp only [Berth.advance, ht, Berth.goesOn, Effect.next, loopLevels_of_sr_eq hsr, Berth.issued, movedOn]

/-- A berth with one more result of its load queue, known at issue (R44). -/
def withResult (x : Berth) (rd : Reg5) (v : Word) : Berth :=
  { x with
    loads := x.loads ++ [⟨if physReg x.cwp rd.toNat = 0 then none else some (physReg x.cwp rd.toNat), .value v, x.pc, x.seq, none, false⟩]
    seq := x.seq + 1 }

theorem pushLoad_value (d : Device) (b : Nat) (rd : Reg5) (v : Word) :
    d.pushLoad b rd.toNat (.value v) none = d.setBerth b (withResult (d.berth b) rd v) := rfl

/-- A berth that goes on behind a result known at issue. -/
theorem queued_eq {x : Berth} {i : Site} {rd : Reg5} {v : Word} {e : Effect} (hl : x.loads = []) (ht : e.target = none)
    (hs : e.shadow = x.delay rd.toNat) :
    ((withResult x rd v).advance x.pc.toNat i.len e).issued = queued x i rd v := by
  rw [withResult, advance_of_sr_eq (x := x) (by rfl) ht, queued, goesOn_self x, hs, hl]
  simp only [physReg_eq_zero_iff]
  rfl

theorem ofNat_bit01 (v : Bool) : BitVec.ofNat 32 (bit01 v) = if v then 1 else 0 := by cases v <;> rfl

/-- The berth past an image bit operation, by what it writes to rd. -/
def bitLeft (x : Berth) (i : Site) (rd : Reg5) (o : Option Bool) : Berth :=
  match o with
  | some v => queued x i rd (if v then 1 else 0)
  | none => x.goesOn i

section
variable {d : Device} {i : Site} {f : Bool → Bool → Option Bool × Option Bool} {write res : Bool} {rd : Reg5} {n : BitName}
  {k : Nat} {o w : Option Bool} {v : Bool}

omit n k w v in
/-- What such an operation comes to changes its berth alone, which goes on. -/
theorem bitIssued_eq (e : Device) {x : Berth} {eff : Effect} (hx : e.berth i.b = x) (hl : x.loads = []) (ht : eff.target = none)
    (hs : eff.shadow = none) : ∃ d' e', bitIssued e (e.ctx i) rd o eff = .done d' e' ∧ DiffersAt e i.b d' ∧
      ((d'.berth i.b).advance x.pc.toNat i.len e').issued = bitLeft x i rd o := by
  subst hx
  cases o with
  | some v =>
    refine ⟨_, _, rfl, differsAt_setBerth e i.b (withResult (e.berth i.b) rd (BitVec.ofNat 32 (bit01 v))), ?_⟩
    rw [pushLoad_value, Device.ctx, Device.berth_setBerth_same, bitLeft, ← ofNat_bit01]
    exact queued_eq hl ht rfl
  | none =>
    refine ⟨e, eff, rfl, differsAt_refl _ _, ?_⟩
    rw [advance_of_sr_eq rfl ht, hs, bitLeft, goesOn_self]
    rfl

/-- The completion of an image bit operation that has changed memory alone. -/
theorem leaves_bitIssued {m : MemSys} {op : Op} {acc : List (Bool × Nat × Nat)} (hready : d.ready i = true) (htimed : d.timed i.b = false)
    (hrun : op.run (d.ctx i) d = bitIssued { d with mem := m } (d.ctx i) rd o { Effect.next with breach := 1, access := acc }) :
    Device.Leaves { d with mem := m } i (bitLeft (d.berth i.b) i rd o) { d.issue i op with cfg := d.cfg } := by
  obtain ⟨_, _, _, hl, _, hwatched, _, _, _, _, hfetch⟩ := d.ready_parts i hready
  obtain ⟨d', e', heq, hd, hleft⟩ := bitIssued_eq (i := i) (rd := rd) (o := o) { d with mem := m } (x := d.berth i.b)
    (eff := { Effect.next with breach := 1, access := acc }) rfl hl rfl rfl
  rw [issue_done hready (hrun.trans heq), ← hleft]
  exact leaves_complete_of (d := { d with mem := m }) (c := d.ctx i) rfl hd hwatched (.inl htimed) hfetch

/-- The issue of an image bit operation that nothing forbids. -/
theorem leaves_bitOp (hready : d.ready i = true) (hs : (d.berth i.b).stores = []) (htimed : d.timed i.b = false)
    (hfree : d.loadFree i.b = true) (hk : bitNumber (d.berth i.b) n = k) (hfault : d.bitFault (d.berth i.b).pl k write = none)
    (hclean : d.eccAt (bitAddr k) = .clean) (hf : f (((d.berth i.b).operand rd.toNat).getLsbD 0) (d.imageBit k) = (o, w))
    (hset : BitSet d (bitWritten d k w) k v) :
    Device.Leaves { d with mem := (bitWritten d k w).mem } i (bitLeft (d.berth i.b) i rd o)
      { d.issue i (bitOp f write res rd n) with cfg := d.cfg } := by
  obtain ⟨_, _, _, hl, _, hwatched, _⟩ := d.ready_parts i hready
  have hwatched' : (bitWritten d k w).watched = false := by
    rw [hset.eq]
    exact hwatched
  obtain ⟨acc, hrun⟩ := bitOp_run (c := d.ctx i) (res := res) hl hs hfree hk hfault hclean hf hwatched'
  rw [hset.eq] at hrun
  exact leaves_bitIssued hready htimed hrun

end

section
variable {s : State} {i : Site} {c : Instr} {rd : Reg5} {n : BitName} {f : Bool → Bool → Option Bool × Option Bool} {write res : Bool}
  {g : Bool → Bool → Bool}

/-- The operations that write rd alone. -/
theorem bitReads_of_exec (hexec : exec c s = s.upd fun d => d.issue i (bitOp f write res rd n)) (hready : s.dev.ready i = true)
    (hs : (s.dev.berth i.b).stores = []) (htimed : s.dev.timed i.b = false) (hfree : s.dev.loadFree i.b = true)
    (hfault : s.dev.bitFault (s.dev.berth i.b).pl (bitNumber (s.dev.berth i.b) n) write = none)
    (hclean : s.dev.eccAt (bitAddr (bitNumber (s.dev.berth i.b) n)) = .clean) (hf : ∀ r m, f r m = (some (g r m), none)) :
    Completes c s fun e => s.dev.Leaves i (queued (s.dev.berth i.b) i rd
      (if g (((s.dev.berth i.b).operand rd.toNat).getLsbD 0) (s.dev.imageBit (bitNumber (s.dev.berth i.b) n)) then 1 else 0)) e :=
  completes_of_exec hexec (leaves_bitOp hready hs htimed hfree rfl hfault hclean (hf _ _) (bitSet_self _ _))

/-- The operations that write the image: g gives the bit, and h what is written to rd. -/
theorem bitWrites_of_exec {h : Option (Bool → Bool → Bool)} (hexec : exec c s = s.upd fun d => d.issue i (bitOp f write res rd n))
    (hready : s.dev.ready i = true) (hs : (s.dev.berth i.b).stores = []) (htimed : s.dev.timed i.b = false)
    (hfree : s.dev.loadFree i.b = true)
    (hfault : s.dev.bitFault (s.dev.berth i.b).pl (bitNumber (s.dev.berth i.b) n) write = none)
    (hclean : s.dev.eccAt (bitAddr (bitNumber (s.dev.berth i.b) n)) = .clean)
    (htracked : s.dev.tracked (bitAddr (bitNumber (s.dev.berth i.b) n) / 4 * 4) = none)
    (hf : ∀ r m, (f r m).1 = (h.map fun q => q r m) ∧ (f r m).2.getD m = g r m) :
    Completes c s fun e =>
      (e.berth i.b = bitLeft (s.dev.berth i.b) i rd
        (h.map fun q => q (((s.dev.berth i.b).operand rd.toNat).getLsbD 0) (s.dev.imageBit (bitNumber (s.dev.berth i.b) n)))) ∧
      e.imageBit (bitNumber (s.dev.berth i.b) n) =
        g (((s.dev.berth i.b).operand rd.toNat).getLsbD 0) (s.dev.imageBit (bitNumber (s.dev.berth i.b) n)) ∧
      (∀ a, a ≠ bitAddr (bitNumber (s.dev.berth i.b) n) → e.byte a = s.dev.byte a) ∧
      (∀ j, j ≠ bitNumber (s.dev.berth i.b) n → e.imageBit j = s.dev.imageBit j) ∧ (∀ b, b ≠ i.b → e.berth b = s.dev.berth b) := by
  set d := s.dev with hd
  set x := d.berth i.b with hx
  set k := bitNumber x n with hk
  set r := (x.operand rd.toNat).getLsbD 0 with hr
  set w := (f r (d.imageBit k)).2 with hw
  have hset : BitSet d (bitWritten d k w) k (g r (d.imageBit k)) := by
    rw [← (hf _ _).2, ← hw]
    cases w with
    | some v => exact bitSet_setImageBit v hclean htracked
    | none => exact bitSet_self d k
  refine completes_of_exec hexec ?_
  have hleaves := leaves_bitOp (res := res) hready hs htimed hfree rfl hfault hclean (Prod.ext (hf r _).1 rfl) hset
  generalize { s.dev.issue i (bitOp f write res rd n) with cfg := s.dev.cfg } = e at hleaves ⊢
  obtain ⟨hberth, hothers, _, heq⟩ := hleaves
  have hbyte (a : Nat) : e.byte a = (bitWritten d k w).byte a := by
    rw [heq]
    rfl
  refine ⟨hberth, ?_, fun a ha => (hbyte a).trans (hset.byte a ha), fun j hj => ?_, hothers⟩
  · rw [← hset.bit, Device.imageBit, hbyte, ← Device.imageBit]
  · rw [← hset.others j hj, Device.imageBit, hbyte, ← Device.imageBit]

end

/-- The operations of the instructions that write rd alone. -/
theorem bitReads_ops (s : State) (i : Site) (rd : Reg5) (n : BitName) : ∀ q ∈ bitReads, ∃ f : Bool → Bool → Option Bool × Option Bool,
    (exec (q.1 i rd n) s = s.upd fun d => d.issue i (bitOp f false true rd n)) ∧ ∀ r m, f r m = (some (q.2 r m), none) := by
  simp only [bitReads, List.forall_mem_cons]
  exact ⟨⟨_, rfl, by decide⟩, ⟨_, rfl, by decide⟩, ⟨_, rfl, by decide⟩, ⟨_, rfl, by decide⟩, ⟨_, rfl, by decide⟩, ⟨_, rfl, by decide⟩,
    ⟨_, rfl, by decide⟩, ⟨_, rfl, by decide⟩, fun _ h => absurd h List.not_mem_nil⟩

/-- The operations of those that write the image. -/
theorem bitWrites_ops (s : State) (i : Site) (rd : Reg5) (n : BitName) : ∀ q ∈ bitWrites,
    ∃ (f : Bool → Bool → Option Bool × Option Bool) (res : Bool),
      (exec (q.1 i rd n) s = s.upd fun d => d.issue i (bitOp f true res rd n)) ∧
      ∀ r m, (f r m).1 = q.2.2.map (fun h => h r m) ∧ (f r m).2.getD m = q.2.1 r m := by
  simp only [bitWrites, List.forall_mem_cons]
  exact ⟨⟨_, _, rfl, by decide⟩, ⟨_, _, rfl, by decide⟩, ⟨_, _, rfl, by decide⟩, ⟨_, _, rfl, by decide⟩, ⟨_, _, rfl, by decide⟩,
    fun _ h => absurd h List.not_mem_nil⟩

/-- Settles O12: an image bit operation delivers its result through the load queue, and writes one bit of the image at most. -/
theorem imageBitAccess : Obligations.ImageBitAccess := by
  refine ⟨fun s i rd n hready hs htimed hfree hfault hclean q hq => ?_,
    fun s i rd n hready hs htimed hfree hfault hclean htracked q hq => ?_⟩
  · obtain ⟨f, hexec, hf⟩ := bitReads_ops s i rd n q hq
    exact bitReads_of_exec hexec hready hs htimed hfree hfault hclean hf
  · obtain ⟨f, res, hexec, hf⟩ := bitWrites_ops s i rd n q hq
    have h := bitWrites_of_exec hexec hready hs htimed hfree hfault hclean htracked hf
    obtain ⟨c, g, _ | q⟩ := q <;> exact h

end Sys2Proof.Proofs
end

section
/-! PROOF. What the device does beside a berth: the trace, the event fabric, changes of mode, halts and the records of events leave every
berth as it is. -/

open Sys2Proof Sys2Proof.Machine Sys2Proof.Claims

namespace Sys2Proof.Proofs

section
variable {d : Device}

theorem berths_foldl {β : Type} (f : Device → β → Device) (h : ∀ e b, (f e b).berths = e.berths) (l : List β) :
    (l.foldl f d).berths = d.berths := by
  induction l generalizing d with
  | nil => rfl
  | cons b r ih => exact ih.trans (h d b)

theorem berths_ite {c : Prop} [Decidable c] {x y : Device} (hx : x.berths = d.berths) (hy : y.berths = d.berths) :
    (if c then x else y).berths = d.berths := by
  split <;> assumption

/-! ### The trace (R498 to R500) -/

@[simp] theorem berths_traceLose : d.traceLose.berths = d.berths := by
  unfold Device.traceLose
  exact (Device.setTrace_berths ..).trans (Device.bump_berths ..)

@[simp] theorem berths_traceFail (p : List Byte) : (d.traceFail p).berths = d.berths := by
  unfold Device.traceFail
  exact berths_ite (Device.setTrace_berths ..) berths_traceLose

@[simp] theorem berths_traceEnter (key : Nat) (p : List Byte) : (d.traceEnter key p).berths = d.berths := by
  unfold Device.traceEnter
  exact berths_ite berths_traceLose (Device.setTrace_berths ..)

@[simp] theorem berths_traceSync : d.traceSync.berths = d.berths := berths_traceEnter ..

@[simp] theorem berths_record (type flags src : Nat) (p : List Byte) : (d.record type flags src p).berths = d.berths := by
  unfold Device.record
  exact berths_ite rfl (berths_ite (berths_ite (Device.setTrace_berths ..) rfl) (berths_traceEnter ..))

theorem berths_traceRaw {p : List Byte} : ∀ r ∈ d.traceRaw p, r.2.berths = d.berths := by
  intro r hr
  unfold Device.traceRaw at hr
  dsimp only at hr
  generalize (if d.dbg.trace.atEnd = true then traceSize else d.rd Reg.DBG_TWP) = o at hr
  split at hr
  · cases hr
  · rw [Option.mem_def, Option.some.injEq] at hr
    rw [← hr]
    dsimp only
    rw [Device.setTrace_berths]
    split <;> simp -implicitDefEqProofs

@[simp] theorem berths_traceWrite (p : List Byte) : (d.traceWrite p).berths = d.berths := by
  unfold Device.traceWrite
  split
  · exact berths_traceFail p
  · split
    · next he =>
      have hraw := berths_traceRaw _ he
      exact berths_ite (by rw [berths_traceSync, Device.setTrace_berths, hraw]) hraw
    · rw [berths_traceFail, Device.setFlag_berths]

@[simp] theorem berths_traceTake (k : Nat) : (d.traceTake k).berths = d.berths := by
  induction k generalizing d with
  | zero => rfl
  | succ k ih =>
    unfold Device.traceTake
    dsimp only
    split
    · exact Device.setTrace_berths ..
    · split
      · rfl
      · rw [ih, berths_traceWrite, Device.setTrace_berths]

@[simp] theorem berths_traceDrain (n : Nat) : (d.traceDrain n).berths = d.berths := by
  unfold Device.traceDrain
  rw [berths_traceTake, Device.setTrace_berths]

@[simp] theorem berths_traceEmpty : d.traceEmpty.berths = d.berths := by
  unfold Device.traceEmpty
  rw [Device.setTrace_berths, Device.wr_berths]

@[simp] theorem berths_tctlWrite (v : Nat) : (d.tctlWrite v).berths = d.berths := by
  unfold Device.tctlWrite
  extract_lets was d1 d2
  have h2 : d2.berths = d.berths := berths_ite (berths_traceEmpty.trans (Device.wr_berths ..)) (Device.wr_berths ..)
  exact berths_ite (berths_traceSync.trans h2) h2

/-! ### The event fabric, the host and the mode -/

@[simp] theorem berths_setLevel (code : Nat) (v : Bool) : (d.setLevel code v).berths = d.berths := by
  rw [(fabricOnly_setLevel code v).eq]

@[simp] theorem berths_followFault : d.followFault.berths = d.berths := berths_setLevel ..

@[simp] theorem berths_chPulse (n : Nat) : (d.chPulse n).berths = d.berths := by
  unfold Device.chPulse
  exact berths_ite rfl (berths_ite (Device.wr_berths ..) rfl)

@[simp] theorem berths_pulse (code : Nat) : (d.pulse code).berths = d.berths := by
  unfold Device.pulse
  exact berths_ite (berths_foldl _ (fun _ n => berths_chPulse n) _) rfl

@[simp] theorem berths_sendMsi : d.sendMsi.berths = d.berths := by
  unfold Device.sendMsi
  refine berths_foldl _ (fun e r => ?_) _
  exact berths_ite (Device.sendRequest_berths ..) rfl

@[simp] theorem berths_hostSource (s : Nat) : (d.hostSource s).berths = d.berths := by
  unfold Device.hostSource
  extract_lets was d1 r
  have h1 : d1.berths = d.berths := Device.setFlag_berths ..
  exact berths_ite (berths_sendMsi.trans h1) h1

theorem berths_traceMode (m : Mode) : (d.traceMode m).berths = d.berths := by
  unfold Device.traceMode
  dsimp only
  split
  · rw [Device.setFlag_berths, berths_traceDrain, berths_record, Device.setTrace_berths]
  · split
    · have hback (e : Device) (c : Bool) (he : e.berths = d.berths) : (if c then e.record 0x0C m.code 0x3FF [] else e).berths = d.berths :=
        berths_ite ((berths_record ..).trans he) he
      refine hback _ _ ?_
      split
      · exact Device.setFlag_berths d Reg.DBG_STAT 1 false
      · split <;> simp -implicitDefEqProofs
    · exact berths_record ..

@[simp] theorem berths_setMode (m : Mode) : (d.setMode m).berths = d.berths := by
  unfold Device.setMode
  split
  · rfl
  · dsimp only
    rw [berths_followFault, berths_setLevel, berths_hostSource]
    exact berths_ite (berths_traceMode m) (berths_traceMode m)

@[simp] theorem berths_enterFrom (m : Mode) : (d.enterFrom m).berths = d.berths := berths_setMode (d := { d with prev := d.mode }) m

@[simp] theorem berths_enginesStop (keep : Nat → Bool) : (d.enginesStop keep).berths = d.berths := by
  unfold Device.enginesStop
  refine berths_foldl _ (fun e k => ?_) _
  exact berths_ite rfl rfl

/-! ### Halts (R488 to R495) -/

@[simp] theorem berths_haltOne (cause c : Nat) : (d.haltOne cause c).berths = d.berths := by
  unfold Device.haltOne
  split
  · rfl
  · dsimp only
    rw [berths_record, Device.setFld_berths, Device.setFlag_berths]

@[simp] theorem berths_haltCores (cause : Nat) (cs : List Nat) : (d.haltCores cause cs).berths = d.berths :=
  berths_foldl _ (fun _ c => berths_haltOne cause c) _

theorem berths_setEngine (k : Nat) (x : Engine) : (d.setEngine k x).berths = d.berths := rfl

theorem berths_setTileReg (t r v : Nat) : (d.setTileReg t r v).berths = d.berths := rfl

theorem berths_engIgnore (t : Nat) : (d.engIgnore t).berths = d.berths := by
  unfold Device.engIgnore
  exact berths_setTileReg ..

@[simp] theorem berths_freezeEngines : d.freezeEngines.berths = d.berths := by
  unfold Device.freezeEngines
  refine berths_foldl _ (fun e k => ?_) _
  exact berths_ite rfl (berths_ite (berths_engIgnore _) (berths_setEngine ..))

@[simp] theorem berths_xevOriginate (code : Nat) : (d.xevOriginate code).berths = d.berths := by
  unfold Device.xevOriginate
  exact berths_ite rfl rfl

@[simp] theorem berths_enterHalt (cause : Nat) : (d.enterHalt cause).berths = d.berths := by
  unfold Device.enterHalt
  extract_lets from_ dbg d0 d1 d2
  have h2 : d2.berths = d.berths := (berths_enterFrom .halt).trans (berths_ite (berths_freezeEngines (d := d0)) rfl)
  exact berths_ite rfl (berths_ite ((berths_xevOriginate 1).trans h2) h2)

@[simp] theorem berths_haltWith (cause : Nat) (cs : List Nat) : (d.haltWith cause cs).berths = d.berths := by
  unfold Device.haltWith
  extract_lets d0 d1 hit d2
  have h0 : d0.berths = d.berths := berths_ite (berths_setMode _) rfl
  have h1 : d1.berths = d.berths := (berths_haltCores ..).trans h0
  have h2 : d2.berths = d.berths := berths_ite ((berths_pulse _).trans ((berths_haltCores ..).trans h1)) h1
  exact berths_ite ((berths_enterHalt cause).trans h2) h2

/-- The actions of comparators touch no berth (R494). -/
theorem berths_cmpActions (b : Nat) (ks : List Nat) : (d.cmpActions b ks).berths = d.berths := by
  unfold Device.cmpActions
  extract_lets on full t d1 d2
  have h1 : d1.berths = d.berths := berths_ite (berths_pulse _) rfl
  have h2 : d2.berths = d.berths := berths_ite ((berths_tctlWrite _).trans h1) (berths_ite ((berths_tctlWrite _).trans h1) h1)
  exact berths_ite ((berths_haltWith ..).trans h2) h2

/-! ### The records of events (R435 to R445) -/

theorem berths_logBegin : d.logBegin.berths = d.berths := by
  unfold Device.logBegin
  split <;> rfl

theorem berths_logEntry (it : LogItem) (first : Bool) : (d.logEntry it first).berths = d.berths := by
  unfold Device.logEntry
  dsimp only
  split
  · exact Device.bump_berths ..
  · exact berths_ite berths_logBegin rfl

theorem berths_countEvent (n : Nat) : (d.countEvent n).2.berths = d.berths := by
  unfold Device.countEvent
  dsimp only
  split <;> rfl

theorem berths_noteEvent (n c detail : Nat) (inj : Bool) : (d.noteEvent n c detail inj).berths = d.berths := by
  unfold Device.noteEvent
  generalize d.verdict n c = v
  obtain ⟨cls, react, esc⟩ := v
  dsimp only
  exact berths_ite (Device.wr_berths ..) ((berths_logEntry ..).trans (Device.wr_berths ..))

theorem berths_deferReaction (n r : Nat) : (d.deferReaction n r).berths = d.berths := by
  unfold Device.deferReaction Device.wakeFor
  exact berths_ite rfl rfl

theorem berths_fedStatus (k v : Nat) : (d.fedStatus k v).berths = d.berths := by
  unfold Device.fedStatus
  split
  · exact berths_ite rfl rfl
  · rfl

theorem berths_leaveRounds (k : Nat) : (d.leaveRounds k).berths = d.berths := by
  unfold Device.leaveRounds
  refine berths_foldl _ (fun e j => ?_) _
  exact berths_ite (Device.setSg_berths ..) rfl

theorem berths_writeRecord (lo hi room type : Nat) (p : List Byte) : (d.writeRecord lo hi room type p).berths = d.berths := by
  unfold Device.writeRecord
  split <;> exact Device.pokeFresh_berths ..

end

end Sys2Proof.Proofs
end

section
/-! PROOF. What an event of a Ringmaster source leaves of a berth that does not wait (R50, R93, R441): its registers, its PC and its special
registers but IPEND, whatever reaction the source is configured for. -/

open Sys2Proof Sys2Proof.Machine Sys2Proof.Claims

namespace Sys2Proof.Proofs

/-! ### A berth that does not wait -/

/-- The second berth waits for its own operations at most and differs from the first in its pending lines at most, of what an instruction
sees. -/
structure Keeps (x y : Berth) : Prop where
  wait : y.wait = .none ∨ y.wait = .breach
  woke : y.woke = none
  gpr : y.gpr = x.gpr
  pc : y.pc = x.pc
  sr : ∀ n, n ≠ 20 → y.srN n = x.srN n

section
variable {x y : Berth}

theorem keeps_lines (m : Nat) (h : Keeps x y) : Keeps x (y.lines m) := by
  obtain ⟨hwait, hwoke, hgpr, hpc, hsr⟩ := h
  exact ⟨hwait, hwoke, hgpr, hpc, fun n hn => (Berth.srN_setSr ..).trans ((if_neg (Ne.symm hn)).trans (hsr n hn))⟩

theorem keeps_withWait {w : Wait} (h : Keeps x y) (hw : w = .none ∨ w = .breach) : Keeps x { y with wait := w } :=
  ⟨hw, h.woke, h.gpr, h.pc, h.sr⟩

theorem keeps_unstall (h : Keeps x y) : Keeps x y.unstall := by
  unfold Berth.unstall
  split
  · exact keeps_withWait h (.inl rfl)
  · exact h

theorem keeps_leaveWait (h : Keeps x y) : Keeps x y.leaveWait := by
  unfold Berth.leaveWait
  rcases h.wait with hw | hw <;> rw [hw] <;> exact h

theorem keeps_cause (h : Keeps x y) : y.wait.cause = none := by
  rcases h.wait with hw | hw <;> rw [hw] <;> rfl

theorem keeps_wake (h : Keeps x y) : Keeps x y.wake := by
  unfold Berth.wake
  rw [keeps_cause h]
  dsimp only
  rwa [ite_self]

theorem keeps_noteWake {z : Berth} (key : Nat) (h : Keeps x y) (hz : Keeps x z) : Keeps x (y.noteWake z key) := by
  unfold Berth.noteWake
  rw [keeps_cause h]
  exact hz

end

/-- A berth of a device keeps what an instruction sees. -/
def Held (x : Berth) (b : Nat) (d : Device) : Prop := Keeps x (d.berth b)

section
variable {x : Berth} {b : Nat} {d e : Device}

theorem held_of_berths (h : e.berths = d.berths) (hd : Held x b d) : Held x b e := by
  unfold Held Device.berth
  rw [h]
  exact hd

theorem held_ite {c : Prop} [Decidable c] (hd : Held x b d) (he : Held x b e) : Held x b (if c then d else e) := by
  split <;> assumption

theorem held_foldl {β : Type} (f : Device → β → Device) (h : ∀ e q, Held x b e → Held x b (f e q)) (l : List β) (hd : Held x b d) :
    Held x b (l.foldl f d) := by
  induction l generalizing d with
  | nil => exact hd
  | cons q r ih => exact ih (h d q hd)

theorem held_setBerth {c : Nat} {y : Berth} (hd : Held x b d) (hy : c = b → Keeps x y) : Held x b (d.setBerth c y) := by
  unfold Held
  by_cases hc : c = b
  · rw [hc, Device.berth_setBerth_same]
    exact hy hc
  · rw [Device.berth_setBerth_other d y hc]
    exact hd

/-- A change of a berth that keeps what an instruction sees wherever it is made. -/
theorem held_update {c : Nat} {f : Berth → Berth} (hf : ∀ y, Keeps x y → Keeps x (f y)) (hd : Held x b d) :
    Held x b (d.setBerth c (f (d.berth c))) :=
  held_setBerth hd fun hc => hf _ (hc ▸ hd)

/-! ### Lines -/

theorem held_dozeExit (c : Nat) (hd : Held x b d) : Held x b (d.dozeExit c) := by
  unfold Device.dozeExit
  exact held_ite (held_of_berths (berths_setMode _) hd) hd

theorem held_assertLines (c m : Nat) (hd : Held x b d) : Held x b (d.assertLines c m) := by
  unfold Device.assertLines
  extract_lets y z
  have hline : Held x b (d.setBerth c z) := held_update (fun _ => keeps_lines m) hd
  split
  · exact hline
  · split
    · next w t hwoke =>
      have hother : c ≠ b := by
        rintro rfl
        exact absurd (hwoke.symm.trans hd.woke) (by simp)
      dsimp only
      exact held_ite (held_of_berths (Device.draw_berths _) (held_setBerth hd fun hc => absurd hc hother)) hline
    · refine held_dozeExit c (held_setBerth hd fun hc => ?_)
      have hy : Keeps x y := by
        rw [← hc] at hd
        exact hd
      exact keeps_noteWake _ hy (keeps_wake (keeps_lines m hy))

theorem held_setLine (c k : Nat) (hd : Held x b d) : Held x b (d.setLine c k) := by
  unfold Device.setLine Device.countAbsent
  exact held_ite (held_assertLines _ _ hd) (held_ite (held_of_berths (Device.bump_berths ..) hd) hd)

/-! ### Parking, and the commits that fail -/

theorem held_settlePark (c : Nat) (hd : Held x b d) : Held x b (d.settlePark c) := by
  unfold Device.settlePark
  extract_lets d1
  have h1 : Held x b d1 := held_update (fun _ => keeps_unstall) hd
  have hreads : Held x b (d1.setBerth c { d1.berth c with reads := [] }) :=
    held_update (f := fun y => { y with reads := [] }) (fun _ hy => ⟨hy.wait, hy.woke, hy.gpr, hy.pc, hy.sr⟩) h1
  exact held_ite (held_of_berths (Device.setParked_berths ..) hreads) h1

theorem held_parkAll (keep : Nat → Bool) (hd : Held x b d) : Held x b (d.parkAll keep) := by
  unfold Device.parkAll
  extract_lets d1
  have h1 : Held x b d1 := held_foldl _ (fun e c he => held_ite he (held_update (fun _ => keeps_leaveWait) he)) _ hd
  refine held_of_berths (berths_foldl _ (fun e c => ?_) _) h1
  split
  · rfl
  · exact (Device.wr_berths ..).trans (Device.wr_berths ..)

theorem held_commitStatus (k v : Nat) (hd : Held x b d) : Held x b (d.commitStatus k v) := by
  unfold Device.commitStatus
  refine held_foldl _ (fun e c he => ?_) _ (held_of_berths (berths_fedStatus k v) hd)
  extract_lets y
  split
  · next rd m hwait =>
    have hother : c ≠ b := by
      rintro rfl
      rcases he.wait with hw | hw <;> exact absurd (hwait.symm.trans hw) (by simp)
    refine held_ite he (held_ite (held_setBerth he fun hc => absurd hc hother) ?_)
    exact held_settlePark _ (held_setBerth he fun hc => absurd hc hother)
  · exact he

theorem held_closeManifest (k v : Nat) (hd : Held x b d) : Held x b (d.closeManifest k v) := by
  unfold Device.closeManifest
  exact held_commitStatus _ _ (held_of_berths ((berths_leaveRounds _).trans (Device.setManifest_berths ..)) hd)

theorem held_failCommits (hd : Held x b d) : Held x b d.failCommits := by
  unfold Device.failCommits
  extract_lets d1 classes
  have h1 : Held x b d1 := by
    refine held_foldl _ (fun e k he => ?_) _ hd
    split
    · refine held_ite he (held_ite (held_closeManifest _ _ he) (held_ite (held_closeManifest _ _ he) ?_))
      exact held_of_berths (Device.draw_berths _) (held_closeManifest _ _ he)
    · exact he
  clear_value d1
  exact held_of_berths rfl h1

/-! ### SAFE and the switchover -/

theorem held_enterSafe (hd : Held x b d) : Held x b d.enterSafe := by
  unfold Device.enterSafe
  refine held_ite hd (held_ite (held_of_berths (berths_deferReaction ..) hd) ?_)
  exact held_of_berths (berths_enterFrom _) (held_parkAll _ (held_failCommits (held_of_berths (berths_enginesStop _) hd)))

theorem held_snNotice (hd : Held x b d) : Held x b d.snNotice := held_setLine _ _ hd

theorem held_snChange (hd : Held x b d) : Held x b d.snChange := by
  unfold Device.snChange
  exact held_snNotice (held_of_berths rfl hd)

theorem held_snFlag (bit : Nat) (v : Bool) (hd : Held x b d) : Held x b (d.snFlag bit v) := by
  unfold Device.snFlag
  have hflag (w : Bool) : Held x b (d.setFlag Reg.NET_SNSTAT bit w) := held_of_berths (Device.setFlag_berths ..) hd
  exact held_ite hd (held_ite (held_snNotice (hflag true)) (hflag false))

theorem held_setRole (r : Nat) (hd : Held x b d) : Held x b (d.setRole r) := by
  unfold Device.setRole
  exact held_ite hd (held_snChange (held_of_berths (Device.setFld_berths ..) hd))

theorem held_setReady (v : Bool) (hd : Held x b d) : Held x b (d.setReady v) := by
  unfold Device.setReady
  exact held_ite hd (held_snChange (held_of_berths (Device.setFlag_berths ..) hd))

theorem held_resyncEnd (hd : Held x b d) : Held x b d.resyncEnd := by
  unfold Device.resyncEnd
  exact held_ite (held_of_berths rfl (held_snFlag 5 false hd)) hd

theorem held_writePairing (role cause : Nat) (hd : Held x b d) : Held x b (d.writePairing role cause) := by
  unfold Device.writePairing
  exact held_of_berths (berths_writeRecord ..) hd

theorem held_enterStop (hd : Held x b d) : Held x b d.enterStop := by
  unfold Device.enterStop
  have hpads : d.stopPads.berths = d.berths := rfl
  exact held_of_berths ((berths_setMode _).trans hpads) hd

theorem held_switchover (src : Nat) (safe : Bool) (hd : Held x b d) : Held x b (d.switchover src safe) := by
  unfold Device.switchover
  split
  · extract_lets d1 d2 keep
    have h1 : Held x b d1 := held_resyncEnd (held_setRole _ (held_setReady _ (held_of_berths rfl hd)))
    have h2 : Held x b d2 := held_writePairing _ _ (held_of_berths rfl h1)
    have hstop : Held x b ((d2.enginesStop (bitOf keep)).parkAll fun _ => false) :=
      held_parkAll _ (held_of_berths (berths_enginesStop _) h2)
    exact held_ite (held_enterStop hstop) h2
  · exact held_ite (held_writePairing _ _ (held_setReady _ hd)) hd

/-! ### The event -/

theorem held_reactAll (rs : List (Nat × Nat)) (hd : Held x b d) : Held x b (d.reactAll rs) := by
  unfold Device.reactAll
  extract_lets paired own safe d1 d2 d3
  have h1 : Held x b d1 := held_foldl _ (fun e r he => held_ite (held_switchover _ _ he) he) _ hd
  have h2 : Held x b d2 := held_ite (held_enterSafe h1) h1
  exact held_ite (held_of_berths rfl h2) (held_of_berths rfl h2)

theorem held_react (n r : Nat) (hd : Held x b d) : Held x b (d.react n r) := by
  unfold Device.react Device.reactIrq
  refine held_ite (held_of_berths (berths_deferReaction ..) hd) (held_reactAll _ (held_ite hd ?_))
  exact held_of_berths ((berths_pulse _).trans (berths_hostSource _)) (held_setLine _ _ hd)

theorem held_raise (n detail : Nat) (hd : Held x b d) : Held x b (d.raise n detail) := by
  unfold Device.raise Device.classify Device.classifyCounted Device.classifyAt
  have hbump : Held x b (d.bump (Reg.RMS_STATN n) 16 16) := held_of_berths (Device.bump_berths ..) hd
  refine held_ite (held_ite (held_ite (held_of_berths berths_followFault (held_react _ _ ?_)) hbump) hd) hd
  exact held_of_berths ((berths_noteEvent ..).trans (berths_countEvent n)) hbump

theorem held_breach (c cause : Nat) (hd : Held x b d) : Held x b (d.breach c cause) := by
  unfold Device.breach
  refine held_ite hd ?_
  extract_lets off d1 d2 y
  have h1 : Held x b d1 := held_of_berths ((Device.setFld_berths ..).trans (Device.bump_berths ..)) hd
  have h2 : Held x b d2 := held_ite (held_raise _ _ h1) h1
  clear_value d2
  exact held_ite (held_update (fun _ hy => keeps_unstall (keeps_withWait hy (.inr rfl))) h2) h2

/-- The end of an instruction, with whatever breach of timing and comparator it meets, leaves its berth as it goes on (R50, R494). -/
theorem held_complete {c : Ctx} {e : Effect} {y : Berth} (hy : ((d.berth c.b).advance c.pc c.len e).issued = y)
    (hwait : y.wait = .none) : Held y c.b (d.complete c e) := by
  unfold Device.complete
  extract_lets d1 d2 d3 d4
  have h1 : Held y c.b d1 := by
    unfold Held
    rw [Device.inflightPeak_berth, Device.issuedOne_berth_same, Device.berth_setBerth_same, hy]
    exact ⟨.inl hwait, by rw [← hy]; rfl, rfl, rfl, fun _ _ => rfl⟩
  clear_value d1
  have h2 : Held y c.b d2 := by
    unfold d2
    split
    · unfold Device.traceFlow
      exact held_ite h1 (held_ite (held_of_berths (berths_record ..) h1) h1)
    · exact h1
  clear_value d2
  have h3 : Held y c.b d3 := held_ite (held_breach _ _ h2) h2
  clear_value d3
  have h4 : Held y c.b d4 := held_ite h3 (held_breach _ _ h3)
  clear_value d4
  exact held_of_berths (berths_cmpActions ..) h4

end

end Sys2Proof.Proofs
end

section
/-! PROOF. MacxAccumulates (R92, R129, R130). -/

open Sys2Proof Sys2Proof.Machine Sys2Proof.Claims

namespace Sys2Proof.Proofs

/-! ### Registers of the window -/

section
variable {x y : Berth}

theorem reg_congr (hgpr : y.gpr = x.gpr) (hsr : y.srN 4 = x.srN 4) (r : Nat) : y.reg r = x.reg r := by
  rw [Berth.reg, Berth.cwp, hsr, ← Berth.cwp, phys_of_gpr_eq hgpr, ← Berth.reg]

/-- A register's write reaches that register and no other of the window; g0 keeps zero (R69). -/
theorem reg_setReg (r : Reg5) (v : Word) {q : Nat} (hq : q < 32) :
    (x.setReg r.toNat v).reg q = if q = r.toNat then (if r = 0 then 0 else v) else x.reg q := by
  have hcwp : (x.setReg r.toNat v).cwp = x.cwp := by rw [Berth.cwp, Berth.srN_setReg, ← Berth.cwp]
  rw [Berth.reg, hcwp, Berth.phys_setReg]
  by_cases h : q = r.toNat
  · rw [if_pos h, h, if_pos rfl]
    exact if_congr (physReg_eq_zero_iff x.cwp r) rfl rfl
  · have hne : physReg x.cwp r.toNat ≠ physReg x.cwp q := fun hp => h (physReg_inj hq r.isLt hp.symm)
    rw [if_neg h, if_neg hne, Berth.reg, Berth.phys]
    split <;> rfl

/-! ### ACC -/

theorem gpr_setAcc (v : Int) (ov : Bool) : (x.setAcc v ov).gpr = x.gpr := rfl

theorem srN_setAcc_other (v : Int) (ov : Bool) {n : Nat} (h : n < 16 ∨ 18 < n) : (x.setAcc v ov).srN n = x.srN n := by
  unfold Berth.setAcc
  rw [Berth.srN_setSr, Berth.srN_setSr, Berth.srN_setSr, if_neg (by omega), if_neg (by omega), if_neg (by omega)]

theorem patternOf_lt (w : Nat) (v : Int) : patternOf w v < 2 ^ w := by
  have hpos : (0 : Int) < (2 ^ w : Nat) := Int.natCast_pos.mpr (Nat.two_pow_pos w)
  have hlt := Int.emod_lt_of_pos v hpos
  have hnn := Int.emod_nonneg v hpos.ne'
  unfold patternOf
  omega

/-- The three words of ACC and OV (R92). -/
theorem srN_setAcc (v : Int) (ov : Bool) : (x.setAcc v ov).srN 16 = patternOf 72 v % 2 ^ 32 ∧
    (x.setAcc v ov).srN 17 = patternOf 72 v / 2 ^ 32 % 2 ^ 32 ∧ (x.setAcc v ov).srN 18 = patternOf 72 v / 2 ^ 64 + 256 * bit01 ov := by
  have hlt := patternOf_lt 72 v
  unfold Berth.setAcc
  simp only [Berth.srN_setSr]
  refine ⟨by norm_num, by norm_num, ?_⟩
  have hbit : bit01 ov ≤ 1 := by cases ov <;> decide
  rw [if_pos trivial]
  omega

/-- A berth whose words of ACC are those of another that has taken values holds them. -/
theorem acc_of_setAcc {v : Int} {ov : Bool} (h : ∀ n, 16 ≤ n → n ≤ 18 → y.srN n = (x.setAcc v ov).srN n) :
    y.acc = signedOf 72 (patternOf 72 v) ∧ bitOf (y.srN 18) 8 = ov := by
  obtain ⟨h16, h17, h18⟩ := srN_setAcc (x := x) v ov
  have hlt := patternOf_lt 72 v
  refine ⟨?_, ?_⟩
  · rw [Berth.acc, h 16 (by decide) (by decide), h 17 (by decide) (by decide), h 18 (by decide) (by decide), h16, h17, h18]
    congr 1
    omega
  · rw [h 18 (by decide) (by decide), h18, bitOf]
    cases ov <;> simp only [bit01] <;> simp <;> omega

/-! ### Pointers -/

theorem stepPointer_eq (k size p : Nat) : stepPointer k size p = stepped k size p := rfl

theorem stepped_lt {k size p : Nat} (hk : k < 16) (hp : p < 2 ^ 31) : stepped k size p < 2 ^ 32 := by
  unfold stepped
  split
  · exact Nat.mod_lt _ (by decide)
  · have hblock : p / 2 ^ k * 2 ^ k ≤ p := Nat.div_mul_le_self p (2 ^ k)
    have hoff : (p + size) % 2 ^ k < 2 ^ k := Nat.mod_lt _ (Nat.two_pow_pos k)
    have hroom : 2 ^ k ≤ 2 ^ 16 := Nat.pow_le_pow_right (by decide) hk.le
    omega

/-! ### The PC -/

/-- The loop check depends on the loop registers alone (R127). -/
theorem loopLevels_next_congr (next : Nat) (l : List Nat) (h : ∀ n, 24 ≤ n → y.srN n = x.srN n) :
    (y.loopLevels next l).2 = (x.loopLevels next l).2 := by
  induction l generalizing x y with
  | nil => rfl
  | cons n r ih =>
    unfold Berth.loopLevels
    simp only [h (32 + n) (by omega), h (28 + n) (by omega), h (24 + n) (by omega)]
    split
    · split
      · rfl
      · refine ih fun m hm => ?_
        rw [Berth.srN_setSr, Berth.srN_setSr, h m hm]
    · exact ih h

theorem pc_goesOn_congr {i : Site} (h : ∀ n, 24 ≤ n → y.srN n = x.srN n) (hpc : y.pc = x.pc) : (y.goesOn i).pc = (x.goesOn i).pc := by
  show BitVec.ofNat 50 _ = BitVec.ofNat 50 _
  rw [hpc]
  exact congrArg _ (loopLevels_next_congr _ _ h)

end

/-! ### The operation -/

/-- The berth past MACX: ACC, OV and the pointers, of which one that both operands name steps twice. -/
def macxLeft (x : Berth) (rx ry : Reg5) (k size p q : Nat) (s : Int × Bool) : Berth :=
  let y := (x.setAcc s.1 s.2).setReg rx.toNat (BitVec.ofNat 32 (stepPointer k size p))
  y.setReg ry.toNat (BitVec.ofNat 32 (stepPointer k size (if rx = ry then (y.reg ry.toNat).toNat else q)))

section
variable {d : Device} {c : Ctx} {rx ry : Reg5} {k : BitVec 4} {wide neg clr : Bool} {base size p q : Nat}

theorem macxFault_none (hp : p % size = 0) (hq : q % size = 0) (hpl : p < 0x200000) (hql : q < 0x200000) {b : Nat}
    (hb : sramBase (tileOf b) = base) (hcp : d.eccAt (base + p) = .clean) (hcq : d.eccAt (base + q) = .clean) :
    d.macxFault b size p q = none := by
  unfold Device.macxFault
  simp only [hp, hq, hb, hcp, hcq]
  simp [Nat.not_le.mpr hpl, Nat.not_le.mpr hql]

theorem macxChecks_clean (hcp : d.eccAt (base + p) = .clean) (hcq : d.eccAt (base + q) = .clean) : d.macxChecks base p q = d := by
  have hread {a : Nat} (ha : d.eccAt a = .clean) : (d.checkRead 0 a).2 = d := by rw [Device.checkRead, ha]
  unfold Device.macxChecks
  dsimp only
  split
  · rw [hread hcq, hread hcp]
  · rw [hread hcp, hread hcq]

/-- MACX where nothing forbids it. -/
theorem macxOp_run (hl : (d.berth c.b).loads = []) (hs : (d.berth c.b).stores = []) (hsize : (if wide then 4 else 2) = size)
    (hpa : ((d.berth c.b).operand rx.toNat).toNat = p) (hqa : ((d.berth c.b).operand ry.toNat).toNat = q)
    (hbase : sramBase (tileOf c.b) = base) (hfault : d.macxFault c.b size p q = none) (hchecks : d.macxChecks base p q = d) :
    (macxOp rx ry k wide neg clr).run c d = .done
      (d.setBerth c.b (macxLeft (d.berth c.b) rx ry k.toNat size p q
        (macxSum (d.berth c.b) (signedOf (8 * size) (d.value (base + p) size)) (signedOf (8 * size) (d.value (base + q) size)) neg clr)))
      { Effect.next with breach := if sameHalf p q then 3 else 0, access := [(false, p, size), (false, q, size)] } := by
  rw [macxOp]
  simp only [hsize, hpa, hqa, hbase, drain_idle _ hl hs]
  generalize d.macxFault c.b size p q = u at hfault ⊢
  subst hfault
  dsimp only
  rw [hchecks]
  rfl

end

/-! ### What it leaves -/

section
variable {x : Berth} {rx ry : Reg5} {k size p q : Nat} {s : Int × Bool}

theorem srN_macxLeft (n : Nat) : (macxLeft x rx ry k size p q s).srN n = (x.setAcc s.1 s.2).srN n := by
  unfold macxLeft
  rw [Berth.srN_setReg, Berth.srN_setReg]

theorem srN_macxLeft_other {n : Nat} (h : n < 16 ∨ 18 < n) : (macxLeft x rx ry k size p q s).srN n = x.srN n := by
  rw [srN_macxLeft, srN_setAcc_other _ _ h]

/-- MACX changes special registers and registers alone. -/
theorem macxLeft_eq (hl : x.loads = []) :
    macxLeft x rx ry k size p q s = { x with sr := (x.setAcc s.1 s.2).sr, gpr := (macxLeft x rx ry k size p q s).gpr } := by
  have hset {y : Berth} (r : Nat) (v : Word) (hy : y = { x with sr := (x.setAcc s.1 s.2).sr, gpr := y.gpr }) :
      y.setReg r v = { x with sr := (x.setAcc s.1 s.2).sr, gpr := (y.setReg r v).gpr } := by
    have hyl : y.loads = [] := by
      rw [hy]
      exact hl
    rw [setReg_eq r v hyl, hy]
  unfold macxLeft
  exact hset _ _ (hset _ _ rfl)

theorem reg_setAcc (v : Int) (ov : Bool) (r : Nat) : (x.setAcc v ov).reg r = x.reg r :=
  reg_congr (gpr_setAcc v ov) (srN_setAcc_other v ov (.inl (by decide))) r

/-- The registers past MACX with two pointers. -/
theorem reg_macxLeft_of_ne (h : rx ≠ ry) {r : Nat} (hr : r < 32) : (macxLeft x rx ry k size p q s).reg r =
    if r = ry.toNat then (if ry = 0 then 0 else BitVec.ofNat 32 (stepped k size q))
    else if r = rx.toNat then (if rx = 0 then 0 else BitVec.ofNat 32 (stepped k size p)) else x.reg r := by
  unfold macxLeft
  dsimp only
  rw [reg_setReg _ _ hr, reg_setReg _ _ hr, reg_setAcc, if_neg h]
  rfl

/-- The registers past MACX with a pointer that both operands name: it steps twice. -/
theorem reg_macxLeft_self (hk : k < 16) (hp : p < 2 ^ 31) {r : Nat} (hr : r < 32) : (macxLeft x rx rx k size p q s).reg r =
    if r = rx.toNat then (if rx = 0 then 0 else BitVec.ofNat 32 (stepped k size (stepped k size p))) else x.reg r := by
  unfold macxLeft
  dsimp only
  rw [reg_setReg _ _ hr, reg_setReg _ _ hr, reg_setReg _ _ rx.isLt, if_pos rfl, if_pos rfl]
  by_cases h : r = rx.toNat
  · rw [if_pos h, if_pos h]
    by_cases h0 : rx = 0
    · rw [if_pos h0, if_pos h0]
    · rw [if_neg h0, if_neg h0, if_neg h0, stepPointer_eq, stepPointer_eq, BitVec.toNat_ofNat, Nat.mod_eq_of_lt (stepped_lt hk hp)]
  · rw [if_neg h, if_neg h, if_neg h, reg_setAcc]

end

/-- The sum of the statement (R92, R129). -/
theorem macxSum_eq (x : Berth) (u v : Int) (neg clr : Bool) : macxSum x u v neg clr =
    ((if clr then 0 else x.acc) + (if neg then -(u * v) else u * v),
      !clr && (bitOf (x.srN 18) 8 || (decide ((if clr then 0 else x.acc) + (if neg then -(u * v) else u * v) < -(2 ^ 71)) ||
        decide (2 ^ 71 ≤ (if clr then 0 else x.acc) + (if neg then -(u * v) else u * v))))) := by
  unfold macxSum
  cases clr <;> simp [Bool.or_assoc]

/-- The issue of an instruction that transfers no control and leaves a berth whose loop registers and PC are those of the berth before:
what the berth holds, and, unless a breach of its own counts, that nothing else changes. -/
theorem issue_keeps {d : Device} {i : Site} {op : Op} {z : Berth} {eff : Effect} (hready : d.ready i = true)
    (hrun : op.run (d.ctx i) d = .done (d.setBerth i.b z) eff) (ht : eff.target = none) (hwait : z.wait = .none)
    (hpc : z.pc = (d.berth i.b).pc) (hloops : ∀ n, 24 ≤ n → z.srN n = (d.berth i.b).srN n) :
    Keeps { z with sr := (z.goesOn i).sr, pc := ((d.berth i.b).goesOn i).pc, woke := none }
      (Device.berth { d.issue i op with cfg := d.cfg } i.b) ∧
    (d.timed i.b = false ∨ eff.breach = 0 → d.OnlyBerth i.b { d.issue i op with cfg := d.cfg }) := by
  have hadvance : (((d.setBerth i.b z).berth i.b).advance (d.berth i.b).pc.toNat i.len eff).issued =
      { movedOn z (z.goesOn i).sr (z.goesOn i).pc with shadow := eff.shadow } := by
    rw [Device.berth_setBerth_same, ← hpc]
    exact advance_of_sr_eq rfl ht
  rw [issue_done hready hrun]
  refine ⟨?_, fun hbreach => (leaves_complete (differsAt_setBerth _ _ z) hready hbreach).2⟩
  obtain ⟨hw, hwoke, hgpr, hpc', hsr⟩ := held_complete (c := d.ctx i) hadvance hwait
  exact ⟨hw, hwoke, hgpr, hpc'.trans (pc_goesOn_congr hloops hpc), hsr⟩

/-- What MACX leaves where nothing forbids it. -/
theorem macx_issue {d : Device} {i : Site} {rx ry : Reg5} {k : BitVec 4} {wide neg clr : Bool} {size p q : Nat} {sum : Int × Bool}
    (hready : d.ready i = true) (hstores : (d.berth i.b).stores = []) (hsize : (if wide then 4 else 2) = size)
    (hpa : ((d.berth i.b).operand rx.toNat).toNat = p) (hqa : ((d.berth i.b).operand ry.toNat).toNat = q)
    (hp : p % size = 0) (hq : q % size = 0) (hpl : p < 0x200000) (hql : q < 0x200000)
    (hcp : d.eccAt (sramBase (tileOf i.b) + p) = .clean) (hcq : d.eccAt (sramBase (tileOf i.b) + q) = .clean)
    (hsum : macxSum (d.berth i.b) (signedOf (8 * size) (d.value (sramBase (tileOf i.b) + p) size))
      (signedOf (8 * size) (d.value (sramBase (tileOf i.b) + q) size)) neg clr = sum) :
    ∃ y, Device.berth { d.issue i (macxOp rx ry k wide neg clr) with cfg := d.cfg } i.b = y ∧
      y.gpr = (macxLeft (d.berth i.b) rx ry k.toNat size p q sum).gpr ∧ y.pc = ((d.berth i.b).goesOn i).pc ∧
      (∀ n, n < 20 → y.srN n = (macxLeft (d.berth i.b) rx ry k.toNat size p q sum).srN n) ∧
      (d.timed i.b = false ∨ bitOf p 20 ≠ bitOf q 20 →
        d.OnlyBerth i.b { d.issue i (macxOp rx ry k wide neg clr) with cfg := d.cfg }) := by
  obtain ⟨hmay, _, _, hl, _⟩ := d.ready_parts i hready
  have hrun := macxOp_run (c := d.ctx i) (k := k) (neg := neg) (clr := clr) hl hstores hsize hpa hqa rfl
    (macxFault_none hp hq hpl hql rfl hcp hcq) (macxChecks_clean hcp hcq)
  have hleft := macxLeft_eq (rx := rx) (ry := ry) (k := k.toNat) (size := size) (p := p) (q := q) (s := sum) hl
  simp only [Device.ctx, hsum] at hrun
  obtain ⟨⟨_, _, hgpr, hpc, hsr⟩, honly⟩ := issue_keeps hready hrun rfl (by rw [hleft]; exact waits_none_of_mayIssue hmay)
    (by rw [hleft]) fun n hn => srN_macxLeft_other (.inr (by omega))
  refine ⟨_, rfl, hgpr, hpc, fun n hn => (hsr n (by omega)).trans ((srN_of_sr_eq n rfl).trans (srN_goesOn (.inl (by omega)))),
    fun h => honly (h.imp_right fun hne => ?_)⟩
  rw [sameHalf, beq_false_of_ne hne]
  rfl

/-- Settles O11: MACX leaves ACC, OV and the pointers as it computes them, whatever a breach of its own brings about. -/
theorem macxAccumulates : Obligations.MacxAccumulates := by
  intro s i rx ry k wide neg clr hready hsizes d x n p q base hstores hp hq hpl hql hcp hcq
  refine completes_of_exec (f := fun d => d.issue i ((macxOp rx ry k wide neg clr).legal (macxSizes k wide))) rfl ?_
  rw [hsizes, Op.legal, if_pos rfl]
  obtain ⟨y, hy, hgpr, hpc, hsr, honly⟩ := macx_issue (k := k) hready hstores rfl rfl rfl hp hq hpl hql hcp hcq (macxSum_eq ..)
  generalize { s.dev.issue i (macxOp rx ry k wide neg clr) with cfg := s.dev.cfg } = e at hy honly ⊢
  intro prod sum ovf holds
  obtain ⟨hacc, hov⟩ := acc_of_setAcc (y := y) fun m h1 h2 => (hsr m (by omega)).trans (srN_macxLeft m)
  have hreg (r : Nat) := reg_congr hgpr (hsr 4 (by decide)) r
  have hp' : p < 2 ^ 31 := lt_trans hpl (by decide)
  subst hy
  refine ⟨hacc, hov, fun hne => ⟨?_, ?_⟩, fun heq => ?_, fun r hr hrx hry => ?_, hpc, honly⟩
  · refine (hreg _).trans ((reg_macxLeft_of_ne hne rx.isLt).trans ?_)
    rw [if_neg fun h => hne (BitVec.eq_of_toNat_eq h), if_pos rfl]
  · exact (hreg _).trans ((reg_macxLeft_of_ne hne ry.isLt).trans (if_pos rfl))
  · subst heq
    exact (hreg _).trans ((reg_macxLeft_self k.isLt hp' rx.isLt).trans (if_pos rfl))
  · by_cases heq : rx = ry
    · subst heq
      exact (hreg r).trans ((reg_macxLeft_self k.isLt hp' hr).trans (if_neg hrx))
    · exact (hreg r).trans ((reg_macxLeft_of_ne heq hr).trans ((if_neg hry).trans (if_neg hrx)))

end Sys2Proof.Proofs
end

section
/-! PROOF. IntegerResults and BitFieldResults (R117 to R119): an instruction that computes a register from the berth's own state writes
that register and goes on; and the functions of Table 4.4 and the bit fields as the statements write them. -/

open Sys2Proof Sys2Proof.Machine Sys2Proof.Claims

namespace Sys2Proof.Proofs

/-! ### The functions of Table 4.4 -/

theorem minFn_eq (a b : Word) : minFn a b = if a.slt b then a else b := by simp [minFn, BitVec.slt]

theorem maxFn_eq (a b : Word) : maxFn a b = if a.slt b then b else a := by simp [maxFn, BitVec.slt]

theorem minuFn_eq (a b : Word) : minuFn a b = if a.ult b then a else b := by simp [minuFn, BitVec.ult]

theorem maxuFn_eq (a b : Word) : maxuFn a b = if a.ult b then b else a := by simp [maxuFn, BitVec.ult]

theorem mulFn_eq (a b : Word) : mulFn a b = a * b := rfl

/-- The high word of the unsigned product. -/
theorem mulhuFn_eq (a b : Word) : mulhuFn a b = (a.zeroExtend 64 * b.zeroExtend 64).extractLsb' 32 32 := by
  have ha := a.isLt
  have hb := b.isLt
  have hprod : a.toNat * b.toNat < 2 ^ 64 := calc
    a.toNat * b.toNat < 2 ^ 32 * 2 ^ 32 := Nat.mul_lt_mul'' ha hb
    _ = 2 ^ 64 := by norm_num
  refine BitVec.eq_of_toNat_eq ?_
  rw [mulhuFn, BitVec.toNat_ofNat, BitVec.extractLsb'_toNat, BitVec.toNat_mul, BitVec.toNat_setWidth, BitVec.toNat_setWidth,
    Nat.mod_eq_of_lt (show a.toNat < 2 ^ 64 by omega), Nat.mod_eq_of_lt (show b.toNat < 2 ^ 64 by omega), Nat.mod_eq_of_lt hprod,
    Nat.shiftRight_eq_div_pow]

/-- The high word of the signed product. -/
theorem mulhFn_eq (a b : Word) : mulhFn a b = (a.signExtend 64 * b.signExtend 64).extractLsb' 32 32 := by
  have hprod : a.signExtend 64 * b.signExtend 64 = BitVec.ofInt 64 (a.toInt * b.toInt) := by
    rw [BitVec.ofInt_mul]
    rfl
  refine BitVec.eq_of_toNat_eq ?_
  rw [mulhFn, hprod, BitVec.extractLsb'_toNat, BitVec.toNat_ofInt, BitVec.toNat_ofInt, Nat.shiftRight_eq_div_pow]
  omega

/-- The bits of a word from its highest on, at the place of its leading one. -/
theorem leadingZeros_eq (a : Word) : leadingZeros a = leading a := by
  have hlt := a.isLt
  unfold leadingZeros leading
  simp only [bitOf_eq_testBit]
  by_cases h0 : a = 0
  · subst h0
    rfl
  · have hne : a.toNat ≠ 0 := fun h => h0 (BitVec.eq_of_toNat_eq h)
    have hlog : a.toNat.log2 < 32 := (Nat.log2_lt hne).mpr hlt
    have hfirst : (List.range 32).reverse.findIdx? (fun i => a.toNat.testBit i) = some (31 - a.toNat.log2) := by
      refine List.findIdx?_eq_some_iff_getElem.mpr ⟨by simp; omega, ?_, fun j hj => ?_⟩
      · rw [List.getElem_reverse, List.getElem_range, List.length_range, show 32 - 1 - (31 - a.toNat.log2) = a.toNat.log2 by omega]
        exact Nat.testBit_log2 hne
      · rw [List.getElem_reverse, List.getElem_range, List.length_range, Bool.not_eq_true]
        exact Nat.testBit_lt_two_pow ((Nat.log2_lt hne).mp (by omega))
    rw [if_neg h0, hfirst, Option.getD_some]

/-- The instructions of three registers with the model's functions. -/
theorem aluTable_ops : ∀ q ∈ aluTable, ∃ f : Word → Word → Word,
    (∀ (s : State) (i : Site) (rd rs1 rs2 : Reg5), exec (q.1 i rd rs1 rs2) s = s.upd fun d => d.issue i (aluOp f rd rs1 rs2)) ∧
    ∀ a b, f a b = q.2 a b := by
  simp only [aluTable, List.forall_mem_cons]
  refine ⟨⟨addFn, fun _ _ _ _ _ => rfl, fun _ _ => rfl⟩, ⟨subFn, fun _ _ _ _ _ => rfl, fun _ _ => rfl⟩,
    ⟨andFn, fun _ _ _ _ _ => rfl, fun _ _ => rfl⟩, ⟨orFn, fun _ _ _ _ _ => rfl, fun _ _ => rfl⟩,
    ⟨xorFn, fun _ _ _ _ _ => rfl, fun _ _ => rfl⟩, ⟨andnFn, fun _ _ _ _ _ => rfl, fun _ _ => rfl⟩,
    ⟨sllFn, fun _ _ _ _ _ => rfl, fun _ _ => rfl⟩, ⟨srlFn, fun _ _ _ _ _ => rfl, fun _ _ => rfl⟩,
    ⟨sraFn, fun _ _ _ _ _ => rfl, fun _ _ => rfl⟩, ⟨sltFn, fun _ _ _ _ _ => rfl, fun _ _ => rfl⟩,
    ⟨sltuFn, fun _ _ _ _ _ => rfl, fun _ _ => rfl⟩, ⟨minFn, fun _ _ _ _ _ => rfl, minFn_eq⟩,
    ⟨maxFn, fun _ _ _ _ _ => rfl, maxFn_eq⟩, ⟨minuFn, fun _ _ _ _ _ => rfl, minuFn_eq⟩, ⟨maxuFn, fun _ _ _ _ _ => rfl, maxuFn_eq⟩,
    ⟨mulFn, fun _ _ _ _ _ => rfl, mulFn_eq⟩, ⟨mulhFn, fun _ _ _ _ _ => rfl, mulhFn_eq⟩, ⟨mulhuFn, fun _ _ _ _ _ => rfl, mulhuFn_eq⟩,
    ⟨rorFn, fun _ _ _ _ _ => rfl, fun _ _ => rfl⟩, fun _ h => absurd h List.not_mem_nil⟩

/-- The immediate forms. -/
theorem immTable_ops : ∀ q ∈ immTable, ∃ f : Word → Word → Word,
    (∀ (s : State) (i : Site) (rd rs1 : Reg5) (m : BitVec 14), exec (q.1 i rd rs1 m) s = s.upd fun d => d.issue i (immOp f rd rs1 m)) ∧
    ∀ a b, f a b = q.2 a b := by
  simp only [immTable, List.forall_mem_cons]
  exact ⟨⟨addFn, fun _ _ _ _ _ => rfl, fun _ _ => rfl⟩, ⟨andFn, fun _ _ _ _ _ => rfl, fun _ _ => rfl⟩,
    ⟨orFn, fun _ _ _ _ _ => rfl, fun _ _ => rfl⟩, ⟨xorFn, fun _ _ _ _ _ => rfl, fun _ _ => rfl⟩,
    ⟨sltFn, fun _ _ _ _ _ => rfl, fun _ _ => rfl⟩, ⟨sltuFn, fun _ _ _ _ _ => rfl, fun _ _ => rfl⟩, fun _ h => absurd h List.not_mem_nil⟩

theorem shamt_zeroExtend (n : Reg5) : shamt (n.zeroExtend 32) = n.toNat := by
  have hn := n.isLt
  rw [shamt, BitVec.toNat_setWidth]
  omega

/-- The shifts by an amount in the instruction. -/
theorem shiftTable_ops : ∀ q ∈ shiftTable, ∃ f : Word → Word → Word,
    (∀ (s : State) (i : Site) (rd rs1 n : Reg5), exec (q.1 i rd rs1 n) s = s.upd fun d => d.issue i (shiftOp f rd rs1 n)) ∧
    ∀ a (n : Reg5), f a (n.zeroExtend 32) = q.2 a n.toNat := by
  have hfn {g : Word → Nat → Word} (a : Word) (n : Reg5) : g a (shamt (n.zeroExtend 32)) = g a n.toNat := by rw [shamt_zeroExtend]
  simp only [shiftTable, List.forall_mem_cons]
  exact ⟨⟨sllFn, fun _ _ _ _ _ => rfl, hfn (g := fun a n => a <<< n)⟩, ⟨srlFn, fun _ _ _ _ _ => rfl, hfn (g := fun a n => a >>> n)⟩,
    ⟨sraFn, fun _ _ _ _ _ => rfl, hfn (g := fun a n => a.sshiftRight n)⟩,
    ⟨rorFn, fun _ _ _ _ _ => rfl, hfn (g := fun a n => a.rotateRight n)⟩,
    fun _ h => absurd h List.not_mem_nil⟩

theorem lui_value (u : BitVec 19) : BitVec.ofNat 32 (u.toNat * 2 ^ 13) = u.zeroExtend 32 <<< 13 := by
  have hu := u.isLt
  refine BitVec.eq_of_toNat_eq ?_
  rw [BitVec.toNat_ofNat, BitVec.toNat_shiftLeft, BitVec.toNat_setWidth, Nat.shiftLeft_eq]
  omega

/-! ### What such an instruction leaves -/

/-- An instruction that changes its berth alone, by a function of it that keeps the PC, and goes on. -/
theorem leaves_plain {d : Device} {i : Site} (reads : List Nat) {f : Ctx → Berth → Berth} {y : Berth} (hready : d.ready i = true)
    (hf : f (d.ctx i) (d.berth i.b) = y) (hpc : y.pc = (d.berth i.b).pc) :
    d.Leaves i (y.goesOn i) { d.issue i (plainOp reads f) with cfg := d.cfg } := by
  have hrun : (plainOp reads f).run (d.ctx i) d = .done (d.setBerth i.b y) Effect.next := by
    rw [← hf]
    rfl
  have h := leaves_next hready hrun (differsAt_setBerth _ _ _) (by rw [Device.berth_setBerth_same, hpc])
  rwa [Device.berth_setBerth_same] at h

/-- An instruction that computes rd. -/
theorem writes_of_exec {s : State} {i : Site} {c : Instr} {rd : Reg5} {v w : Word} {reads : List Nat} {f : Ctx → Berth → Berth}
    (hexec : exec c s = s.upd fun d => d.issue i (plainOp reads f)) (hready : s.dev.ready i = true)
    (hf : f (s.dev.ctx i) (s.dev.berth i.b) = (s.dev.berth i.b).setReg rd.toNat w) (hv : w = v) :
    Completes c s fun e => s.dev.Leaves i ((s.dev.berth i.b).wrote i rd v) e ∧ (e.berth i.b).reg rd.toNat = if rd = 0 then 0 else v := by
  obtain ⟨_, _, _, hl, _⟩ := s.dev.ready_parts i hready
  subst hv
  have h := leaves_plain reads hready hf (by rw [setReg_eq _ _ hl])
  rw [goesOn_setReg rd w hl] at h
  exact completes_of_exec hexec ⟨h, by rw [h.1, reg_wrote]⟩

/-- Settles O2: each instruction computes rd alone, with the function that Table 4.4 gives it. -/
theorem integerResults : Obligations.IntegerResults := by
  refine ⟨fun s i rd rs1 rs2 hready q hq => ?_, fun s i rd rs1 hready => ⟨?_, fun q hq m => ?_, fun q hq n => ?_, fun u => ?_⟩⟩
  · obtain ⟨f, hexec, hf⟩ := aluTable_ops q hq
    exact writes_of_exec (hexec s i rd rs1 rs2) hready rfl (hf _ _)
  · exact writes_of_exec (c := .clz i rd rs1) rfl hready rfl (congrArg _ (leadingZeros_eq _))
  · obtain ⟨f, hexec, hf⟩ := immTable_ops q hq
    exact writes_of_exec (hexec s i rd rs1 m) hready rfl (hf _ _)
  · obtain ⟨f, hexec, hf⟩ := shiftTable_ops q hq
    exact writes_of_exec (hexec s i rd rs1 n) hready rfl (hf _ _)
  · exact writes_of_exec (c := .lui i rd u) rfl hready rfl (lui_value u)

/-! ### Bit fields -/

theorem ins_bit (pos len1 k : Nat) (x a : Word) (hk : k < 32) : (insFn pos len1 x a).getLsbD k =
    if pos ≤ k ∧ k ≤ pos + len1 then a.getLsbD (k - pos) else x.getLsbD k := by
  rw [insFn, BitVec.getLsbD_ofNat, testBit_setBits, decide_eq_true hk, Bool.true_and]
  exact if_congr (by omega) (BitVec.testBit_toNat ..) (BitVec.testBit_toNat ..)

theorem exts_value (pos len1 : Nat) (a : Word) : extsFn pos len1 a =
    BitVec.ofInt 32 (if 2 ^ len1 ≤ field a.toNat pos len1 then (field a.toNat pos len1 : Int) - 2 ^ (len1 + 1) else field a.toNat pos len1) := by
  have hpow : 2 ^ (len1 + 1) = 2 * 2 ^ len1 := Nat.pow_succ'
  rw [extsFn, signedOf]
  congr 1
  show (if 2 * field a.toNat pos len1 < 2 ^ (len1 + 1) then (field a.toNat pos len1 : Int) else field a.toNat pos len1 - (2 ^ (len1 + 1) : Nat)) = _
  rw [hpow]
  by_cases h : 2 ^ len1 ≤ field a.toNat pos len1
  · rw [if_neg (by omega), if_pos h, ← hpow]
    norm_num
  · rw [if_pos (by omega), if_neg h]

/-- Settles O3: the fields as the model's functions take and place them; C.NOP changes nothing of the berth. -/
theorem bitFieldResults : Obligations.BitFieldResults := by
  intro s i rd rs1 pos len1 hready
  refine ⟨writes_of_exec (c := .extu i rd rs1 pos len1) rfl hready rfl rfl,
    writes_of_exec (c := .exts i rd rs1 pos len1) rfl hready rfl (exts_value _ _ _),
    ⟨_, writes_of_exec (c := .ins i rd rs1 pos len1) rfl hready rfl rfl, fun k hk => ins_bit _ _ _ _ _ hk⟩,
    completes_of_exec (f := fun d => d.issue i cnopOp) rfl (leaves_plain [] hready rfl rfl)⟩

end Sys2Proof.Proofs
end

section
/-! PROOF. LoopsRepeat (R127): what LOOP and LOOPI set up, and the check at the end of a body. -/

open Sys2Proof Sys2Proof.Machine Sys2Proof.Claims

namespace Sys2Proof.Proofs

/-- The berth whose loop level n is set up: its body from `start` to `fin`, its count. -/
def looped (x : Berth) (n : BitVec 2) (start fin count : Nat) : Berth :=
  ((x.setSr (24 + n.toNat) start).setSr (28 + n.toNat) fin).setSr (32 + n.toNat) count

theorem loopOp_run {d : Device} {c : Ctx} {reads : List Nat} {n : BitVec 2} {count : Berth → Word} {v : Word} {disp : BitVec 14} {fin : Nat}
    (hv : count (d.berth c.b) = v) (hfin : relTarget c.pc (disp.signExtend 32) = fin) :
    (loopOp reads n count disp).run c d = .done (d.setBerth c.b (looped (d.berth c.b) n ((c.pc + 4) % 2 ^ 32) (fin % 2 ^ 32) v.toNat))
      (if v = 0 then Effect.jump fin 1 else Effect.next) := by
  subst hv hfin
  rfl

/-- LOOP and LOOPI: the level's registers, and the transfer past the body where the count is zero. -/
theorem loops_of_exec {s : State} {i : Site} {c : Instr} {reads : List Nat} {n : BitVec 2} {count : Berth → Word} {v : Word}
    {disp : BitVec 14} {fin : Nat} {y : Berth} (hexec : exec c s = s.upd fun d => d.issue i (loopOp reads n count disp))
    (hready : s.dev.ready i = true)
    (hv : count (s.dev.berth i.b) = v) (hfin : relative (s.dev.berth i.b).pc disp.toInt = fin)
    (hy : looped (s.dev.berth i.b) n (((s.dev.berth i.b).pc.toNat + 4) % 2 ^ 32) (fin % 2 ^ 32) v.toNat = y) :
    Completes c s fun e => s.dev.Leaves i (if v = 0 then y.goesTo fin else y.goesOn i) e := by
  refine completes_of_exec hexec ?_
  have hpc : y.pc = (s.dev.berth i.b).pc := by
    rw [← hy]
    rfl
  rw [← relTarget_eq_relative] at hfin
  have hrun := loopOp_run (d := s.dev) (c := s.dev.ctx i) (reads := reads) (n := n) hv hfin
  have hctx : (s.dev.ctx i).pc = (s.dev.berth i.b).pc.toNat := rfl
  have hb : (s.dev.ctx i).b = i.b := rfl
  rw [hctx, hb, hy] at hrun
  by_cases h0 : v = 0
  · rw [if_pos h0] at hrun ⊢
    have h := leaves_jump hready hrun (differsAt_setBerth _ _ _) (.inr rfl) rfl rfl
    rwa [Device.berth_setBerth_same] at h
  · rw [if_neg h0] at hrun ⊢
    have h := leaves_next hready hrun (differsAt_setBerth _ _ _) (by rw [Device.berth_setBerth_same]; exact hpc)
    rwa [Device.berth_setBerth_same] at h

section
variable {x : Berth} {next : Nat}

/-- A level with no count left takes no part in the check. -/
theorem loopLevels_skip {n : Nat} (l : List Nat) (h : x.srN (32 + n) = 0) : x.loopLevels next (n :: l) = x.loopLevels next l := by
  rw [Berth.loopLevels]
  exact if_neg fun hc => hc.1 h

/-- A level whose body ends here with a count of more than 1 goes back to its start. -/
theorem loopLevels_repeat {n : Nat} (l : List Nat) (hend : next % 2 ^ 32 = x.srN (28 + n)) (hcount : 1 < x.srN (32 + n)) :
    x.loopLevels next (n :: l) = (x.setSr (32 + n) (x.srN (32 + n) - 1), next / 2 ^ 32 * 2 ^ 32 + x.srN (24 + n)) := by
  rw [Berth.loopLevels]
  exact (if_pos ⟨by omega, hend⟩).trans (if_pos hcount)

/-- Only the innermost level that has a count left and ends here acts. -/
theorem loopLevels_innermost (n : BitVec 2) (hend : next % 2 ^ 32 = x.srN (28 + n.toNat)) (hcount : 1 < x.srN (32 + n.toNat))
    (hinner : ∀ m : BitVec 2, n < m → x.srN (32 + m.toNat) = 0) : x.loopLevels next [3, 2, 1, 0] =
      (x.setSr (32 + n.toNat) (x.srN (32 + n.toNat) - 1), next / 2 ^ 32 * 2 ^ 32 + x.srN (24 + n.toNat)) := by
  have hskip (m : BitVec 2) (l : List Nat) (h : n < m) : x.loopLevels next (m.toNat :: l) = x.loopLevels next l := loopLevels_skip l (hinner m h)
  have hlevels : ∀ m : BitVec 2, m = 3 ∨ m = 2 ∨ m = 1 ∨ m = 0 := by decide
  obtain rfl | rfl | rfl | rfl := hlevels n
  · exact loopLevels_repeat _ hend hcount
  · exact (hskip 3 _ (by decide)).trans (loopLevels_repeat _ hend hcount)
  · exact (hskip 3 _ (by decide)).trans ((hskip 2 _ (by decide)).trans (loopLevels_repeat _ hend hcount))
  · exact (hskip 3 _ (by decide)).trans ((hskip 2 _ (by decide)).trans ((hskip 1 _ (by decide)).trans (loopLevels_repeat _ hend hcount)))

theorem loopLevels_none (h : ∀ m : BitVec 2, x.srN (32 + m.toNat) = 0) : x.loopLevels next [3, 2, 1, 0] = (x, next) := by
  rw [loopLevels_skip (n := 3) _ (h 3), loopLevels_skip (n := 2) _ (h 2), loopLevels_skip (n := 1) _ (h 1),
    loopLevels_skip (n := 0) _ (h 0), Berth.loopLevels]

end

theorem seqPc_bank (pc len : Nat) : seqPc pc len / 2 ^ 32 = pc / 2 ^ 32 ∧ seqPc pc len % 2 ^ 32 = (pc + len) % 2 ^ 32 := by
  unfold seqPc
  omega

/-- Settles O5: a level is set up, and at its end counts down and repeats, or is left. -/
theorem loopsRepeat : Obligations.LoopsRepeat := by
  refine ⟨fun s i n rs1 k disp hready => ⟨?_, ?_⟩, ?_, fun x i h => ?_⟩
  · exact loops_of_exec (c := .loop i n rs1 disp) rfl hready rfl rfl rfl
  · exact loops_of_exec (c := .loopi i n k disp) rfl hready rfl rfl rfl
  · intro x i n next hend hcount hinner
    obtain ⟨hbank, hoff⟩ := seqPc_bank x.pc.toNat i.len
    rw [Berth.goesOn, Berth.advance]
    dsimp only [Effect.next]
    rw [loopLevels_innermost n (hoff.trans hend.symm) hcount hinner, hbank]
    rfl
  · rw [Berth.goesOn, Berth.advance]
    dsimp only [Effect.next]
    rw [loopLevels_none h]
    rfl

end Sys2Proof.Proofs
end

section
/-! PROOF. AccessesEnterTheirQueues (R44, R121, R83): a load or a store that nothing forbids enters its queue, with its address. -/

open Sys2Proof Sys2Proof.Machine Sys2Proof.Claims

namespace Sys2Proof.Proofs

/-! ### The addresses and the places -/

/-- A place of a memory lies neither on the initiator port nor in the control window, nor is it an image bit. -/
theorem place_cases {p : Place} {g : Nat} (h : p.global = some g) :
    (∃ t o, p = .sram t o) ∨ (∃ o, p = .image o) ∨ ∃ o, p = .retained o := by
  cases p with
  | sram t o => exact .inl ⟨t, o, rfl⟩
  | image o => exact .inr (.inl ⟨o, rfl⟩)
  | retained o => exact .inr (.inr ⟨o, rfl⟩)
  | imageBit _ => cases h
  | window _ => cases h
  | external _ => cases h

theorem ueAt_of_global {d : Device} {p : Place} {g : Nat} (h : p.global = some g) (hg : d.eccAt g ≠ .uncorrectable) : d.ueAt p = false := by
  rw [Device.ueAt, (place_of_global h).1]
  exact beq_eq_false_iff_ne.mpr hg

/-! ### What enters the queues -/

/-- A berth with one more load of memory in its queue. -/
def withLoad (x : Berth) (rd a n : Nat) (signed : Bool) : Berth :=
  { x with
    loads := x.loads ++ [⟨if physReg x.cwp rd = 0 then none else some (physReg x.cwp rd), .memory a n signed, x.pc, x.seq, none, false⟩]
    seq := x.seq + 1 }

/-- A berth with one more store in its buffer. -/
def withStore (x : Berth) (level a n v : Nat) : Berth :=
  { x with stores := x.stores ++ [⟨a, n, v % 2 ^ (8 * n), x.seq, level, false⟩], seq := x.seq + 1 }

section
variable {d : Device} {c : Ctx} {a n g : Nat} {p : Place}

/-- A load of a memory that nothing forbids. -/
theorem loadAt_run {rd : Nat} {signed : Bool} (hp : d.access c.b c.level a n false = .ok p) (hfree : d.loadFree c.b = true)
    (hg : p.global = some g) (hecc : d.eccAt g ≠ .uncorrectable) : d.loadAt c rd a n signed =
      .done (d.setBerth c.b (withLoad (d.berth c.b) rd a n signed))
        ⟨none, 0, (d.berth c.b).delay rd, placeBreach c.b p, [(false, a, n)]⟩ := by
  have hue := ueAt_of_global hg hecc
  rw [Device.loadAt]
  simp only [hp, hfree, hue]
  obtain ⟨_, _, rfl⟩ | ⟨_, rfl⟩ | ⟨_, rfl⟩ := place_cases hg <;> rfl

/-- A store into a memory that nothing forbids. -/
theorem storeAt_run {v : Nat} (hp : d.access c.b c.level a n true = .ok p) (hfree : d.storeFree c.b = true)
    (hg : p.global = some g) (hwatched : d.watched = false) : d.storeAt c a n v =
      .done (d.setBerth c.b (withStore (d.berth c.b) c.level a n v)) ⟨none, 0, none, placeBreach c.b p, [(true, a, n)]⟩ := by
  have hport : p.isExternal = false := (place_of_global hg).2
  have hpush : d.pushStore c.b c.level a n v = d.setBerth c.b (withStore (d.berth c.b) c.level a n v) := rfl
  have hunwatched : (d.setBerth c.b (withStore (d.berth c.b) c.level a n v)).watched = false := by rw [Device.watched_setBerth, hwatched]
  rw [Device.storeAt]
  simp only [hp, hfree, hport, hpush, traceData_unwatched _ _ _ _ _ hunwatched, Bool.false_and, Bool.true_eq_false, Bool.false_eq_true, if_false]

end

/-! ### The instructions -/

section
variable {s : State} {i : Site} {c : Instr} {op : Op} {a n : Nat} (hexec : exec c s = s.upd fun d => d.issue i op)
  (hready : s.dev.ready i = true)
include hexec hready

theorem loads_of_exec {rd : Reg5} {signed : Bool} (hrun : op.run (s.dev.ctx i) s.dev = s.dev.loadAt (s.dev.ctx i) rd.toNat a n signed) :
    loads s i c rd a n signed := by
  rintro g hfree ⟨p, hp, hg, hecc, hbreach⟩
  obtain ⟨_, _, _, hl, _⟩ := s.dev.ready_parts i hready
  have hleaves := leaves_issue hready (hrun.trans (loadAt_run hp hfree hg hecc)) (differsAt_setBerth _ _ _) hbreach
  rw [Device.ctx, Device.berth_setBerth_same, advance_of_sr_eq (x := s.dev.berth i.b) (by rfl) rfl] at hleaves
  refine completes_of_exec hexec ?_
  rw [goesOn_self (s.dev.berth i.b)]
  simp only [withLoad, movedOn, hl, List.nil_append, physReg_eq_zero_iff] at hleaves ⊢
  exact hleaves

theorem stores_of_exec {r : Reg5}
    (hrun : op.run (s.dev.ctx i) s.dev = s.dev.storeAt (s.dev.ctx i) a n ((s.dev.berth i.b).operand r.toNat).toNat) :
    stores s i c r a n := by
  rintro g hfree ⟨p, hp, hg, _, hbreach⟩
  obtain ⟨_, _, _, _, _, hwatched, _⟩ := s.dev.ready_parts i hready
  have hleaves := leaves_issue hready (hrun.trans (storeAt_run hp hfree hg hwatched)) (differsAt_setBerth _ _ _) hbreach
  rw [Device.ctx, Device.berth_setBerth_same, advance_of_sr_eq (x := s.dev.berth i.b) (by rfl) rfl] at hleaves
  refine completes_of_exec hexec ?_
  rw [goesOn_self (s.dev.berth i.b)]
  exact hleaves

end

/-- Settles O6: a load's entry names its destination's register, a store's the low bytes of its register. -/
theorem accessesEnterTheirQueues : Obligations.AccessesEnterTheirQueues := by
  refine ⟨fun s i rd hready => ⟨fun q hq m hshort => ?_, fun u => ?_⟩, fun s i r hready => ⟨fun q hq m => ?_, fun u => ?_⟩⟩
  · have hload {c : Instr} {n : Nat} {signed : Bool} (hexec : exec c s = s.upd fun d => d.issue i (loadOp n signed rd m)) :
        loads s i c rd (address (s.dev.berth i.b) m) n signed :=
      loads_of_exec hexec hready (by rw [← memAddr_eq_address]; rfl)
    have hlw : exec (.lw i rd m) s = s.upd fun d => d.issue i (loadOp 4 false rd m) := by
      show (s.upd fun d => d.issue i (if i.short && zeroHalf rd m then undefinedOp else loadOp 4 false rd m)) = _
      rw [if_neg (by simpa using hshort)]
    revert q
    simp only [loadTable, List.forall_mem_cons]
    exact ⟨hload rfl, hload rfl, hload rfl, hload rfl, hload hlw, fun _ hq => absurd hq List.not_mem_nil⟩
  · exact loads_of_exec (op := lwiOp rd u) rfl hready rfl
  · have hstore {c : Instr} {n : Nat} (hexec : exec c s = s.upd fun d => d.issue i (storeOp n r m)) :
        stores s i c r (address (s.dev.berth i.b) m) n :=
      stores_of_exec hexec hready (by rw [← memAddr_eq_address]; rfl)
    revert q
    simp only [storeTable, List.forall_mem_cons]
    exact ⟨hstore rfl, hstore rfl, hstore rfl, fun _ hq => absurd hq List.not_mem_nil⟩
  · exact stores_of_exec (op := swiOp r u) rfl hready rfl

end Sys2Proof.Proofs
end

section
/-! PROOF. The completion of an instruction that has changed a part of the device beside its berth: the berth goes on as it would alone, where
nothing has come to watch it. -/

open Sys2Proof Sys2Proof.Machine Sys2Proof.Claims

namespace Sys2Proof.Proofs

/-! ### What the comparators and the trace depend on -/

/-- Two devices that show the same debug registers have the same comparators and trace controls. -/
theorem watched_of_debugRegs {d e : Device} (h : ∀ off, 0x300000 ≤ off → e.rd off = d.rd off) : e.watched = d.watched := by
  have htctl : e.rd Reg.DBG_TCTL = d.rd Reg.DBG_TCTL := h _ (by decide)
  have hcmp (k : Nat) : e.rd (Reg.DBG_CMPC k) = d.rd (Reg.DBG_CMPC k) := h _ (by unfold Reg.DBG_CMPC; omega)
  unfold Device.watched Device.flag Device.fld
  rw [htctl]
  congr 1
  refine congrArg (List.any _) (funext fun k => ?_)
  rw [hcmp k]

/-! ### The parts of the device that an instruction leaves -/

section
variable {d e : Device} {i : Site} {y : Berth} (h : d.Leaves i y e)
include h

theorem leaves_mem : e.mem = d.mem := by
  obtain ⟨_, _, _, heq⟩ := h
  rw [heq]

theorem leaves_bol : e.bol = d.bol := by
  obtain ⟨_, _, _, heq⟩ := h
  rw [heq]

theorem leaves_eng : e.eng = d.eng := by
  obtain ⟨_, _, _, heq⟩ := h
  rw [heq]

theorem leaves_scn : e.scn = d.scn := by
  obtain ⟨_, _, _, heq⟩ := h
  rw [heq]

end

/-! ### The issue -/

/-- To the berth that issues, the second device is as the first: its own state, what watches it, its class and the address map. -/
structure SameTo (d e : Device) (b : Nat) : Prop where
  berth : e.berth b = d.berth b
  watched : e.watched = d.watched
  timed : e.timed b = d.timed b
  cfg : e.cfg = d.cfg

theorem SameTo.trans {d e f : Device} {b : Nat} (h : SameTo d e b) (k : SameTo e f b) : SameTo d f b :=
  ⟨k.berth.trans h.berth, k.watched.trans h.watched, k.timed.trans h.timed, k.cfg.trans h.cfg⟩

theorem sameTo_withMem (d : Device) (m : MemSys) (b : Nat) : SameTo d { d with mem := m } b := ⟨rfl, rfl, rfl, rfl⟩

theorem sameTo_withScn (d : Device) (m : ScanSys) (b : Nat) : SameTo d { d with scn := m } b := ⟨rfl, rfl, rfl, rfl⟩

theorem sameTo_of_rd {d e : Device} {b : Nat} (hberth : e.berth b = d.berth b) (hcfg : e.cfg = d.cfg)
    (hdebug : ∀ off, 0x300000 ≤ off → e.rd off = d.rd off)
    (hclass : e.rd (Reg.CAR_BCFG (coreOf b) (b % 16)) = d.rd (Reg.CAR_BCFG (coreOf b) (b % 16))) : SameTo d e b :=
  ⟨hberth, watched_of_debugRegs hdebug, bits_flag_congr d e _ _ hclass, hcfg⟩

section
variable {d e : Device} {i : Site} {op : Op} {f : Effect}

/-- The issue of an instruction that changes its berth and what the berth does not depend on. -/
theorem leaves_beside {d' : Device} (hready : d.ready i = true) (hsame : SameTo d e i.b) (hrun : op.run (d.ctx i) d = .done d' f)
    (hd : DiffersAt e i.b d') (hbreach : d.timed i.b = false ∨ f.breach = 0) :
    e.Leaves i ((d'.berth i.b).advance (d.berth i.b).pc.toNat i.len f).issued { d.issue i op with cfg := d.cfg } := by
  obtain ⟨_, _, _, _, _, hwatched, _, _, _, _, hfetch⟩ := d.ready_parts i hready
  have hfetch' : e.timed i.b = false ∨ e.fetchBreach i.b (d.ctx i).pc = false := by
    rw [hsame.timed, Device.fetchBreach, Device.placeFor, hsame.cfg]
    exact hfetch
  rw [issue_done hready hrun, ← hsame.cfg]
  exact leaves_complete_of (c := d.ctx i) rfl hd (hsame.watched.trans hwatched) (hbreach.imp_left hsame.timed.trans) hfetch'

/-- Such an instruction that goes on, with its berth changed to y. -/
theorem leaves_beside_next {y : Berth} (hready : d.ready i = true) (hsame : SameTo d e i.b)
    (hrun : op.run (d.ctx i) d = .done (e.setBerth i.b y) f) (hpc : y.pc = (d.berth i.b).pc) (hbreach : d.timed i.b = false ∨ f.breach = 0)
    (ht : f.target = none) (hs : f.shadow = none) : e.Leaves i (y.goesOn i) { d.issue i op with cfg := d.cfg } := by
  have h := leaves_beside hready hsame hrun (differsAt_setBerth e i.b y) hbreach
  rwa [Device.berth_setBerth_same, ← hpc, Berth.advance, ht, hs] at h

/-- Such an instruction whose result is known at issue (R44). -/
theorem leaves_beside_fixed {rd : Reg5} {v : Nat} (hready : d.ready i = true) (hsame : SameTo d e i.b)
    (hrun : op.run (d.ctx i) d = e.fixed (d.ctx i) rd.toNat v f) (hbreach : d.timed i.b = false ∨ f.breach = 0) (ht : f.target = none) :
    e.Leaves i (queued (d.berth i.b) i rd (BitVec.ofNat 32 v)) { d.issue i op with cfg := d.cfg } := by
  obtain ⟨_, _, _, hl, _⟩ := d.ready_parts i hready
  rw [Device.fixed, pushLoad_value] at hrun
  have h := leaves_beside hready hsame hrun (differsAt_setBerth e i.b _) hbreach
  rw [Device.ctx, Device.berth_setBerth_same, hsame.berth] at h
  rwa [← queued_eq (e := { f with shadow := (d.berth i.b).delay rd.toNat }) hl ht rfl]

end

end Sys2Proof.Proofs
end

section
/-! PROOF. BcasComparesAndSwaps (R133, R186): the lock word that BCAS reads, compares and perhaps writes. -/

open Sys2Proof Sys2Proof.Machine Sys2Proof.Claims

namespace Sys2Proof.Proofs

/-! ### The value of written bytes -/

theorem leValue_leBytes (n v : Nat) : leValue (leBytes n v) = v % 256 ^ n := by
  induction n generalizing v with
  | zero => rw [leBytes, leValue, pow_zero, Nat.mod_one]
  | succ n ih => rw [leBytes, leValue, ih, BitVec.toNat_ofNat, Nat.pow_succ' (n := n), Nat.mod_mul]

theorem leValue_lt (l : List Byte) : leValue l < 256 ^ l.length := by
  induction l with
  | nil => exact Nat.one_pos
  | cons b l ih =>
    have hb := b.isLt
    rw [leValue, List.length_cons, Nat.pow_succ']
    omega

theorem value_lt (d : Device) (g n : Nat) : d.value g n < 256 ^ n := by
  have h := leValue_lt (d.bytesAt g n)
  rwa [Device.bytesAt, List.length_map, List.length_range] at h

/-- The value of the bytes that a write has placed. -/
theorem Written.value {d e : Device} {g : Nat} {bs : List Byte} (h : Written d e g bs) : e.value g bs.length = leValue bs := by
  rw [Device.value, Device.bytesAt]
  congr 1
  refine List.ext_getElem (by simp) fun k hk hk' => ?_
  rw [List.getElem_map, List.getElem_range, h.byte, overlay, if_pos (by omega), Nat.add_sub_cancel_left, List.getD_eq_getElem]

theorem wordAt_of_written {d e : Device} {g w : Nat} (h : Written d e g (leBytes 4 w)) : wordAt d e g w := by
  have hlen := length_leBytes 4 w
  have hvalue := h.value
  rw [leValue_leBytes, hlen] at hvalue
  refine ⟨hvalue, fun a ha => ?_⟩
  rw [h.byte, overlay, if_neg (by omega)]

theorem wordAt_self (d : Device) (g : Nat) : wordAt d d g (d.value g 4) :=
  ⟨(Nat.mod_eq_of_lt (value_lt d g 4)).symm, fun _ _ => rfl⟩

theorem wordAt_of_mem {d e f : Device} {g w : Nat} (h : wordAt d e g w) (hmem : f.mem = e.mem) : wordAt d f g w := by
  have hbyte (a : Nat) : f.byte a = e.byte a := by rw [Device.byte, Device.byte, hmem]
  refine ⟨?_, fun a ha => (hbyte a).trans (h.2 a ha)⟩
  rw [← h.1, Device.value, Device.value, Device.bytesAt, Device.bytesAt]
  simp only [hbyte]

/-! ### The lock word -/

/-- A permitted access is aligned. -/
theorem aligned_of_access {d : Device} {b level a n : Nat} {write : Bool} {p : Place} (h : d.access b level a n write = .ok p) :
    a % n = 0 := by
  unfold Device.access at h
  dsimp only at h
  split at h
  · cases h
  · by_contra halign
    rw [if_pos halign] at h
    cases h

/-- A lock word lies in a memory, on a multiple of 4 (R133). -/
theorem bolWord_aligned {d : Device} {c : Ctx} {a g : Nat} (h : d.bolWord c a = .ok g) : g % 4 = 0 := by
  rw [Device.bolWord] at h
  cases hp : d.access c.b c.level a 4 true with
  | error code =>
    rw [hp] at h
    cases h
  | ok p =>
    have halign := aligned_of_access hp
    have hplace := placeFor_of_access hp
    rw [hp] at h
    have hmem : ∃ w, p.global = some w ∧
        (if d.eccAt w = .uncorrectable then Except.error (5, w) else Except.ok w) = Except.ok (ε := Nat × Nat) g := by
      cases p with
      | sram t o => exact ⟨_, rfl, h⟩
      | image o => exact ⟨_, rfl, h⟩
      | imageBit | retained | window | external => cases h
    obtain ⟨w, hw, hok⟩ := hmem
    split_ifs at hok
    obtain rfl := Except.ok.inj hok
    have hmod := placeFor_mod_eight ((congrArg Place.global hplace).trans hw)
    omega

/-- The device once BCAS has compared, and swapped or not. -/
def swapped (d : Device) (g old new : Nat) : Device := if d.value g 4 = old then d.memWrite 0 2 g (leBytes 4 new) else d

/-- BCAS touches no part of the device but memory, and there the one word. -/
theorem swapped_word {d : Device} {g : Nat} (old : Nat) (new : Word) (hg : g % 4 = 0) (hclean : d.eccAt g = .clean)
    (htracked : d.tracked g = none) : swapped d g old new.toNat = { d with mem := (swapped d g old new.toNat).mem } ∧
      wordAt d (swapped d g old new.toNat) g (if d.value g 4 = old then new.toNat else d.value g 4) := by
  have hwritten : Written d (d.memWrite 0 2 g (leBytes 4 new.toNat)) g (leBytes 4 new.toNat) :=
    written_wordWrite (fun _ => hclean) (by rwa [show g / 4 * 4 = g by omega]) fun h => by rw [length_leBytes] at h; omega
  unfold swapped
  by_cases hold : d.value g 4 = old
  · rw [if_pos hold, if_pos hold]
    exact ⟨hwritten.eq, wordAt_of_written hwritten⟩
  · rw [if_neg hold, if_neg hold]
    exact ⟨rfl, wordAt_self d g⟩

/-- A BOL instruction that nothing forbids, with the result that its operation gives. (The check of the word is made a variable first: the
kernel would evaluate the bounds of the memories.) -/
theorem bolOp_run {d d2 : Device} {c : Ctx} {reads : List Reg5} {rd rs1 : Reg5} {bk : BitVec 2} {a g v : Nat}
    {f : Ctx → Berth → Nat → Device → Option Nat × Device} (hl : (d.berth c.b).loads = []) (hs : (d.berth c.b).stores = [])
    (hfree : d.loadFree c.b = true) (ha : (d.berth c.b).banked bk.toNat ((d.berth c.b).operand rs1.toNat).toNat = a) (hg : d.bolWord c a = .ok g)
    (hf : f c (d.berth c.b) g d = (some v, d2)) (hwatched : d2.watched = false) :
    ∃ e : Effect, (bolOp reads rd rs1 bk false f).run c d = d2.fixed c rd.toNat v e ∧ e.target = none := by
  obtain ⟨word, hword⟩ : ∃ word, word = Device.bolWord := ⟨_, rfl⟩
  obtain ⟨F, hF⟩ : ∃ F, F = (bolOp reads rd rs1 bk false f).run := ⟨_, rfl⟩
  rw [← hF]
  delta bolOp at hF
  rw [← hword] at hg hF
  rw [hF]
  simp only [ha, hg, hfree, drain_idle _ hl hs, hf, traceData_unwatched _ _ _ _ _ hwatched, Bool.false_and, Bool.true_eq_false,
    Bool.false_eq_true, if_false]
  exact ⟨_, rfl, rfl⟩

/-- Settles O18: the word is read, and written only where it equalled rd. -/
theorem bcasComparesAndSwaps : Obligations.BcasComparesAndSwaps := by
  intro s i rd rs1 rs2 bk g d x ⟨hready, hs, htimed, hfree, hclean, hg⟩ htracked
  obtain ⟨_, _, _, hl, _, hwatched, _⟩ := d.ready_parts i hready
  have haligned := bolWord_aligned hg
  obtain ⟨hmem, hword⟩ := swapped_word (x.operand rd.toNat).toNat (x.operand rs2.toNat) haligned hclean htracked
  set e := swapped d g (x.operand rd.toNat).toNat (x.operand rs2.toNat).toNat with he
  have hsame : SameTo d e i.b := by
    rw [hmem]
    exact sameTo_withMem d e.mem i.b
  have hf : (some (d.value g 4), if d.value g 4 = (x.operand rd.toNat).toNat then d.memWrite 0 2 g (leBytes 4 (x.operand rs2.toNat).toNat)
      else (d.checkRead 0 g).2) = (some (d.value g 4), e) := by
    rw [he, swapped, Device.checkRead, hclean]
  have haddr : x.banked bk.toNat (x.operand rs1.toNat).toNat = x.srN (12 + bk.toNat) * 2 ^ 32 + (x.operand rs1.toNat).toNat := by
    rw [Berth.banked, Nat.mod_eq_of_lt (BitVec.isLt _)]
  obtain ⟨eff, hrun, ht⟩ : ∃ f : Effect,
      (bcasOp rd rs1 rs2 bk).run (d.ctx i) d = e.fixed (d.ctx i) rd.toNat (d.value g 4) f ∧ f.target = none :=
    bolOp_run hl hs hfree haddr hg hf (hsame.watched.trans hwatched)
  have hleaves := leaves_beside_fixed (op := bcasOp rd rs1 rs2 bk) hready hsame hrun (.inl htimed) ht
  refine completes_of_exec (f := fun d => d.issue i (bcasOp rd rs1 rs2 bk)) rfl ?_
  obtain ⟨hberth, hothers, _, heq⟩ := hleaves
  rw [hmem] at heq hothers
  exact ⟨hberth, wordAt_of_mem hword (by rw [heq]), by rw [heq], hothers⟩

end Sys2Proof.Proofs
end

section
/-! PROOF. FenceAndWaits (R139 to R141, R143): FENCE with operations in flight, the waits, and the compare of WAITT. -/

open Sys2Proof Sys2Proof.Machine Sys2Proof.Claims

namespace Sys2Proof.Proofs

/-! ### The issue with loads in flight -/

section
variable (d : Device) (b : Nat) (y : Berth)

theorem fetchFault_setBerth (c level a : Nat) : (d.setBerth b y).fetchFault c level a = d.fetchFault c level a := by
  rw [Device.fetchFault, Device.fetchFault, Device.setBerth_cfg]

theorem placeFor_setBerth (c a : Nat) : (d.setBerth b y).placeFor c a = d.placeFor c a := by
  rw [Device.placeFor, Device.placeFor, Device.setBerth_cfg]

theorem fetchBreach_setBerth (c pc : Nat) : (d.setBerth b y).fetchBreach c pc = d.fetchBreach c pc := by
  rw [Device.fetchBreach, Device.fetchBreach, placeFor_setBerth]

theorem codeClean_setBerth (c pc len : Nat) : (d.setBerth b y).codeClean c pc len = d.codeClean c pc len := by
  have hecc (g : Nat) : (d.setBerth b y).eccAt g = d.eccAt g := rfl
  unfold Device.codeClean
  simp only [placeFor_setBerth, hecc]

theorem fetchExc_setBerth (c level pc len : Nat) : (d.setBerth b y).fetchExc c level pc len = d.fetchExc c level pc len := by
  have hue (p : Place) : (d.setBerth b y).ueAt p = d.ueAt p := rfl
  unfold Device.fetchExc
  simp only [fetchFault_setBerth, placeFor_setBerth, hue]

end

section
variable {d : Device} {i : Site} {op : Op} (h : d.readyButLoads i = true) (hext : d.externalLoads i.b = [])
  (hreads : op.reads = []) (hdest : op.dest = none)
include h

/-- What readyButLoads says, part by part. -/
theorem readyButLoads_parts : d.mayIssue i.b = true ∧ (d.berth i.b).faults = [] ∧ d.interruptLine i.b = none ∧ d.watched = false ∧
    d.fetchExc i.b (d.berth i.b).pl (d.berth i.b).pc.toNat i.len = none ∧
    d.codeClean i.b (d.berth i.b).pc.toNat i.len = true ∧
    d.beatsWanted i.b (fetchAddrs (d.berth i.b).pc.toNat i.len) = [] ∧ d.twinDiffers i.b = false ∧
    (d.timed i.b = false ∨ d.fetchBreach i.b (d.berth i.b).pc.toNat = false) := by
  obtain ⟨hmay, hfaults, hline, _, _, hwatched, hexc, hclean, hbeats, htwin, hfetch⟩ := Device.ready_parts _ i h
  rw [fetchExc_setBerth] at hexc
  rw [codeClean_setBerth] at hclean
  rw [fetchBreach_setBerth] at hfetch
  unfold Device.mayIssue at hmay
  unfold Device.interruptLine at hline
  unfold Device.beatsWanted at hbeats
  simp only [placeFor_setBerth, Device.berth_setBerth_same] at hmay hfaults hline hexc hclean hbeats hfetch
  exact ⟨hmay, hfaults, hline, hwatched, hexc, hclean, hbeats, htwin, hfetch⟩

/-- The issue there, by what comes of the instruction at the boundary. -/
theorem issue_of_issueHere {w : Went} (hw : d.issueHere (d.ctx i) op = w) :
    (∀ e, w = .issued e → d.issue i op = e) ∧ (w = .held → d.issue i op = d) := by
  obtain ⟨hmay, hfaults, hline, hwatched, hexc, hclean, hbeats, _⟩ := readyButLoads_parts h
  have hhits : d.cmpHits i.b [(1, (d.berth i.b).pc.toNat, i.len)] = [] :=
    d.cmpHits_unwatched _ _ hwatched fun x hx => by rw [List.mem_singleton.mp hx]; exact ⟨Nat.le_refl 1, by norm_num⟩
  unfold Device.issue
  simp only [Device.ctx, Site.b, Site.len] at *
  simp only [Device.fetchWanted, hmay, hfaults, hline, hexc, hbeats, hhits, hw, Device.cmpActions_nil, Bool.true_eq_false, Bool.false_eq_true,
    if_false, List.isEmpty_nil, Option.isSome_none, Bool.and_not_self, or_self]
  exact ⟨fun e he => by rw [he], fun he => by rw [he]⟩

include hext hreads hdest

/-- What comes there of an instruction that names no register. -/
theorem issueHere_loading {r : Issued} (hrun : op.run (d.ctx i) d = r) :
    (∀ d' e, r = .done d' e → d.issueHere (d.ctx i) op = .issued (d'.complete (d.ctx i) e)) ∧
    (r = .stall → d.issueHere (d.ctx i) op = .held) := by
  obtain ⟨_, _, _, _, hexc, hclean, _, htwin, _⟩ := readyButLoads_parts h
  unfold Device.issueHere Berth.interlocked
  simp only [Device.ctx] at *
  simp only [hexc, hext, hreads, hdest, htwin, d.fetchCheck_clean _ _ _ hclean, hrun, List.any_nil, List.isEmpty_nil, Bool.not_true,
    Bool.false_and, Bool.or_self, Bool.false_eq_true, if_false]
  exact ⟨fun d' e he => by rw [he], fun he => by rw [he]⟩

/-- Its effect follows. -/
theorem issue_done_loading {d' : Device} {e : Effect} (hrun : op.run (d.ctx i) d = .done d' e) : d.issue i op = d'.complete (d.ctx i) e :=
  (issue_of_issueHere h ((issueHere_loading h hext hreads hdest hrun).1 _ _ rfl)).1 _ rfl

/-- Where it has to wait it has none. -/
theorem issue_stall_loading (hrun : op.run (d.ctx i) d = .stall) : d.issue i op = d :=
  (issue_of_issueHere h ((issueHere_loading h hext hreads hdest hrun).2 rfl)).2 rfl

end

/-! ### FENCE -/

/-- FENCE waits for the operations in flight that its mask selects (R143). -/
theorem fenced_iff (x : Berth) (mask : BitVec 4) : x.fenced mask = true ↔
    (mask.getLsbD 0 = true → ∀ e ∈ x.loads, ∃ v, e.src = .value v) ∧ (mask.getLsbD 1 = true → x.stores = []) ∧
      (mask.getLsbD 3 = true → ∀ e ∈ x.loads, ¬∃ v, e.src = .value v) := by
  simp only [Berth.fenced, Bool.and_eq_true, Bool.or_eq_true, Bool.not_eq_true', List.all_eq_true, List.isEmpty_iff,
    ← Bool.not_eq_true, ← imp_iff_not_or, and_assoc]
  refine and_congr (imp_congr_right fun _ => forall₂_congr fun e _ => ?_)
    (and_congr Iff.rfl (imp_congr_right fun _ => forall₂_congr fun e _ => not_congr ?_))
  all_goals cases e.src <;> simp

section
variable {s : State} {i : Site} {mask : BitVec 4} (h : s.dev.readyButLoads i = true) (hext : s.dev.externalLoads i.b = [])
  (hmask : mask ≠ 0)
include h hext hmask

theorem fence_issues (hidle : (s.dev.berth i.b).fenced mask = true) :
    Completes (.fence i mask) s fun e => s.dev.Leaves i ((s.dev.berth i.b).goesOn i) e := by
  obtain ⟨_, _, _, hwatched, _, _, _, _, hfetch⟩ := readyButLoads_parts h
  have hlegal : (fenceOp mask).legal (mask != 0) = fenceOp mask := if_pos (bne_iff_ne.mpr hmask)
  have hrun : (fenceOp mask).run (s.dev.ctx i) s.dev = .done s.dev Effect.next := if_pos hidle
  refine completes_of_exec (f := fun d => d.issue i ((fenceOp mask).legal (mask != 0))) rfl ?_
  rw [hlegal, issue_done_loading h hext rfl rfl hrun]
  exact leaves_complete_of (c := s.dev.ctx i) rfl (differsAt_refl _ _) hwatched (.inr rfl) hfetch

theorem fence_waits (hbusy : (s.dev.berth i.b).fenced mask = false) : exec (.fence i mask) s = .next s := by
  have hlegal : (fenceOp mask).legal (mask != 0) = fenceOp mask := if_pos (bne_iff_ne.mpr hmask)
  have hrun : (fenceOp mask).run (s.dev.ctx i) s.dev = .stall := if_neg (by rw [show (s.dev.ctx i).b = i.b from rfl, hbusy]; exact Bool.false_ne_true)
  have hstand : s.dev.issue i ((fenceOp mask).legal (mask != 0)) = s.dev := by
    rw [hlegal, issue_stall_loading h hext rfl rfl hrun]
  show (s.upd fun d => d.issue i ((fenceOp mask).legal (mask != 0))) = _
  rw [State.upd, hstand]

end

/-! ### The end of a wait -/

/-- A wait that ends at its issue reports the pending lines of its set. -/
theorem endWait_pending {x : Berth} (rd : Reg5) (consume : Bool) (mask : Nat) (h : x.wait = .none) :
    x.endWait rd.toNat consume (x.srN 20 &&& mask) = reported x rd consume (x.srN 20 &&& mask) := by
  have hself : { x with wait := .none } = x := by rw [← h]
  have hipend : (x.setReg rd.toNat (BitVec.ofNat 32 (x.srN 20 &&& mask))).srN 20 = x.srN 20 := Berth.srN_setReg ..
  rw [Berth.endWait, hself, reported, hipend, ← Nat.and_assoc, Nat.and_self]

/-- A berth that begins a wait reports at once, or waits (R139). -/
theorem wake_eq_waits {x : Berth} {w : Wait} {rd : Reg5} {consume : Bool} (h : x.wait = .none) (hw : w.cause = some (rd.toNat, consume)) :
    { x with wait := w }.wake = waits x w rd consume (w.mask (x.srN 19)) := by
  rw [waits, ← endWait_pending rd consume _ h]
  unfold Berth.wake
  dsimp only
  rw [hw]
  rfl

theorem setReg_pc (x : Berth) (r : Nat) (v : Word) : (x.setReg r v).pc = x.pc := by
  unfold Berth.setReg Berth.setPhys
  dsimp only
  split <;> rfl

theorem reported_pc (x : Berth) (rd : Reg5) (consume : Bool) (m : Nat) : (reported x rd consume m).pc = x.pc := by
  cases consume <;> exact setReg_pc x rd.toNat _

theorem waits_pc (x : Berth) (w : Wait) (rd : Reg5) (consume : Bool) (mask : Nat) : (waits x w rd consume mask).pc = x.pc := by
  rw [waits, apply_ite Berth.pc, reported_pc, ite_self]

/-! ### The waits -/

section
variable {s : State} {i : Site} {rd : Reg5} {c : Bool} (hready : s.dev.ready i = true)
include hready

/-- A wait that changes nothing else of the device. -/
theorem leaves_wait {op : Op} {w : Wait} (hw : w.cause = some (rd.toNat, c)) (hrun : op.run (s.dev.ctx i) s.dev =
      .done (s.dev.setBerth i.b { s.dev.berth i.b with wait := w }.wake) Effect.next) :
    s.dev.Leaves i ((waits (s.dev.berth i.b) w rd c (w.mask ((s.dev.berth i.b).srN 19))).goesOn i) { s.dev.issue i op with cfg := s.dev.cfg } := by
  obtain ⟨hmay, _⟩ := s.dev.ready_parts i hready
  rw [wake_eq_waits (waits_none_of_mayIssue hmay) hw] at hrun
  have h := leaves_next hready hrun (differsAt_setBerth _ _ _) (by rw [Device.berth_setBerth_same, waits_pc])
  rwa [Device.berth_setBerth_same] at h

/-- WAITE and SLEEP, which wait on the lines of IMASK. -/
theorem wait_completes {q : Instr} {op : Op} {w : Wait} (hexec : exec q s = s.upd fun d => d.issue i op)
    (hw : w.cause = some (rd.toNat, c)) (hmask : w.mask ((s.dev.berth i.b).srN 19) = (s.dev.berth i.b).srN 19)
    (hrun : op.run (s.dev.ctx i) s.dev = .done (s.dev.setBerth i.b { s.dev.berth i.b with wait := w }.wake) Effect.next) :
    Completes q s (s.dev.Leaves i ((waits (s.dev.berth i.b) w rd c ((s.dev.berth i.b).srN 19)).goesOn i)) := by
  have h := leaves_wait hready hw hrun
  rw [hmask] at h
  exact completes_of_exec hexec h

/-- WAITE with P reports the pending lines of IMASK and goes on (R141). -/
theorem poll_completes : Completes (.waite i rd c true) s
    (s.dev.Leaves i ((reported (s.dev.berth i.b) rd c ((s.dev.berth i.b).srN 20 &&& (s.dev.berth i.b).srN 19)).goesOn i)) := by
  obtain ⟨hmay, _⟩ := s.dev.ready_parts i hready
  have hrun : (waiteOp rd c true).run (s.dev.ctx i) s.dev = .done (s.dev.setBerth i.b
      (reported (s.dev.berth i.b) rd c ((s.dev.berth i.b).srN 20 &&& (s.dev.berth i.b).srN 19))) Effect.next := by
    rw [← endWait_pending rd c _ (waits_none_of_mayIssue hmay)]
    rfl
  have h := leaves_next hready hrun (differsAt_setBerth _ _ _) (by rw [Device.berth_setBerth_same, reported_pc])
  rw [Device.berth_setBerth_same] at h
  exact completes_of_exec (f := fun d => d.issue i (waiteOp rd c true)) rfl h

end

/-! ### WAITT -/

/-- A register that another one's write leaves. -/
theorem rd_wr64_other {d : Device} {off o : Nat} (v : Nat) (h : o ≠ off) (h4 : o ≠ off + 4) : (d.wr64 off v).rd o = d.rd o := by
  rw [Device.wr64, Device.rd_wr_other _ _ h4.symm, Device.rd_wr_other _ _ h.symm]

theorem rd64_wr64 (d : Device) (off v : Nat) (h : v < 2 ^ 64) : (d.wr64 off v).rd64 off = v := by
  rw [Device.rd64, Device.wr64, Device.rd_wr_same, Device.rd_wr_other _ _ (by omega), Device.rd_wr_same]
  omega

theorem rd64_lt (d : Device) (off : Nat) : d.rd64 off < 2 ^ 64 := by
  have hlo := d.rd_lt off
  have hhi := d.rd_lt (off + 4)
  rw [Device.rd64]
  omega

/-- The berth whose compare WAITT has set: it asserts anew, and line 0 is clear (R139). -/
def compareSet (x : Berth) : Berth := { x.setSr 20 (setBits (x.srN 20) 0 1 0) with armed := true }

/-- The device whose compare of the berth is v. -/
def withCompare (d : Device) (b v : Nat) : Device := d.wr64 (Reg.CAR_TCMP (coreOf b) (b % 16)) v

theorem sameTo_withCompare (d : Device) (b v : Nat) (hb : b < 512) : SameTo d (withCompare d b v) b := by
  have hcore : coreOf b = b / 16 := rfl
  refine sameTo_of_rd rfl rfl (fun off ho => rd_wr64_other v ?_ ?_) (rd_wr64_other v ?_ ?_)
  all_goals
    rw [hcore]
    unfold Reg.CAR_TCMP
  · omega
  · omega
  · unfold Reg.CAR_BCFG
    omega
  · unfold Reg.CAR_BCFG
    omega

/-- A present berth sets its own compare. -/
theorem tcmpWrite_present {d : Device} {b : Nat} (v : Nat) (h : d.present b = true) :
    d.tcmpWrite b v = (withCompare d b v).setBerth b { d.berth b with armed := true } := by
  rw [Device.tcmpWrite, if_neg (by rw [h]; exact Bool.noConfusion)]
  rfl

section
variable {d : Device} {i : Site} (hready : d.ready i = true)
include hready

theorem present_of_ready : d.present i.b = true := by
  obtain ⟨hmay, _⟩ := d.ready_parts i hready
  simp only [Device.mayIssue, Bool.and_eq_true] at hmay
  obtain ⟨⟨⟨⟨⟨⟨⟨hpresent, _⟩, _⟩, _⟩, _⟩, _⟩, _⟩, _⟩ := hmay
  exact hpresent

/-- MODE 0 and 2 of WAITT (R140). -/
theorem setCompare_eq (mode lo hi : Nat) : d.setCompare i.b mode lo hi =
    if mode = 0 then (withCompare d i.b (lo + 2 ^ 32 * hi)).setBerth i.b (compareSet (d.berth i.b))
    else if mode = 2 then
      (withCompare d i.b ((d.rd64 (Reg.CAR_TCMP (coreOf i.b) (i.b % 16)) + lo) % 2 ^ 64)).setBerth i.b (compareSet (d.berth i.b))
    else d := by
  unfold Device.setCompare
  simp only [tcmpWrite_present _ (present_of_ready hready), Device.berth_setBerth_same, setBerth_setBerth]
  rfl

/-- WAITT once its compare is set: the berth waits on IMASK and line 0. -/
theorem leaves_waitt {e : Device} {y : Berth} {rd rs1 rs2 : Reg5} {mode : BitVec 2} {c : Bool} (hsame : SameTo d e i.b)
    (hd : DiffersAt e i.b (d.setCompare i.b mode.toNat ((d.berth i.b).operand rs1.toNat).toNat ((d.berth i.b).operand rs2.toNat).toNat))
    (hy : (d.setCompare i.b mode.toNat ((d.berth i.b).operand rs1.toNat).toNat ((d.berth i.b).operand rs2.toNat).toNat).berth i.b = y)
    (hwait : y.wait = .none) (hpc : y.pc = (d.berth i.b).pc) :
    e.Leaves i ((waits y (.waitt rd.toNat c) rd c (y.srN 19 ||| 1)).goesOn i)
      { d.issue i (waittOp rd rs1 rs2 mode c) with cfg := d.cfg } := by
  have hrun : (waittOp rd rs1 rs2 mode c).run (d.ctx i) d = .done (e.setBerth i.b { y with wait := .waitt rd.toNat c }.wake) Effect.next := by
    rw [← hd, ← hy]
    rfl
  rw [wake_eq_waits hwait rfl] at hrun
  exact leaves_beside_next hready hsame hrun (by rw [waits_pc, hpc]) (.inr rfl) rfl rfl

end

/-- The completion of WAITT, by the value that its MODE gives the compare. -/
theorem waitt_completes {s : State} {i : Site} {rd rs1 rs2 : Reg5} {mode : BitVec 2} {c : Bool} {e : Device} {y : Berth} {m v : Nat}
    (hexec : exec (.waitt i rd rs1 rs2 mode c) s = s.upd fun d => d.issue i (waittOp rd rs1 rs2 mode c))
    (hleaves : e.Leaves i ((waits y (.waitt rd.toNat c) rd c m).goesOn i)
      { s.dev.issue i (waittOp rd rs1 rs2 mode c) with cfg := s.dev.cfg }) (hv : v < 2 ^ 64)
    (he : e = withCompare s.dev i.b v ∨ e = s.dev ∧ v = s.dev.rd64 (Reg.CAR_TCMP (coreOf i.b) (i.b % 16))) :
    Completes (.waitt i rd rs1 rs2 mode c) s fun f =>
      f.berth i.b = (waits y (.waitt rd.toNat c) rd c m).goesOn i ∧
      f.rd64 (Reg.CAR_TCMP (coreOf i.b) (i.b % 16)) = v ∧
      (∀ off, off ≠ Reg.CAR_TCMP (coreOf i.b) (i.b % 16) → off ≠ Reg.CAR_TCMP (coreOf i.b) (i.b % 16) + 4 → off ≠ Reg.MEM_INFLT →
        f.rd off = s.dev.rd off) ∧ (∀ b, b ≠ i.b → f.berth b = s.dev.berth b) ∧ f.mem = s.dev.mem := by
  refine completes_of_exec hexec ?_
  obtain ⟨hberth, hothers, hregs, heq⟩ := hleaves
  generalize { s.dev.issue i (waittOp rd rs1 rs2 mode c) with cfg := s.dev.cfg } = f at *
  have hcmp : Reg.CAR_TCMP (coreOf i.b) (i.b % 16) ≠ Reg.MEM_INFLT ∧ Reg.CAR_TCMP (coreOf i.b) (i.b % 16) + 4 ≠ Reg.MEM_INFLT := by
    unfold Reg.CAR_TCMP Reg.MEM_INFLT
    omega
  have hrd64 : f.rd64 (Reg.CAR_TCMP (coreOf i.b) (i.b % 16)) = e.rd64 (Reg.CAR_TCMP (coreOf i.b) (i.b % 16)) := by
    rw [Device.rd64, hregs _ hcmp.1, hregs _ hcmp.2, ← Device.rd64]
  have hmem : f.mem = e.mem := by rw [heq]
  rcases he with rfl | ⟨rfl, rfl⟩
  · exact ⟨hberth, hrd64.trans (rd64_wr64 _ _ _ hv), fun off h h4 hp => (hregs off hp).trans (rd_wr64_other v h h4), hothers, hmem⟩
  · exact ⟨hberth, hrd64, fun off _ _ hp => hregs off hp, hothers, hmem⟩

/-- Settles O17: FENCE by what it finds in flight, each wait by what is pending, and WAITT by its MODE. -/
theorem fenceAndWaits : Obligations.FenceAndWaits := by
  refine ⟨fun s i mask h hext hmask => ⟨fun hidle => ?_, fun hbusy => ?_⟩, fun s i rd c hready => ⟨?_, ?_, fun hpl => ?_⟩,
    fun s i rd rs1 rs2 mode c hready hmode => ?_⟩
  · exact fence_issues h hext hmask ((fenced_iff _ _).mpr hidle)
  · exact fence_waits h hext hmask (Bool.eq_false_iff.mpr fun hf => hbusy ((fenced_iff _ _).mp hf))
  · exact poll_completes hready
  · exact wait_completes hready (op := waiteOp rd c false) rfl rfl rfl rfl
  · refine wait_completes hready (op := sleepOp rd c) rfl rfl rfl (if_neg ?_)
    have hlevel : (s.dev.ctx i).level ≠ 0 := Nat.ne_of_gt hpl
    simp [hlevel]
  · intro d x cmp lo
    have hlegal : waittLegal rs1 rs2 mode = true := by
      rcases hmode with rfl | ⟨rfl, rfl, rfl⟩ | ⟨rfl, rfl⟩ <;> rfl
    have hexec : exec (.waitt i rd rs1 rs2 mode c) s = s.upd fun d => d.issue i (waittOp rd rs1 rs2 mode c) := by
      show (s.upd fun d => d.issue i ((waittOp rd rs1 rs2 mode c).legal (waittLegal rs1 rs2 mode))) = _
      rw [hlegal, Op.legal, if_pos rfl]
    obtain ⟨hmay, _⟩ := d.ready_parts i hready
    have hwait : x.wait = .none := waits_none_of_mayIssue hmay
    have hlo : lo < 2 ^ 32 := BitVec.isLt _
    have hhi : (x.operand rs2.toNat).toNat < 2 ^ 32 := BitVec.isLt _
    have himask : (compareSet x).srN 19 = x.srN 19 := (Berth.srN_setSr ..).trans (if_neg (by decide))
    have hset := setCompare_eq hready mode.toNat lo (x.operand rs2.toNat).toNat
    have hcompare {v : Nat} (hv : v < 2 ^ 64)
        (h : d.setCompare i.b mode.toNat lo (x.operand rs2.toNat).toNat = (withCompare d i.b v).setBerth i.b (compareSet x)) :=
      waitt_completes hexec (himask ▸ leaves_waitt (rd := rd) (c := c) hready (sameTo_withCompare d i.b v i.berth.isLt)
        (h ▸ differsAt_setBerth _ _ (compareSet x))
        ((congrArg (Device.berth · i.b) h).trans (Device.berth_setBerth_same ..)) hwait rfl) hv (.inl rfl)
    rcases hmode with rfl | ⟨rfl, _, _⟩ | ⟨rfl, _⟩
    · have hv : lo + 2 ^ 32 * (x.operand rs2.toNat).toNat < 2 ^ 64 := by omega
      exact hcompare hv (hset.trans (if_pos rfl))
    · have hstand : d.setCompare i.b (1 : BitVec 2).toNat lo (x.operand rs2.toNat).toNat = d := hset
      have hleaves := leaves_waitt (rd := rd) (c := c) hready ⟨rfl, rfl, rfl, rfl⟩ (hstand ▸ differsAt_refl d i.b)
        (congrArg (Device.berth · i.b) hstand) hwait rfl
      exact waitt_completes hexec hleaves (rd64_lt d _) (.inr ⟨rfl, rfl⟩)
    · exact hcompare (Nat.mod_lt _ (by decide)) (hset.trans (if_neg (by decide)))

end Sys2Proof.Proofs
end

section
/-! PROOF. ManifestCommitsAndAborts (R135, R347 to R349, R355, R357): what MCOMMIT and MABORT answer, and what they change of the manifest
unit. -/

open Sys2Proof Sys2Proof.Machine Sys2Proof.Claims

namespace Sys2Proof.Proofs

/-! ### Operations of the manifest unit -/

section
variable {d d' : Device} {c : Ctx} {reads : List Reg5} {rd : Reg5} {feed : Bool} {v : Nat}
  {f : Ctx → Berth → Device → Except (Nat × Nat) (Option Nat × Device)} (hfree : d.loadFree c.b = true)
include hfree

theorem mftOp_status (hf : f c (d.berth c.b) d = .ok (some v, d')) :
    (mftOp reads rd feed f).run c d = d'.fixed c rd.toNat v { Effect.next with breach := 5 } := by
  have hfull : ¬d.loadFree c.b = false := by rw [hfree]; exact Bool.noConfusion
  rw [mftOp]
  dsimp only
  rw [if_neg hfull, hf]

theorem mftOp_waits (hf : f c (d.berth c.b) d = .ok (none, d')) :
    (mftOp reads rd feed f).run c d = .done d' { Effect.next with breach := 5, shadow := (d.berth c.b).delay rd.toNat } := by
  have hfull : ¬d.loadFree c.b = false := by rw [hfree]; exact Bool.noConfusion
  rw [mftOp]
  dsimp only
  rw [if_neg hfull, hf]

end

/-- The berth that waits for manifest h (R135). -/
def waitsFor (x : Berth) (rd : Reg5) (h : Nat) : Berth := { x with wait := .commit rd.toNat h }

/-- The berth past MCOMMIT while it waits. -/
def waitingFor (x : Berth) (i : Site) (rd : Reg5) (h : Nat) : Berth :=
  { x.goesOn i with wait := .commit rd.toNat h, shadow := some (physReg x.cwp rd.toNat, x.reg rd.toNat) }

section
variable {s : State} {i : Site} {q : Instr} {op : Op} {rd : Reg5} (hexec : exec q s = s.upd fun d => d.issue i op) (hmft : mftReady s.dev i)
include hexec hmft

/-- An operation that answers a status at once. -/
theorem completes_status {e : Device} {v : Nat} (hsame : SameTo s.dev e i.b)
    (hrun : op.run (s.dev.ctx i) s.dev = e.fixed (s.dev.ctx i) rd.toNat v { Effect.next with breach := 5 }) :
    Completes q s (e.Leaves i (queued (s.dev.berth i.b) i rd (BitVec.ofNat 32 v))) :=
  completes_of_exec hexec (leaves_beside_fixed hmft.1 hsame hrun (.inl hmft.2.1) rfl)

/-- One that fails changes nothing of the unit. -/
theorem fails_of_run {code : Nat} (hrun : op.run (s.dev.ctx i) s.dev =
    s.dev.fixed (s.dev.ctx i) rd.toNat (mftFail code) { Effect.next with breach := 5 }) : fails s i rd q code := by
  refine completes_mono (completes_status hexec hmft ⟨rfl, rfl, rfl, rfl⟩ hrun) fun e ⟨hberth, _, _, heq⟩ => ⟨hberth, ?_, fun a => ?_⟩
  · rw [heq]
  · rw [heq]
    rfl

/-- MCOMMIT that waits: beside the berth only the manifest unit has changed. -/
theorem completes_waiting {u : ScanSys} {h : Nat} (hrun : op.run (s.dev.ctx i) s.dev =
    .done (Device.setBerth { s.dev with scn := u } i.b (waitsFor (s.dev.berth i.b) rd h))
      { Effect.next with breach := 5, shadow := (s.dev.berth i.b).delay rd.toNat }) :
    Completes q s fun e => e.berth i.b = waitingFor (s.dev.berth i.b) i rd h ∧ e.scn = u ∧ e.SameBytes s.dev := by
  have hleaves := leaves_beside hmft.1 (sameTo_withScn s.dev u i.b) hrun (differsAt_setBerth _ _ _) (.inl hmft.2.1)
  refine completes_of_exec hexec ?_
  obtain ⟨hberth, _, _, heq⟩ := hleaves
  refine ⟨?_, by rw [heq], fun a => by rw [heq]; rfl⟩
  rw [hberth, Device.berth_setBerth_same, waitsFor, advance_of_sr_eq (x := s.dev.berth i.b) (by rfl) rfl, waitingFor,
    goesOn_self (s.dev.berth i.b)]
  rfl

end

/-! ### The manifest and its commit -/

/-- The manifest that rd names is the operation's (R346, R347). -/
theorem mftTarget_of_names {d : Device} {i : Site} {rd : Reg5} {h : Nat} {m : Manifest} (hn : namesManifest d i rd h m) :
    d.mftTarget i.b ((d.berth i.b).operand rd.toNat).toNat = .ok (h, m) := by
  obtain ⟨hm, ⟨hbit, rfl, hown, hopen⟩ | ⟨hbit, c, hc, rfl⟩⟩ := hn
  · rw [Device.mftTarget, if_neg (by rw [hbit]; exact Bool.noConfusion), hm]
    exact if_pos ⟨hown, hopen⟩
  · rw [Device.mftTarget, if_pos hbit, hc]
    dsimp only
    rw [hm]

theorem manifest_setManifest (d : Device) (h j : Nat) (m : Option Manifest) :
    (d.setManifest h m).manifest j = if h = j then m else d.manifest j := Store.get_put _ _ _ _ _

theorem fld_setManifest (d : Device) (h : Nat) (m : Option Manifest) (off lo w : Nat) : (d.setManifest h m).fld off lo w = d.fld off lo w := rfl

theorem manifest_setCls (d : Device) (c j : Nat) (x : ScanClass) : (d.setCls c x).manifest j = d.manifest j := rfl

theorem cls_setCls (d : Device) (c : Nat) (x : ScanClass) : (d.setCls c x).cls c = x := Store.get_put_same _ _ _ _

theorem bytes_withScn (d : Device) (u : ScanSys) : Device.SameBytes d { d with scn := u } := fun _ => rfl

/-- With no round undecided an MCOMMIT brings no vote (R397). -/
theorem sgArrive_decided {d : Device} (h : ∀ j, j < 16 → (d.sg j).undecided = false) : d.sgArrive = d := by
  have hvote (j : Nat) (hj : j ∈ List.range 16) : d.sgTryVote j = d := by
    rw [Device.sgTryVote]
    exact if_neg fun hc => Bool.false_ne_true ((h j (List.mem_range.mp hj)).symm.trans hc.2.1)
  rw [Device.sgArrive]
  generalize List.range 16 = l at hvote
  induction l with
  | nil => rfl
  | cons j l ih =>
    rw [List.foldl_cons, hvote j List.mem_cons_self]
    exact ih fun k hk => hvote k (List.mem_cons_of_mem _ hk)

section
variable {d d' : Device} {i : Site} {rd rs1 : Reg5} {k : BitVec 3} {v : Nat} (hfree : d.loadFree i.b = true)
include hfree

theorem mcommit_status (h : d.mftCommit i.b ((d.berth i.b).operand rd.toNat).toNat ((d.berth i.b).operand rs1.toNat).toNat k.toNat rd.toNat =
    (some v, d')) : (mcommitOp rd rs1 k).run (d.ctx i) d = d'.fixed (d.ctx i) rd.toNat v { Effect.next with breach := 5 } := by
  refine mftOp_status (c := d.ctx i) hfree ?_
  dsimp only [Device.ctx]
  rw [h]
  rfl

theorem mcommit_waits (h : d.mftCommit i.b ((d.berth i.b).operand rd.toNat).toNat ((d.berth i.b).operand rs1.toNat).toNat k.toNat rd.toNat =
    (none, d')) (hsg : ∀ j, j < 16 → (d'.sg j).undecided = false) : (mcommitOp rd rs1 k).run (d.ctx i) d =
      .done d' { Effect.next with breach := 5, shadow := (d.berth i.b).delay rd.toNat } := by
  refine mftOp_waits (c := d.ctx i) hfree ?_
  dsimp only [Device.ctx]
  rw [h]
  dsimp only [Option.isNone]
  rw [if_pos rfl, sgArrive_decided hsg]

theorem mabort_status {code : Nat} (h : d.mftAbort i.b ((d.berth i.b).operand rd.toNat).toNat k.toNat = (code, d')) :
    (mabortOp rd k).run (d.ctx i) d = d'.fixed (d.ctx i) rd.toNat code { Effect.next with breach := 5 } := by
  refine mftOp_status (c := d.ctx i) hfree ?_
  dsimp only [Device.ctx]
  rw [h]

end

/-! ### What MCOMMIT does to the manifest it names -/

/-- The device where berth b waits for the commit of manifest h, which is now m. -/
def committing (d : Device) (b rd h : Nat) (m : Manifest) : Device :=
  (d.setManifest h (some m)).setBerth b { d.berth b with wait := .commit rd h }

/-- The device where berth b has reported done to class c and waits. -/
def reportingDone (d : Device) (b rd c : Nat) : Device :=
  (d.setBerth b { d.berth b with wait := .commit rd (16 + c) }).setCls c { d.cls c with done := (d.cls c).done ++ [b] }

/-- MCOMMIT with K = 1 of a berth's manifest, by the instant that its operand names (R135). -/
def scheduledAnswer (d : Device) (b rd h : Nat) (m : Manifest) : Option Nat → Option Nat × Device
  | none => (some (mftFail 0x11), (d.setManifest h none).lateCount)
  | some v => (none, (committing d b rd h { m with committed := true, instant := some v }).commitDue h)

section
variable {d : Device} {b rdv v rd h k : Nat} {m : Manifest} (ht : d.mftTarget b rdv = .ok (h, m))
include ht

/-- MCOMMIT of a berth's manifest. (The instant is made a variable first: the kernel would evaluate its comparison.) -/
theorem mftCommit_berth (hh : h < 16) : d.mftCommit b rdv v k rd =
    if 2 ≤ k ∨ k = 1 ∧ (m.edit || m.sync) = true then (some (mftFail 8), d)
    else if k = 1 then scheduledAnswer d b rd h m (commitInstant d.tbNow v)
    else (none, if m.sync then committing d b rd h { m with committed := true }
      else (committing d b rd h { m with committed := true }).commitJoin h false) := by
  obtain ⟨instant, hinstant⟩ : ∃ f, f = commitInstant := ⟨_, rfl⟩
  rw [Device.mftCommit, ht, ← hinstant]
  dsimp only
  rw [if_neg (Nat.not_le.mpr hh)]
  cases instant d.tbNow v <;> rfl

/-- MCOMMIT of the class manifest. -/
theorem mftCommit_class {c : Nat} (hc : h = 16 + c) : d.mftCommit b rdv v k rd =
    if k = 1 then (some (mftFail 0x0A), d) else if k ≠ 0 then (some (mftFail 8), d)
    else (none, (reportingDone d b rd c).clsCheck c) := by
  subst hc
  obtain ⟨instant, hinstant⟩ : ∃ f, f = commitInstant := ⟨_, rfl⟩
  rw [Device.mftCommit, ht, ← hinstant]
  dsimp only
  rw [if_pos (Nat.le_add_right 16 c), Nat.add_sub_cancel_left]
  rfl

end

/-! ### The queue of commits -/

theorem commitJoin_eq (d : Device) (h : Nat) (ahead : Bool) :
    d.commitJoin h ahead = { d with scn := { d.scn with queue := (d.commitJoin h ahead).scn.queue } } := by
  unfold Device.commitJoin
  split_ifs <;> rfl

/-- A commit that no entry of the queue joins with goes to its end (R357). -/
theorem commitBefore_end {d : Device} (q : Commit) {p : Commit → Bool} (hp : ∀ c, p c = false) :
    (d.commitBefore q p).scn.queue = d.scn.queue ++ [q] := by
  have htake : d.scn.queue.takeWhile (!p ·) = d.scn.queue := List.takeWhile_eq_self_iff.mpr fun c _ => by rw [hp c, Bool.not_false]
  have hdrop : d.scn.queue.dropWhile (!p ·) = [] := List.dropWhile_eq_nil_iff.mpr fun c _ => by rw [hp c, Bool.not_false]
  rw [Device.commitBefore]
  dsimp only
  rw [htake, hdrop, List.append_nil]

/-- A commit without an instant has not joined at one. -/
theorem joinedNow_unscheduled {d : Device} {h : Nat} {m : Manifest} (hm : d.manifest h = some m) (hi : m.instant = none) :
    d.joinedNow (.berth h) = false := by
  rw [Device.joinedNow]
  dsimp only
  rw [hm]
  dsimp only
  rw [hi]

/-- The commit of a manifest that is not scheduled joins the end of the queue (R357). -/
theorem commitJoin_end {d : Device} {h : Nat} {m : Manifest} (hm : d.manifest h = some m) (hi : m.instant = none)
    (hnew : d.scn.queue.contains (.berth h) = false) : (d.commitJoin h false).scn.queue = d.scn.queue ++ [.berth h] := by
  have hjoin (q : Commit) : d.sameJoin h q = false := by
    unfold Device.sameJoin
    cases q with
    | cls c => rfl
    | failed c => rfl
    | berth k =>
      dsimp only
      rw [joinedNow_unscheduled hm hi, Bool.and_false]
  rw [Device.commitJoin, hnew, if_neg Bool.false_ne_true, if_neg Bool.false_ne_true]
  exact commitBefore_end _ hjoin

/-- A scheduled commit whose instant is still more than LEAD away does not join (R358). -/
theorem commitDue_early {d : Device} {h v : Nat} {m : Manifest} (hm : d.manifest h = some m) (hi : m.instant = some v)
    (hv : 3 * d.tbNow + d.fld Reg.MFT_LEAD 0 12 < 3 * v) : d.commitDue h = d := by
  rw [Device.commitDue, hm]
  dsimp only
  rw [hi]
  exact if_neg fun hc => absurd hc.2 (by omega)

/-! ### The class commit -/

/-- The device where the class commit of class c is triggered (R342). -/
def triggered (d : Device) (c : Nat) (m : Manifest) : Device :=
  ((d.setManifest (16 + c) (some { m with committed := true })).setCls c { d.cls c with doneAt := d.tbNow }).commitBefore (.cls c) d.joinedNow

theorem done_triggered (d : Device) (c : Nat) (m : Manifest) : ((triggered d c m).cls c).done = (d.cls c).done := by
  have hcls : ((d.setManifest (16 + c) (some { m with committed := true })).setCls c { d.cls c with doneAt := d.tbNow }).cls c =
      { d.cls c with doneAt := d.tbNow } := cls_setCls _ c _
  have hsame : (triggered d c m).cls c = ((d.setManifest (16 + c) (some { m with committed := true })).setCls c
      { d.cls c with doneAt := d.tbNow }).cls c := rfl
  rw [hsame, hcls]

/-- A commit of the class manifest leaves what has joined. -/
theorem joinedNow_setManifest {d : Device} {h : Nat} {m : Manifest} (k : Nat) (x : ScanClass) (hm : d.manifest h = some m) :
    ((d.setManifest h (some { m with committed := true })).setCls k x).joinedNow = d.joinedNow := by
  funext q
  unfold Device.joinedNow
  cases q with
  | cls c => rfl
  | failed c => rfl
  | berth j =>
    have hj : ((d.setManifest h (some { m with committed := true })).setCls k x).manifest j =
        if h = j then some { m with committed := true } else d.manifest j := by rw [manifest_setCls, manifest_setManifest]
    dsimp only
    rw [hj]
    by_cases hq : h = j
    · subst hq
      rw [if_pos rfl, hm]
      rfl
    · rw [if_neg hq]
      rfl

theorem clsTrigger_eq {d : Device} {c : Nat} {m : Manifest} (hm : d.manifest (16 + c) = some m) :
    d.clsTrigger c = if m.committed then d else triggered d c m := by
  rw [Device.clsTrigger, hm]
  dsimp only
  rw [joinedNow_setManifest c _ hm]
  rfl

/-- A running class, from its latest done. -/
theorem clsCheck_reportingDone {d : Device} {b rd c : Nat} {m : Manifest} (hm : d.manifest (16 + c) = some m)
    (hrunning : (d.cls c).running = true) (hrelease : (d.cls c).release = false) : (reportingDone d b rd c).clsCheck c =
      if ((d.cls c).expected.all fun j => j == b || (d.cls c).done.contains j) && !m.committed then triggered (reportingDone d b rd c) c m
      else reportingDone d b rd c := by
  have hcls : (reportingDone d b rd c).cls c = { d.cls c with done := (d.cls c).done ++ [b] } := cls_setCls _ _ _
  have hmember (j : Nat) : ((d.cls c).done ++ [b]).contains j = (j == b || (d.cls c).done.contains j) := by
    rw [List.contains_append, Bool.or_comm, List.contains_cons, List.contains_nil, Bool.or_false]
  have hm' : (reportingDone d b rd c).manifest (16 + c) = some m := hm
  rw [Device.clsCheck, hcls]
  dsimp only
  rw [hrunning, hrelease, funext hmember, clsTrigger_eq hm', Bool.not_false, Bool.true_and, Bool.true_and]
  cases m.committed <;> simp

/-! ### The statement's cases -/

theorem commitInstant_ahead {now v ahead : Nat} (h : (v + 2 ^ 32 - now % 2 ^ 32) % 2 ^ 32 = ahead) :
    commitInstant now v = if 2 ^ 31 ≤ ahead then none else some (now + ahead) := by
  rw [commitInstant, h]

theorem rd_bump_other {d : Device} {off o : Nat} (lo w : Nat) (h : o ≠ off) : (d.bump off lo w).rd o = d.rd o :=
  Device.rd_wr_other _ _ h.symm

/-- To a berth a counter below the Carousel's registers is nothing. -/
theorem sameTo_bump (d : Device) {off b : Nat} (lo w : Nat) (h : off < 0x100000) : SameTo d (d.bump off lo w) b :=
  sameTo_of_rd rfl rfl (fun o ho => rd_bump_other lo w (by omega)) (rd_bump_other lo w (by unfold Reg.CAR_BCFG; omega))

/-- A counter goes up by 1 and stands at its top. -/
theorem fld_bump (d : Device) (off : Nat) {lo w : Nat} (h : lo + w ≤ 32) :
    (d.bump off lo w).fld off lo w = min (d.fld off lo w + 1) (2 ^ w - 1) := by
  have hlt : d.fld off lo w < 2 ^ w := Nat.mod_lt _ (Nat.two_pow_pos w)
  have hinc : satInc (d.fld off lo w) (2 ^ w - 1) = min (d.fld off lo w + 1) (2 ^ w - 1) := by
    unfold satInc
    split <;> omega
  have hread : (d.bump off lo w).rd off = setBits (d.rd off) lo w (satInc (d.fld off lo w) (2 ^ w - 1)) % 2 ^ 32 := d.rd_wr_same _ _
  rw [Device.fld, hread, bitsOf_mod h, bitsOf_setBits_same, hinc]
  exact Nat.mod_eq_of_lt (by omega)

theorem fld_lateCount (d : Device) : d.lateCount.fld Reg.MFT_CNT 24 8 = min (d.fld Reg.MFT_CNT 24 8 + 1) 255 :=
  fld_bump d Reg.MFT_CNT (lo := 24) (w := 8) (by decide)

theorem mcommit_exec {s : State} {i : Site} {rd rs1 : Reg5} {k : BitVec 3} (hlegal : k ≠ 0 ∨ rs1 = 0) :
    exec (.mcommit i rd rs1 k) s = s.upd fun d => d.issue i (mcommitOp rd rs1 k) := by
  show (s.upd fun d => d.issue i ((mcommitOp rd rs1 k).legal (k != 0 || rs1 == 0))) = _
  rw [Op.legal, if_pos (by simpa using hlegal)]

section
variable {s : State} {i : Site} {rd rs1 : Reg5} {k : BitVec 3} {h : Nat} {m : Manifest} (hmft : mftReady s.dev i)
  (hn : namesManifest s.dev i rd h m)
include hmft hn

/-- MCOMMIT that its arguments fail. -/
theorem mcommit_badParam (hk : 2 ≤ k.toNat ∨ k.toNat = 1 ∧ h < 16 ∧ (m.edit || m.sync) = true) : fails s i rd (.mcommit i rd rs1 k) 8 := by
  refine fails_of_run (mcommit_exec (.inl ?_)) hmft (mcommit_status hmft.2.2 ?_)
  · rintro rfl
    simp at hk
  · by_cases hh : h < 16
    · rw [mftCommit_berth (mftTarget_of_names hn) hh]
      exact if_pos (hk.imp_right fun hk => ⟨hk.1, hk.2.2⟩)
    · have h2 : 2 ≤ k.toNat := hk.resolve_right fun hk => hh hk.2.1
      rw [mftCommit_class (c := h - 16) (mftTarget_of_names hn) (by omega), if_neg (by omega), if_pos (by omega)]

/-- CLASSOP of MCOMMIT (R347). -/
theorem mcommit_classOp {c : Nat} (hc : h = 16 + c) : fails s i rd (.mcommit i rd rs1 1) 0x0A := by
  refine fails_of_run (mcommit_exec (.inl (by decide))) hmft (mcommit_status hmft.2.2 ?_)
  rw [mftCommit_class (mftTarget_of_names hn) hc]
  rfl

/-- MABORT of the class manifest, and with a K that is not listed. -/
theorem mabort_fails {code : Nat} (hcode : 16 ≤ h ∧ code = 0x0A ∨ h < 16 ∧ k ≠ 0 ∧ code = 8) : fails s i rd (.mabort i rd k) code := by
  refine fails_of_run (op := mabortOp rd k) rfl hmft (mabort_status hmft.2.2 ?_)
  have hk : k ≠ 0 → k.toNat ≠ 0 := fun h0 h1 => h0 (BitVec.eq_of_toNat_eq h1)
  have ht := mftTarget_of_names hn
  rw [Device.mftAbort]
  obtain ⟨_, ⟨hbit, rfl, _, _⟩ | ⟨hbit, c, hc, rfl⟩⟩ := hn
  · obtain ⟨_, hk0, rfl⟩ := hcode.resolve_left fun hc => absurd hc.1 (Nat.not_le.mpr (Nat.mod_lt _ (by decide)))
    rw [if_neg (by rw [hbit]; exact Bool.false_ne_true), ht]
    exact if_pos (hk hk0)
  · obtain ⟨_, rfl⟩ := hcode.resolve_right fun hc => absurd hc.1 (by omega)
    rw [if_pos hbit, hc]

theorem mabort_closes (hh : h < 16) : Completes (.mabort i rd 0) s fun e =>
    e.berth i.b = queued (s.dev.berth i.b) i rd 0 ∧ e.manifest h = none ∧ (∀ j, j ≠ h → e.manifest j = s.dev.manifest j) ∧
    e.SameBytes s.dev := by
  have hbit : bitOf ((s.dev.berth i.b).operand rd.toNat).toNat 8 = false := by
    obtain ⟨_, ⟨hbit, _⟩ | ⟨_, c, _, rfl⟩⟩ := hn
    · exact hbit
    · omega
  have habort : s.dev.mftAbort i.b ((s.dev.berth i.b).operand rd.toNat).toNat (0 : BitVec 3).toNat = (0, s.dev.setManifest h none) := by
    rw [Device.mftAbort, if_neg (by rw [hbit]; exact Bool.false_ne_true), mftTarget_of_names hn]
    rfl
  refine completes_mono (completes_status (op := mabortOp rd 0) rfl hmft (sameTo_withScn _ _ _) (mabort_status hmft.2.2 habort))
    fun e ⟨hberth, _, _, heq⟩ => ?_
  have hmanifest (j : Nat) : e.manifest j = if h = j then none else s.dev.manifest j := by
    rw [← manifest_setManifest, Device.manifest, heq]
    rfl
  refine ⟨hberth, (hmanifest h).trans (if_pos rfl), fun j hj => (hmanifest j).trans (if_neg hj.symm), fun a => ?_⟩
  rw [heq]
  rfl

omit hn in
/-- MCOMMIT that waits, by what has become of the manifest unit. -/
theorem mcommit_waiting {u : ScanSys} (hlegal : k ≠ 0 ∨ rs1 = 0) (hsg : ∀ j, j < 16 → (s.dev.sg j).undecided = false)
    (hcommit : s.dev.mftCommit i.b ((s.dev.berth i.b).operand rd.toNat).toNat ((s.dev.berth i.b).operand rs1.toNat).toNat k.toNat rd.toNat =
      (none, Device.setBerth { s.dev with scn := u } i.b (waitsFor (s.dev.berth i.b) rd h))) :
    Completes (.mcommit i rd rs1 k) s fun e => e.berth i.b = waitingFor (s.dev.berth i.b) i rd h ∧ e.scn = u ∧ e.SameBytes s.dev :=
  completes_waiting (mcommit_exec hlegal) hmft (mcommit_waits hmft.2.2 hcommit hsg)

/-- MCOMMIT with K = 0 of a berth's manifest (R348, R357). -/
theorem mcommit_now (hh : h < 16) (hsg : ∀ j, j < 16 → (s.dev.sg j).undecided = false) : Completes (.mcommit i rd 0 0) s fun e =>
    e.berth i.b = waitingFor (s.dev.berth i.b) i rd h ∧ e.manifest h = some { m with committed := true } ∧ e.SameBytes s.dev ∧
    (m.sync = false → m.instant = none → s.dev.scn.queue.contains (.berth h) = false → e.scn.queue = s.dev.scn.queue ++ [.berth h]) ∧
    (m.sync = true → e.scn.queue = s.dev.scn.queue) := by
  set w := committing s.dev i.b rd.toNat h { m with committed := true } with hw
  have hmanifest : w.manifest h = some { m with committed := true } := (manifest_setManifest ..).trans (if_pos rfl)
  have hcommit := mftCommit_berth (v := ((s.dev.berth i.b).operand 0).toNat) (rd := rd.toNat) (k := 0) (mftTarget_of_names hn) hh
  rw [if_neg (by omega), if_neg (by decide), ← hw] at hcommit
  rcases Bool.eq_false_or_eq_true m.sync with hsync | hsync
  · rw [hsync, if_pos rfl] at hcommit
    refine completes_mono (mcommit_waiting hmft (.inr rfl) hsg hcommit)
      fun e ⟨hberth, hscn, hbytes⟩ => ⟨hberth, ?_, hbytes, fun h => ?_, fun _ => ?_⟩
    · rw [← hmanifest, Device.manifest, hscn]
      rfl
    · exact absurd (hsync.symm.trans h) (by decide)
    · rw [hscn]
  · rw [hsync, if_neg Bool.false_ne_true, commitJoin_eq] at hcommit
    refine completes_mono (mcommit_waiting (u := { w.scn with queue := (w.commitJoin h false).scn.queue }) hmft (.inr rfl) hsg hcommit)
      fun e ⟨hberth, hscn, hbytes⟩ => ⟨hberth, ?_, hbytes, fun _ hi hnew => ?_, fun h => ?_⟩
    · rw [← hmanifest, Device.manifest, hscn]
      rfl
    · rw [hscn]
      exact commitJoin_end hmanifest hi hnew
    · exact absurd (hsync.symm.trans h) (by decide)

/-- MCOMMIT with K = 1 for an instant ahead (R135, R358). -/
theorem mcommit_scheduled {ahead : Nat} (hh : h < 16) (hsg : ∀ j, j < 16 → (s.dev.sg j).undecided = false)
    (hplain : (m.edit || m.sync) = false)
    (hat : commitInstant s.dev.tbNow ((s.dev.berth i.b).operand rs1.toNat).toNat = some (s.dev.tbNow + ahead))
    (hlead : s.dev.fld Reg.MFT_LEAD 0 12 < 3 * ahead) :
    Completes (.mcommit i rd rs1 1) s fun e =>
      e.berth i.b = waitingFor (s.dev.berth i.b) i rd h ∧
      e.manifest h = some { m with committed := true, instant := some (s.dev.tbNow + ahead) } ∧
      e.scn.queue = s.dev.scn.queue ∧ e.SameBytes s.dev := by
  set w := committing s.dev i.b rd.toNat h { m with committed := true, instant := some (s.dev.tbNow + ahead) } with hw
  have hmanifest : w.manifest h = some { m with committed := true, instant := some (s.dev.tbNow + ahead) } :=
    (manifest_setManifest ..).trans (if_pos rfl)
  have hdue : w.commitDue h = w := commitDue_early hmanifest rfl (by
    show 3 * s.dev.tbNow + s.dev.fld Reg.MFT_LEAD 0 12 < _
    omega)
  have hcommit := mftCommit_berth (v := ((s.dev.berth i.b).operand rs1.toNat).toNat) (rd := rd.toNat) (k := 1) (mftTarget_of_names hn) hh
  rw [hplain, if_neg (by decide), if_pos rfl, hat, scheduledAnswer, ← hw, hdue] at hcommit
  refine completes_mono (mcommit_waiting hmft (.inl (by decide)) hsg hcommit) fun e ⟨hberth, hscn, hbytes⟩ => ⟨hberth, ?_, ?_, hbytes⟩
  · rw [← hmanifest, Device.manifest, hscn]
    rfl
  · rw [hscn]

/-- MCOMMIT with K = 1 for an instant that has passed (R135). -/
theorem mcommit_late (hh : h < 16) (hplain : (m.edit || m.sync) = false)
    (hat : commitInstant s.dev.tbNow ((s.dev.berth i.b).operand rs1.toNat).toNat = none) :
    Completes (.mcommit i rd rs1 1) s fun e =>
      e.berth i.b = queued (s.dev.berth i.b) i rd 0x80000011 ∧ e.manifest h = none ∧ (∀ j, j ≠ h → e.manifest j = s.dev.manifest j) ∧
      e.fld Reg.MFT_CNT 24 8 = min (s.dev.fld Reg.MFT_CNT 24 8 + 1) 255 ∧ e.SameBytes s.dev := by
  have hcommit := mftCommit_berth (v := ((s.dev.berth i.b).operand rs1.toNat).toNat) (rd := rd.toNat) (k := 1) (mftTarget_of_names hn) hh
  rw [hplain, if_neg (by decide), if_pos rfl, hat, scheduledAnswer] at hcommit
  set w := (s.dev.setManifest h none).lateCount with hw
  have hsame : SameTo s.dev w i.b := (sameTo_withScn s.dev (s.dev.setManifest h none).scn i.b).trans (sameTo_bump _ 24 8 (by decide))
  refine completes_mono (completes_status (mcommit_exec (.inl (by decide))) hmft hsame (mcommit_status hmft.2.2 hcommit))
    fun e hleaves => ?_
  have hscn : e.scn = (s.dev.setManifest h none).scn := (leaves_scn hleaves).trans (Device.bump_scn _ Reg.MFT_CNT 24 8)
  have hmem : e.mem = (s.dev.setManifest h none).mem := (leaves_mem hleaves).trans (Device.bump_mem _ Reg.MFT_CNT 24 8)
  obtain ⟨hberth, _, hregs, _⟩ := hleaves
  have hcount : e.fld Reg.MFT_CNT 24 8 = min (s.dev.fld Reg.MFT_CNT 24 8 + 1) 255 := by
    have hread : e.fld Reg.MFT_CNT 24 8 = w.fld Reg.MFT_CNT 24 8 := by rw [Device.fld, Device.fld, hregs Reg.MFT_CNT (by decide)]
    rw [hread, hw, fld_lateCount, fld_setManifest]
  have hmanifest (j : Nat) : e.manifest j = if h = j then none else s.dev.manifest j := by
    rw [← manifest_setManifest, Device.manifest, hscn]
    rfl
  have hcode : BitVec.ofNat 32 (mftFail 0x11) = 0x80000011 := by decide
  rw [hcode] at hberth
  refine ⟨hberth, (hmanifest h).trans (if_pos rfl), fun j hj => (hmanifest j).trans (if_neg hj.symm), hcount, fun a => ?_⟩
  rw [Device.byte, Device.byte, hmem]
  rfl

omit hmft in
theorem class_runs {c : Nat} (hc : h = 16 + c) : (s.dev.cls c).running = true ∧ (s.dev.cls c).release = false := by
  obtain ⟨_, ⟨_, hh, _⟩ | ⟨_, c', hclass, hh⟩⟩ := hn
  · omega
  · obtain rfl : c' = c := by omega
    have hfind := List.find?_some hclass
    simp only [Bool.and_eq_true, Bool.not_eq_true'] at hfind
    obtain ⟨⟨⟨⟨hrunning, hrelease⟩, _⟩, _⟩, _⟩ := hfind
    exact ⟨hrunning, hrelease⟩

/-- A done (R342, R347). -/
theorem mcommit_done {c : Nat} (hc : h = 16 + c) (hsg : ∀ j, j < 16 → (s.dev.sg j).undecided = false) :
    Completes (.mcommit i rd 0 0) s fun e =>
      e.berth i.b = waitingFor (s.dev.berth i.b) i rd h ∧ (e.cls c).done = (s.dev.cls c).done ++ [i.b] ∧ e.SameBytes s.dev ∧
      e.scn.queue = (if ((s.dev.cls c).expected.all fun b => b == i.b || (s.dev.cls c).done.contains b) && !m.committed then
        s.dev.scn.queue.takeWhile (!s.dev.joinedNow ·) ++ [.cls c] ++ s.dev.scn.queue.dropWhile (!s.dev.joinedNow ·) else s.dev.scn.queue) := by
  subst hc
  have hm : s.dev.manifest (16 + c) = some m := hn.1
  obtain ⟨hrunning, hrelease⟩ := class_runs hn rfl
  have hcommit := mftCommit_class (v := ((s.dev.berth i.b).operand 0).toNat) (rd := rd.toNat) (k := 0) (mftTarget_of_names hn) rfl
  rw [if_neg (by decide), if_neg (by decide), clsCheck_reportingDone hm hrunning hrelease] at hcommit
  set last := ((s.dev.cls c).expected.all fun b => b == i.b || (s.dev.cls c).done.contains b) && !m.committed
  set w := reportingDone s.dev i.b rd.toNat c with hw
  have hdone : (w.cls c).done = (s.dev.cls c).done ++ [i.b] := by rw [hw, reportingDone, cls_setCls]
  rcases Bool.eq_false_or_eq_true last with hlast | hlast
  · rw [hlast, if_pos rfl] at hcommit
    refine completes_mono (mcommit_waiting (u := (triggered w c m).scn) hmft (.inr rfl) hsg hcommit)
      fun e ⟨hberth, hscn, hbytes⟩ => ⟨hberth, ?_, hbytes, ?_⟩
    · rw [← hdone, ← done_triggered w c m, Device.cls, Device.cls, hscn]
    · rw [hscn, if_pos hlast]
      rfl
  · rw [hlast, if_neg Bool.false_ne_true] at hcommit
    refine completes_mono (mcommit_waiting (u := w.scn) hmft (.inr rfl) hsg hcommit) fun e ⟨hberth, hscn, hbytes⟩ => ⟨hberth, ?_, hbytes, ?_⟩
    · rw [← hdone, Device.cls, hscn]
      rfl
    · rw [hscn, if_neg (by rw [hlast]; exact Bool.false_ne_true)]
      rfl

end

/-- Settles O22: each K on a berth's manifest and on the class manifest, by what stands in the way. -/
theorem manifestCommitsAndAborts : Obligations.ManifestCommitsAndAborts := by
  intro s i rd rs1 k h m d x waiting ahead hmft hn hsg
  have hat : commitInstant d.tbNow (x.operand rs1.toNat).toNat = if 2 ^ 31 ≤ ahead then none else some (d.tbNow + ahead) :=
    commitInstant_ahead rfl
  have hplain : m.edit = false → m.sync = false → (m.edit || m.sync) = false := fun he hs => by rw [he, hs]; rfl
  refine ⟨fun hh => ⟨mcommit_now hmft hn hh hsg, fun he hs hlt hlead => ?_, fun he hs hle => ?_, fun hbad => ?_, fun hk => ?_, fun hk => ?_,
    mabort_closes hmft hn hh⟩, fun c hc => ⟨mcommit_classOp hmft hn hc, ?_, fun hk => ?_, ?_⟩⟩
  · exact mcommit_scheduled hmft hn hh hsg (hplain he hs) (hat.trans (if_neg (Nat.not_le.mpr hlt))) hlead
  · exact mcommit_late hmft hn hh (hplain he hs) (hat.trans (if_pos hle))
  · exact mcommit_badParam hmft hn (.inr ⟨rfl, hh, by simpa using hbad⟩)
  · exact mcommit_badParam hmft hn (.inl hk)
  · exact mabort_fails hmft hn (.inr ⟨hh, hk, rfl⟩)
  · exact mabort_fails hmft hn (.inl ⟨by omega, rfl⟩)
  · exact mcommit_badParam hmft hn (.inl hk)
  · exact mcommit_done hmft hn hc hsg

end Sys2Proof.Proofs
end

section
/-! PROOF. PinsAndEnginePort (R136, R138, R235, R236, R279, R285): the pads that OUTP and OUTPM reach, what INP reads, and the registers and
FIFOs behind PEWR and PERD. -/

open Sys2Proof Sys2Proof.Machine Sys2Proof.Claims

namespace Sys2Proof.Proofs

/-! ### Words from bits -/

/-- The word below 2^n whose bits are given. -/
def wordOf (f : Nat → Bool) (n : Nat) : Nat := (List.range n).foldl (fun m i => m + bit01 (f i) * 2 ^ i) 0

theorem wordOf_succ (f : Nat → Bool) (n : Nat) : wordOf f (n + 1) = 2 ^ n * bit01 (f n) + wordOf f n := by
  rw [wordOf, List.range_succ, List.foldl_append, List.foldl_cons, List.foldl_nil, ← wordOf, Nat.mul_comm, Nat.add_comm]

theorem wordOf_lt (f : Nat → Bool) (n : Nat) : wordOf f n < 2 ^ n := by
  induction n with
  | zero => exact Nat.one_pos
  | succ n ih =>
    have hbit : 2 ^ n * bit01 (f n) ≤ 2 ^ n := by cases f n <;> simp [bit01]
    rw [wordOf_succ, Nat.pow_succ]
    omega

theorem testBit_wordOf (f : Nat → Bool) (n k : Nat) : (wordOf f n).testBit k = (decide (k < n) && f k) := by
  induction n with
  | zero => simp [wordOf]
  | succ n ih =>
    rw [wordOf_succ, Nat.testBit_two_pow_mul_add _ (wordOf_lt f n), ih]
    by_cases hk : k < n
    · rw [if_pos hk, decide_eq_true hk, decide_eq_true (by omega)]
    · rw [if_neg hk]
      by_cases he : k = n
      · subst he
        rw [Nat.sub_self, decide_eq_true (Nat.lt_succ_self k), Bool.true_and]
        cases f k <;> rfl
      · have hpos : k - n ≠ 0 := by omega
        rw [decide_eq_false (by omega), Bool.false_and]
        cases f n with
        | false => exact Nat.zero_testBit _
        | true => exact Nat.testBit_eq_false_of_lt (Nat.one_lt_two_pow hpos)

/-! ### What the berth does not depend on -/

theorem fabricOnly_pulse (d : Device) (code : Nat) : FabricOnly d (d.pulse code) := by
  unfold Device.pulse
  split
  · exact fabricOnly_foldl _ _ fun e n hn => fabricOnly_chPulse (List.mem_range.mp (List.mem_filter.mp hn).1)
  · exact .refl d

theorem sameTo_fabricOnly {d e : Device} (b : Nat) (h : FabricOnly d e) : SameTo d e b := by
  refine sameTo_of_rd ?_ ?_ (fun off ho => h.rd off (.inr ?_)) (h.rd _ (.inr ?_))
  · rw [h.eq]
    rfl
  · rw [h.eq]
  · unfold Reg.EVF_MERGE
    omega
  · unfold Reg.EVF_MERGE Reg.CAR_BCFG
    omega

theorem sameTo_wr (d : Device) {off : Nat} (v b : Nat) (h : off < 0x100000) : SameTo d (d.wr off v) b :=
  sameTo_of_rd rfl rfl (fun o ho => Device.rd_wr_other _ v (by omega)) (Device.rd_wr_other _ v (by unfold Reg.CAR_BCFG; omega))

theorem sameTo_setEngine (d : Device) (e b : Nat) (y : Engine) : SameTo d (d.setEngine e y) b := ⟨rfl, rfl, rfl, rfl⟩

/-! ### Instructions of the engine port -/

section
variable {d e : Device} {i : Site}

/-- The issue of an instruction that changes only what the berth does not depend on. -/
theorem leaves_beside_goesOn {op : Op} (hready : d.ready i = true) (hsame : SameTo d e i.b)
    (hrun : op.run (d.ctx i) d = .done e Effect.next) : e.Leaves i ((d.berth i.b).goesOn i) { d.issue i op with cfg := d.cfg } := by
  have h := leaves_beside hready hsame hrun (differsAt_refl e i.b) (.inr rfl)
  rwa [hsame.berth] at h

theorem portReadOp_run {rd : Reg5} {f : Ctx → Device → Word × Device} {w : Word} (hfree : d.loadFree i.b = true)
    (hf : f (d.ctx i) d = (w, e)) : (portReadOp rd f).run (d.ctx i) d = e.fixed (d.ctx i) rd.toNat w.toNat Effect.next := by
  have hfull : ¬d.loadFree (d.ctx i).b = false := by
    rw [show (d.ctx i).b = i.b from rfl, hfree]
    exact Bool.noConfusion
  rw [portReadOp]
  dsimp only
  rw [if_neg hfull, hf]

/-- The issue of one that returns a value. -/
theorem leaves_portRead {rd : Reg5} {f : Ctx → Device → Word × Device} {w : Word} (hready : d.ready i = true) (hfree : d.loadFree i.b = true)
    (hsame : SameTo d e i.b) (hf : f (d.ctx i) d = (w, e)) :
    e.Leaves i (queued (d.berth i.b) i rd w) { d.issue i (portReadOp rd f) with cfg := d.cfg } := by
  have h := leaves_beside_fixed hready hsame (portReadOp_run (rd := rd) hfree hf) (.inr rfl) rfl
  rwa [BitVec.ofNat_toNat, BitVec.setWidth_eq] at h

end

/-! ### Pads -/

/-- What OUTP, OUTPM and MPIN leave of the tile's PAD_DOUT: the pads of the mask that qualify take their bits (R136, R285). -/
def padBit (d : Device) (who : Identity) (t mask values k : Nat) : Bool :=
  if bitOf mask k && (d.padDirect t k && d.padPermit who t k) then bitOf values k else bitOf (d.rd (Reg.PAD_DOUT t)) k

theorem padMaskWrite_eq (d : Device) (who : Identity) (t mask values : Nat) : ∃ refused : Bool, d.padMaskWrite who t mask values =
    if refused then (d.wr (Reg.PAD_DOUT t) (wordOf (padBit d who t mask values) 32)).padDeny t
    else d.wr (Reg.PAD_DOUT t) (wordOf (padBit d who t mask values) 32) := ⟨_, rfl⟩

section
variable {d : Device} {who : Identity} {t mask values : Nat} (ht : t < 8)

include ht in
theorem sameTo_padMaskWrite (b : Nat) : SameTo d (d.padMaskWrite who t mask values) b := by
  obtain ⟨refused, h⟩ := padMaskWrite_eq d who t mask values
  have hout := sameTo_wr d (wordOf (padBit d who t mask values) 32) b (show Reg.PAD_DOUT t < 0x100000 by unfold Reg.PAD_DOUT; omega)
  rw [h]
  cases refused with
  | false => exact hout
  | true => exact hout.trans (sameTo_bump _ 0 16 (by unfold Reg.PAD_STAT; omega))

theorem padMaskWrite_parts : (d.padMaskWrite who t mask values).mem = d.mem ∧ (d.padMaskWrite who t mask values).eng = d.eng := by
  obtain ⟨refused, h⟩ := padMaskWrite_eq d who t mask values
  rw [h]
  cases refused with
  | false => exact ⟨Device.wr_mem .., Device.wr_eng ..⟩
  | true => exact ⟨(Device.bump_mem _ (Reg.PAD_STAT t) 0 16).trans (Device.wr_mem ..),
      (Device.bump_eng _ (Reg.PAD_STAT t) 0 16).trans (Device.wr_eng ..)⟩

theorem flag_padMaskWrite {k : Nat} (hk : k < 32) : (d.padMaskWrite who t mask values).flag (Reg.PAD_DOUT t) k = padBit d who t mask values k := by
  obtain ⟨refused, h⟩ := padMaskWrite_eq d who t mask values
  have hout : (d.padMaskWrite who t mask values).rd (Reg.PAD_DOUT t) = wordOf (padBit d who t mask values) 32 % 2 ^ 32 := by
    rw [h]
    cases refused with
    | false => exact Device.rd_wr_same ..
    | true => exact (rd_bump_other 0 16 (by unfold Reg.PAD_DOUT Reg.PAD_STAT; omega)).trans (Device.rd_wr_same ..)
  rw [Device.flag, hout, bitOf_mod hk, bitOf_eq_testBit, testBit_wordOf, decide_eq_true hk, Bool.true_and]

end

/-- What the tile's pads read as (R283). -/
theorem padInWord_eq (d : Device) (t : Nat) : d.padInWord t = wordOf (d.padIn t) 32 := by
  rw [Device.padInWord, wordOf]
  congr 1
  funext m k
  cases d.padIn t k <;> simp [bit01]

/-! ### Engines -/

theorem engine_setEngine (d : Device) (e j : Nat) (y : Engine) : (d.setEngine e y).engine j = if e = j then y else d.engine j :=
  Store.get_put _ _ _ _ _

theorem engine_of_eng {d e : Device} (h : e.eng = d.eng) (j : Nat) : e.engine j = d.engine j := by rw [Device.engine, Device.engine, h]

theorem engine_leaves {d e : Device} {i : Site} {y : Berth} (h : d.Leaves i y e) (j : Nat) : e.engine j = d.engine j :=
  engine_of_eng (leaves_eng h) j

theorem fabricOnly_engEvent (d : Device) (e sel : Nat) : FabricOnly d (d.engEvent e sel) := by
  unfold Device.engEvent
  dsimp only
  split_ifs
  · exact (fabricOnly_pulse d _).trans (fabricOnly_pulse _ _)
  · exact fabricOnly_pulse d _
  · exact fabricOnly_pulse d _
  · exact .refl d

/-- An engine's change reaches the event fabric, and nothing else (R233, R246). -/
theorem fabricOnly_engUpdate (d : Device) (e : Nat) (y : Engine) : FabricOnly (d.setEngine e y) (d.engUpdate e y) := by
  unfold Device.engUpdate
  dsimp only
  split_ifs
  · exact (fabricOnly_engEvent _ _ _).trans (fabricOnly_engEvent _ _ _)
  · exact fabricOnly_engEvent _ _ _
  · exact fabricOnly_engEvent _ _ _
  · exact .refl _

theorem FabricOnly.parts {d e : Device} (h : FabricOnly d e) : e.mem = d.mem ∧ e.eng = d.eng := by
  rw [h.eq]
  exact ⟨rfl, rfl⟩

section
variable {d : Device} {e r v : Nat} (hpresent : d.engPresent e = true)
include hpresent

/-- PE_X and PE_Y of an engine take the word (R236). -/
theorem engWrite_scratch (hr : r = 8 ∨ r = 9) (hv : v < 2 ^ 32) : d.engWrite .port e r v = d.engUpdate e ((d.engine e).setRg r v) := by
  have habsent : ¬d.engPresent e = false := by rw [hpresent]; exact Bool.noConfusion
  have hmask : v &&& 0xFFFFFFFF = v := (Nat.and_two_pow_sub_one_eq_mod v 32).trans (Nat.mod_eq_of_lt hv)
  rw [Device.engWrite, if_neg habsent]
  rcases hr with rfl | rfl
  · show d.engUpdate e ((d.engine e).setRg 8 (v &&& 0xFFFFFFFF)) = _
    rw [hmask]
  · show d.engUpdate e ((d.engine e).setRg 9 (v &&& 0xFFFFFFFF)) = _
    rw [hmask]

/-- PE_TXF takes an entry while it has room (R235). -/
theorem engWrite_push (hheld : d.txHeld e = false) (hroom : (d.engine e).tx.length < d.fifoDepth e) :
    d.engWrite .port e 0 v = d.setEngine e { d.engine e with tx := (d.engine e).tx ++ [BitVec.ofNat 32 v] } := by
  have habsent : ¬d.engPresent e = false := by rw [hpresent]; exact Bool.noConfusion
  have hport : ¬(EnginePath.port = .window ∨ d.txHeld e = true) := by simp [hheld]
  rw [Device.engWrite, if_neg habsent, if_neg (by decide), Device.engRegWrite, if_pos rfl, if_neg hport, Device.fifoPush,
    if_neg (by omega), if_pos hroom]

theorem engRead_scratch (hr : r = 8 ∨ r = 9) : d.engRead e r = (BitVec.ofNat 32 ((d.engine e).rg r), d) := by
  have habsent : ¬d.engPresent e = false := by rw [hpresent]; exact Bool.noConfusion
  rw [Device.engRead, if_neg habsent, Device.engPeek, if_neg habsent]
  rcases hr with rfl | rfl <;> rfl

/-- PE_RXF gives its oldest entry (R235). -/
theorem engRead_pop {w : Word} {rest : List Word} (hrx : (d.engine e).rx = w :: rest) (hdepth : d.fifoDepth e ≠ 0) :
    d.engRead e 1 = (w, d.setEngine e { d.engine e with rx := rest }) := by
  have habsent : ¬d.engPresent e = false := by rw [hpresent]; exact Bool.noConfusion
  rw [Device.engRead, if_neg habsent, if_pos rfl, Device.fifoPop, if_neg hdepth, hrx]

end

/-- PEWR of a register that every level may write (R236). -/
theorem pewr_run {d : Device} {i : Site} {rs : Reg5} {k : BitVec 3} {r : BitVec 6} (hr : userPewr r.toNat = true) :
    (pewrOp rs k r).run (d.ctx i) d =
      .done (d.engWrite .port (8 * (i.b / 64) + k.toNat) r.toNat ((d.berth i.b).operand rs.toNat).toNat) Effect.next := by
  have hlevel : ¬((d.ctx i).level = 0 ∧ userPewr r.toNat = false) := by simp [hr]
  have hdone : (pewrOp rs k r).run (d.ctx i) d = .done (if (d.ctx i).level = 0 ∧ userPewr r.toNat = false then d.engDeny (i.b / 64)
      else d.engWrite .port (8 * (i.b / 64) + k.toNat) r.toNat ((d.berth i.b).operand rs.toNat).toNat) Effect.next := rfl
  rw [hdone, if_neg hlevel]

/-! ### The statement's cases -/

section
variable {s : State} {i : Site} (hready : s.dev.ready i = true)
include hready

/-- OUTP and OUTPM, by the mask and the values that they write. -/
theorem pads_set {q : Instr} {op : Op} {mask values : Nat} (hexec : exec q s = s.upd fun d => d.issue i op)
    (hrun : op.run (s.dev.ctx i) s.dev =
      .done (s.dev.padMaskWrite (s.dev.identity (.berth i.b)) (i.b / 64) mask values) Effect.next) :
    Completes q s fun e =>
      (∀ k, k < 32 → e.flag (Reg.PAD_DOUT (i.b / 64)) k =
        if bitOf mask k && s.dev.padDirect (i.b / 64) k && s.dev.padPermit (s.dev.identity (.berth i.b)) (i.b / 64) k then bitOf values k
        else s.dev.flag (Reg.PAD_DOUT (i.b / 64)) k) ∧
      e.berth i.b = (s.dev.berth i.b).goesOn i ∧ e.mem = s.dev.mem ∧ e.eng = s.dev.eng := by
  have hb : i.b < 512 := i.berth.isLt
  have hleaves := leaves_beside_goesOn hready (sameTo_padMaskWrite (by omega) i.b) hrun
  obtain ⟨hmem, heng⟩ := padMaskWrite_parts (d := s.dev) (who := s.dev.identity (.berth i.b)) (t := i.b / 64) (mask := mask) (values := values)
  refine completes_of_exec hexec ⟨fun k hk => ?_, hleaves.1, (leaves_mem hleaves).trans hmem, (leaves_eng hleaves).trans heng⟩
  obtain ⟨_, _, hregs, _⟩ := hleaves
  rw [Device.flag, hregs _ (by unfold Reg.PAD_DOUT Reg.MEM_INFLT; omega), ← Device.flag, flag_padMaskWrite hk, padBit, Bool.and_assoc]
  rfl

/-- INP returns the tile's pads. -/
theorem inp_reads (rd : Reg5) (hfree : s.dev.loadFree i.b = true) : Completes (.inp i rd) s fun e =>
    ∃ w : Word, s.dev.Leaves i (queued (s.dev.berth i.b) i rd w) e ∧ ∀ k, k < 32 → w.getLsbD k = s.dev.padIn (i.b / 64) k := by
  refine completes_of_exec (f := fun d => d.issue i (inpOp rd)) rfl ⟨_, leaves_portRead hready hfree ⟨rfl, rfl, rfl, rfl⟩ rfl, fun k hk => ?_⟩
  show (BitVec.ofNat 32 (s.dev.padInWord (i.b / 64))).getLsbD k = _
  rw [BitVec.getLsbD_ofNat, padInWord_eq, testBit_wordOf, decide_eq_true hk, Bool.true_and, Bool.true_and]

section
variable {r : Reg5} {k : BitVec 3} (hpresent : s.dev.engPresent (8 * (i.b / 64) + k.toNat) = true)
include hpresent

/-- PEWR of PE_X and PE_Y. -/
theorem pewr_scratch {n : BitVec 6} (hn : n = 8 ∨ n = 9) : Completes (.pewr i r k n) s fun f =>
    f.engine (8 * (i.b / 64) + k.toNat) = (s.dev.engine (8 * (i.b / 64) + k.toNat)).setRg n.toNat ((s.dev.berth i.b).operand r.toNat).toNat ∧
    f.berth i.b = (s.dev.berth i.b).goesOn i ∧ (∀ j, j ≠ 8 * (i.b / 64) + k.toNat → f.engine j = s.dev.engine j) ∧ f.mem = s.dev.mem := by
  have hnat : n.toNat = 8 ∨ n.toNat = 9 := hn.imp (congrArg BitVec.toNat) (congrArg BitVec.toNat)
  have huser : userPewr n.toNat = true := by rcases hn with rfl | rfl <;> rfl
  have hrun := pewr_run (d := s.dev) (i := i) (rs := r) (k := k) huser
  rw [engWrite_scratch hpresent hnat (BitVec.isLt _)] at hrun
  have hupdate := fabricOnly_engUpdate s.dev (8 * (i.b / 64) + k.toNat)
    ((s.dev.engine (8 * (i.b / 64) + k.toNat)).setRg n.toNat ((s.dev.berth i.b).operand r.toNat).toNat)
  have hleaves := leaves_beside_goesOn hready ((sameTo_setEngine _ _ _ _).trans (sameTo_fabricOnly i.b hupdate)) hrun
  obtain ⟨hmem, heng⟩ := hupdate.parts
  refine completes_of_exec (f := fun d => d.issue i (pewrOp r k n)) rfl ?_
  have hengine (j : Nat) := ((engine_leaves hleaves j).trans (engine_of_eng heng j)).trans
    (engine_setEngine s.dev (8 * (i.b / 64) + k.toNat) j _)
  exact ⟨(hengine _).trans (if_pos rfl), hleaves.1, fun j hj => (hengine j).trans (if_neg hj.symm), (leaves_mem hleaves).trans hmem⟩

/-- PEWR of PE_TXF. -/
theorem pewr_push (hheld : s.dev.txHeld (8 * (i.b / 64) + k.toNat) = false)
    (hroom : (s.dev.engine (8 * (i.b / 64) + k.toNat)).tx.length < s.dev.fifoDepth (8 * (i.b / 64) + k.toNat)) :
    Completes (.pewr i r k 0) s fun f =>
      f.engine (8 * (i.b / 64) + k.toNat) = { s.dev.engine (8 * (i.b / 64) + k.toNat) with
        tx := (s.dev.engine (8 * (i.b / 64) + k.toNat)).tx ++ [(s.dev.berth i.b).operand r.toNat] } ∧
      f.berth i.b = (s.dev.berth i.b).goesOn i := by
  have hrun := pewr_run (d := s.dev) (i := i) (rs := r) (k := k) (r := 0) rfl
  rw [show (0 : BitVec 6).toNat = 0 from rfl, engWrite_push hpresent hheld hroom, BitVec.ofNat_toNat, BitVec.setWidth_eq] at hrun
  have hleaves := leaves_beside_goesOn hready (sameTo_setEngine _ _ _ _) hrun
  refine completes_of_exec (f := fun d => d.issue i (pewrOp r k 0)) rfl ⟨?_, hleaves.1⟩
  rw [engine_leaves hleaves, engine_setEngine, if_pos rfl]

/-- PERD of PE_X and PE_Y. -/
theorem perd_scratch (hfree : s.dev.loadFree i.b = true) {n : BitVec 6} (hn : n = 8 ∨ n = 9) : Completes (.perd i r k n) s fun f =>
    s.dev.Leaves i (queued (s.dev.berth i.b) i r (BitVec.ofNat 32 ((s.dev.engine (8 * (i.b / 64) + k.toNat)).rg n.toNat))) f := by
  have hnat : n.toNat = 8 ∨ n.toNat = 9 := hn.imp (congrArg BitVec.toNat) (congrArg BitVec.toNat)
  exact completes_of_exec (f := fun d => d.issue i (perdOp r k n)) rfl
    (leaves_portRead hready hfree ⟨rfl, rfl, rfl, rfl⟩ (engRead_scratch hpresent hnat))

/-- PERD of PE_RXF. -/
theorem perd_pop (hfree : s.dev.loadFree i.b = true) {w : Word} {rest : List Word}
    (hrx : (s.dev.engine (8 * (i.b / 64) + k.toNat)).rx = w :: rest) (hdepth : s.dev.fifoDepth (8 * (i.b / 64) + k.toNat) ≠ 0) :
    Completes (.perd i r k 1) s fun f => f.berth i.b = queued (s.dev.berth i.b) i r w ∧
      f.engine (8 * (i.b / 64) + k.toNat) = { s.dev.engine (8 * (i.b / 64) + k.toNat) with rx := rest } := by
  have hleaves := leaves_portRead (rd := r) (f := fun c d => d.engRead (8 * tileOf c.b + k.toNat) 1) hready hfree
    (sameTo_setEngine _ _ _ _) (engRead_pop hpresent hrx hdepth)
  refine completes_of_exec (f := fun d => d.issue i (perdOp r k 1)) rfl ⟨hleaves.1, ?_⟩
  exact (engine_leaves hleaves _).trans ((engine_setEngine ..).trans (if_pos rfl))

end

end

/-- Settles O23: the pads that qualify, the engine's scratch registers, and its two FIFOs. -/
theorem pinsAndEnginePort : Obligations.PinsAndEnginePort := by
  constructor
  · intro s i rd rs1 rs2 pad d x t a v sets hready
    exact ⟨pads_set hready (op := outpOp pad rs1) rfl rfl, pads_set hready (op := outpmOp rs1 rs2) rfl rfl, inp_reads hready rd⟩
  · intro s i r k n d x e y v hready hpresent hfree
    exact ⟨pewr_scratch hready hpresent, pewr_push hready hpresent, perd_scratch hready hpresent hfree,
      fun w rest hrx hdepth => perd_pop hready hpresent hfree hrx hdepth⟩

end Sys2Proof.Proofs
end

section
/-! PROOF. The commands of the Carousel (R31, R33, R64, R139): timer compares, parking and unparking, reclassing, and the clear of the
breach registers. -/

open Sys2Proof Sys2Proof.Machine Sys2Proof.Claims

namespace Sys2Proof.Proofs

/-! ### The timer compare (R139) -/

/-- A berth that waits on nothing stays as it is. -/
theorem wake_of_waits_none {x : Berth} (h : x.wait = .none) : x.wake = x := by
  unfold Berth.wake Wait.cause
  rw [h]
  dsimp only
  split <;> rfl

theorem noteWake_of_waits_none {x : Berth} (y : Berth) (key : Nat) (h : x.wait = .none) : x.noteWake y key = y := by
  unfold Berth.noteWake
  rw [h]
  exact if_neg fun hcause => by simp [Wait.cause] at hcause

section
variable {d : Device} {b : Nat}

theorem dozeExit_of_mode (h : d.mode ≠ .doze) : d.dozeExit b = d := if_neg fun hdoze => h hdoze.1

/-- Outside DOZE a line of a berth that waits on nothing sets its IPEND bit, and nothing else. -/
theorem setLine_of_waits_none (k : Nat) (hpresent : d.present b = true) (hwait : (d.berth b).wait = .none) (hwoke : (d.berth b).woke = none)
    (hmode : d.mode ≠ .doze) : d.setLine b k = d.setBerth b ((d.berth b).lines (2 ^ k)) := by
  have hwait' : ((d.berth b).lines (2 ^ k)).wait = .none := hwait
  rw [Device.setLine, if_pos hpresent, Device.assertLines, hwoke]
  dsimp only
  rw [wake_of_waits_none hwait', noteWake_of_waits_none _ _ hwait, dozeExit_of_mode (b := b) (d := d.setBerth b _) hmode, ite_self]

end

/-- A compare that is armed and reached sets line 0, once. -/
theorem timerCompare_reached {d : Device} {b : Nat} (hpresent : d.present b = true) (harmed : (d.berth b).armed = true)
    (hwait : (d.berth b).wait = .none) (hwoke : (d.berth b).woke = none) (hmode : d.mode ≠ .doze)
    (hcmp : d.rd64 (Reg.CAR_TCMP (b / 16) (b % 16)) ≤ d.tbNow) :
    d.timerCompare b = (d.setBerth b { d.berth b with armed := false }).setBerth b
      { (d.berth b).setSr 20 ((d.berth b).srN 20 ||| 1) with armed := false } := by
  have hset : ((d.setBerth b { d.berth b with armed := false }).berth b) = { d.berth b with armed := false } :=
    Device.berth_setBerth_same ..
  have hdue : (d.present b && (d.berth b).armed && decide (d.rd64 (Reg.CAR_TCMP (coreOf b) (b % 16)) ≤ d.tbNow)) = true := by
    rw [hpresent, harmed]
    exact decide_eq_true hcmp
  rw [Device.timerCompare, if_pos hdue, setLine_of_waits_none 0 (d := d.setBerth b _) hpresent (by rw [hset]; exact hwait)
    (by rw [hset]; exact hwoke) hmode, hset]
  rfl

/-- A compare that is not armed or not reached does nothing. -/
theorem timerCompare_idle {d : Device} {b : Nat}
    (h : (d.berth b).armed = false ∨ d.tbNow < d.rd64 (Reg.CAR_TCMP (b / 16) (b % 16))) : d.timerCompare b = d := by
  refine if_neg fun hdue => ?_
  rw [Bool.and_eq_true, Bool.and_eq_true] at hdue
  obtain ⟨⟨_, harmed⟩, hcmp⟩ := hdue
  have hcmp : d.rd64 (Reg.CAR_TCMP (b / 16) (b % 16)) ≤ d.tbNow := of_decide_eq_true hcmp
  rcases h with h | h
  · rw [h] at harmed
    cases harmed
  · omega

/-! ### One-bit fields of a register -/

theorem bitOf_setBits_bit (v k j : Nat) (p : Bool) : bitOf (setBits v k 1 (bit01 p)) j = if j = k then p else bitOf v j := by
  rw [bitOf_eq_testBit, testBit_setBits, bitOf_eq_testBit]
  by_cases hj : j = k
  · rw [if_pos (by omega), if_pos hj, hj, Nat.sub_self]
    cases p <;> rfl
  · rw [if_neg (by omega), if_neg hj]

theorem flag_setFlag (d : Device) (off k : Nat) (p : Bool) {j : Nat} (hj : j < 32) :
    (d.setFlag off k p).flag off j = if j = k then p else d.flag off j := by
  rw [Device.flag, Device.setFlag, Device.setFld, Device.rd_wr_same, bitOf_mod hj, bitOf_setBits_bit]
  rfl

theorem rd_setFlag_other (d : Device) {off o : Nat} (k : Nat) (p : Bool) (h : o ≠ off) : (d.setFlag off k p).rd o = d.rd o :=
  Device.rd_wr_other (d := d) _ h.symm

/-! ### Writes of the Carousel's registers -/

/-- A write that arrives at a register of the Carousel goes to it. -/
theorem rowWrite_car {d : Device} {w : Writer} {off : Nat} (v : Nat) (harrives : d.arrives w off = true) (hlow : 0x100000 ≤ off)
    (hhigh : off < 0x200000) : d.rowWrite w off v = d.carWrite off (v % 2 ^ 32) := by
  unfold Device.rowWrite
  rw [if_pos harrives, Device.regWrite, if_neg (show ¬ off = 0x30004C by omega), Device.cwWrite]
  rw [if_neg (by omega), if_neg (by omega), if_neg (by omega), if_neg (by omega), if_neg (by omega), if_neg (by omega),
    if_neg (by omega), if_neg (by omega), if_neg (by omega), if_pos hhigh]

section
variable {d : Device} {c : Nat} (v : Nat) (hc : c < d.cfg.cores) (hcore : c < 32)
include hc hcore

/-- A write of a core's register, by its place in the core's block (Table 2.4). -/
theorem carWrite_core {off o : Nat} (hoff : off = 0x100000 + 0x1000 * c + o) (ho : o < 0x100) : d.carWrite off v =
    if o = 0x10 then d.reclass c v else if o = 0x18 then d.parkReqWrite c v else if o = 0x24 then d.breachClear c v
    else d.regStore off v := by
  have hblock : (off - 0x100000) / 0x1000 = c := by omega
  have hplace : off % 0x1000 = o := by omega
  have hconfig : ¬ (0x100 ≤ o ∧ o < 0x140) := by omega
  rw [Device.carWrite, if_pos (by omega), hblock, hplace]
  dsimp only
  rw [if_neg (Nat.not_le.mpr hc), if_neg hconfig]

theorem carWrite_reclass : d.carWrite (Reg.CAR_RECLASS c) v = d.reclass c v :=
  carWrite_core v hc hcore (o := 0x10) (by unfold Reg.CAR_RECLASS; omega) (by decide)

theorem carWrite_parkReq : d.carWrite (Reg.CAR_PARKREQ c) v = d.parkReqWrite c v :=
  carWrite_core v hc hcore (o := 0x18) (by unfold Reg.CAR_PARKREQ; omega) (by decide)

theorem carWrite_breachClear : d.carWrite (Reg.CAR_BRCLR c) v = d.breachClear c v :=
  carWrite_core v hc hcore (o := 0x24) (by unfold Reg.CAR_BRCLR; omega) (by decide)

end

/-! ### Parking (R31) -/

/-- A fold that acts at one place alone. -/
theorem foldl_range_at {f : Device → Nat → Device} {d : Device} {n k : Nat} (hk : k < n)
    (h : ∀ e i, i < n → i ≠ k → f e i = e) : (List.range n).foldl f d = f d k := by
  induction n with
  | zero => omega
  | succ n ih =>
    rw [List.range_succ, List.foldl_append, List.foldl_cons, List.foldl_nil]
    by_cases hn : k = n
    · have hbefore : (List.range n).foldl f d = d :=
        List.foldlRecOn (motive := fun e => e = d) _ f rfl fun e he i hi => by
          have hi := List.mem_range.mp hi
          rw [h e i (by omega) (by omega), he]
      rw [hbefore, hn]
    · rw [h _ n (by omega) (by omega)]
      exact ih (by omega) fun e i hi hik => h e i (by omega) hik

/-- A write of CAR_PARKREQ that changes one bit parks or unparks the berth of that bit. -/
theorem parkReqWrite_bit {d : Device} {c k : Nat} {p : Bool} (hk : k < 16) (hwas : d.flag (Reg.CAR_PARKREQ c) k = !p) :
    d.parkReqWrite c (setBits (d.rd (Reg.CAR_PARKREQ c)) k 1 (bit01 p) % 2 ^ 32) =
      if p then d.parkRequest (16 * c + k) else d.unparkRequest (16 * c + k) := by
  have hbit (i : Nat) (hi : i < 16) : bitOf (setBits (d.rd (Reg.CAR_PARKREQ c)) k 1 (bit01 p) % 2 ^ 32) i =
      if i = k then p else d.flag (Reg.CAR_PARKREQ c) i := by
    rw [bitOf_mod (by omega), bitOf_setBits_bit]
    rfl
  rw [Device.parkReqWrite, foldl_range_at hk]
  · dsimp only
    rw [hbit k hk, if_pos rfl, hwas]
    cases p <;> rfl
  · intro e i hi hik
    dsimp only
    rw [hbit i hi, if_neg hik, if_pos rfl]

/-- The write that sets or clears the bit of one berth in CAR_PARKREQ. -/
theorem rowWrite_parkReq {d : Device} {w : Writer} {n : Nat} {p : Bool} (harrives : d.arrives w (Reg.CAR_PARKREQ (n / 16)) = true)
    (hn : n < 512) (hpresent : d.present n = true) (hwas : d.parkAsked n = !p) :
    d.rowWrite w (Reg.CAR_PARKREQ (n / 16)) (setBits (d.rd (Reg.CAR_PARKREQ (n / 16))) (n % 16) 1 (bit01 p)) =
      if p then d.parkRequest n else d.unparkRequest n := by
  have hberth : n < d.cfg.berths := of_decide_eq_true (Bool.and_eq_true_iff.mp hpresent).1
  have hcore : n / 16 < d.cfg.cores := by
    unfold Straps.berths at hberth
    unfold Straps.cores
    omega
  have hbit := parkReqWrite_bit (c := n / 16) (k := n % 16) (by omega) hwas
  rw [Nat.div_add_mod] at hbit
  rw [rowWrite_car _ harrives (by unfold Reg.CAR_PARKREQ; omega) (by unfold Reg.CAR_PARKREQ; omega),
    carWrite_parkReq _ hcore (by omega), hbit]

/-- The berth n has been asked to park and stands at y: it is shown parked where its entries are empty, and nothing else changes. -/
structure Settles (d e : Device) (n : Nat) (y : Berth) : Prop where
  asked : e.parkAsked n = true
  parked : e.parked n = (d.parked n || y.idle)
  berth : e.berth n = if y.idle then { y with reads := [] } else y
  others : ∀ j, j ≠ n → e.berth j = d.berth j
  regs : onlyRegs d e [Reg.CAR_PARKREQ (n / 16), Reg.CAR_PARKED (n / 16)]
  cfg : e.cfg = d.cfg

theorem settles_settlePark {d : Device} {n : Nat} (hask : d.parkAsked n = true) :
    Settles d (d.settlePark n) n (d.berth n).unstall := by
  have hask' : (d.setBerth n (d.berth n).unstall).parkAsked n = true := hask
  unfold Device.settlePark
  dsimp only
  rw [hask', Bool.true_and, Device.berth_setBerth_same]
  split
  · next hidle =>
    refine ⟨?_, ?_, ?_, fun j hj => ?_, fun o ho => ?_, Device.setFlag_cfg ..⟩
    · refine (bits_flag_congr (d := d) _ _ _ ?_).trans hask
      exact rd_setFlag_other _ _ _ (by unfold Reg.CAR_PARKREQ Reg.CAR_PARKED; omega)
    · rw [hidle, Bool.or_true, Device.parked, Device.setParked, flag_setFlag _ _ _ _ (by omega), if_pos rfl]
    · rw [if_pos hidle]
      exact (Device.berth_wr ..).trans (Device.berth_setBerth_same ..)
    · exact (Device.berth_wr ..).trans ((Device.berth_setBerth_other _ _ hj.symm).trans (Device.berth_setBerth_other _ _ hj.symm))
    · exact rd_setFlag_other _ _ _ fun h => ho (by rw [h]; exact List.mem_cons_of_mem _ (List.mem_singleton_self _))
  · next hbusy =>
    refine ⟨hask', ?_, ?_, fun j hj => Device.berth_setBerth_other _ _ hj.symm, fun _ _ => rfl, rfl⟩
    · rw [Bool.eq_false_iff.mpr hbusy, Bool.or_false]
      rfl
    · rw [if_neg hbusy]
      exact Device.berth_setBerth_same ..

/-- A berth that is asked to park leaves its wait, and settles. -/
theorem settles_parkBerth (d : Device) (n : Nat) : Settles d (d.parkBerth n) n (d.berth n).leaveWait.unstall := by
  unfold Device.parkBerth
  dsimp only
  generalize hask : (d.dropNeed n).setParkAsk n true = a
  have hasked : a.parkAsked n = true := by
    rw [← hask, Device.parkAsked, Device.setParkAsk, flag_setFlag _ _ _ _ (by omega), if_pos rfl]
  have hrd (o : Nat) (ho : o ≠ Reg.CAR_PARKREQ (n / 16)) : a.rd o = d.rd o := by
    rw [← hask]
    exact rd_setFlag_other _ _ _ ho
  have hberth (j : Nat) : a.berth j = d.berth j := by
    rw [← hask]
    rfl
  have hcfg : a.cfg = d.cfg := by
    rw [← hask]
    exact Device.setFlag_cfg ..
  have h := settles_settlePark (d := a.setBerth n (d.berth n).leaveWait) (n := n) hasked
  rw [Device.berth_setBerth_same] at h
  refine ⟨h.asked, ?_, h.berth, fun j hj => ?_, fun o ho => ?_, h.cfg.trans hcfg⟩
  · rw [h.parked]
    congr 1
    exact bits_flag_congr (d := d) _ _ _ (hrd _ (by unfold Reg.CAR_PARKREQ Reg.CAR_PARKED; omega))
  · rw [h.others j hj, Device.berth_setBerth_other _ _ hj.symm, hberth]
  · rw [h.regs o ho]
    exact hrd o fun heq => ho (by rw [heq]; exact List.mem_cons_self ..)

theorem settles_parkRequest {d : Device} {n : Nat} (hpresent : d.present n = true) :
    Settles d (d.parkRequest n) n (d.berth n).leaveWait.unstall := by
  rw [Device.parkRequest, if_pos hpresent]
  obtain ⟨hasked, hparked, hberth, hothers, hregs, hcfg⟩ :=
    settles_parkBerth { d with car := { d.car with unparks := d.car.unparks.filter (· != n) } } n
  exact ⟨hasked, hparked, hberth, hothers, hregs, hcfg⟩

/-! ### The end of DOZE (R25, R519) -/

/-- The second device has the first one's mode, configuration and Carousel registers. -/
structure CarStands (d e : Device) : Prop where
  rd : ∀ off, 0x100000 ≤ off → off < 0x200000 → e.rd off = d.rd off
  mode : e.mode = d.mode
  cfg : e.cfg = d.cfg

section
variable {d e f : Device}

theorem CarStands.refl (d : Device) : CarStands d d := ⟨fun _ _ _ => rfl, rfl, rfl⟩

theorem CarStands.trans (h : CarStands d e) (k : CarStands e f) : CarStands d f :=
  ⟨fun off hlow hhigh => (k.rd off hlow hhigh).trans (h.rd off hlow hhigh), k.mode.trans h.mode, k.cfg.trans h.cfg⟩

theorem carStands_ite {c : Prop} [Decidable c] (he : CarStands d e) (hf : CarStands d f) : CarStands d (if c then e else f) := by
  split <;> assumption

theorem carStands_wr (off v : Nat) (h : off < 0x100000 ∨ 0x200000 ≤ off) : CarStands d (d.wr off v) :=
  ⟨fun o hlow hhigh => Device.rd_wr_other d v (by omega), Device.wr_mode .., Device.wr_cfg ..⟩

theorem carStands_fabricOnly (h : FabricOnly d e) : CarStands d e := by
  refine ⟨fun off hlow _ => h.rd off (.inr (by unfold Reg.EVF_MERGE; omega)), ?_, ?_⟩ <;> rw [h.eq]

theorem carStands_setTrace (t : TraceSys) : CarStands d (d.setTrace t) := ⟨fun _ _ _ => rfl, rfl, rfl⟩

theorem carStands_traceLose : CarStands d d.traceLose :=
  (carStands_wr Reg.DBG_TSTAT _ (.inr (by decide))).trans (carStands_setTrace _)

theorem carStands_traceEnter (key : Nat) (p : List Byte) : CarStands d (d.traceEnter key p) := by
  unfold Device.traceEnter
  exact carStands_ite carStands_traceLose (carStands_setTrace _)

theorem carStands_traceSync : CarStands d d.traceSync := carStands_traceEnter _ _

theorem carStands_record (type flags src : Nat) (p : List Byte) : CarStands d (d.record type flags src p) := by
  unfold Device.record
  exact carStands_ite (.refl d) (carStands_ite (carStands_ite (carStands_setTrace _) (.refl d)) (carStands_traceEnter _ _))

theorem carStands_sendMsi : CarStands d d.sendMsi := by
  unfold Device.sendMsi
  refine List.foldlRecOn (motive := CarStands d) _ _ ⟨fun _ _ _ => rfl, rfl, rfl⟩ fun e he r _ => he.trans ?_
  exact carStands_ite ⟨fun _ _ _ => rfl, rfl, rfl⟩ ⟨fun _ _ _ => rfl, rfl, rfl⟩

theorem carStands_hostSource (s : Nat) : CarStands d (d.hostSource s) := by
  unfold Device.hostSource
  extract_lets was d1 r
  have h1 : CarStands d d1 := carStands_wr _ _ (.inr (by decide))
  have hqueued : CarStands d1 { d1 with qsp := { d1.qsp with msi := d1.qsp.msi ++ [r] } } := ⟨fun _ _ _ => rfl, rfl, rfl⟩
  exact carStands_ite (h1.trans (hqueued.trans carStands_sendMsi)) h1

theorem carStands_lostCount (t : TraceSys) (n : Nat) : CarStands d ((d.setTrace t).setFld Reg.DBG_TSTAT 0 24 n).traceSync :=
  (carStands_setTrace t).trans ((carStands_wr Reg.DBG_TSTAT _ (.inr (by decide))).trans carStands_traceSync)

/-- The trace of a wake from DOZE. -/
theorem carStands_traceMode (m : Mode) (hdoze : d.mode = .doze) : CarStands { d with mode := m } (d.traceMode m) := by
  unfold Device.traceMode
  dsimp only
  rw [hdoze]
  split
  · next h => exact absurd h (by simp)
  · split
    · have h1 : CarStands { d with mode := m } { d.setFlag Reg.DBG_STAT 1 false with mode := m } :=
        ⟨(carStands_wr (d := { d with mode := m }) Reg.DBG_STAT _ (.inr (by decide))).rd, rfl, rfl⟩
      have hback (e : Device) (c : Bool) (he : CarStands { d with mode := m } e) :
          CarStands { d with mode := m } (if c then e.record 0x0C m.code 0x3FF [] else e) :=
        carStands_ite (he.trans (carStands_record ..)) he
      refine hback _ _ (carStands_ite h1 (carStands_ite ?_ (h1.trans carStands_traceSync)))
      exact h1.trans ((carStands_record ..).trans (carStands_lostCount ..))
    · exact carStands_record ..

theorem carStands_noted (h : CarStands d e) (n : SnSys) (p : PwrSys) : CarStands d { e with sn := n, pwr := p } :=
  ⟨h.rd, h.mode, h.cfg⟩

theorem carStands_modeLevels (v : Bool) : CarStands d ((d.hostSource 2).setLevel 0x53 v).followFault :=
  (carStands_hostSource 2).trans
    ((carStands_fabricOnly (fabricOnly_setLevel 0x53 v)).trans (carStands_fabricOnly fabricOnly_followFault))

/-- The device leaves DOZE for a mode: no register of the Carousel changes. -/
theorem carStands_setMode (m : Mode) (hdoze : d.mode = .doze) : CarStands { d with mode := m } (d.setMode m) := by
  unfold Device.setMode
  split
  · next h => rw [← h]; exact .refl d
  · dsimp only
    rw [if_neg (by rw [hdoze]; simp)]
    exact (carStands_noted (carStands_traceMode m hdoze) _ _).trans (carStands_modeLevels _)

end

/-! ### Unparking (R31) -/

/-- The registers of a berth that has been unparked, before DOZE ends with it. -/
def unparkedBits (d : Device) (n : Nat) : Device := (d.setParkAsk n false).setParked n false

section
variable {d : Device} {n : Nat}

theorem unparkRequest_eq (hpresent : d.present n = true) (hmis : d.twinMis (pairOf (n / 16)) = false) (hcopy : d.car.copying = []) :
    d.unparkRequest n = (unparkedBits d n).dozeExit n := by
  have hmis' : (d.setParkAsk n false).twinMis (pairOf (n / 16)) = false := by
    refine (bits_flag_congr (d := d) _ _ _ ?_).trans hmis
    exact rd_setFlag_other _ _ _ (by unfold Reg.CAR_PARKREQ Reg.CAR_TWIN pairOf coreOf; omega)
  have hrun : ¬ ((d.setParkAsk n false).twinAct (pairOf (n / 16)) = true ∧ (d.setParkAsk n false).twinMis (pairOf (n / 16)) = true) := by
    rw [hmis']
    exact fun h => Bool.false_ne_true h.2
  rw [Device.unparkRequest, hpresent, hcopy]
  exact if_neg hrun

theorem unparkedBits_parked : (unparkedBits d n).parked n = false :=
  (flag_setFlag _ _ _ _ (by omega)).trans (if_pos rfl)

theorem unparkedBits_asked : (unparkedBits d n).parkAsked n = false := by
  have hask : (d.setParkAsk n false).parkAsked n = false := (flag_setFlag _ _ _ _ (by omega)).trans (if_pos rfl)
  refine (bits_flag_congr (d := d.setParkAsk n false) _ _ _ ?_).trans hask
  exact rd_setFlag_other _ _ _ (by unfold Reg.CAR_PARKREQ Reg.CAR_PARKED; omega)

theorem unparkedBits_regs : onlyRegs d (unparkedBits d n) [Reg.CAR_PARKREQ (n / 16), Reg.CAR_PARKED (n / 16)] := by
  intro o ho
  rw [List.mem_cons, List.mem_singleton, not_or] at ho
  exact (rd_setFlag_other _ _ _ ho.2).trans (rd_setFlag_other _ _ _ ho.1)

theorem unparkedBits_berth (j : Nat) : (unparkedBits d n).berth j = d.berth j := rfl

theorem unparkedBits_cfg : (unparkedBits d n).cfg = d.cfg := rfl

/-- A berth that has been unparked in DOZE ends it, unless it sleeps. -/
theorem dozeExit_unparked (hn : n < 512) (hdoze : d.mode = .doze) :
    let e := (unparkedBits d n).dozeExit n
    e.parked n = false ∧ e.mode = (if (d.berth n).asleep then .doze else d.prev) ∧ sameBerths d e ∧ e.cfg = d.cfg := by
  intro e
  by_cases hasleep : (d.berth n).asleep = true
  · have he : e = unparkedBits d n := if_neg fun h => by
      rw [unparkedBits_berth, hasleep] at h
      exact Bool.false_ne_true h.2.1.symm
    rw [he, if_pos hasleep]
    exact ⟨unparkedBits_parked, hdoze, fun _ => rfl, unparkedBits_cfg⟩
  · have he : e = (unparkedBits d n).setMode d.prev :=
      if_pos ⟨hdoze, (unparkedBits_berth (d := d) n).symm ▸ Bool.eq_false_iff.mpr hasleep, unparkedBits_parked⟩
    obtain ⟨hrd, hmode, hcfg⟩ := carStands_setMode (d := unparkedBits d n) d.prev hdoze
    rw [he, if_neg hasleep]
    refine ⟨?_, hmode, fun j => ?_, hcfg⟩
    · refine (bits_flag_congr (d := unparkedBits d n) _ _ _ ?_).trans unparkedBits_parked
      exact hrd _ (by unfold Reg.CAR_PARKED; omega) (by unfold Reg.CAR_PARKED coreOf; omega)
    · rw [Device.berth, berths_setMode]
      rfl

end

/-! ### Reclassing (R33, Table 2.7) -/

theorem and_prio (r : Nat) : r &&& 0xF0 = bitsOf r 4 4 * 2 ^ 4 := by
  refine Nat.eq_of_testBit_eq fun k => ?_
  rw [Nat.testBit_and, Nat.testBit_mul_two_pow, testBit_bitsOf, show (0xF0 : Nat) = (2 ^ 4 - 1) * 2 ^ 4 from rfl,
    Nat.testBit_mul_two_pow, Nat.testBit_two_pow_sub_one]
  by_cases hk : 4 ≤ k
  · rw [Nat.add_sub_cancel' hk, Bool.and_comm, Bool.and_assoc]
  · simp [hk]

/-- The shares of a core's berths where all but one are FREE. -/
theorem foldl_shares (n k m : Nat) :
    (List.range n).foldl (fun a i => a + if i = k then m else 4) 0 = if k < n then 4 * (n - 1) + m else 4 * n := by
  induction n with
  | zero => rfl
  | succ n ih =>
    rw [List.range_succ, List.foldl_append, ih, List.foldl_cons, List.foldl_nil]
    split <;> split <;> split <;> omega

section
variable {d : Device} {c i : Nat}

theorem coreOf_add (hi : i < 16) : coreOf (16 * c + i) = c := by
  unfold coreOf
  omega

theorem shareSum_others_free {lo : Nat} {mine : Option Nat} (hi : i < 16)
    (hfree : ∀ j, j < 16 → j ≠ i → d.timed (16 * c + j) = false) : d.shareSum (16 * c + i) lo mine = 60 + mine.getD 4 := by
  have hshares := foldl_shares 16 i (mine.getD 4)
  rw [if_pos hi] at hshares
  rw [Device.shareSum, coreOf_add hi, ← hshares]
  refine List.foldl_ext _ _ _ fun a j hj => ?_
  have hj := List.mem_range.mp hj
  dsimp only
  by_cases hji : j = i
  · rw [if_pos (by omega), if_pos hji]
  · rw [if_neg (by omega), if_neg hji, hfree j hj hji]
    rfl

/-- A reclass of a berth that is not parked is refused. -/
theorem reclassCode_running {timed : Bool} {slot f l t : Nat} (hpresent : d.present (16 * c + i) = true)
    (hparked : d.parked (16 * c + i) = false) : d.reclassCode (16 * c + i) timed slot f l t = 2 := by
  unfold Device.reclassCode
  dsimp only
  rw [if_neg (by simp [hpresent]), if_pos hparked]

/-- A reclass of a parked berth whose shares lie in their ranges, where the other berths of its core are FREE, is taken. -/
theorem reclassCode_parked {timed : Bool} {slot f l t : Nat} (hi : i < 16) (hpresent : d.present (16 * c + i) = true)
    (hparked : d.parked (16 * c + i) = true) (hfree : ∀ j, j < 16 → j ≠ i → d.timed (16 * c + j) = false)
    (hshares : timed = true → 4 ≤ f ∧ f ≤ 16 ∧ 1 ≤ l ∧ l ≤ 4 ∧ 1 ≤ t ∧ t ≤ 4) :
    d.reclassCode (16 * c + i) timed slot f l t = 0 := by
  have htaken : ((List.range 16).any fun j => 16 * coreOf (16 * c + i) + j != 16 * c + i && d.timed (16 * coreOf (16 * c + i) + j) &&
      d.fld (Reg.CAR_BCFG (coreOf (16 * c + i)) j) 1 3 == slot) = false := by
    rw [coreOf_add hi, List.any_eq_false]
    intro j hj
    by_cases hji : j = i
    · simp [hji]
    · simp [hfree j (List.mem_range.mp hj) hji]
  unfold Device.reclassCode
  dsimp only
  rw [htaken, shareSum_others_free hi hfree, shareSum_others_free hi hfree, shareSum_others_free hi hfree]
  cases timed with
  | false => simp [hpresent, hparked]
  | true =>
    obtain ⟨hf, hf', hl, hl', ht, ht'⟩ := hshares rfl
    have hrange : (decide (f < 4) || l == 0 || t == 0 || decide (16 < f) || decide (16 < l) || decide (16 < t)) = false := by
      simp only [Bool.or_eq_false_iff, decide_eq_false_iff_not, beq_eq_false_iff_ne]
      omega
    have hsum : ¬ (128 < 60 + f ∨ 64 < 60 + l ∨ 64 < 60 + t) := by omega
    rw [hrange]
    simp [hpresent, hparked, hsum]

/-- A reclass that is refused only says so (Table 2.8). -/
theorem reclass_refused {v code : Nat} (hi : v % 16 = i) (hcode : d.reclassCode (16 * c + i) (bitOf v 4) (bitsOf v 5 3) (bitsOf v 8 6)
    (bitsOf v 14 6) (bitsOf v 20 6) = code) (hrefused : 2 ≤ code) : d.reclass c v = d.wr (Reg.CAR_RECLASS_ST c) (code + 16 * i) := by
  have hberth : bitsOf v 0 4 = i := by rw [← hi, bitsOf, Nat.pow_zero, Nat.div_one]; rfl
  have hcounted : ¬ code = 1 := by omega
  have hne : code ≠ 0 := by omega
  rw [Device.reclass, hberth, hcode, if_neg hcounted]
  exact if_pos hne

/-- The word of CAR_BCFG that a reclass writes (Table 2.10): PRIO stays. -/
def reclassWord (r v : Nat) : Nat :=
  if bitOf v 4 then bitsOf r 4 4 * 2 ^ 4 + 1 + 2 * bitsOf v 5 3 + bitsOf v 8 18 * 2 ^ 8 else bitsOf r 4 4 * 2 ^ 4

/-- A reclass that is taken writes the berth's configuration. -/
theorem reclass_taken {v : Nat} (hi : v % 16 = i) (hcode : d.reclassCode (16 * c + i) (bitOf v 4) (bitsOf v 5 3) (bitsOf v 8 6)
    (bitsOf v 14 6) (bitsOf v 20 6) = 0) :
    d.reclass c v = (d.wr (Reg.CAR_RECLASS_ST c) (16 * i)).wr (Reg.CAR_BCFG c i) (reclassWord (d.rd (Reg.CAR_BCFG c i)) v) := by
  have hberth : bitsOf v 0 4 = i := by rw [← hi, bitsOf, Nat.pow_zero, Nat.div_one]; rfl
  have hplace : (16 * c + i) % 16 = i := by omega
  have hst : Reg.CAR_RECLASS_ST c ≠ Reg.CAR_BCFG c i := by
    unfold Reg.CAR_RECLASS_ST Reg.CAR_BCFG
    omega
  rw [Device.reclass, hberth, hcode, hplace]
  dsimp only
  rw [if_neg (show ¬ (0 : Nat) = 1 by decide), if_neg (show ¬ (0 : Nat) ≠ 0 by decide), Nat.zero_add, Device.rd_wr_other _ _ hst,
    and_prio, reclassWord]
  split <;> rfl

end

/-- The fields of a word of CAR_RECLASS that makes a berth TIMED. -/
theorem reclassTimed_fields {i slot f l t : Nat} (hi : i < 16) (hslot : slot < 8) (hf : f < 64) (hl : l < 64) (ht : t < 64) :
    let v := reclassTimed i slot f l t
    bitOf v 4 = true ∧ bitsOf v 5 3 = slot ∧ bitsOf v 8 6 = f ∧ bitsOf v 14 6 = l ∧ bitsOf v 20 6 = t ∧
    bitsOf v 8 18 = f + l * 2 ^ 6 + t * 2 ^ 12 := by
  intro v
  have hv : v = i + 16 + slot * 32 + f * 256 + l * 16384 + t * 1048576 := rfl
  clear_value v
  simp only [bitOf, bitsOf, beq_iff_eq, Nat.reducePow]
  refine ⟨?_, ?_, ?_, ?_, ?_, ?_⟩ <;> omega

/-- The fields of CAR_BCFG that a reclass to TIMED writes (Table 2.10). -/
theorem reclassWord_timed {r v slot f l t : Nat} (h4 : bitOf v 4 = true) (hslot : bitsOf v 5 3 = slot)
    (hall : bitsOf v 8 18 = f + l * 2 ^ 6 + t * 2 ^ 12) (hs : slot < 8) (hf : f < 64) (hl : l < 64) (ht : t < 64) :
    let w := reclassWord r v % 2 ^ 32
    bitOf w 0 = true ∧ bitsOf w 1 3 = slot ∧ bitsOf w 4 4 = bitsOf r 4 4 ∧ bitsOf w 8 6 = f ∧ bitsOf w 14 6 = l ∧ bitsOf w 20 6 = t := by
  intro w
  have hprio : bitsOf r 4 4 < 16 := Nat.mod_lt _ (by decide)
  have hw : w = (bitsOf r 4 4 * 16 + 1 + 2 * slot + (f + l * 64 + t * 4096) * 256) % 4294967296 := by
    show reclassWord r v % 2 ^ 32 = _
    rw [reclassWord, if_pos h4, hslot, hall]
    simp only [Nat.reducePow]
  clear_value w
  generalize bitsOf r 4 4 = k at *
  simp only [bitOf, bitsOf, beq_iff_eq, Nat.reducePow]
  refine ⟨?_, ?_, ?_, ?_, ?_, ?_⟩ <;> omega

/-- A reclass to FREE leaves PRIO alone (Table 2.10). -/
theorem reclassWord_free {r v : Nat} (h4 : bitOf v 4 = false) :
    bitOf (reclassWord r v % 2 ^ 32) 0 = false ∧ bitsOf (reclassWord r v % 2 ^ 32) 4 4 = bitsOf r 4 4 := by
  have hprio : bitsOf r 4 4 < 16 := Nat.mod_lt _ (by decide)
  rw [reclassWord, if_neg (by simp [h4])]
  generalize bitsOf r 4 4 = k at *
  simp only [bitOf, bitsOf, Nat.reducePow, beq_eq_false_iff_ne]
  constructor <;> omega

theorem timed_add (d : Device) (c : Nat) {i : Nat} (hi : i < 16) : d.timed (16 * c + i) = bitOf (d.rd (Reg.CAR_BCFG c i)) 0 := by
  rw [Device.timed, coreOf_add hi, show (16 * c + i) % 16 = i by omega]
  rfl

/-- What a reclass that is taken leaves beside the berth's own configuration. -/
theorem reclass_taken_leaves {d : Device} {c i v : Nat} (hi : v % 16 = i) (hcode : d.reclassCode (16 * c + i) (bitOf v 4)
    (bitsOf v 5 3) (bitsOf v 8 6) (bitsOf v 14 6) (bitsOf v 20 6) = 0) :
    let e := d.reclass c v
    e.rd (Reg.CAR_RECLASS_ST c) = 16 * i ∧ e.rd (Reg.CAR_BCFG c i) = reclassWord (d.rd (Reg.CAR_BCFG c i)) v % 2 ^ 32 ∧
    sameBerths d e ∧ onlyRegs d e [Reg.CAR_RECLASS_ST c, Reg.CAR_BCFG c i] ∧ e.cfg = d.cfg := by
  intro e
  have he : e = _ := reclass_taken hi hcode
  have hst : Reg.CAR_BCFG c i ≠ Reg.CAR_RECLASS_ST c := by
    unfold Reg.CAR_RECLASS_ST Reg.CAR_BCFG
    omega
  rw [he]
  refine ⟨?_, Device.rd_wr_same .., fun _ => rfl, fun o ho => ?_, rfl⟩
  · rw [Device.rd_wr_other _ _ hst, Device.rd_wr_same]
    exact Nat.mod_eq_of_lt (by omega)
  · rw [List.mem_cons, List.mem_singleton, not_or] at ho
    rw [Device.rd_wr_other _ _ (Ne.symm ho.2), Device.rd_wr_other _ _ (Ne.symm ho.1)]

/-! ### The clear of the breach registers (R64) -/

theorem foldl_breachClear (d : Device) (c : Nat) (l : List Nat) :
    let e := l.foldl (fun e i => e.wr (Reg.CAR_BREACH c i) 0) d
    (∀ i, e.rd (Reg.CAR_BREACH c i) = if i ∈ l then 0 else d.rd (Reg.CAR_BREACH c i)) ∧ sameBerths d e ∧
    onlyRegs d e (l.map fun i => Reg.CAR_BREACH c i) ∧ e.cfg = d.cfg := by
  induction l generalizing d with
  | nil => exact ⟨fun _ => rfl, fun _ => rfl, fun _ _ => rfl, rfl⟩
  | cons k r ih =>
    obtain ⟨hbreach, hberths, hregs, hcfg⟩ := ih (d.wr (Reg.CAR_BREACH c k) 0)
    refine ⟨fun i => ?_, hberths, fun o ho => ?_, hcfg⟩
    · refine (hbreach i).trans ?_
      by_cases hik : i = k
      · rw [hik, Device.rd_wr_same, if_pos (List.mem_cons_self ..)]
        exact ite_self _
      · have hoff : Reg.CAR_BREACH c k ≠ Reg.CAR_BREACH c i := by
          unfold Reg.CAR_BREACH
          omega
        rw [Device.rd_wr_other _ _ hoff]
        simp [hik]
    · rw [List.map_cons, List.mem_cons, not_or] at ho
      exact (hregs o ho.2).trans (Device.rd_wr_other _ _ (Ne.symm ho.1))

/-! ### The commands -/

/-- A command that runs a function of the device which keeps the configuration. -/
theorem completes_device {i : Instr} {s : State} {f : Device → Device} {e : Device} {P : Device → Prop} (h : exec i s = s.upd f)
    (he : f s.dev = e) (hcfg : e.cfg = s.dev.cfg) (hP : P e) : Completes i s P := by
  refine completes_of_exec h ?_
  rw [he, ← hcfg]
  exact hP

section
variable (s : State) (w : Writer) (b : BitVec 9) (c : BitVec 5) (v : BitVec 32)

theorem exec_timerCompare : exec (.timerCompare b) s = s.upd fun d => d.timerCompare b.toNat := rfl

theorem exec_parkRequest : exec (.parkRequest w b) s = s.upd fun d => d.rowWrite w (Reg.CAR_PARKREQ (coreOf b.toNat))
    (setBits (d.rd (Reg.CAR_PARKREQ (coreOf b.toNat))) (b.toNat % 16) 1 1) := rfl

theorem exec_unparkRequest : exec (.unparkRequest w b) s = s.upd fun d => d.rowWrite w (Reg.CAR_PARKREQ (coreOf b.toNat))
    (setBits (d.rd (Reg.CAR_PARKREQ (coreOf b.toNat))) (b.toNat % 16) 1 0) := rfl

theorem exec_berthParked : exec (.berthParked b) s = s.upd fun d => d.berthParked b.toNat := rfl

theorem exec_reclass : exec (.reclass w c v) s = s.upd fun d => d.rowWrite w (Reg.CAR_RECLASS c.toNat) v.toNat := rfl

theorem exec_breachClear : exec (.breachClear w c v) s = s.upd fun d => d.rowWrite w (Reg.CAR_BRCLR c.toNat) v.toNat := rfl

end

theorem rowWrite_reclass {d : Device} {w : Writer} {c : BitVec 5} (v : BitVec 32)
    (harrives : d.arrives w (Reg.CAR_RECLASS c.toNat) = true) (hc : c.toNat < d.cfg.cores) :
    d.rowWrite w (Reg.CAR_RECLASS c.toNat) v.toNat = d.reclass c.toNat v.toNat := by
  have hcore : c.toNat < 32 := c.isLt
  rw [rowWrite_car _ harrives (by unfold Reg.CAR_RECLASS; omega) (by unfold Reg.CAR_RECLASS; omega), carWrite_reclass _ hc hcore,
    Nat.mod_eq_of_lt v.isLt]

theorem rowWrite_breachClear {d : Device} {w : Writer} {c : BitVec 5} (v : BitVec 32)
    (harrives : d.arrives w (Reg.CAR_BRCLR c.toNat) = true) (hc : c.toNat < d.cfg.cores) :
    d.rowWrite w (Reg.CAR_BRCLR c.toNat) v.toNat = d.breachClear c.toNat v.toNat := by
  have hcore : c.toNat < 32 := c.isLt
  rw [rowWrite_car _ harrives (by unfold Reg.CAR_BRCLR; omega) (by unfold Reg.CAR_BRCLR; omega), carWrite_breachClear _ hc hcore,
    Nat.mod_eq_of_lt v.isLt]

/-- Settles O24: each command by the function of the Carousel that it runs. -/
theorem berthCommands : Obligations.BerthCommands := by
  unfold Obligations.BerthCommands
  refine ⟨fun s b => ?_, fun s w b c v => ?_⟩
  · intro d n x cmp
    refine ⟨fun hpresent harmed hwait hwoke hmode hcmp => ?_, fun hidle => ?_⟩
    · refine completes_device (exec_timerCompare s b) (timerCompare_reached hpresent harmed hwait hwoke hmode hcmp) rfl
        ⟨Device.berth_setBerth_same .., fun _ _ => rfl, fun j hj => ?_⟩
      rw [Device.berth_setBerth_other _ _ hj.symm, Device.berth_setBerth_other _ _ hj.symm]
    · rw [exec_timerCompare, State.upd_eq, timerCompare_idle hidle]
  · intro d n x req shown rests
    refine ⟨fun harrives hpresent hask => ?_, fun harrives hpresent hask hmis hcopy => ?_, fun hpresent hask => ?_, ?_,
      fun harrives hc => ?_⟩
    · obtain ⟨hasked, hparked, hberth, hothers, hregs, hcfg⟩ := settles_parkRequest hpresent
      have hrun := rowWrite_parkReq (p := true) harrives b.isLt hpresent hask
      exact completes_device (exec_parkRequest s w b) (hrun.trans (if_pos rfl)) hcfg ⟨hasked, hparked, hberth, hothers, hregs⟩
    · have hrun : d.rowWrite w req (setBits (d.rd req) (n % 16) 1 0) = (unparkedBits d n).dozeExit n :=
        (rowWrite_parkReq (p := false) harrives b.isLt hpresent hask).trans (unparkRequest_eq hpresent hmis hcopy)
      refine ⟨fun hmode => ?_, fun hdoze => ?_⟩
      · exact completes_device (exec_unparkRequest s w b) (hrun.trans (dozeExit_of_mode hmode)) unparkedBits_cfg
          ⟨unparkedBits_asked, unparkedBits_parked, unparkedBits_berth, unparkedBits_regs⟩
      · obtain ⟨hparked, hmode, hberths, hcfg⟩ := dozeExit_unparked b.isLt hdoze
        exact completes_device (exec_unparkRequest s w b) hrun hcfg ⟨hparked, hmode, hberths⟩
    · obtain ⟨_, hparked, hberth, hothers, hregs, hcfg⟩ := settles_settlePark hask
      exact completes_device (exec_berthParked s b) (if_pos hpresent) hcfg ⟨hparked, hberth, hothers, hregs⟩
    · intro rec_ st i m cfg harrives hc hpresent
      have hi : i < 16 := Nat.mod_lt _ (by decide)
      have hrun := rowWrite_reclass v harrives hc
      refine ⟨fun hparked => ?_, fun slot f l t hparked hv hslot hf hf' hl hl' ht ht' hfree => ?_, fun hparked h4 hfree => ?_⟩
      · have hrefused := reclass_refused (v := v.toNat) rfl (reclassCode_running hpresent hparked) (le_refl 2)
        refine completes_device (exec_reclass s w c v) (hrun.trans hrefused) (Device.wr_cfg ..) ⟨?_, fun _ => rfl, fun o ho => ?_⟩
        · rw [Device.rd_wr_same]
          exact Nat.mod_eq_of_lt (by omega)
        · exact Device.rd_wr_other _ _ fun h => ho (List.mem_singleton.mpr h.symm)
      · obtain ⟨h4, h5, h8, h14, h20, hall⟩ :=
          reclassTimed_fields (f := f) (l := l) (t := t) hi hslot (by omega) (by omega) (by omega)
        rw [← hv] at h4 h5 h8 h14 h20 hall
        have hcode := reclassCode_parked (timed := bitOf v.toNat 4) (slot := slot) (f := f) (l := l) (t := t) hi hpresent hparked hfree
          fun _ => ⟨hf, hf', hl, hl', ht, ht'⟩
        rw [← h5, ← h8, ← h14, ← h20] at hcode
        obtain ⟨hst, hword, hberths, hregs, hcfg⟩ := reclass_taken_leaves rfl hcode
        obtain ⟨w0, w1, w4, w8, w14, w20⟩ := reclassWord_timed (r := d.rd cfg) h4 h5 hall hslot (by omega) (by omega) (by omega)
        rw [← hword] at w0 w1 w4 w8 w14 w20
        exact completes_device (exec_reclass s w c v) hrun hcfg ⟨hst, (timed_add _ _ hi).trans w0, w1, w4, w8, w14, w20, hberths, hregs⟩
      · have hcode := reclassCode_parked (timed := bitOf v.toNat 4) (slot := bitsOf v.toNat 5 3) (f := bitsOf v.toNat 8 6) (l := bitsOf v.toNat 14 6)
          (t := bitsOf v.toNat 20 6) hi hpresent hparked hfree fun h => absurd h (by rw [h4]; exact Bool.false_ne_true)
        obtain ⟨hst, hword, hberths, hregs, hcfg⟩ := reclass_taken_leaves rfl hcode
        obtain ⟨w0, w4⟩ := reclassWord_free (r := d.rd cfg) h4
        rw [← hword] at w0 w4
        exact completes_device (exec_reclass s w c v) hrun hcfg ⟨hst, (timed_add _ _ hi).trans w0, w4, hberths, hregs⟩
    · obtain ⟨hbreach, hberths, hregs, hcfg⟩ := foldl_breachClear d c.toNat (setPositions 16 v.toNat)
      refine completes_device (exec_breachClear s w c v) (rowWrite_breachClear v harrives hc) hcfg
        ⟨fun i hi => (hbreach i).trans ?_, hberths, fun o ho => ?_⟩
      · have hmem : i ∈ setPositions 16 v.toNat ↔ bitOf v.toNat i = true := by simp [setPositions, hi]
        exact if_congr hmem rfl rfl
      · refine hregs o fun h => ho ?_
        obtain ⟨i, hi, rfl⟩ := List.mem_map.mp h
        exact List.mem_map.mpr ⟨i, List.mem_of_mem_filter hi, rfl⟩

end Sys2Proof.Proofs
end

section
/-! PROOF. MemoryUpkeep (R170, R171, R178, R207): what a scrubber's turn leaves of the memories and the registers, and the writes of MEM_CLR
and BOL_CLR, each of which replaces one field of one register. -/

open Sys2Proof Sys2Proof.Machine Sys2Proof.Claims

namespace Sys2Proof.Proofs

/-! ### One field of a register replaced -/

section
variable (d : Device) (off x : Nat) {lo w : Nat}

theorem fld_setFld_same (h : lo + w ≤ 32) : (d.setFld off lo w x).fld off lo w = x % 2 ^ w := by
  rw [Device.fld, Device.setFld, Device.rd_wr_same, bitsOf_mod h, bitsOf_setBits_same]

theorem flag_setFld_outside {k : Nat} (hk : k < 32) (h : k < lo ∨ lo + w ≤ k) : (d.setFld off lo w x).flag off k = d.flag off k := by
  rw [Device.flag, Device.setFld, Device.rd_wr_same, bitOf_mod hk, bitOf_eq_testBit, testBit_setBits, if_neg (by omega), ← bitOf_eq_testBit,
    ← Device.flag]

theorem onlyRegs_setFld (lo w : Nat) : onlyRegs d (d.setFld off lo w x) [off] := fun _ ho =>
  Device.rd_wr_other (d := d) _ fun h => ho (List.mem_singleton.mpr h.symm)

end

/-- A register's write that comes to one replaced field leaves the other bits of that field's register and everything else. -/
theorem completes_setFld {c : Instr} {s : State} {w : Writer} {row v off lo n x : Nat} (h : exec c s = s.upd fun d => d.rowWrite w row v)
    (hrun : s.dev.rowWrite w row v = s.dev.setFld off lo n x) (hn : lo + n ≤ 32) : Completes c s fun e =>
      e.fld off lo n = x % 2 ^ n ∧ (∀ k, k < 32 → k < lo ∨ lo + n ≤ k → e.flag off k = s.dev.flag off k) ∧ onlyRegs s.dev e [off] ∧
      sameBerths s.dev e ∧ e.mem = s.dev.mem ∧ e.bol = s.dev.bol :=
  completes_device h hrun rfl ⟨fld_setFld_same _ _ _ hn, fun _ hk ho => flag_setFld_outside _ _ _ hk ho, onlyRegs_setFld _ _ _ _ _,
    fun _ => rfl, rfl, rfl⟩

/-! ### The clears (R178, R207) -/

section
variable {d : Device} {w : Writer} (v : Nat)

/-- A write of MEM_CLR that arrives reaches the clears: its offset alone picks them among the registers' writes. -/
theorem rowWrite_memClr (h : d.arrives w Reg.MEM_CLR = true) : d.rowWrite w Reg.MEM_CLR v = d.memClr (v % 2 ^ 32) := if_pos h

/-- BOL_CLR likewise. -/
theorem rowWrite_bolClr (h : d.arrives w Reg.BOL_CLR = true) : d.rowWrite w Reg.BOL_CLR v = d.bolClr (v % 2 ^ 32) := if_pos h

end

/-- BOL_CNT is one word of counts: its clear replaces all 32 bits. -/
theorem bolClrCnt_eq_setFld (d : Device) : d.bolClrCnt = d.setFld Reg.BOL_CNT 0 32 0 := by
  have hword : setBits (d.rd Reg.BOL_CNT) 0 32 0 = 0 := by
    have := d.rd_lt Reg.BOL_CNT
    unfold setBits
    omega
  rw [Device.bolClrCnt, Device.setFld, hword]

/-! ### A scrubber's turn (R171) -/

theorem eccAt_setEcc_same (d : Device) (a : Nat) (e : Ecc) : (d.setEcc a e).eccAt a = e := Store.get_put_same ..

/-- The word that a scrubber has read and could correct is without an error. -/
theorem eccAt_scrubOne {d : Device} {a : Nat} (h : d.eccAt a ≠ .uncorrectable) : (d.scrubOne a).eccAt a = .clean := by
  unfold Device.scrubOne
  split
  next hclean => exact hclean
  next => exact eccAt_setEcc_same ..
  next => exact eccAt_setEcc_same ..
  next hue => exact absurd hue h

theorem scrubOne_of_clean {d : Device} {a : Nat} (h : d.eccAt a = .clean) : d.scrubOne a = d := by
  rw [Device.scrubOne, h]

/-- The scrubber m moved on to a word, with the walks that count for the next pass. -/
def scrubbedOn (d : Device) (m k : Nat) (walked : List Nat) : Device :=
  { d with mem := { d.mem with scrubAt := d.mem.scrubAt.put (fun _ => 0) m k, scrubbed := walked } }

/-- The scrubber m has moved on to a word, and MEM_SCRUBSTAT may have counted the pass: the bytes, the check bits, the berths and every other
register stand. -/
structure ScrubMoved (m k : Nat) (d e : Device) : Prop where
  next : e.mem.scrubAt.get (fun _ => 0) m = k
  bytes : e.mem.bytes = d.mem.bytes
  ecc : e.mem.ecc = d.mem.ecc
  berths : sameBerths d e
  regs : onlyRegs d e [Reg.MEM_SCRUBSTAT]
  cfg : e.cfg = d.cfg

theorem scrubMoved_scrubbedOn (d : Device) (m k : Nat) (walked : List Nat) : ScrubMoved m k d (scrubbedOn d m k walked) :=
  ⟨Store.get_put_same d.mem.scrubAt (fun _ => 0) m k, rfl, rfl, fun _ => rfl, fun _ _ => rfl, rfl⟩

/-- The count of a pass. -/
theorem ScrubMoved.bump {m k : Nat} {d e : Device} (h : ScrubMoved m k d e) : ScrubMoved m k d (e.bump Reg.MEM_SCRUBSTAT 0 16) :=
  { h with regs := fun o ho => (onlyRegs_setFld e _ _ _ _ o ho).trans (h.regs o ho) }

/-- A scrubber's turn is the handling of its word and then the move to the next. -/
theorem scrubMoved_scrubWord {d : Device} {m : Nat} (h : d.scrubs m = true) :
    let k := d.mem.scrubAt.get (fun _ => 0) m
    ScrubMoved m (if scrubWords d.cfg m ≤ k + 1 then 0 else k + 1) (d.scrubOne (scrubBase m + 8 * k)) (d.scrubWord m) := by
  intro k
  have henabled : ¬ d.scrubs m = false := by simp [h]
  rw [Device.scrubWord, if_neg henabled]
  simp only [decide_eq_true_eq]
  exact iteInduction (fun _ => (scrubMoved_scrubbedOn ..).bump) fun _ => scrubMoved_scrubbedOn ..

theorem scrubWord_disabled {d : Device} {m : Nat} (h : d.scrubs m = false) : d.scrubWord m = d := if_pos h

/-! ### The statement's cases -/

section
variable {s : State} {m : BitVec 4}

theorem scrubWord_completes (h : s.dev.scrubs m.toNat = true) :
    let d := s.dev
    let k := d.mem.scrubAt.get (fun _ => 0) m.toNat
    let a := scrubBase m.toNat + 8 * k
    Completes (.scrubWord m) s fun e =>
      e.mem.scrubAt.get (fun _ => 0) m.toNat = (if scrubWords d.cfg m.toNat ≤ k + 1 then 0 else k + 1) ∧
      (d.eccAt a ≠ .uncorrectable → e.eccAt a = .clean) ∧
      (d.eccAt a = .clean → e.mem.bytes = d.mem.bytes ∧ e.mem.ecc = d.mem.ecc ∧ sameBerths d e ∧ onlyRegs d e [Reg.MEM_SCRUBSTAT]) := by
  intro d k a
  have hmoved : ScrubMoved _ _ (d.scrubOne a) _ := scrubMoved_scrubWord h
  refine completes_of_exec (f := fun d => d.scrubWord m.toNat) rfl ⟨hmoved.next, fun hecc => ?_, fun hclean => ?_⟩
  · have hread := eccAt_scrubOne hecc
    rw [Device.eccAt, ← hmoved.ecc] at hread
    exact hread
  · rw [scrubOne_of_clean hclean] at hmoved
    rw [← hmoved.cfg]
    exact ⟨hmoved.bytes, hmoved.ecc, hmoved.berths, hmoved.regs⟩

theorem scrubWord_rests (h : s.dev.scrubs m.toNat = false) : exec (.scrubWord m) s = .next s := by
  show s.upd (fun d => d.scrubWord m.toNat) = _
  rw [State.upd_eq, scrubWord_disabled h]

end

/-- Settles O26: a scrubber's turn, and each clear as the one field that it replaces. -/
theorem memoryUpkeep : Obligations.MemoryUpkeep := by
  unfold Obligations.MemoryUpkeep
  refine ⟨fun s m => ⟨scrubWord_completes, scrubWord_rests⟩, fun s w => ⟨fun harrives => ⟨?_, ?_, ?_⟩, fun harrives => ⟨?_, ?_⟩⟩⟩
  · exact completes_setFld rfl (rowWrite_memClr 1 harrives) (by decide)
  · exact completes_setFld rfl (rowWrite_memClr 2 harrives) (by decide)
  · exact completes_setFld rfl (rowWrite_memClr 4 harrives) (by decide)
  · exact completes_setFld rfl ((rowWrite_bolClr 1 harrives).trans (bolClrCnt_eq_setFld _)) (by decide)
  · exact completes_setFld rfl (rowWrite_bolClr 2 harrives) (by decide)

end Sys2Proof.Proofs
end

section
/-! PROOF. The bollard unit (R182 to R191): what an operation on a lock word answers, and what it leaves of the word and of its tracking
entry. -/

open Sys2Proof Sys2Proof.Machine Sys2Proof.Claims

namespace Sys2Proof.Proofs

/-! ### Status words (R187) -/

theorem bolStatus_eq_status (code epoch : Nat) : bolStatus code epoch = status code (epoch % 16) := rfl

theorem bolStatus_of_lt (code : Nat) {epoch : Nat} (h : epoch < 16) : bolStatus code epoch = status code epoch := by
  rw [bolStatus_eq_status, Nat.mod_eq_of_lt h]

/-- EPOCH is a field of 4 bits (Table 6.1). -/
theorem epochField_lt (w : Nat) : bitsOf w 25 4 < 16 := Nat.mod_lt _ (by decide)

/-! ### An entry and its word -/

/-- A read of a word without an error changes nothing. -/
theorem checkRead_clean {d : Device} {g : Nat} (agent : Nat) (h : d.eccAt g = .clean) : d.checkRead agent g = (true, d) := by
  rw [Device.checkRead, h]

/-- The entry n of the tracking table and the lock word at g have been written, and of the registers the peak of the table at most. -/
structure LockSet (n : Nat) (entry : Option BolEntry) (g w : Nat) (d e : Device) : Prop where
  entries : e.bol.entries = d.bol.entries.put bolDefault n entry
  word : wordAt d e g w
  berths : e.berths = d.berths
  regs : onlyRegs d e [Reg.BOL_STAT]
  cfg : e.cfg = d.cfg

section
variable {d e : Device} {n g w : Nat} {entry : Option BolEntry}

theorem wordAt_unitWrite (d : Device) (g w : Nat) : wordAt d (d.unitWrite g w) g w :=
  wordAt_of_written (written_markDirty g ⟨rfl, byte_poke (d.setEcc g .clean) g _⟩)

/-- It writes memory alone. -/
theorem unitWrite_eq (d : Device) (g w : Nat) : ∃ m, d.unitWrite g w = { d with mem := m } := by
  unfold Device.unitWrite Device.markDirty
  split <;> exact ⟨_, rfl⟩

/-- The unit's own write of an entry with its word (R183). -/
theorem lockSet_unitWrite (d : Device) (n : Nat) (entry : Option BolEntry) (g w : Nat) :
    LockSet n entry g w d ((d.setEntry n entry).unitWrite g w) := by
  obtain ⟨hvalue, hbyte⟩ := wordAt_unitWrite (d.setEntry n entry) g w
  obtain ⟨m, hm⟩ := unitWrite_eq (d.setEntry n entry) g w
  rw [hm] at hvalue hbyte ⊢
  exact ⟨rfl, ⟨hvalue, hbyte⟩, rfl, fun _ _ => rfl, rfl⟩

theorem LockSet.bolPeak (h : LockSet n entry g w d e) : LockSet n entry g w d e.bolPeak := by
  unfold Device.bolPeak
  split
  · exact ⟨(congrArg BolSys.entries (Device.setFld_bol ..)).trans h.entries, wordAt_of_mem h.word (Device.setFld_mem ..),
      (Device.setFld_berths ..).trans h.berths, fun o ho => (onlyRegs_setFld e _ _ _ _ o ho).trans (h.regs o ho),
      (Device.setFld_cfg ..).trans h.cfg⟩
  · exact h

variable (h : LockSet n entry g w d e)
include h

theorem LockSet.entry_same : e.bol.entries.get bolDefault n = entry := by rw [h.entries, Store.get_put_same]

theorem LockSet.entry_other {k : Nat} (hk : k ≠ n) : e.bol.entries.get bolDefault k = d.bol.entries.get bolDefault k := by
  rw [h.entries, Store.get_put_other _ _ _ hk.symm]

theorem LockSet.berth (b : Nat) : e.berth b = d.berth b := by rw [Device.berth, h.berths, ← Device.berth]

theorem LockSet.sameTo (b : Nat) : SameTo d e b := by
  refine sameTo_of_rd (h.berth b) h.cfg (fun off ho => h.regs off ?_) (h.regs _ ?_) <;> rw [List.mem_singleton]
  · unfold Reg.BOL_STAT
    omega
  · unfold Reg.BOL_STAT Reg.CAR_BCFG
    omega

end

/-! ### Acquire (R188 to R190) -/

/-- EPOCH of a word once it has been acquired: an orphaned one's goes up. -/
def acquiredEpoch (old : Nat) : Nat := if bitsOf old 30 2 = 1 then (bitsOf old 25 4 + 1) % 16 else bitsOf old 25 4

/-- The code of an acquire, by the state of the word (Table 6.3). -/
def acquiredCode (old : Nat) : Nat := if bitsOf old 30 2 = 0 then 0 else if bitsOf old 30 2 = 3 then 2 else 1

theorem acquiredEpoch_lt (old : Nat) : acquiredEpoch old < 16 := by
  have h := epochField_lt old
  unfold acquiredEpoch
  split <;> omega

section
variable {d : Device} {g n : Nat} {entry : BolEntry} (who : Holder) (inh : Bool) (user : Nat)

theorem acquireNew_free (hn : d.freeEntry = some n) :
    (d.acquireNew who g inh user).1 = status (acquiredCode (d.value g 4)) (acquiredEpoch (d.value g 4)) ∧
    LockSet n (some ⟨g, who, inh, acquiredEpoch (d.value g 4), user % 2 ^ 15⟩) g
      (lockWord 1 inh (acquiredEpoch (d.value g 4)) who.owner (user % 2 ^ 15)) d (d.acquireNew who g inh user).2 := by
  rw [Device.acquireNew, hn]
  exact ⟨bolStatus_of_lt _ (acquiredEpoch_lt _), (lockSet_unitWrite ..).bolPeak⟩

theorem bolTry_untracked (h : d.tracked g = none) : d.bolTry who g inh user = d.acquireNew who g inh user := by
  rw [Device.bolTry, h]

theorem bolTry_tracked (h : d.tracked g = some (n, entry)) :
    d.bolTry who g inh user = (status (if entry.holder = who then 0x14 else 0x10) (entry.epoch % 16), d) := by
  rw [Device.bolTry, h]
  rfl

/-! ### Release (R189) -/

theorem firstWaiter_of_none (h : d.waiters g = []) : d.firstWaiter g = none := by
  rw [Device.firstWaiter, h]
  rfl

theorem bolRelease_untracked (h : d.tracked g = none) : d.bolRelease who g = (status 0x16 (bitsOf (d.value g 4) 25 4), d) := by
  rw [Device.bolRelease, h, ← bolStatus_of_lt _ (epochField_lt _)]

theorem bolRelease_other (h : d.tracked g = some (n, entry)) (hholder : entry.holder ≠ who) :
    d.bolRelease who g = (status 0x15 (entry.epoch % 16), d) := by
  rw [Device.bolRelease, h]
  exact if_pos hholder

/-- A release of a word that nobody waits for. -/
theorem bolRelease_frees (h : d.tracked g = some (n, entry)) (hholder : entry.holder = who) (hw : d.waiters g = []) :
    d.bolRelease who g =
      (status 3 (entry.epoch % 16), (d.setEntry n none).unitWrite g (lockWord 0 false entry.epoch 0 entry.user)) := by
  rw [Device.bolRelease, h]
  dsimp only
  rw [if_neg (not_not.mpr hholder), firstWaiter_of_none hw]
  rfl

end

end Sys2Proof.Proofs
end

section
/-! PROOF. BollardAcquire (R188, R190, R193, R200): what comes of a BOL instruction on a lock word, and the answers of BTRY and BACQ. -/

open Sys2Proof Sys2Proof.Machine Sys2Proof.Claims

namespace Sys2Proof.Proofs

/-! ### A BOL instruction by what its operation answers -/

/-- What a BOL instruction comes to: a result through the load queue, or a wait. -/
def bolIssued (d : Device) (c : Ctx) (rd : Reg5) (o : Option Nat) (e : Effect) : Issued :=
  match o with
  | some v => d.fixed c rd.toNat v e
  | none => .done d e

/-- A BOL instruction that nothing forbids. (The check of the word is made a variable first: the kernel would evaluate the bounds of the
memories.) -/
theorem bolOp_issues {d e : Device} {c : Ctx} {reads : List Reg5} {rd rs1 : Reg5} {bk : BitVec 2} {wait : Bool} {a g : Nat} {o : Option Nat}
    {f : Ctx → Berth → Nat → Device → Option Nat × Device} (hl : (d.berth c.b).loads = []) (hs : (d.berth c.b).stores = [])
    (hfree : d.loadFree c.b = true) (htimed : d.timed c.b = false)
    (ha : (d.berth c.b).banked bk.toNat ((d.berth c.b).operand rs1.toNat).toNat = a) (hg : d.bolWord c a = .ok g)
    (hf : f c (d.berth c.b) g d = (o, e)) (hwatched : e.watched = false) :
    ∃ eff : Effect, (bolOp reads rd rs1 bk wait f).run c d = bolIssued e c rd o eff ∧ eff.target = none ∧
      eff.shadow = (d.berth c.b).delay rd.toNat := by
  obtain ⟨word, hword⟩ : ∃ word, word = Device.bolWord := ⟨_, rfl⟩
  obtain ⟨F, hF⟩ : ∃ F, F = (bolOp reads rd rs1 bk wait f).run := ⟨_, rfl⟩
  rw [← hF]
  delta bolOp at hF
  rw [← hword] at hg hF
  rw [hF]
  simp only [ha, hg, hfree, htimed, drain_idle _ hl hs, hf, traceData_unwatched _ _ _ _ _ hwatched, Bool.and_false, Bool.true_eq_false,
    Bool.false_eq_true, if_false]
  cases o <;> exact ⟨_, rfl, rfl, rfl⟩

section
variable {s : State} {i : Site} {q : Instr} {reads : List Reg5} {rd rs1 : Reg5} {bk : BitVec 2} {g : Nat} {wait : Bool} {e : Device}
  {f : Ctx → Berth → Nat → Device → Option Nat × Device} (hready : bolReady s.dev i rs1 bk g)
include hready

theorem bolOp_issues_of_ready {o : Option Nat} (hf : f (s.dev.ctx i) (s.dev.berth i.b) g s.dev = (o, e))
    (hwatched : e.watched = s.dev.watched) : ∃ eff : Effect,
      (bolOp reads rd rs1 bk wait f).run (s.dev.ctx i) s.dev = bolIssued e (s.dev.ctx i) rd o eff ∧ eff.target = none ∧
      eff.shadow = (s.dev.berth i.b).delay rd.toNat := by
  obtain ⟨hready, hs, htimed, hfree, _, hg⟩ := hready
  obtain ⟨_, _, _, hl, _, hunwatched, _⟩ := s.dev.ready_parts i hready
  refine bolOp_issues (c := s.dev.ctx i) hl hs hfree htimed ?_ hg hf (hwatched.trans hunwatched)
  rw [Berth.banked, Nat.mod_eq_of_lt (BitVec.isLt _)]
  rfl

variable (hexec : exec q s = s.upd fun d => d.issue i (bolOp reads rd rs1 bk wait f))
include hexec

/-- One that answers a status. -/
theorem bolOp_answers {v : Nat} (hsame : SameTo s.dev e i.b) (hf : f (s.dev.ctx i) (s.dev.berth i.b) g s.dev = (some v, e)) :
    Completes q s (e.Leaves i (queued (s.dev.berth i.b) i rd (BitVec.ofNat 32 v))) := by
  obtain ⟨eff, hrun, ht, _⟩ := bolOp_issues_of_ready hready hf hsame.watched
  obtain ⟨hready, _, htimed, _⟩ := hready
  exact completes_of_exec hexec (leaves_beside_fixed hready hsame hrun (.inl htimed) ht)

/-- One that waits: beside the berth only the bollard unit has changed. -/
theorem bolOp_waits {u : BolSys} {w : Wait} (hf : f (s.dev.ctx i) (s.dev.berth i.b) g s.dev =
      (none, Device.setBerth { s.dev with bol := u } i.b { s.dev.berth i.b with wait := w })) :
    Completes q s fun t => t.berth i.b = { (s.dev.berth i.b).goesOn i with
      wait := w, shadow := some (physReg (s.dev.berth i.b).cwp rd.toNat, (s.dev.berth i.b).reg rd.toNat) } ∧ t.mem = s.dev.mem := by
  obtain ⟨eff, hrun, ht, hshadow⟩ :=
    bolOp_issues_of_ready (reads := reads) (rd := rd) (wait := wait) hready hf (Device.watched_setBerth ..)
  obtain ⟨hready, _, htimed, _⟩ := hready
  have hleaves := leaves_beside (e := { s.dev with bol := u }) hready ⟨rfl, rfl, rfl, rfl⟩ hrun (differsAt_setBerth _ _ _) (.inl htimed)
  refine completes_of_exec hexec ⟨?_, (leaves_mem hleaves :)⟩
  obtain ⟨hberth, _⟩ := hleaves
  rw [hberth, Device.berth_setBerth_same, advance_of_sr_eq (x := s.dev.berth i.b) (by rfl) ht, hshadow, goesOn_self (s.dev.berth i.b)]
  rfl

end

/-! ### The wait-for chain (R200) -/

section
variable {d : Device} {h h' : Holder}

theorem link_succ (hstep : link d h 1 = some h') (k : Nat) : link d h (k + 1) = link d h' k := by
  induction k with
  | zero => exact hstep
  | succ k ih => rw [link, ih, link]

theorem link_succ_none (hstep : link d h 1 = none) (k : Nat) : link d h (k + 1) = none := by
  induction k with
  | zero => exact hstep
  | succ k ih => rw [link, ih]

/-- DEADLOCK_CHECK goes on along the chain. -/
theorem closes_succ {b : Nat} (n : Nat) (hne : h ≠ .berth b) : d.closes b (n + 1) h = (link d h 1).elim false (d.closes b n) := by
  cases h with
  | host | gangway => rfl
  | berth c =>
    rw [Device.closes, if_neg hne]
    show (match d.waitsFor c with
      | some g => d.closes b n g
      | none => false) = (d.waitsFor c).elim false (d.closes b n)
    cases d.waitsFor c <;> rfl

theorem closes_iff (d : Device) (b n : Nat) (h : Holder) : d.closes b n h = true ↔ ∃ k, k < n ∧ link d h k = some (.berth b) := by
  induction n generalizing h with
  | zero => simp [Device.closes]
  | succ n ih =>
    by_cases hself : h = .berth b
    · exact iff_of_true (by rw [hself, Device.closes, if_pos rfl]) ⟨0, Nat.succ_pos n, congrArg some hself⟩
    · have hzero : link d h 0 ≠ some (.berth b) := fun heq => hself (Option.some.inj heq)
      rw [closes_succ n hself, Nat.exists_lt_succ_left, or_iff_right hzero]
      cases hstep : link d h 1 with
      | none => simp [link_succ_none hstep]
      | some h' => simp only [link_succ hstep, Option.elim_some, ih]

end

/-! ### BACQ on a word that another holds -/

/-- BOL_CNT has counted a DEADLOCK (0) or a TIMEOUT (1), or nothing (2). -/
def counted (d : Device) (k : Nat) : Device := if k < 2 then d.bump Reg.BOL_CNT (8 * k) 8 else d

theorem fld_bump_other (d : Device) (off : Nat) {lo w lo' w' : Nat} (h : lo' + w' ≤ lo ∨ lo + w ≤ lo') (h32 : lo' + w' ≤ 32) :
    (d.bump off lo w).fld off lo' w' = d.fld off lo' w' := by
  rw [Device.fld, Device.bump, Device.setFld, Device.rd_wr_same, bitsOf_mod h32, bitsOf_setBits_other h, ← Device.fld]

theorem fld_counted (d : Device) (c : Nat) {k : Nat} (hk : k < 2) : (counted d c).fld Reg.BOL_CNT (8 * k) 8 =
    if k = c then min (d.fld Reg.BOL_CNT (8 * k) 8 + 1) 255 else d.fld Reg.BOL_CNT (8 * k) 8 := by
  unfold counted
  split_ifs with hc hkc hkc
  · rw [← hkc]
    exact fld_bump d _ (by omega)
  · exact fld_bump_other d _ (by omega) (by omega)
  · omega
  · rfl

theorem sameTo_counted (d : Device) (k b : Nat) : SameTo d (counted d k) b := by
  unfold counted
  split
  · exact sameTo_bump d _ _ (by decide)
  · exact ⟨rfl, rfl, rfl, rfl⟩

theorem counted_parts (d : Device) (k : Nat) : (counted d k).mem = d.mem ∧ (counted d k).bol = d.bol := by
  unfold counted
  split
  · exact ⟨Device.bump_mem .., Device.bump_bol ..⟩
  · exact ⟨rfl, rfl⟩

section
variable {d : Device} {b g n : Nat} {entry : BolEntry} (inh : Bool) (user rd : Nat)

theorem bolAcquire_untracked (h : d.tracked g = none) : d.bolAcquire b g inh user rd =
    (some (d.acquireNew (.berth b) g inh user).1, (d.acquireNew (.berth b) g inh user).2) := by
  rw [Device.bolAcquire, h]

theorem bolAcquire_self (h : d.tracked g = some (n, entry)) (hholder : entry.holder = .berth b) :
    d.bolAcquire b g inh user rd = (some (status 0x14 (entry.epoch % 16)), counted d 2) := by
  rw [Device.bolAcquire, h]
  exact if_pos hholder

variable (h : d.tracked g = some (n, entry)) (hholder : entry.holder ≠ .berth b)
include h hholder

theorem bolAcquire_timeout (htmo : d.rd (Reg.BOL_TMO b) = 0) :
    d.bolAcquire b g inh user rd = (some (status 0x11 (entry.epoch % 16)), counted d 1) := by
  rw [Device.bolAcquire, h]
  dsimp only
  rw [if_neg hholder, if_pos htmo]
  rfl

theorem bolAcquire_deadlock (htmo : d.rd (Reg.BOL_TMO b) ≠ 0) (hchain : deadlock d b entry.holder) :
    d.bolAcquire b g inh user rd = (some (status 0x12 (entry.epoch % 16)), counted d 0) := by
  rw [Device.bolAcquire, h]
  dsimp only
  rw [if_neg hholder, if_neg htmo, if_pos ((closes_iff ..).mpr hchain)]
  rfl

theorem bolAcquire_waits (htmo : d.rd (Reg.BOL_TMO b) ≠ 0) (hchain : ¬deadlock d b entry.holder) :
    d.bolAcquire b g inh user rd = (none, Device.setBerth { d with bol := { d.bol with arrival := d.bol.arrival + 1 } } b
      { d.berth b with wait := .bollard rd g d.bol.arrival (d.tbNow + d.rd (Reg.BOL_TMO b)) inh user }) := by
  rw [Device.bolAcquire, h]
  dsimp only
  rw [if_neg hholder, if_neg htmo, if_neg fun hc => hchain ((closes_iff ..).mp hc)]
  rfl

end

/-! ### The statement's cases -/

/-- An acquire of a word that nobody holds, with INH and USER of rs2. -/
def acquiring (d : Device) (i : Site) (rs2 : Reg5) (g : Nat) : Nat × Device :=
  d.acquireNew (.berth i.b) g (inhOf ((d.berth i.b).operand rs2.toNat)) (userOf ((d.berth i.b).operand rs2.toNat))

section
variable {s : State} {i : Site} {rd rs1 rs2 : Reg5} {bk : BitVec 2} {g : Nat} (hready : bolReady s.dev i rs1 bk g)
include hready

theorem btry_answers {v : Nat} {e : Device} (hsame : SameTo s.dev e i.b)
    (h : s.dev.bolTry (.berth i.b) g (inhOf ((s.dev.berth i.b).operand rs2.toNat)) (userOf ((s.dev.berth i.b).operand rs2.toNat)) =
      (v, e)) :
    Completes (.btry i rd rs1 rs2 bk) s (e.Leaves i (queued (s.dev.berth i.b) i rd (BitVec.ofNat 32 v))) := by
  obtain ⟨_, _, _, _, hclean, _⟩ := id hready
  refine bolOp_answers (reads := [rs2]) hready rfl hsame ?_
  rw [checkRead_clean 0 hclean]
  exact congrArg (fun r : Nat × Device => (some r.1, r.2)) h

theorem bacq_answers {v : Nat} {e : Device} (hsame : SameTo s.dev e i.b)
    (h : s.dev.bolAcquire i.b g (inhOf ((s.dev.berth i.b).operand rs2.toNat)) (userOf ((s.dev.berth i.b).operand rs2.toNat)) rd.toNat =
      (some v, e)) :
    Completes (.bacq i rd rs1 rs2 bk) s (e.Leaves i (queued (s.dev.berth i.b) i rd (BitVec.ofNat 32 v))) := by
  obtain ⟨_, _, _, _, hclean, _⟩ := id hready
  refine bolOp_answers (reads := [rs2]) hready rfl hsame ?_
  rw [checkRead_clean 0 hclean]
  exact h

omit hready in
/-- The berth past an acquire, and what has become of the word and its entry. -/
theorem acquires_of_answers {c : Instr} (h : s.dev.tracked g = none → SameTo s.dev (acquiring s.dev i rs2 g).2 i.b →
      Completes c s ((acquiring s.dev i rs2 g).2.Leaves i
        (queued (s.dev.berth i.b) i rd (BitVec.ofNat 32 (acquiring s.dev i rs2 g).1)))) : acquires s i c rd rs2 g := by
  intro n htracked hn
  have huser : userOf ((s.dev.berth i.b).operand rs2.toNat) % 2 ^ 15 =
      ((s.dev.berth i.b).operand rs2.toNat).toNat % 2 ^ 15 := Nat.mod_mod _ _
  obtain ⟨hstatus, hset⟩ := acquireNew_free (g := g) (.berth i.b) (inhOf ((s.dev.berth i.b).operand rs2.toNat))
    (userOf ((s.dev.berth i.b).operand rs2.toNat)) hn
  rw [← acquiring] at hstatus hset
  rw [huser] at hset
  have hcompletes := h htracked (hset.sameTo i.b)
  rw [hstatus] at hcompletes
  refine completes_mono hcompletes fun e hleaves => ?_
  have hbol := leaves_bol hleaves
  obtain ⟨hberth, _⟩ := id hleaves
  rw [hbol]
  exact ⟨hberth, hset.entry_same, wordAt_of_mem hset.word (leaves_mem hleaves), fun k hk => hset.entry_other hk⟩

omit hready in
/-- What a status leaves that BOL_CNT may have counted. -/
theorem answered_of_leaves {c : Instr} {code epoch k : Nat}
    (h : Completes c s ((counted s.dev k).Leaves i (queued (s.dev.berth i.b) i rd (BitVec.ofNat 32 (status code epoch))))) :
    Completes c s fun e => e.berth i.b = queued (s.dev.berth i.b) i rd (BitVec.ofNat 32 (status code epoch)) ∧ e.mem = s.dev.mem ∧
      e.bol = s.dev.bol ∧ ∀ j, j < 2 → e.fld Reg.BOL_CNT (8 * j) 8 =
        if j = k then min (s.dev.fld Reg.BOL_CNT (8 * j) 8 + 1) 255 else s.dev.fld Reg.BOL_CNT (8 * j) 8 := by
  refine completes_mono h fun e hleaves => ?_
  obtain ⟨hmem, hbol⟩ := counted_parts s.dev k
  refine ⟨hleaves.1, (leaves_mem hleaves).trans hmem, (leaves_bol hleaves).trans hbol, fun j hj => ?_⟩
  obtain ⟨_, _, hregs, _⟩ := hleaves
  rw [Device.fld, hregs _ (by decide), ← Device.fld, fld_counted s.dev k hj]

end

/-- Settles O19: an acquire takes a free entry, and on a held word each instruction has the one answer that the holder, BOL_TMO and the
wait-for chain give. -/
theorem bollardAcquire : Obligations.BollardAcquire := by
  unfold Obligations.BollardAcquire
  intro s i rd rs1 rs2 bk g hready d x v tmo
  refine ⟨acquires_of_answers fun htracked hsame => btry_answers hready hsame (bolTry_untracked _ _ _ htracked),
    acquires_of_answers fun htracked hsame => bacq_answers hready hsame (bolAcquire_untracked _ _ _ htracked), fun n entry htracked => ?_⟩
  · refine ⟨?_, fun hholder => ?_, fun hholder htmo => ?_, fun hholder htmo hchain => ?_, fun hholder htmo hchain => ?_⟩
    · exact answered_of_leaves (btry_answers hready (sameTo_counted d 2 i.b) (bolTry_tracked _ _ _ htracked))
    · exact answered_of_leaves (bacq_answers hready (sameTo_counted d 2 i.b) (bolAcquire_self _ _ _ htracked hholder))
    · exact answered_of_leaves (bacq_answers hready (sameTo_counted d 1 i.b) (bolAcquire_timeout _ _ _ htracked hholder htmo))
    · exact answered_of_leaves (bacq_answers hready (sameTo_counted d 0 i.b) (bolAcquire_deadlock _ _ _ htracked hholder htmo hchain))
    · obtain ⟨_, _, _, _, hclean, _⟩ := id hready
      refine bolOp_waits (reads := [rs2]) (u := { d.bol with arrival := d.bol.arrival + 1 }) hready rfl ?_
      rw [checkRead_clean 0 hclean]
      exact bolAcquire_waits _ _ _ htracked hholder htmo hchain

end Sys2Proof.Proofs
end

section
/-! PROOF. HostBollards (R204, R205): what BOL_FORCE does to a word, and TRY and REL of the host and of the Gangway. -/

open Sys2Proof Sys2Proof.Machine Sys2Proof.Claims

namespace Sys2Proof.Proofs

/-! ### BOL_FORCE (R204) -/

section
variable {d e : Device} {w : Writer} (v : Nat)

/-- A write of BOL_FORCE that arrives: its offset alone picks it among the registers' writes. -/
theorem rowWrite_bolForce (h : d.arrives w Reg.BOL_FORCE = true) : d.rowWrite w Reg.BOL_FORCE v = d.bolForceWrite w (v % 2 ^ 32) :=
  if_pos h

/-- BOL_HOP likewise. -/
theorem rowWrite_bolHop (h : d.arrives w Reg.BOL_HOP = true) : d.rowWrite w Reg.BOL_HOP v = d.bolHop w (v % 2 ^ 32) := if_pos h

end

/-- The address in BOL_FADDR. -/
def forceAddr (d : Device) : Nat := bitsOf (d.rd64 Reg.BOL_FADDR) 0 50

/-- A write of BOL_FORCE, by what becomes of the clean word at BOL_FADDR. -/
theorem completes_force {s : State} {w : Writer} {c : Instr} {v : Nat} {dest : Option Nat} {st : Nat} {e : Device} {P : Device → Prop}
    (hexec : exec c s = s.upd fun d => d.rowWrite w Reg.BOL_FORCE v) (harrives : s.dev.arrives w Reg.BOL_FORCE = true)
    (hok : bolAddrOk s.dev.cfg (forceAddr s.dev) = true) (hclean : s.dev.eccAt (forceAddr s.dev) = .clean)
    (hdest : (if bitOf (v % 2 ^ 32) 0 then some (bitsOf (v % 2 ^ 32) 16 9) else none) = dest)
    (h : s.dev.bolForceWord (forceAddr s.dev) dest = (st, e)) (hcfg : e.cfg = s.dev.cfg) (hP : P (e.wr Reg.BOL_FST st)) :
    Completes c s P := by
  refine completes_device hexec ((rowWrite_bolForce v harrives).trans ?_) ((Device.wr_cfg ..).trans hcfg) hP
  rw [Device.bolForceWrite, hdest, ← forceAddr, Device.bolForce, if_neg (by rw [hok]; decide), checkRead_clean _ hclean]
  dsimp only
  rw [if_pos rfl, h]

/-- The berth of a hand-over. -/
theorem handOverWord_dest (b : BitVec 9) : (if bitOf ((1 + 2 ^ 16 * b.toNat) % 2 ^ 32) 0 then
    some (bitsOf ((1 + 2 ^ 16 * b.toNat) % 2 ^ 32) 16 9) else none) = some b.toNat := by
  have hb := b.isLt
  rw [bitOf_mod (by decide), bitsOf_mod (by decide), if_pos (by unfold bitOf; grind)]
  exact congrArg some (by unfold bitsOf; omega)

section
variable {d : Device} {a n : Nat} {entry : BolEntry}

/-- A forced release of a word that nobody waits for. -/
theorem bolForceWord_release (h : d.tracked a = some (n, entry)) (hw : d.waiters a = []) :
    d.bolForceWord a none = (status 0 ((entry.epoch + 1) % 16), (d.setEntry n none).unitWrite a
      (lockWord 3 entry.inh ((entry.epoch + 1) % 16) entry.holder.owner entry.user)) := by
  rw [← bolStatus_of_lt 0 (Nat.mod_lt (entry.epoch + 1) (by decide))]
  simp only [Device.bolForceWord, Device.heldEntry, h, firstWaiter_of_none hw, Option.isNone_some, Bool.false_eq_true, false_and,
    if_false]

/-- A hand-over to a berth that waits for nothing. -/
theorem bolForceWord_handOver {b : Nat} (h : d.tracked a = some (n, entry)) (hpresent : d.present b = true)
    (hwait : (d.berth b).wait = .none) : d.bolForceWord a (some b) = (status 0 ((entry.epoch + 1) % 16),
      ((d.setEntry n (some ⟨a, .berth b, entry.inh, (entry.epoch + 1) % 16, entry.user⟩)).unitWrite a
        (lockWord 1 entry.inh ((entry.epoch + 1) % 16) b entry.user)).bolPeak) := by
  have hbol : (d.berth b).bolWait = none := by rw [Berth.bolWait, hwait]
  rw [← bolStatus_of_lt 0 (Nat.mod_lt (entry.epoch + 1) (by decide))]
  simp only [Device.bolForceWord, Device.heldEntry, h, hpresent, hbol, Option.isNone_some, Bool.not_true, Bool.false_eq_true, false_and,
    if_false, Option.map_none, Option.getD_none]
  rfl

/-- A word that nobody holds stands. -/
theorem bolForceWord_notHeld (h : d.tracked a = none) (hst : bitsOf (d.value a 4) 30 2 ≠ 1) :
    d.bolForceWord a none = (status 0x16 (bitsOf (d.value a 4) 25 4), d) := by
  rw [← bolStatus_of_lt _ (epochField_lt _)]
  simp only [Device.bolForceWord, h, hst, Option.isNone_none, ne_eq, not_false_eq_true, and_self, Bool.false_eq_true, if_false, if_true]

end

theorem status_lt {code epoch : Nat} (hcode : code < 256) (hepoch : epoch < 16) : status code epoch < 2 ^ 32 := by
  unfold status
  split <;> omega

/-- BOL_FST holds a status. -/
theorem rd_wr_status (e : Device) (off : Nat) {code epoch : Nat} (hcode : code < 256) (hepoch : epoch < 16) :
    (e.wr off (status code epoch)).rd off = status code epoch := by
  rw [Device.rd_wr_same, Nat.mod_eq_of_lt (status_lt hcode hepoch)]

/-! ### TRY and REL of the host and of the Gangway (R205) -/

/-- The two requesters, each with its writer. -/
abbrev requester (w : Writer) (who : Holder) : Prop := (w = .gangway ∧ who = .gangway) ∨ ((∃ q, w = .host q) ∧ who = .host)

/-- The address in the requester's BOL_HADDR. -/
def hopAddr (who : Holder) (d : Device) : Nat := if who = .gangway then d.bol.gwAddr else d.bol.hostAddr

/-- The answer in the requester's BOL_HST. -/
def hopAnswer (who : Holder) (d : Device) : Nat := if who = .gangway then d.bol.gwStatus else d.bol.hostStatus

/-- The device with an answer in the requester's BOL_HST. -/
def hopAnswered (who : Holder) (st : Nat) (e : Device) : Device :=
  { e with bol := if who = .gangway then { e.bol with gwStatus := st } else { e.bol with hostStatus := st } }

theorem hopAnswer_answered (who : Holder) (st : Nat) (e : Device) : hopAnswer who (hopAnswered who st e) = st := by
  unfold hopAnswer hopAnswered
  split <;> rfl

theorem hopAnswered_entries (who : Holder) (st : Nat) (e : Device) : (hopAnswered who st e).bol.entries = e.bol.entries := by
  unfold hopAnswered
  split <;> rfl

/-- A write of BOL_HOP by a requester, by what its operation comes to. -/
theorem bolHop_answered {d e : Device} {w : Writer} {who : Holder} {v st : Nat} (hwho : requester w who) (hhere : d.hostBolHere w = true)
    (h : d.hostBol who (hopAddr who d) (v % 4) (bitOf v 15) (bitsOf v 16 15) = (some st, e)) :
    d.bolHop w v = hopAnswered who st e := by
  obtain ⟨rfl, rfl⟩ | ⟨⟨q, rfl⟩, rfl⟩ := hwho <;>
    · rw [Device.bolHop.eq_def, if_neg (by rw [hhere]; decide)]
      simp only [hopAddr, reduceCtorEq, if_true, if_false, Bool.false_eq_true] at h ⊢
      rw [h]
      rfl

section
variable {s : State} {w : Writer} {who : Holder} {c : Instr} {v st : Nat} {e : Device} {P : Device → Prop}

theorem completes_hop (hexec : exec c s = s.upd fun d => d.rowWrite w Reg.BOL_HOP v) (hwho : requester w who)
    (harrives : s.dev.arrives w Reg.BOL_HOP = true) (hhere : s.dev.hostBolHere w = true)
    (h : s.dev.hostBol who (hopAddr who s.dev) (v % 2 ^ 32 % 4) (bitOf (v % 2 ^ 32) 15) (bitsOf (v % 2 ^ 32) 16 15) = (some st, e))
    (hcfg : e.cfg = s.dev.cfg) (hP : P (hopAnswered who st e)) : Completes c s P :=
  completes_device hexec ((rowWrite_bolHop v harrives).trans (bolHop_answered hwho hhere h)) hcfg hP

end

/-- The word that TRY writes to BOL_HOP. -/
def tryWord (inh : Bool) (user : BitVec 15) : Nat := 1 + 2 ^ 15 * bit01 inh + 2 ^ 16 * user.toNat

theorem tryWord_fields (inh : Bool) (user : BitVec 15) : tryWord inh user % 2 ^ 32 % 4 = 1 ∧
    bitOf (tryWord inh user % 2 ^ 32) 15 = inh ∧ bitsOf (tryWord inh user % 2 ^ 32) 16 15 = user.toNat := by
  have huser := user.isLt
  unfold tryWord bitOf bitsOf
  cases inh <;> simp only [bit01] <;> refine ⟨?_, ?_, ?_⟩ <;> grind

section
variable {d : Device} {g : Nat} (who : Holder) (inh : Bool) (user : Nat) (hok : bolAddrOk d.cfg g = true)
include hok

theorem hostBol_try (hclean : d.eccAt g = .clean) :
    d.hostBol who g 1 inh user = (some (d.bolTry who g inh user).1, (d.bolTry who g inh user).2) := by
  rw [Device.hostBol, if_neg (by decide), if_neg (by rw [hok]; decide), checkRead_clean _ hclean]
  rfl

theorem hostBol_rel (hclean : d.eccAt g = .clean) :
    d.hostBol who g 2 inh user = (some (d.bolRelease who g).1, (d.bolRelease who g).2) := by
  rw [Device.hostBol, if_neg (by decide), if_neg (by rw [hok]; decide), checkRead_clean _ hclean]
  rfl

end

/-! ### An uncorrectable word (R170) -/

/-- An event of a source that is not enabled is counted in TOTAL at most (R437). -/
theorem raise_disabled {d : Device} {n : Nat} (detail : Nat) (hn : n < 256) (h : d.flag (Reg.RMS_CFG n) 12 = false) :
    d.raise n detail = d ∨ d.raise n detail = d.bump (Reg.RMS_STATN n) 16 16 := by
  rw [Device.raise]
  split
  · rw [Device.classify]
    split
    · rw [Device.classifyCounted, Device.flag, rd_bump_other _ _ (statn_ne_cfg hn).symm, ← Device.flag, h]
      exact .inr rfl
    · exact .inl rfl
  · exact .inl rfl

/-- Registers and random words apart, the device stands. -/
structure RegsOnly (d e : Device) : Prop where
  cfg : e.cfg = d.cfg
  berths : e.berths = d.berths
  mem : e.mem = d.mem
  bol : e.bol = d.bol

/-- The count of an uncorrectable error whose event is not enabled. -/
theorem countUe_regsOnly {d : Device} (agent a : Nat) (h : d.flag (Reg.RMS_CFG 0x22) 12 = false) : RegsOnly d (d.countUe agent a) := by
  have hlogged : ∃ e, d.countUe agent a = e.raise 0x22 agent ∧ RegsOnly d e ∧ e.flag (Reg.RMS_CFG 0x22) 12 = false := by
    have hbump : (d.bump Reg.MEM_ECCSTAT 16 16).flag (Reg.RMS_CFG 0x22) 12 = false := by
      rw [Device.flag, rd_bump_other _ _ (by decide), ← Device.flag, h]
    unfold Device.countUe
    dsimp only
    split
    · exact ⟨_, rfl, ⟨Device.bump_cfg .., Device.bump_berths .., Device.bump_mem .., Device.bump_bol ..⟩, hbump⟩
    · refine ⟨_, rfl, ⟨?_, ?_, ?_, ?_⟩, ?_⟩
      · rw [Device.wr64_cfg, Device.bump_cfg]
      · rw [Device.wr64_berths, Device.bump_berths]
      · rw [Device.wr64_mem, Device.bump_mem]
      · rw [Device.wr64_bol, Device.bump_bol]
      · rw [Device.flag, rd_wr64_other _ (by decide) (by decide), ← Device.flag, hbump]
  obtain ⟨e, he, hregs, hflag⟩ := hlogged
  rw [he]
  obtain hraise | hraise := raise_disabled agent (by decide) hflag <;> rw [hraise]
  · exact hregs
  · obtain ⟨hcfg, hberths, hmem, hbol⟩ := hregs
    exact ⟨(Device.bump_cfg ..).trans hcfg, (Device.bump_berths ..).trans hberths, (Device.bump_mem ..).trans hmem,
      (Device.bump_bol ..).trans hbol⟩

theorem RegsOnly.draw {d e : Device} (h : RegsOnly d e) : RegsOnly d e.draw := ⟨h.cfg, h.berths, h.mem, h.bol⟩

theorem checkRead_uncorrectable {d : Device} {g : Nat} (agent : Nat) (h : d.eccAt g = .uncorrectable) :
    d.checkRead agent g = (false, d.countUe agent g) := by rw [Device.checkRead, h]

theorem le_freeStatus (d : Device) : 2 ^ 31 ≤ d.freeStatus := Nat.le_add_right _ _

/-- Neither operation has an effect on a word that could not be read (R170, R187). -/
theorem hostBol_unread {d e : Device} {g op : Nat} (who : Holder) (inh : Bool) (user : Nat) (hok : bolAddrOk d.cfg g = true)
    (hop : op = 1 ∨ op = 2) (h : d.checkRead who.reader g = (false, e)) :
    d.hostBol who g op inh user = (some e.freeStatus, e.draw) := by
  rw [Device.hostBol, if_neg (by omega), if_neg (by rw [hok]; decide), h]
  rfl

/-! ### The statement's cases -/

theorem sameBerths_of_berths {d e : Device} (h : e.berths = d.berths) : sameBerths d e := fun b => by
  rw [Device.berth, h, ← Device.berth]

section
variable {s : State} {w : Writer} {who : Holder} (hwho : requester w who) (harrives : s.dev.arrives w Reg.BOL_HOP = true)
  (hhere : s.dev.hostBolHere w = true) {g : Nat} (hg : hopAddr who s.dev = g) (hok : bolAddrOk s.dev.cfg g = true)
  (inh : Bool) (user : BitVec 15) {st : Nat} {e : Device} {P : Device → Prop}
include hwho harrives hhere hg hok

theorem completes_try (hclean : s.dev.eccAt g = .clean) (h : s.dev.bolTry who g inh user.toNat = (st, e)) (hcfg : e.cfg = s.dev.cfg)
    (hP : P (hopAnswered who st e)) : Completes (.hostTry w inh user) s P := by
  obtain ⟨hop, hinh, huser⟩ := tryWord_fields inh user
  refine completes_hop (v := tryWord inh user) rfl hwho harrives hhere ?_ hcfg hP
  rw [hop, hinh, huser, hg, hostBol_try _ _ _ hok hclean, h]

theorem completes_rel (hclean : s.dev.eccAt g = .clean) (h : s.dev.bolRelease who g = (st, e)) (hcfg : e.cfg = s.dev.cfg)
    (hP : P (hopAnswered who st e)) : Completes (.hostRel w) s P := by
  refine completes_hop (v := 2) rfl hwho harrives hhere ?_ hcfg hP
  rw [hg]
  exact (hostBol_rel _ _ _ hok hclean).trans (congrArg (fun r : Nat × Device => (some r.1, r.2)) h)

/-- Neither operation has an effect on an uncorrectable word. -/
theorem completes_uncorrectable (hecc : s.dev.eccAt g = .uncorrectable) (hflag : s.dev.flag (Reg.RMS_CFG 0x22) 12 = false) {c : Instr}
    (hc : c = .hostTry w inh user ∨ c = .hostRel w) : Completes c s fun e =>
      2 ^ 31 ≤ hopAnswer who e ∧ e.bol.entries = s.dev.bol.entries ∧ e.mem = s.dev.mem ∧ sameBerths s.dev e := by
  obtain ⟨v, hop, hexec⟩ : ∃ v, (v % 2 ^ 32 % 4 = 1 ∨ v % 2 ^ 32 % 4 = 2) ∧
      exec c s = s.upd fun d => d.rowWrite w Reg.BOL_HOP v := by
    obtain rfl | rfl := hc
    · exact ⟨tryWord inh user, .inl (tryWord_fields inh user).1, rfl⟩
    · exact ⟨2, .inr rfl, rfl⟩
  obtain ⟨e, hread, hregs⟩ : ∃ e, s.dev.checkRead who.reader g = (false, e) ∧ RegsOnly s.dev e :=
    ⟨_, checkRead_uncorrectable _ hecc, countUe_regsOnly _ _ hflag⟩
  refine completes_hop hexec hwho harrives hhere (hg ▸ hostBol_unread _ _ _ hok hop hread) hregs.draw.cfg
    ⟨?_, ?_, hregs.draw.mem, sameBerths_of_berths hregs.draw.berths⟩
  · rw [hopAnswer_answered]
    exact le_freeStatus e
  · rw [hopAnswered_entries]
    exact congrArg BolSys.entries hregs.draw.bol

end

/-- Settles O27: BOL_FORCE and BOL_HOP have the outcome of the unit's operation, and an uncorrectable word is only counted. -/
theorem hostBollards : Obligations.HostBollards := by
  unfold Obligations.HostBollards
  intro s w b inh user d a
  refine ⟨fun harrives hok hclean => ⟨?_, fun htracked hst => ?_⟩, ?_⟩
  · intro n entry htracked ep
    refine ⟨fun hw => ?_, fun hpresent hwait => ?_⟩
    · have hset := lockSet_unitWrite s.dev n none a (lockWord 3 entry.inh ep entry.holder.owner entry.user)
      exact completes_force (dest := none) rfl harrives hok hclean rfl (bolForceWord_release htracked hw) hset.cfg
        ⟨rd_wr_status _ _ (by decide) (Nat.mod_lt _ (by decide)), hset.entry_same, wordAt_of_mem hset.word (Device.wr_mem ..),
          sameBerths_of_berths hset.berths⟩
    · have hset := (lockSet_unitWrite s.dev n (some ⟨a, .berth b.toNat, entry.inh, ep, entry.user⟩) a
        (lockWord 1 entry.inh ep b.toNat entry.user)).bolPeak
      exact completes_force (dest := some b.toNat) rfl harrives hok hclean (handOverWord_dest b)
        (bolForceWord_handOver htracked hpresent hwait) hset.cfg
        ⟨rd_wr_status _ _ (by decide) (Nat.mod_lt _ (by decide)), hset.entry_same, wordAt_of_mem hset.word (Device.wr_mem ..),
          sameBerths_of_berths hset.berths⟩
  · exact completes_force (dest := none) rfl harrives hok hclean rfl (bolForceWord_notHeld htracked hst) rfl
      ⟨rd_wr_status _ _ (by decide) (epochField_lt _), Device.wr_bol .., Device.wr_mem .., sameBerths_of_berths (Device.wr_berths ..)⟩
  · intro who hwho harrives hhere g answer told old st hok
    refine ⟨fun hclean => ⟨fun n htracked hn => ?_, fun n entry htracked => ⟨?_, fun hholder hw => ?_⟩⟩,
      fun hecc hflag c hc => ?_⟩
    · have huser : user.toNat % 2 ^ 15 = user.toNat := Nat.mod_eq_of_lt user.isLt
      have howner : who.owner = 1023 := by obtain ⟨_, rfl⟩ | ⟨_, rfl⟩ := hwho <;> rfl
      obtain ⟨hstatus, hset⟩ := acquireNew_free (g := g) who inh user.toNat hn
      rw [huser, howner] at hset
      refine completes_try hwho harrives hhere rfl hok inh user hclean (bolTry_untracked _ _ _ htracked) hset.cfg
        ⟨(hopAnswer_answered ..).trans hstatus, ?_, wordAt_of_mem hset.word rfl, sameBerths_of_berths hset.berths⟩
      rw [hopAnswered_entries]
      exact hset.entry_same
    · exact completes_try hwho harrives hhere rfl hok inh user hclean (bolTry_tracked _ _ _ htracked) rfl
        ⟨hopAnswer_answered .., hopAnswered_entries .., rfl, sameBerths_of_berths rfl⟩
    · have hset := lockSet_unitWrite s.dev n none g (lockWord 0 false entry.epoch 0 entry.user)
      refine completes_rel hwho harrives hhere rfl hok hclean (bolRelease_frees _ htracked hholder hw) hset.cfg
        ⟨hopAnswer_answered .., ?_, wordAt_of_mem hset.word rfl, sameBerths_of_berths hset.berths⟩
      rw [hopAnswered_entries]
      exact hset.entry_same
    · exact completes_uncorrectable hwho harrives hhere rfl hok inh user hecc hflag hc

end Sys2Proof.Proofs
end

section
/-! PROOF. The end of a berth's wait on a bollard (R193, R196), and the order of a word's waiters (R194). -/

open Sys2Proof Sys2Proof.Machine Sys2Proof.Claims

namespace Sys2Proof.Proofs

/-! ### What a berth's settling leaves -/

/-- Berths apart, at most what CAR_PARKED shows differs. -/
structure ParksOnly (d e : Device) : Prop where
  regs : ∀ o, (∀ c, o ≠ Reg.CAR_PARKED c) → e.rd o = d.rd o
  cfg : e.cfg = d.cfg
  mode : e.mode = d.mode
  mem : e.mem = d.mem
  bol : e.bol = d.bol
  tb : e.tb = d.tb
  scn : e.scn = d.scn
  rms : e.rms = d.rms

theorem ParksOnly.refl (d : Device) : ParksOnly d d := ⟨fun _ _ => rfl, rfl, rfl, rfl, rfl, rfl, rfl, rfl⟩

theorem ParksOnly.trans {d e f : Device} (h : ParksOnly d e) (k : ParksOnly e f) : ParksOnly d f :=
  ⟨fun o ho => (k.regs o ho).trans (h.regs o ho), k.cfg.trans h.cfg, k.mode.trans h.mode, k.mem.trans h.mem, k.bol.trans h.bol,
    k.tb.trans h.tb, k.scn.trans h.scn, k.rms.trans h.rms⟩

theorem parksOnly_setBerth (d : Device) (b : Nat) (x : Berth) : ParksOnly d (d.setBerth b x) :=
  ⟨fun _ _ => rfl, rfl, rfl, rfl, rfl, rfl, rfl, rfl⟩

theorem parksOnly_setParked (d : Device) (b : Nat) (p : Bool) : ParksOnly d (d.setParked b p) :=
  ⟨fun _ ho => rd_setFlag_other _ _ _ (ho _), Device.setFlag_cfg .., Device.setFlag_mode .., Device.setFlag_mem .., Device.setFlag_bol ..,
    Device.setFlag_tb .., Device.setFlag_scn .., Device.setFlag_rms ..⟩

theorem parksOnly_settlePark (d : Device) (b : Nat) : ParksOnly d (d.settlePark b) := by
  unfold Device.settlePark
  dsimp only
  split
  · exact ((parksOnly_setBerth ..).trans (parksOnly_setBerth ..)).trans (parksOnly_setParked ..)
  · exact parksOnly_setBerth ..

section
variable {d e : Device} (h : ParksOnly d e)
include h

theorem ParksOnly.rd {o : Nat} (ho : o < 0x100000) : e.rd o = d.rd o := h.regs o fun c => by
  unfold Reg.CAR_PARKED
  omega

theorem ParksOnly.parkAsked (b : Nat) : e.parkAsked b = d.parkAsked b := by
  refine bits_flag_congr (d := d) _ _ _ (h.regs _ fun c => ?_)
  unfold Reg.CAR_PARKREQ Reg.CAR_PARKED
  omega

end

/-! ### The end of a wait -/

theorem berth_setParked (d : Device) (b c : Nat) (p : Bool) : (d.setParked b p).berth c = d.berth c := by
  rw [Device.berth, Device.setParked, Device.setFlag_berths, ← Device.berth]

theorem berth_settlePark_other (d : Device) {b c : Nat} (hc : c ≠ b) : (d.settlePark b).berth c = d.berth c := by
  unfold Device.settlePark
  dsimp only
  split
  · rw [berth_setParked, Device.berth_setBerth_other _ _ hc.symm, Device.berth_setBerth_other _ _ hc.symm]
  · rw [Device.berth_setBerth_other _ _ hc.symm]

/-- A berth that is not asked to park has at most its stall ended. -/
theorem settlePark_unasked {d : Device} {b : Nat} (h : d.parkAsked b = false) : d.settlePark b = d.setBerth b (d.berth b).unstall := by
  have h' : (d.setBerth b (d.berth b).unstall).parkAsked b = false := h
  unfold Device.settlePark
  dsimp only
  rw [h']
  rfl

theorem unstall_of_ne_breach {x : Berth} (h : x.wait ≠ .breach) : x.unstall = x := if_neg fun hb => h hb.1

theorem setReg_wait (x : Berth) (r : Nat) (v : Word) : (x.setReg r v).wait = x.wait := by
  unfold Berth.setReg Berth.setPhys
  dsimp only
  split <;> rfl

/-- The berth whose wait on a bollard has ended with a status. -/
def bolEnded (x : Berth) (r st : Nat) : Berth := { x with wait := .none }.setReg r (BitVec.ofNat 32 st)

theorem bolEnded_wait (x : Berth) (r st : Nat) : (bolEnded x r st).wait = .none := setReg_wait ..

section
variable {d : Device} {b : Nat} (st : Nat)

/-- A berth that waits on no bollard has no wait to end. -/
theorem endBolWait_of_none (h : (d.berth b).bolWait = none) : d.endBolWait b st = d := by
  unfold Device.endBolWait
  split
  · next hw =>
    rw [Berth.bolWait, hw] at h
    cases h
  · rfl

theorem endBolWait_waiting {r g arr limit user : Nat} {inh : Bool} (h : (d.berth b).wait = .bollard r g arr limit inh user) :
    d.endBolWait b st = (d.setBerth b (bolEnded (d.berth b) r st)).settlePark b := by
  rw [Device.endBolWait, h]
  rfl

theorem endBolWait_unasked {r g arr limit user : Nat} {inh : Bool} (h : (d.berth b).wait = .bollard r g arr limit inh user)
    (hask : d.parkAsked b = false) : d.endBolWait b st = d.setBerth b (bolEnded (d.berth b) r st) := by
  have hwait : (bolEnded (d.berth b) r st).wait ≠ .breach := by
    rw [bolEnded_wait]
    decide
  rw [endBolWait_waiting st h, settlePark_unasked (d := d.setBerth b _) hask, Device.berth_setBerth_same,
    unstall_of_ne_breach hwait, setBerth_setBerth]

variable (d b) in
theorem parksOnly_endBolWait : ParksOnly d (d.endBolWait b st) := by
  unfold Device.endBolWait
  split
  · exact (parksOnly_setBerth ..).trans (parksOnly_settlePark ..)
  · exact .refl d

theorem berth_endBolWait_other {c : Nat} (hc : c ≠ b) : (d.endBolWait b st).berth c = d.berth c := by
  unfold Device.endBolWait
  split
  · rw [berth_settlePark_other _ hc, Device.berth_setBerth_other _ _ hc.symm]
  · rfl

end

theorem bolWait_of_wait {x : Berth} {r g arr limit user : Nat} {inh : Bool} (h : x.wait = .bollard r g arr limit inh user) :
    x.bolWait = some (g, arr, r, inh, user) := by rw [Berth.bolWait, h]

theorem bolWait_of_none {x : Berth} (h : x.wait = .none) : x.bolWait = none := by rw [Berth.bolWait, h]

/-! ### The end of several waits (R202) -/

/-- The waits of several berths end with a status. -/
def endWaits (d : Device) (l : List Nat) (st : Nat) : Device := l.foldl (fun h b => h.endBolWait b st) d

theorem endWaits_cons (d : Device) (b : Nat) (l : List Nat) (st : Nat) : endWaits d (b :: l) st = endWaits (d.endBolWait b st) l st := rfl

section
variable (st : Nat)

theorem parksOnly_endWaits (d : Device) (l : List Nat) : ParksOnly d (endWaits d l st) :=
  List.foldlRecOn (motive := fun e => ParksOnly d e) l _ (.refl d) fun _ he _ _ => he.trans (parksOnly_endBolWait ..)

theorem berth_endWaits_of_notMem {d : Device} {l : List Nat} {c : Nat} (hc : c ∉ l) : (endWaits d l st).berth c = d.berth c := by
  induction l generalizing d with
  | nil => rfl
  | cons b l ih =>
    rw [List.mem_cons, not_or] at hc
    rw [endWaits_cons, ih hc.2, berth_endBolWait_other st hc.1]

theorem berth_endWaits_of_none {d : Device} {l : List Nat} {c : Nat} (h : (d.berth c).bolWait = none) :
    (endWaits d l st).berth c = d.berth c := by
  induction l generalizing d with
  | nil => rfl
  | cons b l ih =>
    have hstep : (d.endBolWait b st).berth c = d.berth c := by
      obtain rfl | hb := eq_or_ne c b
      · rw [endBolWait_of_none st h]
      · exact berth_endBolWait_other st hb
    rw [endWaits_cons, ih (hstep.symm ▸ h), hstep]

theorem berth_endWaits_of_mem {d : Device} {l : List Nat} {c r g arr limit user : Nat} {inh : Bool} (hc : c ∈ l)
    (hwait : (d.berth c).wait = .bollard r g arr limit inh user) (hask : d.parkAsked c = false) :
    (endWaits d l st).berth c = bolEnded (d.berth c) r st := by
  induction l generalizing d with
  | nil => cases hc
  | cons b l ih =>
    rw [endWaits_cons]
    obtain rfl | hb := eq_or_ne c b
    · rw [endBolWait_unasked st hwait hask, berth_endWaits_of_none, Device.berth_setBerth_same]
      rw [Device.berth_setBerth_same]
      exact bolWait_of_none (bolEnded_wait ..)
    · have hother : (d.endBolWait b st).berth c = d.berth c := berth_endBolWait_other st hb
      rw [ih ((List.mem_cons.mp hc).resolve_left hb) (hother.symm ▸ hwait)
        (((parksOnly_endBolWait ..).parkAsked c).trans hask), hother]

end

/-! ### The first waiter (R194) -/

section
variable {d : Device} {b : Nat}

/-- Waiter b goes before waiter c: by the higher effective priority, then the earlier arrival, then the lower number. -/
def goesBefore (d : Device) (b c : Nat) : Prop := d.eprio c < d.eprio b ∨ d.eprio c = d.eprio b ∧
  (d.arrivalOf b < d.arrivalOf c ∨ d.arrivalOf b = d.arrivalOf c ∧ b < c)

theorem before_iff (d : Device) (b c : Nat) : d.before b c = true ↔ goesBefore d b c := by
  simp only [Device.before, goesBefore, Bool.or_eq_true, Bool.and_eq_true, decide_eq_true_eq, beq_iff_eq, eq_comm (a := d.eprio c)]

theorem not_before_of_goesBefore {c : Nat} (h : goesBefore d b c) : d.before c b = false := by
  rw [Bool.eq_false_iff, ne_eq, before_iff]
  unfold goesBefore at h ⊢
  omega

/-- The choice between the first waiter so far and the next one. -/
def firstOf (d : Device) (m : Option Nat) (b : Nat) : Option Nat := m.elim (some b) fun c => if d.before b c then some b else some c

theorem firstWaiter_eq_foldl (d : Device) (g : Nat) : d.firstWaiter g = (d.waiters g).foldl (firstOf d) none := by
  unfold Device.firstWaiter
  congr 1
  funext m c
  cases m <;> rfl

theorem firstOf_stays {x : Nat} (h : x ≠ b → goesBefore d b x) : firstOf d (some b) x = some b := by
  show (if d.before x b then some x else some b) = some b
  obtain rfl | hx := eq_or_ne x b
  · exact ite_self _
  · rw [not_before_of_goesBefore (h hx)]
    rfl

theorem firstOf_next {m : Option Nat} (h : ∀ c, m = some c → c ≠ b → goesBefore d b c) : firstOf d m b = some b := by
  cases m with
  | none => rfl
  | some c =>
    show (if d.before b c then some b else some c) = some b
    obtain rfl | hc := eq_or_ne c b
    · exact ite_self _
    · exact if_pos ((before_iff ..).mpr (h c rfl hc))

theorem firstOf_cases {m : Option Nat} {x c : Nat} (h : firstOf d m x = some c) : x = c ∨ m = some c := by
  cases m with
  | none => exact .inl (Option.some.inj h)
  | some y =>
    have hite : (if d.before x y then some x else some y) = some c := h
    split at hite
    · exact .inl (Option.some.inj hite)
    · exact .inr hite

/-- The waiter that goes before every other one stays the first once it is met, and is met. -/
theorem foldl_firstOf {l : List Nat} (h : ∀ c, c ∈ l → c ≠ b → goesBefore d b c) (m : Option Nat)
    (hm : m = some b ∨ b ∈ l ∧ ∀ c, m = some c → c ≠ b → goesBefore d b c) : l.foldl (firstOf d) m = some b := by
  induction l generalizing m with
  | nil => exact hm.resolve_right fun hmem => nomatch hmem.1
  | cons x l ih =>
    have hx := h x List.mem_cons_self
    refine ih (fun c hc => h c (List.mem_cons_of_mem _ hc)) (firstOf d m x) ?_
    obtain rfl | ⟨hmem, hbefore⟩ := hm
    · exact .inl (firstOf_stays hx)
    · obtain rfl | hxb := eq_or_ne x b
      · exact .inl (firstOf_next hbefore)
      · refine .inr ⟨(List.mem_cons.mp hmem).resolve_left hxb.symm, fun c hc hcb => ?_⟩
        obtain rfl | hm := firstOf_cases hc
        · exact hx hcb
        · exact hbefore c hm hcb

theorem firstWaiter_of_goesBefore {g : Nat} (hb : b ∈ d.waiters g) (h : ∀ c, c ∈ d.waiters g → c ≠ b → goesBefore d b c) :
    d.firstWaiter g = some b := by
  rw [firstWaiter_eq_foldl]
  exact foldl_firstOf h none (.inr ⟨hb, nofun⟩)

end

end Sys2Proof.Proofs
end

section
/-! PROOF. Releases, timeouts and stores to tracked words (R185, R189, R194, R197). -/

open Sys2Proof Sys2Proof.Machine Sys2Proof.Claims

namespace Sys2Proof.Proofs

/-! ### BREL (R189) -/

theorem LockSet.parkAsked {d e : Device} {n g w : Nat} {entry : Option BolEntry} (h : LockSet n entry g w d e) (b : Nat) :
    e.parkAsked b = d.parkAsked b := by
  refine bits_flag_congr (d := d) _ _ _ (h.regs _ ?_)
  rw [List.mem_singleton]
  unfold Reg.CAR_PARKREQ Reg.BOL_STAT
  omega

/-- A release of a word with waiters: the first one holds it, and its wait has ended. -/
theorem bolRelease_grants {d : Device} {who : Holder} {g n b r arr limit user : Nat} {inh : Bool} {entry : BolEntry}
    (h : d.tracked g = some (n, entry)) (hholder : entry.holder = who) (hfirst : d.firstWaiter g = some b)
    (hwait : (d.berth b).wait = .bollard r g arr limit inh user) (hask : d.parkAsked b = false) :
    ∃ e, LockSet n (some ⟨g, .berth b, inh, entry.epoch, user⟩) g (lockWord 1 inh entry.epoch b user) d e ∧
      d.bolRelease who g =
        (status 3 (entry.epoch % 16), e.setBerth b (bolEnded (d.berth b) r (status 0 (entry.epoch % 16)))) := by
  have hset := lockSet_unitWrite d n (some ⟨g, .berth b, inh, entry.epoch, user⟩) g (lockWord 1 inh entry.epoch b user)
  have hrun : d.bolRelease who g = (status 3 (entry.epoch % 16),
      ((d.setEntry n (some ⟨g, .berth b, inh, entry.epoch, user⟩)).unitWrite g (lockWord 1 inh entry.epoch b user)).endBolWait b
        (status 0 (entry.epoch % 16))) := by
    rw [Device.bolRelease, h]
    dsimp only
    rw [if_neg (not_not.mpr hholder), hfirst]
    dsimp only
    rw [bolWait_of_wait hwait]
    rfl
  generalize (d.setEntry n (some ⟨g, .berth b, inh, entry.epoch, user⟩)).unitWrite g (lockWord 1 inh entry.epoch b user) = e
    at hset hrun
  have hberth := hset.berth b
  refine ⟨e, hset, ?_⟩
  rw [hrun, endBolWait_unasked _ (hberth ▸ hwait) ((hset.parkAsked b).trans hask), hberth]

section
variable {s : State} {i : Site} {rd rs1 : Reg5} {bk : BitVec 2} {g : Nat} (hready : bolReady s.dev i rs1 bk g)
include hready

theorem brel_answers {v : Nat} {e : Device} (hsame : SameTo s.dev e i.b) (h : s.dev.bolRelease (.berth i.b) g = (v, e)) :
    Completes (.brel i rd rs1 bk) s (e.Leaves i (queued (s.dev.berth i.b) i rd (BitVec.ofNat 32 v))) := by
  obtain ⟨_, _, _, _, hclean, _⟩ := id hready
  refine bolOp_answers (reads := []) hready rfl hsame ?_
  rw [checkRead_clean 0 hclean]
  exact congrArg (fun r : Nat × Device => (some r.1, r.2)) h

/-- A release that changes nothing but what the berth receives. -/
theorem brel_unchanged {v : Nat} (h : s.dev.bolRelease (.berth i.b) g = (v, s.dev)) : Completes (.brel i rd rs1 bk) s fun e =>
    e.berth i.b = queued (s.dev.berth i.b) i rd (BitVec.ofNat 32 v) ∧ e.mem = s.dev.mem ∧ e.bol = s.dev.bol :=
  completes_mono (brel_answers hready ⟨rfl, rfl, rfl, rfl⟩ h) fun _ hleaves => ⟨hleaves.1, leaves_mem hleaves, leaves_bol hleaves⟩

variable {n : Nat} {entry : BolEntry} (htracked : s.dev.tracked g = some (n, entry)) (hholder : entry.holder = .berth i.b)
include htracked hholder

theorem brel_frees (hw : s.dev.waiters g = []) : Completes (.brel i rd rs1 bk) s fun e =>
    e.berth i.b = queued (s.dev.berth i.b) i rd (BitVec.ofNat 32 (status 3 (entry.epoch % 16))) ∧
    e.bol.entries.get bolDefault n = none ∧ wordAt s.dev e g (lockWord 0 false entry.epoch 0 entry.user) := by
  have hset := lockSet_unitWrite s.dev n none g (lockWord 0 false entry.epoch 0 entry.user)
  refine completes_mono (brel_answers hready (hset.sameTo i.b) (bolRelease_frees _ htracked hholder hw)) fun e hleaves => ?_
  have hbol := leaves_bol hleaves
  refine ⟨hleaves.1, ?_, wordAt_of_mem hset.word (leaves_mem hleaves)⟩
  rw [hbol]
  exact hset.entry_same

/-- The waiter that goes before the others receives the word. -/
theorem brel_grants {b r arr limit user : Nat} {inh : Bool} (hb : b ∈ s.dev.waiters g)
    (hwait : (s.dev.berth b).wait = .bollard r g arr limit inh user) (hask : s.dev.parkAsked b = false)
    (hfirst : ∀ c, c ∈ s.dev.waiters g → c ≠ b → goesBefore s.dev b c) : Completes (.brel i rd rs1 bk) s fun e =>
      e.berth i.b = queued (s.dev.berth i.b) i rd (BitVec.ofNat 32 (status 3 (entry.epoch % 16))) ∧
      e.berth b = bolEnded (s.dev.berth b) r (status 0 (entry.epoch % 16)) ∧
      e.bol.entries.get bolDefault n = some ⟨g, .berth b, inh, entry.epoch, user⟩ ∧
      wordAt s.dev e g (lockWord 1 inh entry.epoch b user) ∧ ∀ c, c ≠ i.b → c ≠ b → e.berth c = s.dev.berth c := by
  obtain ⟨hmay, _⟩ := s.dev.ready_parts i hready.1
  have hne : b ≠ i.b := by
    rintro rfl
    rw [waits_none_of_mayIssue hmay] at hwait
    cases hwait
  obtain ⟨f, hset, hrun⟩ := bolRelease_grants htracked hholder (firstWaiter_of_goesBefore hb hfirst) hwait hask
  have hsame : SameTo s.dev (f.setBerth b (bolEnded (s.dev.berth b) r (status 0 (entry.epoch % 16)))) i.b :=
    (hset.sameTo i.b).trans ⟨Device.berth_setBerth_other _ _ hne, Device.watched_setBerth .., rfl, rfl⟩
  refine completes_mono (brel_answers hready hsame hrun) fun e hleaves => ?_
  have hbol := leaves_bol hleaves
  have hmem := leaves_mem hleaves
  obtain ⟨hberth, hothers, _⟩ := hleaves
  refine ⟨hberth, (hothers b hne).trans (Device.berth_setBerth_same ..), ?_, wordAt_of_mem hset.word hmem, fun c hci hcb => ?_⟩
  · rw [hbol]
    exact hset.entry_same
  · rw [hothers c hci, Device.berth_setBerth_other _ _ hcb.symm, hset.berth]

end

/-! ### The limit of a wait (R197) -/

section
variable {s : State} {b : BitVec 9} {r g arr limit user n : Nat} {inh : Bool} {entry : BolEntry}
  (hwait : (s.dev.berth b.toNat).wait = .bollard r g arr limit inh user)
include hwait

theorem bollardTimeout_before (h : s.dev.tbNow < limit) : exec (.bollardTimeout b) s = .next s := by
  have hsame : s.dev.bolTimeout b.toNat = s.dev := by
    rw [Device.bolTimeout, hwait]
    exact if_neg (Nat.not_le.mpr h)
  exact congrArg (fun d => Host.Outcome.next { s with dev := { d with cfg := s.dev.cfg } }) hsame

theorem bollardTimeout_ends (htracked : s.dev.tracked g = some (n, entry)) (h : limit ≤ s.dev.tbNow)
    (hask : s.dev.parkAsked b.toNat = false) : Completes (.bollardTimeout b) s fun e =>
      e.berth b.toNat = bolEnded (s.dev.berth b.toNat) r (status 0x11 (entry.epoch % 16)) ∧
      e.fld Reg.BOL_CNT 8 8 = min (s.dev.fld Reg.BOL_CNT 8 8 + 1) 255 ∧ e.bol = s.dev.bol ∧ e.mem = s.dev.mem ∧
      ∀ c, c ≠ b.toNat → e.berth c = s.dev.berth c := by
  have hrun : s.dev.bolTimeout b.toNat =
      (s.dev.setBerth b.toNat (bolEnded (s.dev.berth b.toNat) r (status 0x11 (entry.epoch % 16)))).bump Reg.BOL_CNT 8 8 := by
    rw [Device.bolTimeout, hwait]
    dsimp only
    rw [if_pos h, htracked]
    exact congrArg (fun e : Device => e.bump Reg.BOL_CNT 8 8) (endBolWait_unasked _ hwait hask)
  refine completes_device (f := fun d => d.bolTimeout b.toNat) rfl hrun (Device.bump_cfg ..)
    ⟨?_, fld_bump _ _ (by decide), Device.bump_bol .., Device.bump_mem .., fun c hc => ?_⟩
  · rw [Device.berth, Device.bump_berths, ← Device.berth, Device.berth_setBerth_same]
  · rw [Device.berth, Device.bump_berths, ← Device.berth, Device.berth_setBerth_other _ _ hc.symm]

end

/-! ### Stores to a tracked word (R185) -/

/-- A write of a whole clean lock word by another path: the bytes are written, and then the tracking table is asked. -/
theorem wordWrite_tracked {d : Device} (agent : Nat) {path g : Nat} {bs : List Byte} (hclean : d.eccAt g = .clean) (hg : g % 4 = 0)
    (hlen : bs.length = 4) :
    ∃ e, Written d e g bs ∧ d.wordWrite agent path g false bs = e.clobberCheck path g (d.value g 4) := by
  have hpoked : Written d ((d.setEcc g .clean).poke g bs) g bs := ⟨rfl, byte_poke (d.setEcc g .clean) g bs⟩
  have hmarked : Written d (if path = 6 ∨ path = 8 then (d.setEcc g .clean).poke g bs else ((d.setEcc g .clean).poke g bs).markDirty g)
      g bs := by
    split
    · exact hpoked
    · exact written_markDirty g hpoked
  refine ⟨_, hmarked, ?_⟩
  rw [Device.wordWrite, if_neg (by rw [hclean]; exact fun h => nomatch h.1), checkRead_clean agent hclean]
  dsimp only
  rw [if_neg Bool.false_ne_true, show g / 4 * 4 = g by omega, if_neg (by omega)]

/-- A word store to a memory is a write of its word. -/
theorem storeTo_word {d : Device} {b a g : Nat} (v : Nat) (h : (d.placeFor b a).global = some g) :
    d.storeTo b a 4 v = d.wordWrite 0 1 g false (leBytes 4 v) := by
  have hmem : d.memWrite 0 1 g (leBytes 4 v) = d.wordWrite 0 1 g false (leBytes 4 v) := by
    rw [Device.memWrite, length_leBytes]
    rfl
  rw [← hmem, Device.storeTo]
  obtain ⟨t, o, hp⟩ | ⟨o, hp⟩ | ⟨o, hp⟩ := place_cases h <;>
    · rw [hp] at h ⊢
      dsimp only
      rw [h]
      rfl

/-- Berths and memory apart, the device stands. -/
structure Stored (d e : Device) (g v : Nat) : Prop where
  word : wordAt d e g v
  regs : ∀ o, e.rd o = d.rd o
  cfg : e.cfg = d.cfg
  mode : e.mode = d.mode
  bol : e.bol = d.bol
  tb : e.tb = d.tb
  rms : e.rms = d.rms

theorem stored_of_written {d e : Device} {b g v : Nat} {x : Berth} (h : Written (d.setBerth b x) e g (leBytes 4 v)) : Stored d e g v := by
  have hword : wordAt (d.setBerth b x) e g v := wordAt_of_written h
  have heq := h.eq
  refine ⟨hword, ?_, ?_, ?_, ?_, ?_, ?_⟩ <;> rw [heq]
  · exact fun _ => rfl
  all_goals rfl

section
variable {d : Device} {b k g : Nat} {st : StoreEntry} (hst : (d.berth b).stores[k]? = some st) (hsize : st.size = 4) (hg : g % 4 = 0)
  (hready : d.storeReady b st = true) (hplace : (d.placeFor b st.addr).global = some g) (hclean : d.eccAt g = .clean)
include hst hsize hg hready hplace hclean

/-- A store of a clean lock word: the word has been written, the tracking table is asked, and the berth settles. -/
theorem storePerformed_word :
    ∃ e, Stored d e g st.value ∧ d.storePerformed b k = (e.clobberCheck 1 g (d.value g 4)).settlePark b := by
  have hplace' : ((d.setBerth b ((d.berth b).dropStore st.seq)).placeFor b st.addr).global = some g := hplace
  obtain ⟨e, hwritten, hrun⟩ := wordWrite_tracked (d := d.setBerth b ((d.berth b).dropStore st.seq)) 0 (path := 1) hclean hg
    (length_leBytes 4 st.value)
  refine ⟨e, stored_of_written hwritten, ?_⟩
  rw [Device.storePerformed, hst]
  dsimp only
  rw [if_pos hready, Device.doStore, hsize, storeTo_word _ hplace', hrun]
  rfl

end

section
variable {d e : Device} {g v n : Nat} {entry : BolEntry} (h : Stored d e g v) (htracked : d.tracked g = some (n, entry))
include h htracked

theorem Stored.tracked : e.tracked g = some (n, entry) := by rw [Device.tracked, h.bol, ← Device.tracked, htracked]

/-- A change of USER alone is entered. -/
theorem Stored.clobberCheck_user {path old : Nat} (hold : v / 2 ^ 15 % 2 ^ 17 = old / 2 ^ 15) :
    e.clobberCheck path g old = e.setEntry n (some { entry with user := v % 2 ^ 15 }) := by
  obtain ⟨hvalue, _⟩ := h.word
  rw [Device.clobberCheck, h.tracked htracked]
  dsimp only
  rw [hvalue, if_pos (by omega), Nat.mod_mod_of_dvd _ (by decide)]

/-- Any other change is a clobber. -/
theorem Stored.clobberCheck_clobbers {path old : Nat} (hold : v / 2 ^ 15 % 2 ^ 17 ≠ old / 2 ^ 15) :
    e.clobberCheck path g old = (e.bump Reg.BOL_CNT 24 4).raise 0x24 path := by
  obtain ⟨hvalue, _⟩ := h.word
  rw [Device.clobberCheck, h.tracked htracked]
  dsimp only
  rw [hvalue, if_neg (by omega)]

end

theorem entry_setEntry (d : Device) (n : Nat) (entry : Option BolEntry) : (d.setEntry n entry).bol.entries.get bolDefault n = entry :=
  Store.get_put_same d.bol.entries bolDefault n entry

/-- An event stays logged where a berth settles. -/
theorem logged_parksOnly {d e f : Device} {n detail flags : Nat} (hn : n < 256) (h : logged d n detail flags e) (hp : ParksOnly e f) :
    logged d n detail flags f := by
  have hst : f.rd (Reg.RMS_STATN n) = e.rd (Reg.RMS_STATN n) := hp.rd (by unfold Reg.RMS_STATN; omega)
  unfold logged Device.rmsClass Device.fld at h ⊢
  dsimp only at h ⊢
  rwa [hst, hp.rms, hp.mode]

/-- BOL_CLOBBER of a stored word is counted and logged. -/
theorem Stored.raise_clobber {d e : Device} {g v : Nat} (h : Stored d e g v) (hquiet : quietSource d 0x24) {f : Device}
    (hf : (e.bump Reg.BOL_CNT 24 4).raise 0x24 1 = f) : f.mem = e.mem ∧ f.bol = d.bol ∧ f.cfg = d.cfg ∧
      f.rd Reg.BOL_CNT = (e.bump Reg.BOL_CNT 24 4).rd Reg.BOL_CNT ∧ logged d 0x24 1 0 f := by
  have hregs (off : Nat) (hoff : off = Reg.RMS_CFG 0x24 ∨ off = Reg.RMS_STATN 0x24) : (e.bump Reg.BOL_CNT 24 4).rd off = d.rd off :=
    (rd_bump_other _ _ (by obtain rfl | rfl := hoff <;> decide)).trans (h.regs off)
  have hcfg : (e.bump Reg.BOL_CNT 24 4).cfg = d.cfg := (Device.bump_cfg ..).trans h.cfg
  have hrms : (e.bump Reg.BOL_CNT 24 4).rms = d.rms := (Device.bump_rms ..).trans h.rms
  have hmode : (e.bump Reg.BOL_CNT 24 4).mode = d.mode := (Device.bump_mode ..).trans h.mode
  have htb : (e.bump Reg.BOL_CNT 24 4).tb = d.tb := (Device.bump_tb ..).trans h.tb
  have hbol : (e.bump Reg.BOL_CNT 24 4).bol = d.bol := (Device.bump_bol ..).trans h.bol
  have hmem : (e.bump Reg.BOL_CNT 24 4).mem = e.mem := Device.bump_mem ..
  generalize e.bump Reg.BOL_CNT 24 4 = e1 at hf hregs hcfg hrms hmode htb hbol hmem ⊢
  obtain ⟨hlog, hevent⟩ := raise_quiet (detail := 1) (quietSource_congr hcfg hrms hregs hquiet) (by decide) (by decide)
  rw [hf] at hlog hevent
  refine ⟨hevent.mem.trans hmem, ?_, ?_, hevent.rd _ (by decide) (.inl (by decide)), logged_congr hmode htb hrms hregs hlog⟩
  · rw [hevent.eq]
    exact hbol
  · rw [hevent.eq]
    exact hcfg

section
variable {s : State} {b : BitVec 9} {k : BitVec 6} {st : StoreEntry} {g n : Nat} {entry : BolEntry}
  (hst : (s.dev.berth b.toNat).stores[k.toNat]? = some st) (hsize : st.size = 4) (hg : g % 4 = 0)
  (hready : s.dev.storeReady b.toNat st = true) (hplace : (s.dev.placeFor b.toNat st.addr).global = some g)
  (hclean : s.dev.eccAt g = .clean) (htracked : s.dev.tracked g = some (n, entry))
include hst hsize hg hready hplace hclean htracked

theorem storePerformed_user (hold : st.value / 2 ^ 15 % 2 ^ 17 = s.dev.value g 4 / 2 ^ 15) : Completes (.storePerformed b k) s fun e =>
    wordAt s.dev e g st.value ∧ e.bol.entries.get bolDefault n = some { entry with user := st.value % 2 ^ 15 } ∧
    e.rd Reg.BOL_CNT = s.dev.rd Reg.BOL_CNT := by
  obtain ⟨e, hstored, hrun⟩ := storePerformed_word hst hsize hg hready hplace hclean
  rw [hstored.clobberCheck_user htracked hold] at hrun
  have hparks := parksOnly_settlePark (e.setEntry n (some { entry with user := st.value % 2 ^ 15 })) b.toNat
  refine completes_device (f := fun d => d.storePerformed b.toNat k.toNat) rfl hrun (hparks.cfg.trans hstored.cfg)
    ⟨wordAt_of_mem hstored.word hparks.mem, ?_,
    (hparks.rd (by decide)).trans (hstored.regs _)⟩
  rw [hparks.bol, entry_setEntry]

theorem storePerformed_clobbers (hold : st.value / 2 ^ 15 % 2 ^ 17 ≠ s.dev.value g 4 / 2 ^ 15) (hquiet : quietSource s.dev 0x24) :
    Completes (.storePerformed b k) s fun e => wordAt s.dev e g st.value ∧ e.bol = s.dev.bol ∧
      e.fld Reg.BOL_CNT 24 4 = min (s.dev.fld Reg.BOL_CNT 24 4 + 1) 15 ∧ logged s.dev 0x24 1 0 e := by
  obtain ⟨e, hstored, hrun⟩ := storePerformed_word hst hsize hg hready hplace hclean
  obtain ⟨f, hf⟩ : ∃ f, (e.bump Reg.BOL_CNT 24 4).raise 0x24 1 = f := ⟨_, rfl⟩
  rw [hstored.clobberCheck_clobbers htracked hold, hf] at hrun
  obtain ⟨hmem, hbol, hcfg, hcnt, hlog⟩ := hstored.raise_clobber hquiet hf
  have hparks := parksOnly_settlePark f b.toNat
  refine completes_device (f := fun d => d.storePerformed b.toNat k.toNat) rfl hrun (hparks.cfg.trans hcfg)
    ⟨wordAt_of_mem hstored.word (hparks.mem.trans hmem), hparks.bol.trans hbol, ?_,
    logged_parksOnly (by decide) hlog hparks⟩
  rw [Device.fld, hparks.rd (by decide), hcnt, ← Device.fld, fld_bump _ _ (by decide), Device.fld, hstored.regs, ← Device.fld]
  rfl

end

end Sys2Proof.Proofs
end

section
/-! PROOF. BollardReleaseAndTimeout, abandonment (R202): a reset of the berth that holds a word. -/

open Sys2Proof Sys2Proof.Machine Sys2Proof.Claims

namespace Sys2Proof.Proofs

/-! ### Waiters as the berths show them -/

/-- A key that does not read as its default is listed. -/
theorem mem_of_get_ne {α : Type} {m : Store α} {dflt : Nat → α} {k : Nat} (h : m.get dflt k ≠ dflt k) : (k, m.get dflt k) ∈ m := by
  induction m with
  | nil => exact absurd rfl h
  | cons x r ih =>
    obtain ⟨j, v⟩ := x
    rw [Store.get_cons] at h ⊢
    split
    · next hj =>
      rw [hj]
      exact List.mem_cons_self
    · next hj =>
      rw [if_neg hj] at h
      exact List.mem_cons_of_mem _ (ih h)

/-- A berth that waits on a word is among the word's waiters. -/
theorem mem_waiters_of_wait {d : Device} {c r g arr limit user : Nat} {inh : Bool}
    (h : (d.berth c).wait = .bollard r g arr limit inh user) : c ∈ d.waiters g := by
  have hne : d.berths.get berthDefault c ≠ berthDefault c := by
    intro heq
    have hwait : (berthDefault c).wait = .bollard r g arr limit inh user := by rw [← heq, ← Device.berth, h]
    cases hwait
  refine List.mem_map.mpr ⟨_, List.mem_filter.mpr ⟨mem_of_get_ne hne, ?_⟩, rfl⟩
  rw [← Device.berth]
  dsimp only
  rw [bolWait_of_wait h]
  exact beq_self_eq_true g

/-- A write of one berth adds no other waiter. -/
theorem mem_waiters_of_setBerth {d e : Device} {b c g : Nat} {x : Berth} (he : e.berths = d.berths.put berthDefault b x)
    (h : c ∈ e.waiters g) (hc : c ≠ b) : c ∈ d.waiters g := by
  obtain ⟨p, hp, rfl⟩ := List.mem_map.mp h
  obtain ⟨hmem, hwaits⟩ := List.mem_filter.mp hp
  refine List.mem_map.mpr ⟨p, List.mem_filter.mpr ⟨?_, hwaits⟩, rfl⟩
  rw [he, Store.put] at hmem
  split at hmem
  · exact (List.mem_filter.mp hmem).1
  · obtain rfl | hmem := Store.mem_insert _ _ _ _ hmem
    · exact absurd rfl hc
    · exact (List.mem_filter.mp hmem).1

/-! ### ABANDON -/

/-- A word's entry is freed and the word written ABANDONED, which BOL_CNT counts. -/
def abandoned (d : Device) (n : Nat) (entry : BolEntry) : Device :=
  ((d.setEntry n none).unitUpdate entry.holder.reader entry.addr
    (lockWord 2 entry.inh ((entry.epoch + 1) % 16) entry.holder.owner entry.user)).bump Reg.BOL_CNT 28 4

/-- What ABANDON does at one entry. -/
def abandonEntry (holds : Holder → Bool) (d : Device) (p : Nat × Option BolEntry) : Device :=
  match p.2 with
  | some entry => if holds entry.holder then
      endWaits (abandoned d p.1 entry) ((abandoned d p.1 entry).waiters entry.addr) (bolStatus 0x17 ((entry.epoch + 1) % 16)) else d
  | none => d

theorem abandon_eq_foldl (d : Device) (holds : Holder → Bool) : d.abandon holds = d.bol.entries.foldl (abandonEntry holds) d := by
  unfold Device.abandon
  refine congrArg (fun f => d.bol.entries.foldl f d) (funext fun e => funext fun p => ?_)
  obtain ⟨n, o⟩ := p
  cases o <;> rfl

/-- The entries that a holder has. -/
def entryOf (who : Holder) (p : Nat × Option BolEntry) : Bool := decide (p.2.map BolEntry.holder = some who)

theorem abandonEntry_of_not_entryOf {d : Device} {who : Holder} {p : Nat × Option BolEntry} (h : entryOf who p = false) :
    abandonEntry (· == who) d p = d := by
  obtain ⟨n, o⟩ := p
  cases o with
  | none => rfl
  | some entry =>
    have hne : entry.holder ≠ who := fun heq => by
      unfold entryOf at h
      exact of_decide_eq_false h (congrArg some heq)
    exact if_neg (fun hb => hne (eq_of_beq hb))

/-- Where a holder has one word, ABANDON abandons that one. -/
theorem abandon_single {d : Device} {who : Holder} {n : Nat} {entry : BolEntry}
    (h : d.bol.entries.filter (entryOf who) = [(n, some entry)]) : d.abandon (· == who) =
      endWaits (abandoned d n entry) ((abandoned d n entry).waiters entry.addr) (status 0x17 ((entry.epoch + 1) % 16)) := by
  have hholder : entry.holder = who := by
    have hmem : (n, some entry) ∈ d.bol.entries.filter (entryOf who) := h ▸ List.mem_singleton_self _
    exact Option.some.inj (of_decide_eq_true (List.mem_filter.mp hmem).2)
  have hskip : (fun e p => if entryOf who p = true then abandonEntry (· == who) e p else e) = abandonEntry (· == who) := by
    funext e p
    split
    · rfl
    · next hp => exact (abandonEntry_of_not_entryOf (Bool.eq_false_iff.mpr hp)).symm
  rw [← bolStatus_of_lt 0x17 (Nat.mod_lt (entry.epoch + 1) (by decide))]
  calc d.abandon (· == who)
    _ = d.bol.entries.foldl (abandonEntry (· == who)) d := abandon_eq_foldl ..
    _ = (d.bol.entries.filter (entryOf who)).foldl (abandonEntry (· == who)) d := by rw [List.foldl_filter, hskip]
    _ = abandonEntry (· == who) d (n, some entry) := by rw [h]; rfl
    _ = _ := if_pos (beq_iff_eq.mpr hholder)

/-- What an abandoned word has become, its waiters apart. -/
structure Abandoned (d e : Device) (n : Nat) (entry : BolEntry) : Prop where
  freed : e.bol.entries.get bolDefault n = none
  word : wordAt d e entry.addr (lockWord 2 entry.inh ((entry.epoch + 1) % 16) entry.holder.owner entry.user)
  count : e.fld Reg.BOL_CNT 28 4 = min (d.fld Reg.BOL_CNT 28 4 + 1) 15
  berths : e.berths = d.berths
  asked : ∀ c, e.parkAsked c = d.parkAsked c
  scn : e.scn = d.scn
  cfg : e.cfg = d.cfg

theorem unitWrite_scn (d : Device) (g w : Nat) : (d.unitWrite g w).scn = d.scn := by
  obtain ⟨m, hm⟩ := unitWrite_eq d g w
  rw [hm]

theorem abandoned_parts {d : Device} {entry : BolEntry} (n : Nat) (hclean : d.eccAt entry.addr = .clean) :
    Abandoned d (abandoned d n entry) n entry := by
  have hupdate (w : Nat) :
      (d.setEntry n none).unitUpdate entry.holder.reader entry.addr w = (d.setEntry n none).unitWrite entry.addr w := by
    rw [Device.unitUpdate, checkRead_clean (d := d.setEntry n none) _ hclean]
    rfl
  have hset := lockSet_unitWrite d n none entry.addr
    (lockWord 2 entry.inh ((entry.epoch + 1) % 16) entry.holder.owner entry.user)
  have hscn := unitWrite_scn (d.setEntry n none) entry.addr
    (lockWord 2 entry.inh ((entry.epoch + 1) % 16) entry.holder.owner entry.user)
  unfold abandoned
  rw [hupdate]
  generalize (d.setEntry n none).unitWrite entry.addr (lockWord 2 entry.inh ((entry.epoch + 1) % 16) entry.holder.owner entry.user) = e
    at hset hscn
  refine ⟨?_, wordAt_of_mem hset.word (Device.bump_mem ..), ?_, (Device.bump_berths ..).trans hset.berths, fun c => ?_,
    (Device.bump_scn ..).trans hscn, (Device.bump_cfg ..).trans hset.cfg⟩
  · rw [Device.bump_bol]
    exact hset.entry_same
  · rw [fld_bump _ _ (by decide), Device.fld, hset.regs _ (by decide), ← Device.fld]
    rfl
  · refine (bits_flag_congr (d := e) _ _ _ (rd_bump_other _ _ ?_)).trans (hset.parkAsked c)
    unfold Reg.CAR_PARKREQ Reg.BOL_CNT
    omega

/-! ### A berth's reset -/

/-- The registers that a berth's reset clears. -/
def ownRegs (b : Nat) : List Nat := [Reg.CAR_BCFG (coreOf b) (b % 16), Reg.CAR_BSTAT (coreOf b) (b % 16),
  Reg.CAR_BREACH (coreOf b) (b % 16), Reg.CAR_TCMP (coreOf b) (b % 16), Reg.CAR_TCMP (coreOf b) (b % 16) + 4, Reg.BOL_TMO b, Reg.SCN_BIND b]

theorem get_filter {α : Type} {m : Store α} {dflt : Nat → α} {p : Nat → Bool} {k : Nat} (h : p k = true) :
    Store.get (m.filter fun x => p x.1) dflt k = Store.get m dflt k := by
  induction m with
  | nil => rfl
  | cons x r ih =>
    obtain ⟨j, v⟩ := x
    rw [List.filter_cons]
    split
    · rw [Store.get_cons, Store.get_cons, ih]
    · next hj =>
      have hne : j ≠ k := fun heq => hj (heq ▸ h)
      rw [ih, Store.get_cons, if_neg hne]

theorem rd_clearRegs_other {d : Device} {p : Nat → Bool} {o : Nat} (h : p o = false) : (d.clearRegs p).rd o = d.rd o := by
  have hget : (d.clearRegs p).reg o = d.reg o := get_filter (m := d.regs) (p := fun k => !p k) (by rw [h]; rfl)
  rw [Device.rd, hget, ← Device.rd]

/-- The device once a berth is gone, before its bollards are abandoned. -/
def berthCleared (d : Device) (b : Nat) : Device :=
  (((d.clearRegs fun off => (ownRegs b).contains off).dropNeed b).setBerth b Berth.reset).setParked b true

theorem berthReset_eq {d : Device} {b : Nat} (h : d.present b = true) : d.berthReset b =
    ((((berthCleared d b).abandon (· == .berth b)).discardManifests b).leaveCycles (· == b)).gateDrop b := by
  rw [Device.berthReset, if_neg (by rw [h]; decide)]
  rfl

/-- What a berth's reset has cleared. -/
structure BerthCleared (d e : Device) (b : Nat) : Prop where
  berths : e.berths = d.berths.put berthDefault b Berth.reset
  count : e.rd Reg.BOL_CNT = d.rd Reg.BOL_CNT
  asked : ∀ c, e.parkAsked c = d.parkAsked c
  mem : e.mem = d.mem
  bol : e.bol = d.bol
  scn : e.scn = d.scn
  cfg : e.cfg = d.cfg

/-- The registers that a berth's reset clears are the berth's own. -/
theorem notMem_ownRegs {b o : Nat} (hb : b < 512) (ho : o = Reg.BOL_CNT ∨ ∃ c, o = Reg.CAR_PARKREQ c) : o ∉ ownRegs b := by
  unfold ownRegs Reg.CAR_BCFG Reg.CAR_BSTAT Reg.CAR_BREACH Reg.CAR_TCMP Reg.BOL_TMO Reg.SCN_BIND
  unfold Reg.BOL_CNT Reg.CAR_PARKREQ at ho
  have hi : b % 16 < 16 := Nat.mod_lt _ (by decide)
  simp only [List.mem_cons, List.not_mem_nil, or_false]
  obtain rfl | ⟨c, rfl⟩ := ho <;> omega

theorem berthCleared_parts (d : Device) {b : Nat} (hb : b < 512) : BerthCleared d (berthCleared d b) b := by
  have hrd {o : Nat} (hown : o ∉ ownRegs b) (hparked : o ≠ Reg.CAR_PARKED (coreOf b)) : (berthCleared d b).rd o = d.rd o := by
    refine (rd_setFlag_other _ _ _ hparked).trans (rd_clearRegs_other ?_)
    rw [Bool.eq_false_iff, ne_eq, List.contains_iff_mem]
    exact hown
  refine ⟨Device.setFlag_berths .., hrd ?_ ?_, fun c => bits_flag_congr (d := d) _ _ _ (hrd ?_ ?_), Device.setFlag_mem ..,
    Device.setFlag_bol .., Device.setFlag_scn .., Device.setFlag_cfg ..⟩
  · exact notMem_ownRegs hb (.inl rfl)
  · unfold Reg.BOL_CNT Reg.CAR_PARKED
    omega
  · exact notMem_ownRegs hb (.inr ⟨_, rfl⟩)
  · unfold Reg.CAR_PARKREQ Reg.CAR_PARKED
    omega

/-! ### The scan's part of a reset -/

theorem discardManifests_of_none {d : Device} {b : Nat} (h : ∀ k m, d.manifest k = some m → m.owner ≠ b) :
    d.discardManifests b = d := by
  refine List.foldl_fixed' (fun k => ?_) _
  cases hm : d.manifest k with
  | none => rfl
  | some m => exact if_neg (h k m hm)

section
variable {d : Device} (h : ∀ c, (d.cls c).running = false)
include h

theorem cyclesCheck_of_stopped : d.cyclesCheck = d := by
  refine List.foldl_fixed' (fun c => ?_) _
  rw [Device.clsCheck, h c]
  rfl

theorem leaveCycles_of_stopped (gone : Nat → Bool) : d.leaveCycles gone = d := by
  rw [Device.leaveCycles, List.foldl_fixed' (fun c => ?_), cyclesCheck_of_stopped h]
  dsimp only
  rw [h c]
  rfl

end

theorem gateDrop_of_none {d : Device} (who : Nat) (h : d.scn.gate = none) : d.gateDrop who = d := by
  rw [Device.gateDrop, Device.gateRelease, h]

/-! ### The reset as a whole (R202, R518) -/

theorem rowWrite_berthReset {d : Device} {w : Writer} {b : BitVec 9} (harrives : d.arrives w Reg.PWR_BRST = true)
    (htrusted : d.trusted w = true) : d.rowWrite w Reg.PWR_BRST b.toNat = d.berthReset b.toNat := by
  have hb := b.isLt
  have hword : bitsOf (b.toNat % 2 ^ 32) 0 9 = b.toNat := by
    unfold bitsOf
    omega
  have hrow : d.rowWrite w Reg.PWR_BRST b.toNat = d.pwrBrst w (b.toNat % 2 ^ 32) := if_pos harrives
  rw [hrow, Device.pwrBrst, if_pos htrusted, hword]

section
variable {d : Device} {b n : Nat} {entry : BolEntry}

/-- The reset of a berth that no scan activity names. -/
theorem berthReset_abandons (hb : b < 512) (hpresent : d.present b = true)
    (hentry : d.bol.entries.filter (entryOf (.berth b)) = [(n, some entry)]) (hmft : ∀ k m, d.manifest k = some m → m.owner ≠ b)
    (hcls : ∀ c, (d.cls c).running = false) (hgate : d.scn.gate = none) (hclean : d.eccAt entry.addr = .clean) :
    ∃ a e, BerthCleared d a b ∧ Abandoned a e n entry ∧
      d.berthReset b = endWaits e (e.waiters entry.addr) (status 0x17 ((entry.epoch + 1) % 16)) := by
  have hcleared := berthCleared_parts d hb
  have hreset := berthReset_eq hpresent
  generalize berthCleared d b = a at hcleared hreset
  have hclean' : a.eccAt entry.addr = .clean := by rw [Device.eccAt, hcleared.mem, ← Device.eccAt, hclean]
  have hgone := abandoned_parts n hclean'
  rw [abandon_single (hcleared.bol ▸ hentry)] at hreset
  generalize abandoned a n entry = e at hgone hreset
  refine ⟨a, e, hcleared, hgone, ?_⟩
  have hparks := parksOnly_endWaits (status 0x17 ((entry.epoch + 1) % 16)) e (e.waiters entry.addr)
  generalize endWaits e (e.waiters entry.addr) (status 0x17 ((entry.epoch + 1) % 16)) = f at hparks hreset ⊢
  have hscn : f.scn = d.scn := hparks.scn.trans (hgone.scn.trans hcleared.scn)
  rw [hreset, discardManifests_of_none, leaveCycles_of_stopped, gateDrop_of_none]
  · rw [hscn, hgate]
  · intro c
    rw [Device.cls, hscn]
    exact hcls c
  · intro k m hm
    rw [Device.manifest, hscn] at hm
    exact hmft k m hm

end

section
variable {d a e : Device} {b n c : Nat} {entry : BolEntry} (ha : BerthCleared d a b) (he : Abandoned a e n entry) (hc : c ≠ b)
include ha he

theorem Abandoned.fld_count : e.fld Reg.BOL_CNT 28 4 = min (d.fld Reg.BOL_CNT 28 4 + 1) 15 := by
  rw [he.count, Device.fld, ha.count, ← Device.fld]

include hc

theorem Abandoned.berth_other : e.berth c = d.berth c := by
  rw [Device.berth, he.berths, ha.berths, Store.get_put_other _ _ _ hc.symm, ← Device.berth]

theorem Abandoned.mem_waiters {g : Nat} (h : c ∈ e.waiters g) : c ∈ d.waiters g :=
  mem_waiters_of_setBerth (he.berths.trans ha.berths) h hc

end

/-- A word is written by what memory held before. -/
theorem wordAt_from_mem {d a e : Device} {g w : Nat} (h : wordAt a e g w) (hmem : a.mem = d.mem) : wordAt d e g w := by
  obtain ⟨hvalue, hbyte⟩ := h
  refine ⟨hvalue, fun k hk => (hbyte k hk).trans ?_⟩
  rw [Device.byte, hmem, ← Device.byte]

/-- Settles O20: BREL by the holder and the waiters, a wait's limit, a store to a tracked word by what it changes, and the reset of a
holder. -/
theorem bollardReleaseAndTimeout : Obligations.BollardReleaseAndTimeout := by
  unfold Obligations.BollardReleaseAndTimeout
  refine ⟨?_, ?_, ?_, ?_⟩
  · intro s i rd rs1 bk g hready d x brel
    refine ⟨fun n entry htracked hholder =>
      ⟨brel_frees hready htracked hholder, fun b r arr limit inh user hb hwait hask hfirst => ?_⟩,
      fun n entry htracked hholder => ?_, fun htracked => ?_⟩
    · exact brel_grants hready htracked hholder hb hwait hask hfirst
    · exact brel_unchanged hready (bolRelease_other _ htracked hholder)
    · exact brel_unchanged hready (bolRelease_untracked _ htracked)
  · intro s b rd g arr limit inh user n entry d x hwait htracked
    exact ⟨bollardTimeout_ends hwait htracked, bollardTimeout_before hwait⟩
  · intro s b k st g n entry d old hst hsize hg hready hplace hclean htracked
    exact ⟨storePerformed_user hst hsize hg hready hplace hclean htracked,
      storePerformed_clobbers hst hsize hg hready hplace hclean htracked⟩
  · intro s w b n entry d g ep owns harrives htrusted hpresent hentry hclean hmft hcls hgate hwaiters
    obtain ⟨a, e, hcleared, hgone, hreset⟩ := berthReset_abandons b.isLt hpresent hentry hmft hcls hgate hclean
    have hholder : entry.holder = .berth b.toNat := by
      have hmem : (n, some entry) ∈ d.bol.entries.filter owns := hentry ▸ List.mem_singleton_self _
      exact Option.some.inj (of_decide_eq_true (List.mem_filter.mp hmem).2)
    have hword := hgone.word
    rw [hholder] at hword
    have hparks := parksOnly_endWaits (status 0x17 ep) e (e.waiters g)
    refine completes_device (f := fun d => d.rowWrite w Reg.PWR_BRST b.toNat) rfl ((rowWrite_berthReset harrives htrusted).trans hreset)
      (hparks.cfg.trans (hgone.cfg.trans hcleared.cfg))
      ⟨?_, ?_, ?_, fun c hc => ⟨fun r arr limit inh user hwait hask => ?_, fun hne => ?_⟩⟩
    · rw [hparks.bol]
      exact hgone.freed
    · exact wordAt_of_mem (wordAt_from_mem hword hcleared.mem) hparks.mem
    · rw [Device.fld, hparks.rd (by decide), ← Device.fld, hgone.fld_count hcleared]
    · have hberth := hgone.berth_other hcleared hc
      rw [berth_endWaits_of_mem (status 0x17 ep) (mem_waiters_of_wait (hberth.symm ▸ hwait)) (hberth.symm ▸ hwait)
        ((hgone.asked c).trans ((hcleared.asked c).trans hask)), hberth]
      rfl
    · rw [berth_endWaits_of_notMem _ fun hmem => hne (hwaiters c (hgone.mem_waiters hcleared hc hmem)), hgone.berth_other hcleared hc]

end Sys2Proof.Proofs
end

section
/-! PROOF. The pin engines as storage: registers, replacement of an engine, the passing of ticks (R216 to R220), and the changes that reach
no other engine. -/

open Sys2Proof Sys2Proof.Machine Sys2Proof.Claims

namespace Sys2Proof.Proofs

/-! ### An engine's registers -/

section
variable (x : Engine)

theorem rg_lt (r : Nat) : x.rg r < 2 ^ 32 := BitVec.isLt _

theorem rg_setRg (r j v : Nat) : (x.setRg r v).rg j = if r = j then v % 2 ^ 32 else x.rg j := by
  unfold Engine.rg Engine.setRg
  rw [Store.get_put]
  split <;> simp

@[simp] theorem rg_setRg_same (r v : Nat) : (x.setRg r v).rg r = v % 2 ^ 32 := by rw [rg_setRg, if_pos rfl]

theorem rg_setRg_other {r j : Nat} (v : Nat) (h : r ≠ j) : (x.setRg r v).rg j = x.rg j := by rw [rg_setRg, if_neg h]

theorem rg_setFld_other {r j : Nat} (lo w v : Nat) (h : r ≠ j) : (x.setFld r lo w v).rg j = x.rg j := rg_setRg_other x _ h

theorem rg_setFlag_other {r j : Nat} (i : Nat) (b : Bool) (h : r ≠ j) : (x.setFlag r i b).rg j = x.rg j := rg_setRg_other x _ h

theorem engFld_setFld_same (r v : Nat) {lo w : Nat} (h : lo + w ≤ 32) : (x.setFld r lo w v).fld r lo w = v % 2 ^ w := by
  rw [Engine.fld, Engine.setFld, rg_setRg_same, bitsOf_mod h, bitsOf_setBits_same]

theorem engFlag_setFlag_same (r : Nat) {i : Nat} (b : Bool) (h : i < 32) : (x.setFlag r i b).flag r i = b := by
  rw [Engine.flag, Engine.setFlag, Engine.setFld, rg_setRg_same, bitOf_mod h, bitOf_setBits_bit, if_pos rfl]

end

/-! ### One engine of the device replaced -/

section
variable (d : Device)

@[simp] theorem engine_setEngine_same (n : Nat) (y : Engine) : (d.setEngine n y).engine n = y := (engine_setEngine ..).trans (if_pos rfl)

theorem engine_setEngine_other {n k : Nat} (y : Engine) (h : k ≠ n) : (d.setEngine n y).engine k = d.engine k :=
  (engine_setEngine ..).trans (if_neg h.symm)

@[simp] theorem setEngine_setEngine (n : Nat) (x y : Engine) : (d.setEngine n x).setEngine n y = d.setEngine n y := by
  unfold Device.setEngine
  rw [Store.put_put]

@[simp] theorem rd_setEngine (n : Nat) (y : Engine) (off : Nat) : (d.setEngine n y).rd off = d.rd off := rfl

@[simp] theorem flag_setEngine (n : Nat) (y : Engine) (off i : Nat) : (d.setEngine n y).flag off i = d.flag off i := rfl

@[simp] theorem tileReg_setEngine (n : Nat) (y : Engine) (t r : Nat) : (d.setEngine n y).tileReg t r = d.tileReg t r := rfl

theorem engLeaves_setEngine (n : Nat) (y : Engine) : engLeaves d n y (d.setEngine n y) :=
  ⟨engine_setEngine_same .., fun _ hk => engine_setEngine_other d y hk, rfl⟩

theorem engFld_zero {x : Engine} {r : Nat} (h : x.rg r = 0) (lo w : Nat) : x.fld r lo w = 0 := by
  rw [Engine.fld, h, bitsOf, Nat.zero_div, Nat.zero_mod]

/-- An engine that drives no event output asserts none (R246). -/
theorem engEvent_silent {n sel : Nat} (h : (d.engine n).rg peEvout = 0) (hsel : sel ≠ 0) : d.engEvent n sel = d := by
  unfold Device.engEvent
  simp only [engFld_zero h, hsel.symm, if_false]

theorem engUpdate_silent {n : Nat} {y : Engine} (h : y.rg peEvout = 0) : d.engUpdate n y = d.setEngine n y := by
  have hevent {sel : Nat} (hsel : sel ≠ 0) : (d.setEngine n y).engEvent n sel = d.setEngine n y :=
    engEvent_silent _ (by rwa [engine_setEngine_same]) hsel
  unfold Device.engUpdate
  simp only [hevent (sel := 1) (by decide), hevent (sel := 2) (by decide), ite_self]

theorem engStep_silent {n : Nat} {f : Engine → Engine} (h : (f (d.engine n)).rg peEvout = 0) :
    d.engStep n f = d.setEngine n (f (d.engine n)).pass := engUpdate_silent d h

end

/-! ### The passing of ticks (R216 to R220) -/

/-- The counter of the engine counts nothing by itself (R229). -/
abbrev CountsNothing (x : Engine) : Prop := x.fld peCntcfg 0 3 = 0

/-- The engine at the edge of its next tick, before its divider goes on. -/
def atTick (x : Engine) : Engine := (atEdge x).settle

section
variable {x : Engine}

theorem addCount_zero (x : Engine) : x.addCount 0 = x := rfl

theorem counts_eq_zero (h : CountsNothing x) (tick : Bool) : x.counts tick = 0 := by
  unfold Engine.counts
  rw [h]
  rfl

/-- The engine some edges later, with nothing done. -/
def edged (k : Nat) (x : Engine) : Engine := { x with passed := x.passed + k, lead := x.lead + k }

theorem edged_edged (j k : Nat) (x : Engine) : edged j (edged k x) = edged (k + j) x := by
  simp only [edged, Nat.add_assoc]

/-- An edge of an engine that is not stalled. -/
theorem clock_eq (more : Nat) (h : CountsNothing x) (hstall : x.stalled = false) : x.clock more = (edged 1 x).addCount more := by
  unfold Engine.clock
  rw [hstall, counts_eq_zero h, Nat.zero_add]
  rfl

theorem waitEdge_eq (h : CountsNothing x) (hstall : x.stalled = false) :
    x.waitEdge = if x.passed + 1 = x.now then (edged 1 x).waitTick else edged 1 x := by
  unfold Engine.waitEdge Engine.eclk
  rw [clock_eq 0 h hstall]
  rfl

/-- The edges before a tick. -/
theorem edges_before_tick {k : Nat} (h : CountsNothing x) (hstall : x.stalled = false) (hk : k = 0 ∨ x.passed + k < x.now) :
    x.edges k = edged k x := by
  induction k generalizing x with
  | zero => rfl
  | succ k ih =>
    have hlt : x.passed + (k + 1) < x.now := by omega
    have hrest : k = 0 ∨ (edged 1 x).passed + k < (edged 1 x).now := .inr (by show x.passed + 1 + k < x.now; omega)
    rw [Engine.edges, decide_eq_false (by omega), Bool.and_false, if_neg Bool.false_ne_true, waitEdge_eq h hstall, if_neg (by omega),
      ih (x := edged 1 x) h hstall hrest, edged_edged, Nat.add_comm]

theorem edged_to_tick (x : Engine) : edged 1 (edged (x.now - x.passed - 1) x) = atEdge x := by
  have hpassed : x.passed + (x.now - x.passed - 1 + 1) = max (x.passed + 1) x.now := by omega
  have hlead : x.now - x.passed - 1 + 1 = max (x.passed + 1) x.now - x.passed := by omega
  rw [edged_edged, edged, hpassed, hlead]
  rfl

/-- The edge of the next tick, with what an instruction counts there (R218, R229). -/
theorem toTickWith_eq (more : Nat) (h : CountsNothing x) (hstall : x.stalled = false) :
    x.toTickWith more = (atEdge x).addCount more := by
  unfold Engine.toTickWith
  rw [edges_before_tick h hstall (by omega), clock_eq (x := edged _ x) more h hstall, edged_to_tick]

theorem toTick_eq (h : CountsNothing x) (hstall : x.stalled = false) : x.toTick = atEdge x := toTickWith_eq 0 h hstall

/-- The count of CNT INC (R229). -/
theorem addCount_one (x : Engine) : x.addCount 1 =
    if (x.rg peCnt + 1) % 2 ^ 24 = x.rg peCntcmp % 2 ^ 24 then
      (x.setRg peCnt (if x.flag peCntcfg 4 then 0 else (x.rg peCnt + 1) % 2 ^ 24)).setFlag peStat 21 true
    else x.setRg peCnt ((x.rg peCnt + 1) % 2 ^ 24) := by
  have hcmp : bitsOf (x.rg peCntcmp) 0 24 = x.rg peCntcmp % 2 ^ 24 := by rw [bitsOf, Nat.pow_zero, Nat.div_one]
  unfold Engine.addCount
  dsimp only [List.range', List.find?]
  rw [hcmp]
  by_cases h : (x.rg peCnt + 1) % 2 ^ 24 = x.rg peCntcmp % 2 ^ 24
  · rw [beq_iff_eq.mpr h, if_pos h]
  · rw [beq_eq_false_iff_ne.mpr h, if_neg h, if_neg Nat.one_ne_zero]

theorem atEdge_setRg (x : Engine) (r v : Nat) : (atEdge x).setRg r v = atEdge (x.setRg r v) := rfl

theorem atEdge_setFlag (x : Engine) (r i : Nat) (b : Bool) : (atEdge x).setFlag r i b = atEdge (x.setFlag r i b) := rfl

theorem atEdge_addCount {n : Nat} (hn : n ≤ 1) (x : Engine) : (atEdge x).addCount n = atEdge (x.addCount n) := by
  have hrg (r : Nat) : (atEdge x).rg r = x.rg r := rfl
  have hflag (r i : Nat) : (atEdge x).flag r i = x.flag r i := rfl
  obtain rfl | rfl := Nat.le_one_iff_eq_zero_or_eq_one.mp hn
  · rfl
  · rw [addCount_one, addCount_one, hrg, hrg, hflag]
    split_ifs
    · rw [atEdge_setRg, atEdge_setFlag]
    · rw [atEdge_setRg, atEdge_setFlag]
    · rw [atEdge_setRg]

theorem rg_addCount_other {n r : Nat} (hn : n ≤ 1) (x : Engine) (hcnt : peCnt ≠ r) (hstat : peStat ≠ r) : (x.addCount n).rg r = x.rg r := by
  obtain rfl | rfl := Nat.le_one_iff_eq_zero_or_eq_one.mp hn
  · rfl
  · rw [addCount_one]
    split
    · rw [rg_setFlag_other _ _ _ hstat, rg_setRg_other _ _ hcnt]
    · rw [rg_setRg_other _ _ hcnt]

end

/-! ### The registers at a tick -/

section
variable (x : Engine)

@[simp] theorem rg_atTick (r : Nat) : (atTick x).rg r = x.rg r := rfl

@[simp] theorem fld_atTick (r lo w : Nat) : (atTick x).fld r lo w = x.fld r lo w := rfl

@[simp] theorem flag_atTick (r i : Nat) : (atTick x).flag r i = x.flag r i := rfl

@[simp] theorem setRg_atTick (r v : Nat) : (atTick x).setRg r v = atTick (x.setRg r v) := rfl

@[simp] theorem setFld_atTick (r lo w v : Nat) : (atTick x).setFld r lo w v = atTick (x.setFld r lo w v) := by
  rw [Engine.setFld, setRg_atTick, rg_atTick, Engine.setFld]

@[simp] theorem setFlag_atTick (r i : Nat) (b : Bool) : (atTick x).setFlag r i b = atTick (x.setFlag r i b) := setFld_atTick ..

@[simp] theorem rg_stop_engThere (r : Nat) : ({ engThere x 1 with run := false, wait := .none } : Engine).rg r = x.rg r := rfl

@[simp] theorem pass_atTick : (atTick x).pass = engThere x 1 := rfl

/-- An engine that goes on from its tick is at its next instruction. -/
@[simp] theorem advance_pass_atTick : (atTick x).advance.pass = engNext x 1 := rfl

end

/-! ### Ticks of an engine that waits (R217, R224, R230, R231) -/

section
variable {x : Engine}

theorem ticks_succ (n : Nat) (x : Engine) : ticks (n + 1) x = (atEdge (ticks n x)).pass := by
  induction n generalizing x with
  | zero => rfl
  | succ n ih => exact ih (x := (atEdge x).pass)

/-- What no tick changes. -/
theorem ticks_keeps (n : Nat) (x : Engine) : ticks n x =
    { x with acc := (ticks n x).acc, passed := (ticks n x).passed, now := (ticks n x).now, lead := (ticks n x).lead } := by
  induction n with
  | zero => rfl
  | succ n ih =>
    rw [ticks_succ, ih]
    rfl

theorem pcAfter_ticks (n : Nat) (x : Engine) : (ticks n x).nextPc = pcAfter x := by
  rw [ticks_keeps]
  rfl

theorem ticks_withWait (n : Nat) (x : Engine) (k : EngWait) : ticks n { x with wait := k } = { ticks n x with wait := k } := by
  induction n with
  | zero => rfl
  | succ n ih =>
    rw [ticks_succ, ticks_succ, ih]
    rfl

theorem countsNothing_ticks {n : Nat} (h : CountsNothing x) : CountsNothing (ticks n x) := by
  rw [ticks_keeps]
  exact h

theorem wait_ticks (n : Nat) (x : Engine) : (ticks n x).wait = x.wait := by rw [ticks_keeps]

theorem stalled_of_wait {y : Engine} (h : y.wait = x.wait) : y.stalled = x.stalled := by
  unfold Engine.stalled
  rw [h]

/-- A DLY lets its ticks pass (R231). -/
theorem waitTicks_delay {left : Nat} (h : CountsNothing x) (hwait : x.wait = .delay left) :
    x.waitTicks left = { ticks left x with wait := .delay 0 } := by
  induction left generalizing x with
  | zero =>
    cases x
    cases hwait
    rfl
  | succ n ih =>
    have hstall : x.stalled = false := by rw [Engine.stalled, hwait]
    have htick : (atEdge x).waitTick = { (atEdge x).pass with wait := .delay n } := by
      rw [Engine.waitTick, show (atEdge x).wait = .delay (n + 1) from hwait]
    rw [Engine.waitTicks, toTick_eq h hstall, htick, ih (x := { (atEdge x).pass with wait := .delay n }) h rfl, ticks_withWait]
    rfl

/-- The engine waits in a WAIT or a FLAG, whose end nothing of the engine brings. -/
def Watches (x : Engine) : Prop := x.wait = .flag ∨ ∃ seen since, x.wait = .cond seen since

theorem Watches.stalled (h : Watches x) : x.stalled = false := by
  unfold Engine.stalled
  obtain h | ⟨_, _, h⟩ := h <;> rw [h]

theorem Watches.held (h : Watches x) : x.held = false := by
  unfold Engine.held
  obtain h | ⟨_, _, h⟩ := h <;> rw [h]

theorem Watches.waitTick (h : Watches x) : x.waitTick = x.pass := by
  unfold Engine.waitTick
  obtain h | ⟨_, _, h⟩ := h <;> rw [h]

theorem waitTicks_watches (n : Nat) (h : CountsNothing x) (hw : Watches x) : x.waitTicks n = ticks n x := by
  induction n generalizing x with
  | zero => rfl
  | succ n ih =>
    have hw' : Watches (atEdge x) := hw
    rw [Engine.waitTicks, toTick_eq h hw.stalled, hw'.waitTick]
    exact ih (x := (atEdge x).pass) h hw

theorem edges_watches (n : Nat) (h : CountsNothing x) (hw : Watches x) : x.edges n = clocks n x := by
  induction n generalizing x with
  | zero => rfl
  | succ n ih =>
    have hw' : Watches (edged 1 x) := hw
    rw [Engine.edges, hw.held, Bool.false_and, if_neg Bool.false_ne_true, waitEdge_eq h hw.stalled, hw'.waitTick]
    rw [ih]
    · rfl
    · split <;> exact h
    · split <;> exact hw

/-- What no edge of an engine that waits changes. -/
theorem clocks_keeps (n : Nat) (x : Engine) : clocks n x =
    { x with acc := (clocks n x).acc, passed := (clocks n x).passed, now := (clocks n x).now, lead := (clocks n x).lead } := by
  induction n generalizing x with
  | zero => rfl
  | succ n ih =>
    rw [clocks]
    dsimp only
    rw [ih]
    split <;> rfl

end

end Sys2Proof.Proofs
end

section
/-! PROOF. The pin engines' instructions (R222 to R232): what each leaves of an engine that runs, at its tick. -/

open Sys2Proof Sys2Proof.Machine Sys2Proof.Claims

namespace Sys2Proof.Proofs

/-! ### The command of an instruction (R218) -/

theorem increments_le_one (i : PeInstr) : i.increments ≤ 1 := by
  unfold PeInstr.increments
  split <;> decide

theorem increments_of_not_cnt {i : PeInstr} (h : ∀ op, i ≠ .cnt op) : i.increments = 0 := by
  unfold PeInstr.increments
  split
  · exact absurd rfl (h 1)
  · rfl

section
variable {d : Device} {n w : Nat}

theorem awaitsFence_of_plain (h : engPlain d n) : d.awaitsFence n = false := by
  obtain ⟨_, _, _, hphase⟩ := h
  rw [Device.awaitsFence, beq_eq_false_iff_ne.mpr hphase, Bool.false_and]

theorem peReady_at (h : engAt d n w) : d.peReady n (peRow w) = true := by
  obtain ⟨hplain, hrun, hwait, hword⟩ := h
  rw [Device.peReady, hplain.1, hrun, hwait, hword, awaitsFence_of_plain hplain]
  simp

/-- The command of the word at which an engine runs executes it at the edge of the engine's tick. -/
theorem peCommand_at (h : engAt d n w) {i : PeInstr} (hi : peDecode w = i) :
    d.peCommand n (peRow w) = (d.setEngine n (atTick ((d.engine n).addCount i.increments))).peExec n i := by
  have hready := peReady_at h
  obtain ⟨⟨_, hevout, hcounts, _⟩, _, hwait, hword⟩ := h
  have hstall : (d.engine n).stalled = false := by rw [Engine.stalled, hwait]
  have hmore := increments_le_one i
  have hnow : (d.engine n).toTickWith i.increments = atEdge ((d.engine n).addCount i.increments) :=
    (toTickWith_eq _ hcounts hstall).trans (atEdge_addCount hmore _)
  have hsilent : (atEdge ((d.engine n).addCount i.increments)).rg peEvout = 0 :=
    (rg_addCount_other hmore _ (by decide) (by decide)).trans hevout
  rw [Device.peCommand, if_pos hready]
  dsimp only
  rw [hword, hi, hwait]
  rw [if_neg (by decide), hnow, engUpdate_silent _ hsilent, Device.engSettle, engine_setEngine_same, setEngine_setEngine]
  rfl

theorem peCommand_plain (h : engAt d n w) {i : PeInstr} (hi : peDecode w = i) (hcnt : ∀ op, i ≠ .cnt op) :
    d.peCommand n (peRow w) = (d.setEngine n (atTick (d.engine n))).peExec n i := by
  rw [peCommand_at h hi, increments_of_not_cnt hcnt]
  rfl

end

/-- A command that leaves one engine changed, and nothing else. -/
theorem completes_engLeaves {c : Instr} {s : State} {f : Device → Device} {n : Nat} {y : Engine} (hexec : exec c s = s.upd f)
    (hf : f s.dev = s.dev.setEngine n y) : Completes c s (engLeaves s.dev n y) :=
  completes_device hexec hf rfl (engLeaves_setEngine ..)

/-! ### The ends of instructions -/

section
variable (d : Device) (n : Nat)

theorem engStep_setEngine {x : Engine} {f : Engine → Engine} (h : (f x).rg peEvout = 0) :
    (d.setEngine n x).engStep n f = d.setEngine n (f x).pass := by
  rw [engStep_silent _ (by rwa [engine_setEngine_same]), engine_setEngine_same, setEngine_setEngine]

theorem engUpdate_setEngine {x y : Engine} (h : y.rg peEvout = 0) : (d.setEngine n x).engUpdate n y = d.setEngine n y := by
  rw [engUpdate_silent _ h, setEngine_setEngine]

theorem engEvent_setEngine {x : Engine} {sel : Nat} (h : x.rg peEvout = 0) (hsel : sel ≠ 0) :
    (d.setEngine n x).engEvent n sel = d.setEngine n x := engEvent_silent _ (by rwa [engine_setEngine_same]) hsel

end

section
variable {d : Device} {n : Nat}

/-- An instruction that changes registers and goes on. -/
theorem engStep_advance {x : Engine} {f : Engine → Engine} (hf : f (atTick x) = atTick (f x)) (hevout : (f x).rg peEvout = 0) :
    (d.setEngine n (atTick x)).engStep n (fun y => (f y).advance) = d.setEngine n (engNext (f x) 1) := by
  rw [engStep_setEngine, hf, advance_pass_atTick]
  rw [hf]
  exact hevout

end

/-! ### Program words (Table 7.2) -/

theorem decode_jmp : ∀ c < 12, ∀ j < 64, peDecode (0x1000 + 256 * c + j) = .jmp c j ∧ peRow (0x1000 + 256 * c + j) = .jmp := by
  decide +kernel

theorem decode_waitFlag : ∀ k < 8, peDecode (0x2A00 + k) = .wait true 2 k ∧ peRow (0x2A00 + k) = .wait := by decide +kernel

theorem decode_inX : ∀ k < 32, peDecode (0x3100 + k) = .shiftIn 1 (shiftN k) ∧ peRow (0x3100 + k) = .shiftIn := by decide +kernel

theorem decode_outX : ∀ k < 32, peDecode (0x4200 + k) = .shiftOut 2 (shiftN k) ∧ peRow (0x4200 + k) = .shiftOut := by decide +kernel

theorem decode_setX : ∀ k < 32, peDecode (0x7200 + k) = .set 2 k ∧ peRow (0x7200 + k) = .set := by decide +kernel

theorem decode_setY : ∀ k < 32, peDecode (0x7300 + k) = .set 3 k ∧ peRow (0x7300 + k) = .set := by decide +kernel

theorem decode_flag : ∀ k < 8, peDecode (0xA800 + k) = .flag true false false k ∧ peRow (0xA800 + k) = .flag := by decide +kernel

theorem decode_flagWait : ∀ k < 8, peDecode (0xAC00 + k) = .flag true true false k ∧ peRow (0xAC00 + k) = .flag := by decide +kernel

theorem decode_edge : ∀ k < 32, ∀ v < 2, ∀ ph < 8, ∀ a < 2,
    peDecode (0x8000 + 128 * k + 64 * v + 8 * ph + 4 * a) = .edge k (decide (v = 1)) ph (decide (a = 1)) ∧
    peRow (0x8000 + 128 * k + 64 * v + 8 * ph + 4 * a) = .edge := by decide +kernel

/-- The opcode of a word below a multiple of 2^12. -/
theorem opcode_eq {w op : Nat} (hop : op < 16) (hlow : 4096 * op ≤ w) (hhigh : w < 4096 * op + 4096) : bitsOf w 12 4 = op := by
  unfold bitsOf
  omega

theorem decode_dly {j : Nat} (hj : j < 4096) : peDecode (0xB000 + j) = .dly j ∧ peRow (0xB000 + j) = .dly := by
  have hop : bitsOf (0xB000 + j) 12 4 = 0xB := opcode_eq (by decide) (by omega) (by omega)
  have hlow : bitsOf (0xB000 + j) 0 12 = j := by
    unfold bitsOf
    omega
  unfold peDecode peRow
  dsimp only
  rw [hop]
  exact ⟨congrArg PeInstr.dly hlow, rfl⟩

theorem decode_undefined {w : Nat} (hlow : 0xC000 ≤ w) (hhigh : w < 0x10000) : peDecode w = .error 1 ∧ peRow w = .undefined := by
  have hop : bitsOf w 12 4 = 0xC ∨ bitsOf w 12 4 = 0xD ∨ bitsOf w 12 4 = 0xE ∨ bitsOf w 12 4 = 0xF := by
    unfold bitsOf
    omega
  unfold peDecode peRow
  dsimp only
  obtain h | h | h | h := hop <;> rw [h] <;> exact ⟨rfl, rfl⟩

/-! ### What an engine reads of its pads -/

/-- The divider's own state is nothing that a pad shows (R215). -/
theorem enginePin_pass (d : Device) (n off : Nat) (x : Engine) :
    (d.setEngine n x.pass).enginePin n off = (d.setEngine n x).enginePin n off := by
  have hrun (k : Nat) : ((d.setEngine n x.pass).engine k).run32 = ((d.setEngine n x).engine k).run32 := by
    rw [engine_setEngine, engine_setEngine]
    split <;> rfl
  have hfirst (k : Nat) : ((d.setEngine n x.pass).engine k).fld pePins 0 5 = ((d.setEngine n x).engine k).fld pePins 0 5 := by
    rw [engine_setEngine, engine_setEngine]
    split <;> rfl
  have hout (k r : Nat) : ((d.setEngine n x.pass).engine k).outAt r = ((d.setEngine n x).engine k).outAt r := by
    rw [engine_setEngine, engine_setEngine]
    split <;> rfl
  have hplaced (k : Nat) : ((d.setEngine n x.pass).engine k).past = ((d.setEngine n x).engine k).past ∧
      ((d.setEngine n x.pass).engine k).coming = ((d.setEngine n x).engine k).coming := by
    rw [engine_setEngine, engine_setEngine]
    split <;> exact ⟨rfl, rfl⟩
  have howner (t i : Nat) : (d.setEngine n x.pass).padEngine t i = (d.setEngine n x).padEngine t i := by
    simp only [Device.padEngine, hrun]
  have hdrive (t i r : Nat) : (d.setEngine n x.pass).engineDrive (fun y => y.outAt r) t i =
      (d.setEngine n x).engineDrive (fun y => y.outAt r) t i := by
    simp only [Device.engineDrive, howner, hfirst, hout]
  have hfunction (t i r : Nat) : (d.setEngine n x.pass).functionDrive (fun y => y.outAt r) t i =
      (d.setEngine n x).functionDrive (fun y => y.outAt r) t i := by
    unfold Device.functionDrive
    rw [hdrive]
    rfl
  have hpad (t i r : Nat) : (d.setEngine n x.pass).padDriveBy (fun y => y.outAt r) t i =
      (d.setEngine n x).padDriveBy (fun y => y.outAt r) t i := by
    unfold Device.padDriveBy
    rw [hfunction]
    rfl
  have hlevel (t i r : Nat) : (d.setEngine n x.pass).padLevelBy (fun y => y.outAt r) t i =
      (d.setEngine n x).padLevelBy (fun y => y.outAt r) t i := by
    unfold Device.padLevelBy
    rw [hpad]
    rfl
  have hseen (t i r : Nat) : (d.setEngine n x.pass).pinSeen t i r = (d.setEngine n x).pinSeen t i r := by
    simp only [Device.pinSeen, howner, hlevel, (hplaced _).1, (hplaced _).2]
    rfl
  unfold Device.enginePin
  rw [engine_setEngine_same, engine_setEngine_same]
  simp only [hseen]
  rfl

/-! ### The instructions of the statement, at the engine's tick -/

section
variable {d : Device} {n w k : Nat}

theorem evout_of_at (h : engAt d n w) : (d.engine n).rg peEvout = 0 := by
  obtain ⟨⟨_, hevout, _⟩, _⟩ := h
  exact hevout

theorem wait_of_at (h : engAt d n w) : (d.engine n).wait = .none := by
  obtain ⟨_, _, hwait, _⟩ := h
  exact hwait

theorem pe_nop (h : engAt d n 0x0000) : d.peCommand n .nop = d.setEngine n (engNext (d.engine n) 1) :=
  (peCommand_plain h (i := .nop) rfl nofun).trans (engStep_advance (f := id) rfl (evout_of_at h))

theorem pe_stop (h : engAt d n 0x0100) : d.peCommand n .stop = d.setEngine n { engNext (d.engine n) 1 with run := false } := by
  refine (peCommand_plain h (i := .stop) rfl nofun).trans ?_
  rw [Device.peExec, engStep_setEngine, engEvent_setEngine]
  · rfl
  · exact evout_of_at h
  · decide
  · exact evout_of_at h

/-- A FIFO's depth depends on JOIN alone (R234). -/
theorem fifoDepth_setEngine {y : Engine} (h : y.rg peShift = (d.engine n).rg peShift) (k : Nat) :
    (d.setEngine n y).fifoDepth k = d.fifoDepth k := by
  have hjoin : (d.setEngine n y).joined k = d.joined k := by
    unfold Device.joined Engine.flag
    rw [engine_setEngine]
    split
    · next hk => rw [h, hk]
    · rfl
  rw [Device.fifoDepth, hjoin]
  rfl

theorem jmpConds_lt : ∀ q ∈ jmpConds d n (d.engine n), q.1 < 12 := by simp [jmpConds]

/-- The conditions of Table 7.3 that change no register. -/
theorem jmpCond_eq (q : Nat × Bool) (hq : q ∈ jmpConds d n (d.engine n)) :
    (d.setEngine n (atTick (d.engine n))).jmpCond n q.1 = (q.2, atTick (d.engine n)) := by
  have hpin := enginePin_pass d n ((d.engine n).fld peShift 16 5) (atTick (d.engine n))
  have hshift : (atTick (d.engine n)).rg peShift = (d.engine n).rg peShift := rfl
  have hdepth := fifoDepth_setEngine hshift n
  have hengine : (d.setEngine n (atTick (d.engine n))).engine n = atTick (d.engine n) := engine_setEngine_same ..
  have hroom : (d.setEngine n (atTick (d.engine n))).jmpCond n 11 =
      (decide (((d.setEngine n (atTick (d.engine n))).engine n).rx.length < (d.setEngine n (atTick (d.engine n))).fifoDepth n),
        (d.setEngine n (atTick (d.engine n))).engine n) := rfl
  revert q
  simp only [jmpConds, List.forall_mem_cons]
  refine ⟨?_, ?_, ?_, ?_, ?_, ?_, ?_, ?_, ?_, ?_, nofun⟩
  · rw [Device.jmpCond, hengine]
  · rw [Device.jmpCond, hengine]
    rfl
  · rw [Device.jmpCond, hengine]
    rfl
  · rw [Device.jmpCond, hengine]
    rfl
  · rw [Device.jmpCond, hengine]
    rfl
  · rw [Device.jmpCond, hengine]
    exact congrArg (fun b => (b, atTick (d.engine n))) hpin.symm
  · rw [Device.jmpCond, hengine]
    rfl
  · rw [Device.jmpCond, hengine]
    rfl
  · rw [Device.jmpCond, hengine]
    rfl
  · rw [hroom, hengine, hdepth]
    rfl

/-- XLOOP and YLOOP count down, and hold while the count is not 0. -/
theorem jmpCond_loop {c r : Nat} (hc : c = 2 ∧ r = peX ∨ c = 4 ∧ r = peY) (x : Engine) :
    (d.setEngine n x).jmpCond n c = ((x.rg r + 2 ^ 32 - 1) % 2 ^ 32 != 0, x.setRg r ((x.rg r + 2 ^ 32 - 1) % 2 ^ 32)) := by
  obtain ⟨rfl, rfl⟩ | ⟨rfl, rfl⟩ := hc
  · rw [Device.jmpCond, engine_setEngine_same, rg_setRg_same, Nat.mod_mod]
  · rw [Device.jmpCond, engine_setEngine_same, rg_setRg_same, Nat.mod_mod]

/-- A jump as its condition has it (R223). -/
theorem peExec_jmp {c j : Nat} {x y : Engine} {b : Bool} (hevout : y.rg peEvout = 0) (hwait : y.wait = .none)
    (hcond : (d.setEngine n x).jmpCond n c = (b, atTick y)) : (d.setEngine n x).peExec n (.jmp c j) =
      d.setEngine n (if b then { engNext y 1 with pc := j } else engNext y 1) := by
  have hjump : { atTick y with pc := j }.pass = { engNext y 1 with pc := j } := by
    cases y
    cases hwait
    rfl
  rw [Device.peExec, hcond]
  dsimp only
  rw [engUpdate_setEngine]
  · cases b with
    | true => exact congrArg _ hjump
    | false => rfl
  · cases b <;> exact hevout

theorem pe_jmp {q : Nat × Bool} {j : Nat} (hq : q ∈ jmpConds d n (d.engine n)) (hj : j < 64) (h : engAt d n (0x1000 + 256 * q.1 + j)) :
    d.peCommand n .jmp = d.setEngine n (if q.2 then { engNext (d.engine n) 1 with pc := j } else engNext (d.engine n) 1) := by
  obtain ⟨hdecode, hrow⟩ := decode_jmp q.1 (jmpConds_lt q hq) j hj
  rw [← hrow, peCommand_plain h hdecode nofun]
  exact peExec_jmp (evout_of_at h) (wait_of_at h) (jmpCond_eq q hq)

theorem pe_loop {c r j v : Nat} (hc : c = 2 ∧ r = peX ∨ c = 4 ∧ r = peY) (hj : j < 64) (h : engAt d n (0x1000 + 256 * c + j))
    (hv : ((d.engine n).rg r + 2 ^ 32 - 1) % 2 ^ 32 = v) : d.peCommand n .jmp = d.setEngine n
      (if v = 0 then engNext ((d.engine n).setRg r v) 1 else { engNext ((d.engine n).setRg r v) 1 with pc := j }) := by
  have hc12 : c < 12 := by omega
  obtain ⟨hdecode, hrow⟩ := decode_jmp c hc12 j hj
  have hread : (atTick (d.engine n)).rg r = (d.engine n).rg r := rfl
  have hcond := jmpCond_loop (d := d) (n := n) hc (atTick (d.engine n))
  rw [hread, hv] at hcond
  have hkeeps : r ≠ peEvout := by
    obtain ⟨_, rfl⟩ | ⟨_, rfl⟩ := hc <;> decide
  have hevout : ((d.engine n).setRg r v).rg peEvout = 0 := (rg_setRg_other _ _ hkeeps).trans (evout_of_at h)
  rw [← hrow, peCommand_plain h hdecode nofun, peExec_jmp hevout (wait_of_at h) hcond]
  by_cases h0 : v = 0
  · rw [if_pos h0, if_neg (by rw [h0]; decide)]
  · rw [if_neg h0, if_pos (bne_iff_ne.mpr h0)]

/-- The end of a WAIT for a tile flag (R224). -/
theorem waitDone_flag {x : Engine} (hevout : x.rg peEvout = 0) :
    (d.setEngine n x).waitDone n 2 k = d.setEngine n x.advance := by
  have hsync : (x.flag peClkdiv 0 && (2 == 0 || 2 == 1 || 2 == 3)) = false := Bool.and_false _
  unfold Device.waitDone
  rw [engine_setEngine_same]
  dsimp only
  rw [hsync, if_neg (by decide), if_neg (by simp), engUpdate_setEngine, engEvent_setEngine]
  · exact hevout
  · decide
  · exact hevout

theorem waitHolds_flag (d : Device) (n k : Nat) (seen : Bool) : d.waitHolds n true 2 k seen = bitOf (d.tileReg (n / 8) 48) k :=
  beq_true _

theorem pe_wait (hk : k < 8) (h : engAt d n (0x2A00 + k)) : d.peCommand n .wait = d.setEngine n
    (if bitOf (d.tileReg (n / 8) 48) k then engNext (d.engine n) 1
     else { engThere (d.engine n) 1 with wait := .cond false (engThere (d.engine n) 1).passed }) := by
  obtain ⟨hdecode, hrow⟩ := decode_waitFlag k hk
  have hholds : (d.setEngine n (atTick (d.engine n))).waitHolds n true 2 k false = bitOf (d.tileReg (n / 8) 48) k := waitHolds_flag ..
  have hevout : (atTick (d.engine n)).pass.rg peEvout = 0 := evout_of_at h
  rw [← hrow, peCommand_plain h hdecode nofun, Device.peExec, hholds, engine_setEngine_same]
  by_cases hflag : bitOf (d.tileReg (n / 8) 48) k = true
  · rw [if_pos (by simp [hflag]), if_pos hflag, setEngine_setEngine, waitDone_flag hevout]
    rfl
  · rw [if_neg (by simp [hflag]), if_neg hflag, setEngine_setEngine]
    rfl

end

end Sys2Proof.Proofs
end

section
/-! PROOF. The pin engines' instructions that move data (R219, R225 to R231), and the word that stops an engine (R232). -/

open Sys2Proof Sys2Proof.Machine Sys2Proof.Claims

namespace Sys2Proof.Proofs

section
variable {d : Device} {n w k : Nat}

/-! ### IN and OUT (R225) -/

/-- An instruction that changes one register and goes on. -/
theorem engStep_setRg {x : Engine} {r v : Nat} (hr : r ≠ peEvout) (hevout : x.rg peEvout = 0) :
    (d.setEngine n (atTick x)).engStep n (fun y => (y.setRg r v).advance) = d.setEngine n (engNext (x.setRg r v) 1) :=
  engStep_advance (f := fun y => y.setRg r v) (setRg_atTick ..) ((rg_setRg_other _ _ hr).trans hevout)

theorem pe_in (hk : k < 32) (h : engAt d n (0x3100 + k)) (hauto : (d.engine n).flag peShift 2 = false) :
    d.peCommand n .shiftIn = d.setEngine n (engNext (((d.engine n).setRg peRsh
      (shiftInto ((d.engine n).flag peShift 0) ((d.engine n).rg peRsh) ((d.engine n).rg peX) (shiftN k))).setFld peScnt 8 6
        (min ((d.engine n).fld peScnt 8 6 + shiftN k) 32)) 1) := by
  obtain ⟨hdecode, hrow⟩ := decode_inX k hk
  have hsource : (d.setEngine n (atTick (d.engine n))).inSource n 1 = (d.engine n).rg peX := by
    rw [Device.inSource, engine_setEngine_same, rg_atTick]
  rw [← hrow, peCommand_plain h hdecode nofun, Device.peExec, Device.peIn]
  dsimp only
  rw [engine_setEngine_same, flag_atTick, hauto, hsource, Bool.false_and, Bool.false_and, if_neg Bool.false_ne_true, if_pos rfl,
    flag_atTick, rg_atTick, setRg_atTick, setFld_atTick, advance_pass_atTick, engUpdate_setEngine, Engine.rfil, fld_atTick]
  exact (rg_setFld_other _ _ _ _ (by decide)).trans ((rg_setRg_other _ _ (by decide)).trans (evout_of_at h))

theorem pe_out (hk : k < 32) (h : engAt d n (0x4200 + k)) (hauto : (d.engine n).flag peShift 3 = false) :
    d.peCommand n .shiftOut = d.setEngine n (engNext ((((d.engine n).setRg peTsh
      (if (d.engine n).flag peShift 1 then (d.engine n).rg peTsh / 2 ^ shiftN k else (d.engine n).rg peTsh * 2 ^ shiftN k % 2 ^ 32)).setFld
        peScnt 0 6 ((d.engine n).fld peScnt 0 6 - shiftN k)).setRg peX
      (if (d.engine n).flag peShift 1 then (d.engine n).rg peTsh % 2 ^ shiftN k else (d.engine n).rg peTsh / 2 ^ (32 - shiftN k))) 1) := by
  obtain ⟨hdecode, hrow⟩ := decode_outX k hk
  rw [← hrow, peCommand_plain h hdecode nofun, Device.peExec, Device.peOut]
  rw [engine_setEngine_same, flag_atTick, hauto, Bool.false_and, if_pos rfl, Device.peShiftOut, engine_setEngine_same, flag_atTick, rg_atTick,
    setRg_atTick, setFld_atTick, engUpdate_setEngine]
  · exact engStep_setRg (by decide)
      ((rg_setFld_other _ _ _ _ (by decide)).trans ((rg_setRg_other _ _ (by decide)).trans (evout_of_at h)))
  · exact (rg_setFld_other _ _ _ _ (by decide)).trans ((rg_setRg_other _ _ (by decide)).trans (evout_of_at h))

/-! ### PUSH and PULL (R226) -/

theorem fifoDepth_atTick (k : Nat) : (d.setEngine n (atTick (d.engine n))).fifoDepth k = d.fifoDepth k := by
  have hshift : (atTick (d.engine n)).rg peShift = (d.engine n).rg peShift := rfl
  exact fifoDepth_setEngine hshift k

theorem evout_pushed {x : Engine} (h : x.rg peEvout = 0) : x.pushed.rg peEvout = 0 :=
  (rg_setFld_other _ _ _ _ (by decide)).trans ((rg_setRg_other _ _ (by decide)).trans h)

theorem pulled_cons {x : Engine} {v : Word} {r : List Word} (htx : x.tx = v :: r) :
    x.pulled = { (x.setRg peTsh v.toNat).setFld peScnt 0 6 x.txlen with tx := r } := by rw [Engine.pulled, htx]

theorem evout_pulled {x : Engine} (h : x.rg peEvout = 0) : x.pulled.rg peEvout = 0 := by
  unfold Engine.pulled
  split
  · exact (rg_setFld_other _ _ _ _ (by decide)).trans ((rg_setRg_other _ _ (by decide)).trans h)
  · exact h

theorem pe_push (h : engAt d n 0x5000) (hroom : (d.engine n).rx.length < d.fifoDepth n) :
    d.peCommand n .push = d.setEngine n (engNext (d.engine n).pushed 1) := by
  have hroom' : (atTick (d.engine n)).rx.length < (d.setEngine n (atTick (d.engine n))).fifoDepth n := by
    rw [fifoDepth_atTick]
    exact hroom
  have hevout : (atTick (d.engine n)).pushed.advance.pass.rg peEvout = 0 := evout_pushed (x := atTick (d.engine n)) (evout_of_at h)
  refine (peCommand_plain h (i := .push false false) rfl nofun).trans ?_
  rw [Device.peExec, Device.pePush]
  rw [engine_setEngine_same, if_neg (by omega), Bool.false_and, if_neg Bool.false_ne_true, if_pos hroom', engUpdate_setEngine _ _ hevout,
    engEvent_setEngine _ _ hevout (by decide)]
  rfl

theorem pe_pull (h : engAt d n 0x5800) {v : Word} {r : List Word} (htx : (d.engine n).tx = v :: r) (hdepth : d.fifoDepth n ≠ 0) :
    d.peCommand n .pull = d.setEngine n
      (engNext { ((d.engine n).setRg peTsh v.toNat).setFld peScnt 0 6 (d.engine n).txlen with tx := r } 1) := by
  have htx' : (atTick (d.engine n)).tx = v :: r := htx
  have hdepth' : (d.setEngine n (atTick (d.engine n))).fifoDepth n ≠ 0 := by
    rw [fifoDepth_atTick]
    exact hdepth
  have hsome : (atTick (d.engine n)).tx.isEmpty = false := by rw [htx']; rfl
  have hevout : (atTick (d.engine n)).pulled.advance.pass.rg peEvout = 0 := evout_pulled (x := atTick (d.engine n)) (evout_of_at h)
  refine (peCommand_plain h (i := .pull false false) rfl nofun).trans ?_
  rw [Device.peExec, Device.pePull]
  rw [engine_setEngine_same, if_neg hdepth', Bool.false_and, if_neg Bool.false_ne_true, if_pos hsome, engUpdate_setEngine _ _ hevout,
    engEvent_setEngine _ _ hevout (by decide), pulled_cons htx']
  rfl

/-! ### MOV, SET and CNT (R227 to R229) -/

theorem pe_mov {op v : Nat} (h : engAt d n w) (hdecode : peDecode w = .mov 2 op 2)
    (hv : (if op = 3 then ((d.engine n).rg peX + (d.engine n).rg peY) % 2 ^ 32 else movOp op ((d.engine n).rg peY)) = v) :
    d.peCommand n (peRow w) = d.setEngine n (engNext ((d.engine n).setRg peX v) 1) := by
  have hsource : (d.setEngine n (atTick (d.engine n))).movSource n 2 = (d.engine n).rg peY := by
    rw [Device.movSource, engine_setEngine_same]
    rfl
  have hmov (e : Device) : e.peMov n 2 op 2 = e.engStep n fun y => (y.setRg peX (if op = 3 then
      ((e.engine n).rg peX + e.movSource n 2) % 2 ^ 32 else movOp op (e.movSource n 2))).advance := rfl
  rw [peCommand_plain h hdecode nofun, Device.peExec, hmov, engine_setEngine_same, hsource]
  exact hv ▸ engStep_setRg (by decide) (evout_of_at h)

theorem pe_setX (hk : k < 32) (h : engAt d n (0x7200 + k)) : d.peCommand n .set = d.setEngine n (engNext ((d.engine n).setRg peX k) 1) := by
  obtain ⟨hdecode, hrow⟩ := decode_setX k hk
  rw [← hrow, peCommand_plain h hdecode nofun]
  exact engStep_setRg (by decide) (evout_of_at h)

theorem pe_setY (hk : k < 32) (h : engAt d n (0x7300 + k)) : d.peCommand n .set = d.setEngine n (engNext ((d.engine n).setRg peY k) 1) := by
  obtain ⟨hdecode, hrow⟩ := decode_setY k hk
  rw [← hrow, peCommand_plain h hdecode nofun]
  exact engStep_setRg (by decide) (evout_of_at h)

theorem pe_cntClr (h : engAt d n 0x9000) :
    d.peCommand n .cntClr = d.setEngine n (engNext (((d.engine n).setRg peCnt 0).setFlag peStat 21 false) 1) := by
  have hexec (e : Device) : e.peExec n (.cnt 0) = e.engStep n fun y => ((y.setRg peCnt 0).setFlag peStat 21 false).advance := rfl
  have hevout : (((d.engine n).setRg peCnt 0).setFlag peStat 21 false).rg peEvout = 0 :=
    (rg_setFlag_other _ _ _ (by decide)).trans ((rg_setRg_other _ _ (by decide)).trans (evout_of_at h))
  have hcommutes : ((atTick (d.engine n)).setRg peCnt 0).setFlag peStat 21 false =
      atTick (((d.engine n).setRg peCnt 0).setFlag peStat 21 false) := by rw [setRg_atTick, setFlag_atTick]
  refine (peCommand_at h (i := .cnt 0) rfl).trans ?_
  rw [hexec, show (PeInstr.cnt 0).increments = 0 from rfl, addCount_zero]
  exact engStep_advance (f := fun y => (y.setRg peCnt 0).setFlag peStat 21 false) hcommutes hevout

theorem pe_cntArm (h : engAt d n 0x9800) : d.peCommand n .cntArm = d.setEngine n (engNext ((d.engine n).setFlag peStat 21 false) 1) := by
  have hexec (e : Device) : e.peExec n (.cnt 2) = e.engStep n fun y => (y.setFlag peStat 21 false).advance := rfl
  refine (peCommand_at h (i := .cnt 2) rfl).trans ?_
  rw [hexec, show (PeInstr.cnt 2).increments = 0 from rfl, addCount_zero]
  exact engStep_advance (f := fun y => y.setFlag peStat 21 false) (setFlag_atTick ..) ((rg_setFlag_other _ _ _ (by decide)).trans (evout_of_at h))

theorem pe_cntInc (h : engAt d n 0x9400) : d.peCommand n .cntInc = d.setEngine n (engNext ((d.engine n).addCount 1) 1) := by
  have hexec (e : Device) : e.peExec n (.cnt 1) = e.engStep n Engine.advance := rfl
  have hevout : ((d.engine n).addCount 1).rg peEvout = 0 := (rg_addCount_other (le_refl 1) _ (by decide) (by decide)).trans (evout_of_at h)
  refine (peCommand_at h (i := .cnt 1) rfl).trans ?_
  rw [hexec, show (PeInstr.cnt 1).increments = 1 from rfl]
  generalize (d.engine n).addCount 1 = y at hevout ⊢
  exact engStep_setEngine d n (x := atTick y) hevout

/-! ### EDGE (R219) -/

theorem lowerOwns_setEngine (y : Engine) (p : Nat) : (d.setEngine n y).lowerOwns n p = d.lowerOwns n p := by
  unfold Device.lowerOwns
  rw [Bool.eq_iff_iff]
  simp only [List.any_eq_true]
  refine exists_congr fun k => and_congr_right fun hk => ?_
  have hlower : k < n % 8 := List.mem_range.mp hk
  rw [engine_setEngine_other _ _ (by omega)]

/-- EDGE places its transition, where the run offset names a pad that the engine owns. -/
theorem pe_edge {v ph a p t : Nat} (hk : k < 32) (hv : v < 2) (hph : ph < 8) (ha : a < 2) (hpad : (d.engine n).padOf k = some p)
    (howner : d.lowerOwns n p = false) (h : engAt d n (0x8000 + 128 * k + 64 * v + 8 * ph + 4 * a))
    (ht : 8 * ((engThere (d.engine n) 1).passed + 1) + (ph + if a = 1 then bitsOf (d.engine n).acc 5 3 else 0) = t) :
    d.peCommand n .edge = d.setEngine n
      { engNext (d.engine n) 1 with coming := insertComing (t, p, decide (v = 1)) (engThere (d.engine n) 1).coming } := by
  obtain ⟨hdecode, hrow⟩ := decode_edge k hk v hv ph hph a ha
  have hpad' : (atTick (d.engine n)).padOf k = some p := hpad
  have ht' : 8 * ((atTick (d.engine n)).passed + 1) + (ph + if decide (a = 1) = true then bitsOf (atTick (d.engine n)).acc 5 3 else 0) = t := by
    rw [← ht]
    simp only [decide_eq_true_eq]
    rfl
  rw [← hrow, peCommand_plain h hdecode nofun, Device.peExec]
  dsimp only
  rw [engine_setEngine_same, ht', Device.placePin, engine_setEngine_same, hpad']
  dsimp only
  rw [lowerOwns_setEngine, howner, if_neg Bool.false_ne_true, setEngine_setEngine, engStep_setEngine]
  · rfl
  · exact evout_of_at h

/-! ### DLY (R231), and the word that stops the engine (R232) -/

theorem pe_dly_zero (h : engAt d n 0xB000) : d.peCommand n .dly = d.setEngine n (engNext (d.engine n) 1) :=
  (peCommand_plain h (i := .dly 0) rfl nofun).trans (engStep_advance (f := id) rfl (evout_of_at h))

theorem pe_dly {j : Nat} (hpos : 1 ≤ j) (hj : j < 4096) (h : engAt d n (0xB000 + j)) :
    d.peCommand n .dly = d.setEngine n { engThere (d.engine n) 1 with wait := .delay j } := by
  obtain ⟨hdecode, hrow⟩ := decode_dly hj
  rw [← hrow, peCommand_plain h hdecode nofun, Device.peExec, if_neg (by omega), engine_setEngine_same, setEngine_setEngine]
  rfl

/-- An error stops the engine (R232); where its source is disabled at most a count adds to it. -/
theorem engError_disabled {x y : Engine} {code : Nat} (hn : n < 64) (hoff : d.flag (Reg.RMS_CFG (0x18 + n / 8)) 12 = false)
    (hy : { (x.setFld peStat 22 2 code).pass with run := false, wait := .none } = y) (hevout : y.rg peEvout = 0) :
    (d.setEngine n x).engError n code = d.setEngine n y ∨
    (d.setEngine n x).engError n code = (d.setEngine n y).bump (Reg.RMS_STATN (0x18 + n / 8)) 16 16 := by
  have hraise := raise_disabled (d := d.setEngine n y) (n + 256 * code) (by omega) ((flag_setEngine ..).trans hoff)
  have hengine : ((d.setEngine n y).bump (Reg.RMS_STATN (0x18 + n / 8)) 16 16).engine n = y :=
    (engine_of_eng (Device.bump_eng ..) n).trans (engine_setEngine_same ..)
  rw [Device.engError, engine_setEngine_same, setEngine_setEngine, hy]
  refine hraise.imp (fun h => ?_) fun h => ?_
  · rw [h, engEvent_setEngine _ _ hevout (by decide)]
  · rw [h, engEvent_silent _ (by rwa [hengine]) (by decide)]

theorem pe_undefined {j : Nat} (hlow : 0xC000 ≤ j) (hhigh : j < 0x10000) (h : engAt d n j) (hn : n < 64)
    (hoff : d.flag (Reg.RMS_CFG (0x18 + n / 8)) 12 = false) {y : Engine}
    (hy : { engThere ((d.engine n).setFld peStat 22 2 1) 1 with run := false, wait := .none } = y) :
    d.peCommand n .undefined = d.setEngine n y ∨
    d.peCommand n .undefined = (d.setEngine n y).bump (Reg.RMS_STATN (0x18 + n / 8)) 16 16 := by
  obtain ⟨hdecode, hrow⟩ := decode_undefined hlow hhigh
  have hevout : y.rg peEvout = 0 := by
    rw [← hy, rg_stop_engThere]
    exact (rg_setFld_other _ _ _ _ (by decide)).trans (evout_of_at h)
  rw [← hrow, peCommand_plain h hdecode nofun, Device.peExec]
  exact engError_disabled hn hoff (by rw [setFld_atTick, pass_atTick, hy]) hevout

end

/-! ### Tile flags and lines (R230, R245) -/

section
variable (d : Device) (t : Nat)

theorem tileReg_lt (r : Nat) : d.tileReg t r < 2 ^ 32 := BitVec.isLt _

theorem tileReg_setTileReg (r u j v : Nat) :
    (d.setTileReg t r v).tileReg u j = if 64 * t + r = 64 * u + j then v % 2 ^ 32 else d.tileReg u j := by
  unfold Device.tileReg Device.setTileReg
  rw [Store.get_put]
  split <;> simp

@[simp] theorem tileReg_setTileReg_same (r v : Nat) : (d.setTileReg t r v).tileReg t r = v % 2 ^ 32 := by
  rw [tileReg_setTileReg, if_pos rfl]

theorem tileReg_setTileReg_other {r j : Nat} (v : Nat) (h : r ≠ j) : (d.setTileReg t r v).tileReg t j = d.tileReg t j := by
  rw [tileReg_setTileReg, if_neg (by omega)]

theorem tileReg_of_eng {d e : Device} (h : e.eng = d.eng) (t r : Nat) : e.tileReg t r = d.tileReg t r := by
  rw [Device.tileReg, Device.tileReg, h]

/-- A set of tile flags alone raises no line. -/
theorem tileSet_flag {k : Nat} (hk : k < 8) : d.tileSet t (2 ^ k) = d.setTileReg t 48 (d.tileReg t 48 ||| 2 ^ k % 2 ^ 24) := by
  have hline (i : Nat) : bitOf (2 ^ k) (8 + i) = false := by
    rw [bitOf_eq_testBit, Nat.testBit_two_pow]
    exact decide_eq_false (by omega)
  unfold Device.tileSet
  simp only [hline, Bool.false_and, if_false, Bool.false_eq_true]
  exact List.foldl_fixed' (fun _ => rfl) _

end

section
variable {d : Device} {n k : Nat}

/-- FLAG sets its flag and goes on. -/
theorem pe_flag (hk : k < 8) (h : engAt d n (0xA800 + k)) : d.peCommand n .flag =
    (d.setTileReg (n / 8) 48 (d.tileReg (n / 8) 48 ||| 2 ^ k % 2 ^ 24)).setEngine n (engNext (d.engine n) 1) := by
  obtain ⟨hdecode, hrow⟩ := decode_flag k hk
  have hset : (d.setEngine n (atTick (d.engine n))).tileSet (n / 8) (2 ^ k) =
      (d.setTileReg (n / 8) 48 (d.tileReg (n / 8) 48 ||| 2 ^ k % 2 ^ 24)).setEngine n (atTick (d.engine n)) := tileSet_flag _ _ hk
  rw [← hrow, peCommand_plain h hdecode nofun, Device.peExec, Device.peFlag]
  dsimp only
  rw [if_neg Bool.false_ne_true, if_pos rfl, if_neg Bool.false_ne_true, hset,
    engEvent_setEngine _ _ (x := atTick (d.engine n)) (evout_of_at h) (by decide)]
  exact engStep_advance (f := id) rfl (evout_of_at h)

/-! ### What completes later (R224, R230, R231, R238) -/

theorem waitComplete_flag {seen : Bool} {since m : Nat} (hk : k < 8) (h : engWaits d n (0x2A00 + k) (.cond seen since)) :
    d.waitComplete n m = if bitOf (d.tileReg (n / 8) 48) k then
      d.setEngine n { (clocks (max m 1) (d.engine n)).settle with pc := pcAfter (d.engine n), wait := .none } else d := by
  obtain ⟨⟨hpresent, hevout, hcounts, _⟩, hrun, hwait, hword⟩ := h
  obtain ⟨hdecode, _⟩ := decode_waitFlag k hk
  have hedges := edges_watches (max m 1) hcounts (.inr ⟨seen, since, hwait⟩)
  have hkeeps := clocks_keeps (max m 1) (d.engine n)
  have hquiet : (clocks (max m 1) (d.engine n)).rg peEvout = 0 := by
    rw [hkeeps]
    exact hevout
  have hgo : (clocks (max m 1) (d.engine n)).settle.advance =
      { (clocks (max m 1) (d.engine n)).settle with pc := pcAfter (d.engine n), wait := .none } := by
    rw [hkeeps]
    rfl
  unfold Device.waitComplete
  dsimp only
  rw [hwait, hword, hdecode]
  dsimp only
  rw [hedges, engUpdate_silent _ hquiet, Device.engSettle, engine_setEngine_same, setEngine_setEngine, waitHolds_flag, hpresent, hrun,
    waitDone_flag (x := (clocks (max m 1) (d.engine n)).settle) hquiet, hgo]
  rfl

theorem flagWaitComplete_clear {m : Nat} (hk : k < 8) (h : engWaits d n (0xAC00 + k) .flag) (hclear : bitOf (d.tileReg (n / 8) 48) k = false) :
    d.flagWaitComplete n m = d.setEngine n (engNext (d.engine n) (max m 1)) := by
  obtain ⟨⟨hpresent, hevout, hcounts, _⟩, hrun, hwait, hword⟩ := h
  obtain ⟨hdecode, _⟩ := decode_flagWait k hk
  obtain ⟨j, hj⟩ : ∃ j, max m 1 = j + 1 := ⟨max m 1 - 1, by omega⟩
  have hbefore : m - 1 = j := by omega
  have hstall : (ticks j (d.engine n)).stalled = false := (stalled_of_wait (wait_ticks _ _)).trans (Watches.stalled (.inl hwait))
  have htick : (d.engine n).atTick m = atTick (ticks j (d.engine n)) := by
    rw [Engine.atTick, hbefore, waitTicks_watches j hcounts (.inl hwait), toTick_eq (countsNothing_ticks hcounts) hstall]
    rfl
  have hnext : (atTick (ticks j (d.engine n))).advance.pass = engNext (d.engine n) (j + 1) := by
    have hthere : atTick (ticks j (d.engine n)) = (atEdge (ticks j (d.engine n))).settle := rfl
    rw [engNext, engThere, ticks_succ, ← pcAfter_ticks j]
    rfl
  have hquiet : (engNext (d.engine n) (j + 1)).rg peEvout = 0 := by
    rw [engNext, engThere, ticks_keeps]
    exact hevout
  unfold Device.flagWaitComplete
  dsimp only
  rw [hwait, hword, hdecode]
  dsimp only
  rw [hpresent, hrun, if_neg Bool.false_ne_true, hclear, htick, hnext, engUpdate_silent _ hquiet, hj]
  rfl

theorem dlyComplete_eq {left : Nat} (hk : k < 4096) (h : engWaits d n (0xB000 + k) (.delay left)) :
    d.dlyComplete n = d.setEngine n (engNext (d.engine n) left) := by
  obtain ⟨⟨hpresent, hevout, hcounts, _⟩, hrun, hwait, hword⟩ := h
  obtain ⟨hdecode, _⟩ := decode_dly hk
  have hpassed : ((d.engine n).waitTicks left).settle.advance = engNext (d.engine n) left := by
    rw [waitTicks_delay hcounts hwait, engNext, engThere, ← pcAfter_ticks left]
    rfl
  have hquiet : (engNext (d.engine n) left).rg peEvout = 0 := by
    rw [engNext, engThere, ticks_keeps]
    exact hevout
  unfold Device.dlyComplete
  dsimp only
  rw [hwait, hword, hdecode]
  dsimp only
  rw [hpresent, hrun, hpassed, engUpdate_silent _ hquiet]
  rfl

end

end Sys2Proof.Proofs
end

section
/-! PROOF. EnginesExecute (R222 to R232, R238): the end of a stalled PULL, what an instruction can change beyond its engine, and the
statement. -/

open Sys2Proof Sys2Proof.Machine Sys2Proof.Claims

namespace Sys2Proof.Proofs

/-! ### What stands while edges pass -/

/-- The second engine is the first one some edges later: what a passing edge counts and times has moved, and nothing else. -/
structure EdgesPass (x y : Engine) : Prop where
  rg : ∀ r, r ∉ [peCnt, peStat, peStallcyc] → y.rg r = x.rg r
  prog : y.prog = x.prog
  tx : y.tx = x.tx
  pc : y.pc = x.pc
  run : y.run = x.run
  wait : (∀ k, x.wait ≠ .delay k) → y.wait = x.wait

section
variable {x y z : Engine}

theorem EdgesPass.refl (x : Engine) : EdgesPass x x := ⟨fun _ _ => rfl, rfl, rfl, rfl, rfl, fun _ => rfl⟩

theorem EdgesPass.trans (h : EdgesPass x y) (k : EdgesPass y z) : EdgesPass x z :=
  ⟨fun r hr => (k.rg r hr).trans (h.rg r hr), k.prog.trans h.prog, k.tx.trans h.tx, k.pc.trans h.pc, k.run.trans h.run,
    fun hx => (k.wait (by rwa [h.wait hx])).trans (h.wait hx)⟩

theorem edgesPass_setRg {r : Nat} (hr : r ∈ [peCnt, peStat, peStallcyc]) (x : Engine) (v : Nat) : EdgesPass x (x.setRg r v) :=
  ⟨fun _ ho => rg_setRg_other _ _ fun h => ho (h ▸ hr), rfl, rfl, rfl, rfl, fun _ => rfl⟩

theorem edgesPass_addCount (n : Nat) (x : Engine) : EdgesPass x (x.addCount n) := by
  unfold Engine.addCount
  dsimp only
  split
  · exact (edgesPass_setRg (by decide) _ _).trans (edgesPass_setRg (by decide) _ _)
  · split
    · exact .refl x
    · exact edgesPass_setRg (by decide) _ _

theorem edgesPass_clock (more : Nat) (x : Engine) : EdgesPass x (x.clock more) := by
  have htimes : EdgesPass x { x with passed := x.passed + 1, lead := x.lead + 1 } := ⟨fun _ _ => rfl, rfl, rfl, rfl, rfl, fun _ => rfl⟩
  have hcounts := htimes.trans (edgesPass_addCount (x.counts (x.passed + 1 == x.now) + more) _)
  unfold Engine.clock
  dsimp only
  split
  · exact hcounts.trans (edgesPass_setRg (by decide) _ _)
  · exact hcounts

theorem edgesPass_pass (x : Engine) : EdgesPass x x.pass := ⟨fun _ _ => rfl, rfl, rfl, rfl, rfl, fun _ => rfl⟩

theorem edgesPass_waitTick (x : Engine) : EdgesPass x x.waitTick := by
  unfold Engine.waitTick
  split
  · next k hwait => exact ⟨fun _ _ => rfl, rfl, rfl, rfl, rfl, fun h => absurd hwait (h _)⟩
  · exact edgesPass_pass x

theorem edgesPass_waitEdge (x : Engine) : EdgesPass x x.waitEdge := by
  unfold Engine.waitEdge
  split
  · exact (edgesPass_clock 0 x).trans (edgesPass_waitTick _)
  · exact edgesPass_clock 0 x

theorem edgesPass_edges (n : Nat) (x : Engine) : EdgesPass x (x.edges n) := by
  induction n generalizing x with
  | zero => exact .refl x
  | succ n ih =>
    unfold Engine.edges
    split
    · exact .refl x
    · exact (edgesPass_waitEdge x).trans (ih _)

theorem edgesPass_toTickWith (more : Nat) (x : Engine) : EdgesPass x (x.toTickWith more) := (edgesPass_edges _ x).trans (edgesPass_clock more _)

theorem edgesPass_waitTicks (n : Nat) (x : Engine) : EdgesPass x (x.waitTicks n) := by
  induction n generalizing x with
  | zero => exact .refl x
  | succ n ih => exact ((edgesPass_toTickWith 0 x).trans (edgesPass_waitTick _)).trans (ih _)

theorem edgesPass_settle (x : Engine) : EdgesPass x x.settle := ⟨fun _ _ => rfl, rfl, rfl, rfl, rfl, fun _ => rfl⟩

theorem edgesPass_atTick (n : Nat) (x : Engine) : EdgesPass x (x.atTick n) :=
  ((edgesPass_waitTicks (n - 1) x).trans (edgesPass_toTickWith 0 _)).trans (edgesPass_settle _)

/-! ### A stalled PULL (R238) -/

theorem nextPc_congr (hpc : y.pc = x.pc) (hwrap : y.rg peWrap = x.rg peWrap) : y.nextPc = pcAfter x := by
  rw [Engine.nextPc, Engine.flag, Engine.fld, Engine.fld, hpc, hwrap]
  rfl

theorem txlen_lt (x : Engine) : x.txlen < 2 ^ 6 := by
  have hfield : x.fld peShift 9 5 < 2 ^ 5 := Nat.mod_lt _ (by decide)
  unfold Engine.txlen shiftN
  split <;> omega

/-- The engine that a PULL has served. -/
theorem pulled_later (h : EdgesPass x z) {v : Word} {r : List Word} (htx : x.tx = v :: r) :
    let y := { z.pulled with wait := .none }.advance.pass
    y.tx = r ∧ y.rg peTsh = v.toNat ∧ y.fld peScnt 0 6 = x.txlen ∧ y.pc = pcAfter x ∧ y.wait = .none ∧ y.run = x.run := by
  have hlen : z.txlen = x.txlen := by rw [Engine.txlen, Engine.fld, h.rg _ (by decide), Engine.txlen, Engine.fld]
  rw [pulled_cons (h.tx.trans htx), hlen]
  refine ⟨rfl, ?_, ?_, ?_, rfl, h.run⟩
  · exact ((rg_setFld_other _ _ _ _ (by decide)).trans (rg_setRg_same ..)).trans (Nat.mod_eq_of_lt v.isLt)
  · exact (engFld_setFld_same _ _ _ (by decide)).trans (Nat.mod_eq_of_lt (txlen_lt x))
  · exact nextPc_congr h.pc ((rg_setFld_other _ _ _ _ (by decide)).trans ((rg_setRg_other _ _ (by decide)).trans (h.rg _ (by decide))))

end

theorem stallEnd_pull {d : Device} {n : Nat} (m : Nat) (h : engWaits d n 0x5C00 .pull) (htx : (d.engine n).tx ≠ []) :
    d.stallEnd n m = d.setEngine n { ((d.engine n).atTick m).pulled with wait := .none }.advance.pass := by
  obtain ⟨⟨hpresent, hevout, _, _⟩, hrun, hwait, hword⟩ := h
  have hpasses := edgesPass_atTick m (d.engine n)
  have hsome : (d.engine n).tx.isEmpty = false := List.isEmpty_eq_false_iff.mpr htx
  have hquiet : ({ ((d.engine n).atTick m).pulled with wait := .none } : Engine).rg peEvout = 0 :=
    evout_pulled ((hpasses.rg _ (by decide)).trans hevout)
  unfold Device.stallEnd
  dsimp only
  rw [hpresent, hrun, hwait]
  dsimp only
  rw [hsome, if_neg (by simp), if_neg Bool.false_ne_true, hword, show peDecode 0x5C00 = .pull true false from rfl]
  dsimp only
  rw [engUpdate_silent _ hquiet, engEvent_setEngine _ _ hquiet (by decide), engStep_setEngine]
  exact hquiet

/-! ### What an instruction can change -/

/-- Of the engines only n changes, and nothing else but what the event fabric takes (R246). -/
structure EngineOnly (n : Nat) (d e : Device) : Prop where
  others : ∀ i, i ≠ n → e.engine i = d.engine i
  eq : e = { d with eng := e.eng, evf := e.evf, regs := e.regs }
  regs : onlyRegs d e ((List.range 4).map Reg.EVF_MERGE)

theorem onlyRegs_chPulse (d : Device) {k : Nat} (hk : k < 128) : onlyRegs d (d.chPulse k) ((List.range 4).map Reg.EVF_MERGE) := by
  intro o ho
  unfold Device.chPulse
  split
  · rfl
  · split
    · refine Device.rd_wr_other _ _ fun h => ho (List.mem_map.mpr ⟨k / 32, List.mem_range.mpr (by omega), h⟩)
    · rfl

section
variable {n : Nat} {d e f : Device}

theorem EngineOnly.refl (n : Nat) (d : Device) : EngineOnly n d d := ⟨fun _ _ => rfl, rfl, fun _ _ => rfl⟩

theorem EngineOnly.trans (h : EngineOnly n d e) (k : EngineOnly n e f) : EngineOnly n d f := by
  refine ⟨fun i hi => (k.others i hi).trans (h.others i hi), ?_, fun o ho => (k.regs o ho).trans (h.regs o ho)⟩
  rw [k.eq, h.eq]

theorem engineOnly_ite {c : Prop} [Decidable c] (he : EngineOnly n d e) (hf : EngineOnly n d f) : EngineOnly n d (if c then e else f) := by
  split <;> assumption

theorem engineOnly_foldl {β : Type} (g : Device → β → Device) (l : List β) (h : ∀ e b, EngineOnly n e (g e b)) :
    EngineOnly n d (l.foldl g d) :=
  List.foldlRecOn (motive := EngineOnly n d) l g (.refl n d) fun e he b _ => he.trans (h e b)

theorem engineOnly_setEngine (n : Nat) (d : Device) (y : Engine) : EngineOnly n d (d.setEngine n y) :=
  ⟨fun _ hi => engine_setEngine_other d y hi, rfl, fun _ _ => rfl⟩

theorem engineOnly_pulse (n : Nat) (d : Device) (code : Nat) : EngineOnly n d (d.pulse code) := by
  have hfabric := fabricOnly_pulse d code
  refine ⟨fun i _ => engine_of_eng hfabric.parts.2 i, ?_, ?_⟩
  · rw [hfabric.eq]
  · unfold Device.pulse
    split
    · refine List.foldlRecOn (motive := fun e => onlyRegs d e _) _ _ (fun _ _ => rfl) fun e he k hk o ho => ?_
      exact (onlyRegs_chPulse e (List.mem_range.mp (List.mem_filter.mp hk).1) o ho).trans (he o ho)
    · exact fun _ _ => rfl

theorem engineOnly_engEvent (n : Nat) (d : Device) (sel : Nat) : EngineOnly n d (d.engEvent n sel) := by
  unfold Device.engEvent
  dsimp only
  split_ifs
  · exact (engineOnly_pulse n d _).trans (engineOnly_pulse n _ _)
  · exact engineOnly_pulse n d _
  · exact engineOnly_pulse n d _
  · exact .refl n d

theorem engineOnly_engUpdate (n : Nat) (d : Device) (y : Engine) : EngineOnly n d (d.engUpdate n y) := by
  have hset := engineOnly_setEngine n d y
  have hevent (e : Device) (c : Bool) (sel : Nat) : EngineOnly n e (if c then e.engEvent n sel else e) :=
    engineOnly_ite (engineOnly_engEvent n e sel) (.refl n e)
  exact (hset.trans (hevent _ _ _)).trans (hevent _ _ _)

theorem engineOnly_engStep (n : Nat) (d : Device) (g : Engine → Engine) : EngineOnly n d (d.engStep n g) := engineOnly_engUpdate n d _

theorem engineOnly_update_event (n : Nat) (d : Device) (y : Engine) (sel : Nat) : EngineOnly n d ((d.engUpdate n y).engEvent n sel) :=
  (engineOnly_engUpdate n d y).trans (engineOnly_engEvent n _ sel)

theorem engineOnly_engStall (n : Nat) (d : Device) (w : EngWait) : EngineOnly n d (d.engStall n w) := engineOnly_update_event n d _ _

theorem engineOnly_placePin (n : Nat) (d : Device) (off : Nat) (v : Bool) (t8 : Nat) : EngineOnly n d (d.placePin n off v t8) := by
  unfold Device.placePin
  dsimp only
  split
  · exact .refl n d
  · exact engineOnly_ite (.refl n d) (engineOnly_setEngine n d _)

theorem engineOnly_pinsWrite (n : Nat) (d : Device) (k v : Nat) : EngineOnly n d (d.pinsWrite n k v) :=
  engineOnly_foldl _ _ fun e i => engineOnly_placePin n e i _ _

theorem engineOnly_waitDone (n : Nat) (d : Device) (kind index : Nat) : EngineOnly n d (d.waitDone n kind index) :=
  engineOnly_update_event n d _ _

theorem engineOnly_peShiftOut (n : Nat) (d : Device) (dst k : Nat) : EngineOnly n d (d.peShiftOut n dst k) := by
  unfold Device.peShiftOut
  extract_lets x t right data y d1
  have hshift : EngineOnly n d d1 := engineOnly_engUpdate n d y
  split
  · exact (hshift.trans (engineOnly_pinsWrite n d1 _ _)).trans (engineOnly_engStep n _ _)
  all_goals exact hshift.trans (engineOnly_engStep n d1 _)

theorem engineOnly_peMov (n : Nat) (d : Device) (dst op src : Nat) : EngineOnly n d (d.peMov n dst op src) := by
  unfold Device.peMov
  dsimp only
  split
  · exact (engineOnly_pinsWrite n _ _ _).trans (engineOnly_engStep n _ _)
  all_goals exact engineOnly_engStep n _ _

theorem engineOnly_set (n : Nat) (d : Device) (dst data : Nat) : EngineOnly n d (d.peExec n (.set dst data)) := by
  unfold Device.peExec
  dsimp only
  split
  · exact (engineOnly_pinsWrite n d _ _).trans (engineOnly_engStep n _ _)
  all_goals exact engineOnly_engStep n d _

theorem engineOnly_edge (n : Nat) (d : Device) (pin : Nat) (v : Bool) (ph : Nat) (a : Bool) :
    EngineOnly n d (d.peExec n (.edge pin v ph a)) := (engineOnly_placePin n d _ _ _).trans (engineOnly_engStep n _ _)

theorem engineOnly_cnt (n : Nat) (d : Device) (op : Nat) : EngineOnly n d (d.peExec n (.cnt op)) := by
  unfold Device.peExec
  exact engineOnly_engStep n d _

section
variable (hdepth : d.fifoDepth n ≠ 0)
include hdepth

theorem engineOnly_pushShifted : EngineOnly n d (d.pushShifted n) := by
  unfold Device.pushShifted
  dsimp only
  rw [if_neg hdepth]
  exact engineOnly_ite (engineOnly_update_event n d _ _) (engineOnly_engStall n d _)

theorem engineOnly_peIn (src k : Nat) : EngineOnly n d (d.peIn n src k) := by
  unfold Device.peIn
  dsimp only
  rw [beq_eq_false_iff_ne.mpr hdepth, Bool.and_false, if_neg Bool.false_ne_true]
  exact engineOnly_ite (engineOnly_engUpdate n d _) (engineOnly_ite (engineOnly_update_event n d _ _)
    ((engineOnly_engUpdate n d _).trans (engineOnly_engStall n _ _)))

theorem engineOnly_peOut (dst k : Nat) : EngineOnly n d (d.peOut n dst k) := by
  unfold Device.peOut
  dsimp only
  rw [if_neg hdepth]
  exact engineOnly_ite (engineOnly_peShiftOut n d _ _) (engineOnly_ite (engineOnly_engStall n d _)
    ((engineOnly_update_event n d _ _).trans (engineOnly_peShiftOut n _ _ _)))

theorem engineOnly_pePush (hold due : Bool) : EngineOnly n d (d.pePush n hold due) := by
  unfold Device.pePush
  dsimp only
  rw [if_neg hdepth]
  exact engineOnly_ite (engineOnly_engStep n d _) (engineOnly_ite (engineOnly_update_event n d _ _)
    (engineOnly_ite (engineOnly_engStall n d _) (engineOnly_engStep n d _)))

theorem engineOnly_pePull (hold due : Bool) : EngineOnly n d (d.pePull n hold due) := by
  unfold Device.pePull
  dsimp only
  rw [if_neg hdepth]
  exact engineOnly_ite (engineOnly_engStep n d _) (engineOnly_ite (engineOnly_update_event n d _ _)
    (engineOnly_ite (engineOnly_engStall n d _) (engineOnly_engStep n d _)))

/-- An instruction that is no error and no FLAG. -/
theorem engineOnly_peExec {i : PeInstr} (herror : ∀ code, i ≠ .error code) (hflag : ∀ v w l k, i ≠ .flag v w l k) :
    EngineOnly n d (d.peExec n i) := by
  cases i with
  | nop => exact engineOnly_engStep n d _
  | stop => exact (engineOnly_engStep n d _).trans (engineOnly_engEvent n _ _)
  | jmp cond target => exact engineOnly_engUpdate n d _
  | wait pol kind index =>
    exact engineOnly_ite ((engineOnly_setEngine n d _).trans (engineOnly_waitDone n _ _ _)) (engineOnly_setEngine n d _)
  | shiftIn src k => exact engineOnly_peIn hdepth src k
  | shiftOut dst k => exact engineOnly_peOut hdepth dst k
  | push hold due => exact engineOnly_pePush hdepth hold due
  | pull hold due => exact engineOnly_pePull hdepth hold due
  | mov dst op src => exact engineOnly_peMov n d dst op src
  | set dst data => exact engineOnly_set n d dst data
  | edge pin v ph a => exact engineOnly_edge n d pin v ph a
  | cnt op => exact engineOnly_cnt n d op
  | flag v w line index => exact absurd rfl (hflag v w line index)
  | dly k => exact engineOnly_ite (engineOnly_engStep n d _) (engineOnly_setEngine n d _)
  | error code => exact absurd rfl (herror code)

end

end

/-! ### A command's place at the tick -/

theorem peWait_eq (pol : Bool) (kind index : Nat) : peWait pol kind index = .wait pol kind index ∨ peWait pol kind index = .error 3 :=
  ite_eq_or_eq _ _ _

theorem peRow_of_flag {w k : Nat} {v u l : Bool} (h : peDecode w = .flag v u l k) : peRow w = .flag := by
  unfold peDecode at h
  dsimp only at h
  split at h
  case h_3 => rcases peWait_eq (bitOf w 11) (bitsOf w 8 3) (bitsOf w 0 8) with hwait | hwait <;> rw [hwait] at h <;> cases h
  case h_11 hop => simp only [peRow, hop]
  case h_12 => cases h
  case h_13 => cases h
  all_goals split_ifs at h

section
variable {n : Nat} {d : Device}

/-- Where a command of the row executes an instruction, its engine's FIFOs are as deep as before (R237). -/
theorem fifoDepth_settled (x : Engine) (hshift : x.rg peShift = (d.engine n).rg peShift) (k : Nat) :
    ((d.engUpdate n x).engSettle n).fifoDepth k = d.fifoDepth k := by
  have hengine : (d.engUpdate n x).engine n = x := by
    rw [engine_of_eng (fabricOnly_engUpdate d n x).parts.2, engine_setEngine_same]
  have hsettle : ((d.engUpdate n x).engine n).settle.rg peShift = ((d.engUpdate n x).engine n).rg peShift := rfl
  have hdepth : (d.engUpdate n x).fifoDepth k = (d.setEngine n x).fifoDepth k := by
    rw [Device.fifoDepth, Device.joined, engine_of_eng (fabricOnly_engUpdate d n x).parts.2]
    rfl
  rw [Device.engSettle, fifoDepth_setEngine hsettle, hdepth, fifoDepth_setEngine hshift]

theorem engineOnly_peCommand {row : PeRow} (hrow : row ≠ .flag) (herror : ∀ code, peDecode (d.engine n).current ≠ .error code)
    (hdepth : d.fifoDepth n ≠ 0) : EngineOnly n d (d.peCommand n row) := by
  unfold Device.peCommand
  split
  · next hready =>
    extract_lets x d1
    simp only [Device.peReady, Bool.and_eq_true, beq_iff_eq] at hready
    obtain ⟨⟨_, hsame⟩, _⟩ := hready
    have htick : EngineOnly n d d1 := (engineOnly_engUpdate n d _).trans (engineOnly_setEngine n _ _)
    have hroom : d1.fifoDepth n ≠ 0 := by
      rw [fifoDepth_settled _ ((edgesPass_toTickWith _ _).rg _ (by decide))]
      exact hdepth
    split
    · exact htick.trans (engineOnly_pushShifted hroom)
    · exact htick.trans (engineOnly_peExec hroom herror fun v u l k h => hrow (hsame ▸ peRow_of_flag h))
  · exact .refl n d

end

end Sys2Proof.Proofs
end

section
/-! PROOF. EnginesExecute (R222 to R232, R238), assembled from the rule of each instruction. -/

open Sys2Proof Sys2Proof.Machine Sys2Proof.Claims

namespace Sys2Proof.Proofs

section
variable {s : State} {e : BitVec 6}

/-- A command that changes nothing of the device. -/
theorem exec_stands {c : Instr} {f : Device → Device} (hexec : exec c s = s.upd f) (hf : f s.dev = s.dev) : exec c s = .next s := by
  rw [hexec, State.upd_eq, hf]

theorem exec_peTable (s : State) (e : BitVec 6) :
    ∀ c ∈ peTable, ∃ row, row ≠ .flag ∧ exec (c e) s = s.upd fun d => d.peCommand e.toNat row := by
  simp only [peTable, List.forall_mem_cons, List.not_mem_nil, false_imp_iff, implies_true, and_true]
  exact ⟨⟨.nop, nofun, rfl⟩, ⟨.stop, nofun, rfl⟩, ⟨.jmp, nofun, rfl⟩,
    ⟨.wait, nofun, rfl⟩, ⟨.shiftIn, nofun, rfl⟩, ⟨.shiftOut, nofun, rfl⟩,
    ⟨.push, nofun, rfl⟩, ⟨.pull, nofun, rfl⟩,
    ⟨.mov, nofun, rfl⟩, ⟨.set, nofun, rfl⟩, ⟨.edge, nofun, rfl⟩, ⟨.cntClr, nofun, rfl⟩,
    ⟨.cntInc, nofun, rfl⟩, ⟨.cntArm, nofun, rfl⟩, ⟨.dly, nofun, rfl⟩⟩

/-- An instruction that is no error and no FLAG changes its engine, and what its event outputs pulse. -/
theorem completes_peTable (herror : ∀ code, peDecode (s.dev.engine e.toNat).current ≠ .error code) (hdepth : s.dev.fifoDepth e.toNat ≠ 0) :
    ∀ c ∈ peTable, Completes (c e) s fun f =>
      (∀ i, i ≠ e.toNat → f.engine i = s.dev.engine i) ∧ f = { s.dev with eng := f.eng, evf := f.evf, regs := f.regs } ∧
      onlyRegs s.dev f ((List.range 4).map Reg.EVF_MERGE) := by
  intro c hc
  obtain ⟨row, hrow, hexec⟩ := exec_peTable s e c hc
  obtain ⟨hothers, heq, hregs⟩ := engineOnly_peCommand hrow herror hdepth
  exact completes_device hexec rfl (by rw [heq]) ⟨hothers, heq, hregs⟩

theorem completes_peFlag {k : Nat} (hk : k < 8) (h : engAt s.dev e.toNat (0xA800 + k)) : Completes (.peFlag e) s fun f =>
    f.engine e.toNat = engNext (s.dev.engine e.toNat) 1 ∧ f.tileReg (e.toNat / 8) 48 = s.dev.tileReg (e.toNat / 8) 48 ||| 2 ^ k ∧
    sameBerths s.dev f ∧ f.mem = s.dev.mem := by
  refine completes_device rfl (pe_flag hk h) rfl ⟨engine_setEngine_same .., ?_, fun _ => rfl, rfl⟩
  have hbit : 2 ^ k < 2 ^ 24 := Nat.pow_lt_pow_right (by decide) (by omega)
  rw [tileReg_setEngine, tileReg_setTileReg_same, Nat.mod_eq_of_lt hbit]
  exact Nat.mod_eq_of_lt (Nat.or_lt_two_pow (tileReg_lt ..) (hbit.trans (by decide)))

/-- A command that leaves one engine changed, and counts at most. -/
theorem completes_setEngine {c : Instr} {f : Device → Device} {n off lo w : Nat} {y : Engine} (hexec : exec c s = s.upd f)
    (hf : f s.dev = s.dev.setEngine n y ∨ f s.dev = (s.dev.setEngine n y).bump off lo w) : Completes c s fun g =>
      g.engine n = y ∧ (∀ j, j ≠ n → g.engine j = s.dev.engine j) ∧ sameBerths s.dev g ∧ g.mem = s.dev.mem := by
  have hset : (s.dev.setEngine n y).engine n = y := engine_setEngine_same ..
  have hother : ∀ j, j ≠ n → (s.dev.setEngine n y).engine j = s.dev.engine j := fun j hj => engine_setEngine_other _ _ hj
  obtain hf | hf := hf
  · exact completes_device hexec hf rfl ⟨hset, hother, fun _ => rfl, rfl⟩
  · have heng := Device.bump_eng (s.dev.setEngine n y) off lo w
    exact completes_device hexec hf (Device.bump_cfg ..) ⟨(engine_of_eng heng n).trans hset, fun j hj => (engine_of_eng heng j).trans (hother j hj),
      fun b => by rw [Device.berth, Device.berth, Device.bump_berths]; rfl, Device.bump_mem ..⟩

theorem completes_peUndefined {j : Nat} (hlow : 0xC000 ≤ j) (hhigh : j < 0x10000) (h : engAt s.dev e.toNat j)
    (hoff : s.dev.flag (Reg.RMS_CFG (0x18 + e.toNat / 8)) 12 = false) {y : Engine}
    (hy : { engThere ((s.dev.engine e.toNat).setFld peStat 22 2 1) 1 with run := false, wait := .none } = y) :
    Completes (.peUndefined e) s fun f => f.engine e.toNat = y ∧ sameBerths s.dev f ∧ f.mem = s.dev.mem :=
  completes_mono (completes_setEngine rfl (pe_undefined hlow hhigh h e.isLt hoff hy))
    fun _ ⟨hengine, _, hberths, hmem⟩ => ⟨hengine, hberths, hmem⟩

theorem completes_stallEnd {v : Word} {r : List Word} {t : BitVec 32} (htx : (s.dev.engine e.toNat).tx = v :: r)
    (h : engWaits s.dev e.toNat 0x5C00 .pull) : Completes (.peStallEnd e t) s fun f =>
      (f.engine e.toNat).tx = r ∧ (f.engine e.toNat).rg peTsh = v.toNat ∧ (f.engine e.toNat).fld peScnt 0 6 = (s.dev.engine e.toNat).txlen ∧
      (f.engine e.toNat).pc = pcAfter (s.dev.engine e.toNat) ∧ (f.engine e.toNat).wait = .none ∧ (f.engine e.toNat).run = true ∧
      (∀ j, j ≠ e.toNat → f.engine j = s.dev.engine j) ∧ sameBerths s.dev f ∧ f.mem = s.dev.mem := by
  have hrun : (s.dev.engine e.toNat).run = true := h.2.1
  obtain ⟨htx', htsh, hscnt, hpc, hwait, hrun'⟩ := pulled_later (edgesPass_atTick t.toNat _) htx
  refine completes_mono (completes_setEngine (f := fun d => d.stallEnd e.toNat t.toNat) (off := 0) (lo := 0) (w := 0) rfl
    (.inl (stallEnd_pull t.toNat h (by simp [htx])))) ?_
  rintro f ⟨hengine, hothers, hberths, hmem⟩
  rw [hengine]
  exact ⟨htx', htsh, hscnt, hpc, hwait, hrun'.trans hrun, hothers, hberths, hmem⟩

end

/-- Settles O28: each engine instruction leaves what Table 7.2 gives it, and each wait completes as its condition allows. -/
theorem enginesExecute : Obligations.EnginesExecute := by
  unfold Obligations.EnginesExecute
  refine ⟨?_, ?_⟩
  · intro s e j d n x k bits leaves
    have hk : k < 32 := Nat.mod_lt _ (by decide)
    have hn : n < 64 := e.isLt
    refine ⟨fun h => completes_engLeaves rfl (pe_nop h), fun h => completes_engLeaves rfl (pe_stop h),
      fun q hq hj h => completes_engLeaves rfl (pe_jmp hq hj h), fun hj => ?_, fun hk h => completes_engLeaves rfl (pe_wait hk h),
      fun hauto h => completes_engLeaves rfl (pe_in hk h hauto), fun hauto h => completes_engLeaves rfl (pe_out hk h hauto),
      fun hroom h => completes_engLeaves rfl (pe_push h hroom),
      fun v r htx hdepth h => completes_engLeaves rfl (pe_pull h htx hdepth),
      fun h => completes_engLeaves rfl (pe_mov h rfl rfl), fun h => completes_engLeaves rfl (pe_mov h rfl ?_),
      fun h => completes_engLeaves rfl (pe_mov h rfl rfl),
      ⟨fun h => completes_engLeaves rfl (pe_setX hk h), fun h => completes_engLeaves rfl (pe_setY hk h)⟩,
      ?_,
      fun h => completes_engLeaves rfl (pe_cntClr h), fun h => ?_, fun h => completes_engLeaves rfl (pe_cntArm h),
      fun hk h => completes_peFlag hk h, fun h => completes_engLeaves rfl (pe_dly_zero h),
      fun hpos hj h => completes_engLeaves rfl (pe_dly hpos hj h),
      fun hlow hhigh h hoff => completes_peUndefined hlow hhigh h hoff rfl,
      fun herror hdepth => completes_peTable herror hdepth⟩
    · rw [List.forall_mem_cons, List.forall_mem_singleton]
      exact ⟨fun h => completes_engLeaves rfl (pe_loop (.inl ⟨rfl, rfl⟩) hj h rfl),
        fun h => completes_engLeaves rfl (pe_loop (.inr ⟨rfl, rfl⟩) hj h rfl)⟩
    · exact congrArg (2 ^ 32 - 1 - ·) (Nat.mod_eq_of_lt (rg_lt x peY))
    · intro p v ph a hv hph ha hpad howner y t8 h
      exact completes_engLeaves rfl (pe_edge hk hv hph ha hpad howner h (Nat.add_assoc ..).symm)
    · have hleaves := completes_engLeaves (s := s) (c := .peCntInc e) rfl (pe_cntInc h)
      rw [addCount_one] at hleaves
      exact hleaves
  · intro s e t k left since seen d n x m
    refine ⟨fun hk h hset => ?_, fun hk h hclear => ?_,
      fun hk h hclear => completes_engLeaves (f := fun d => d.flagWaitComplete n t.toNat) rfl
        (flagWaitComplete_clear hk h hclear),
      fun hk h => completes_engLeaves (f := fun d => d.dlyComplete e.toNat) rfl (dlyComplete_eq hk h), fun v r htx h => completes_stallEnd htx h⟩
    · exact completes_engLeaves (f := fun d => d.waitComplete n t.toNat) rfl ((waitComplete_flag hk h).trans (if_pos hset))
    · exact exec_stands (f := fun d => d.waitComplete n t.toNat) rfl ((waitComplete_flag hk h).trans (if_neg (by simp [hclear])))

end Sys2Proof.Proofs
end

section
/-! PROOF. EnginesAreControlled (R217, R234, R239, R240, R243, R245, R253): writes of the engines' registers from any writer. -/

open Sys2Proof Sys2Proof.Machine Sys2Proof.Claims

namespace Sys2Proof.Proofs

/-! ### Writes that reach the engine window (R255) -/

section
variable {d : Device} {w : Writer} {e : Nat}

theorem rowWrite_eng {off : Nat} (v : Nat) (harrives : d.arrives w off = true) (hlow : 0x40000 ≤ off) (hhigh : off < 0x80000) :
    d.rowWrite w off v = d.engWindow off (v % 2 ^ 32) := by
  unfold Device.rowWrite
  rw [if_pos harrives, Device.regWrite, if_neg (show ¬ off = 0x30004C by omega), Device.cwWrite]
  rw [if_neg (by omega), if_neg (by omega), if_pos hhigh]

theorem rowWrite_engReg {r : Nat} (v : Nat) (he : e < 64) (hr : r < 64) (harrives : d.arrives w (engOffset e r) = true) :
    d.rowWrite w (engOffset e r) v = d.engWrite .window e r (v % 2 ^ 32) := by
  have hengine : (engOffset e r - 0x40000) / 0x1000 = e := by unfold engOffset; omega
  have hplace : engOffset e r % 0x1000 = 4 * r := by unfold engOffset; omega
  rw [rowWrite_eng v harrives (by unfold engOffset; omega) (by unfold engOffset; omega), Device.engWindow, hengine, hplace,
    if_pos (by omega), Nat.mul_div_cancel_left _ (by decide)]

theorem rowWrite_prog {off k : Nat} (v : Nat) (hoff : off = 0x40000 + 0x1000 * e + 0x100 + 4 * k) (he : e < 64) (hk : k < 64)
    (harrives : d.arrives w off = true) : d.rowWrite w off v = d.progWrite e k (v % 2 ^ 32) := by
  have hengine : (off - 0x40000) / 0x1000 = e := by omega
  have hplace : off % 0x1000 = 0x100 + 4 * k := by omega
  have hword : (0x100 + 4 * k - 0x100) / 4 = k := by rw [Nat.add_sub_cancel_left, Nat.mul_div_cancel_left _ (by decide)]
  have hwindow : 0x40000 ≤ off ∧ off < 0x80000 := by omega
  rw [rowWrite_eng v harrives hwindow.1 hwindow.2, Device.engWindow, hengine, hplace, if_neg (by omega), if_pos (by omega), hword]

/-- A write of a tile register goes to the tile of the window's engine. -/
theorem engWrite_tile {t r : Nat} (v : Nat) (hpresent : d.engPresent (8 * t) = true) (hr : 47 ≤ r) :
    d.engWrite .window (8 * t) r v = d.tileRegWrite .window t r v := by
  have htile : 8 * t / 8 = t := by omega
  rw [Device.engWrite, hpresent, if_neg (by decide), if_pos hr, htile]

theorem engWrite_ctrl (v : Nat) (hpresent : d.engPresent e = true) : d.engWrite .window e 2 v = d.ctrlWrite e v := by
  rw [Device.engWrite, hpresent, if_neg (by decide), if_neg (by decide)]
  rfl

end

/-! ### Starts and stops (R239, R243) -/

/-- The engine that a start leaves, with its divider restarted or going on. -/
def started (y : Engine) (clkr : Bool) : Engine :=
  let z := if clkr then y.divRestart else y
  { z with run := true, wait := .none, frozen := false }

section
variable (x : Engine) (clkr : Bool)

theorem started_run : (started x clkr).run = true := rfl

theorem started_pc : (started x clkr).pc = x.pc := by cases clkr <;> rfl

theorem started_acc : (started x clkr).acc = if clkr then 0 else x.acc := by cases clkr <;> rfl

theorem started_regs : (started x clkr).regs = x.regs := by cases clkr <;> rfl

theorem rg_started (r : Nat) : (started x clkr).rg r = x.rg r := by rw [Engine.rg, started_regs, Engine.rg]

theorem rg_withPc (r p : Nat) : ({ x with pc := p } : Engine).rg r = x.rg r := rfl

theorem rg_restart_eq (r : Nat) : x.restart.rg r =
    (((((x.setRg peRsh 0).setRg peTsh 0).setRg peScnt 0).setFlag peStat 21 false).setFld peStat 22 2 0).rg r := rg_withPc _ r 0

/-- RESTART clears the shift registers and counts, and the error state (R239). -/
theorem rg_restart {r : Nat} (h : r ∉ [peRsh, peTsh, peScnt, peStat]) : x.restart.rg r = x.rg r := by
  simp only [List.mem_cons, List.not_mem_nil, or_false, not_or] at h
  obtain ⟨hrsh, htsh, hscnt, hstat⟩ := h
  rw [rg_restart_eq, rg_setFld_other _ _ _ _ (Ne.symm hstat), rg_setFlag_other _ _ _ (Ne.symm hstat), rg_setRg_other _ _ (Ne.symm hscnt),
    rg_setRg_other _ _ (Ne.symm htsh), rg_setRg_other _ _ (Ne.symm hrsh)]

theorem engFlag_setFld_other (r lo w v : Nat) {i : Nat} (hi : i < lo ∨ lo + w ≤ i) (hlt : i < 32) :
    (x.setFld r lo w v).flag r i = x.flag r i := by
  rw [Engine.flag, Engine.setFld, rg_setRg_same, bitOf_mod hlt, bitOf_eq_testBit, testBit_setBits, if_neg (by omega), ← bitOf_eq_testBit]
  rfl

theorem engErr_restart : x.restart.err = 0 := by
  rw [Engine.err, Engine.fld, rg_restart_eq]
  exact engFld_setFld_same _ _ _ (by decide)

theorem engCmatch_restart : x.restart.cmatch = false := by
  rw [Engine.cmatch, Engine.flag, rg_restart_eq]
  exact (engFlag_setFld_other _ _ _ _ _ (.inl (by decide)) (by decide)).trans (engFlag_setFlag_same _ _ _ (by decide))

theorem restart_shifts : x.restart.rg peRsh = 0 ∧ x.restart.rg peTsh = 0 ∧ x.restart.rg peScnt = 0 := by
  refine ⟨?_, ?_, ?_⟩ <;> rw [rg_restart_eq, rg_setFld_other _ _ _ _ (by decide), rg_setFlag_other _ _ _ (by decide)]
  · rw [rg_setRg_other _ _ (by decide), rg_setRg_other _ _ (by decide), rg_setRg_same, Nat.zero_mod]
  · rw [rg_setRg_other _ _ (by decide), rg_setRg_same, Nat.zero_mod]
  · rw [rg_setRg_same, Nat.zero_mod]

end

section
variable {d : Device} {n v : Nat}

/-- What the clears of PE_CTRL leave: FIFOs of a stopped engine emptied, and the stall counts cleared (R234, R255). -/
structure Cleared (x : Engine) (v : Nat) (y : Engine) : Prop where
  tx : y.tx = if bitOf v 3 = true ∧ x.run = false then [] else x.tx
  rx : y.rx = if bitOf v 4 = true ∧ x.run = false then [] else x.rx
  stall : bitOf v 5 = true → y.rg peStall = 0 ∧ y.rg peStallcyc = 0
  pc : y.pc = x.pc
  run : y.run = x.run

/-- A stopped engine's FIFOs as the two clears of PE_CTRL leave them. -/
def fifosCleared (x : Engine) (v : Nat) : Engine :=
  { x with tx := if bitOf v 3 = true ∧ x.run = false then [] else x.tx, rx := if bitOf v 4 = true ∧ x.run = false then [] else x.rx }

theorem clears_eq (x : Engine) (v : Nat) :
    x.clears v = if bitOf v 5 then ((fifosCleared x v).setRg peStall 0).setRg peStallcyc 0 else fifosCleared x v := by
  have htx (y : Engine) (c : Prop) [Decidable c] : (if c then { y with tx := [] } else y) = { y with tx := if c then [] else y.tx } := by
    split <;> rfl
  have hrx (y : Engine) (c : Prop) [Decidable c] : (if c then { y with rx := [] } else y) = { y with rx := if c then [] else y.rx } := by
    split <;> rfl
  unfold Engine.clears
  dsimp only
  rw [htx, hrx]
  rfl

theorem cleared_stall {x y : Engine} (htx : y.tx = (fifosCleared x v).tx) (hrx : y.rx = (fifosCleared x v).rx) (hpc : y.pc = x.pc)
    (hrun : y.run = x.run) : Cleared x v ((y.setRg peStall 0).setRg peStallcyc 0) :=
  ⟨htx, hrx, fun _ => ⟨by rw [rg_setRg_other _ _ (by decide), rg_setRg_same, Nat.zero_mod], by rw [rg_setRg_same, Nat.zero_mod]⟩, hpc, hrun⟩

theorem clears_cleared (x : Engine) (v : Nat) : Cleared x v (x.clears v) := by
  rw [clears_eq]
  by_cases h5 : bitOf v 5 = true
  · rw [if_pos h5]
    exact cleared_stall rfl rfl rfl rfl
  · rw [if_neg h5]
    exact ⟨rfl, rfl, fun h => absurd h h5, rfl, rfl⟩

theorem clears_none (x : Engine) (h : v / 8 % 8 = 0) : x.clears v = x := by
  have hbit (i : Nat) (hi : 3 ≤ i) (hi6 : i < 6) : bitOf v i = false := by
    obtain ⟨j, rfl⟩ := Nat.exists_eq_add_of_le hi
    have hfield : bitsOf v 3 3 = 0 := h
    have htest := testBit_bitsOf v 3 3 j
    rw [hfield, Nat.zero_testBit, decide_eq_true (by omega), Bool.true_and] at htest
    rw [bitOf_eq_testBit, ← htest]
  unfold Engine.clears
  rw [hbit 3 (by decide) (by decide), hbit 4 (by decide) (by decide), hbit 5 (by decide) (by decide)]
  simp

/-- No migration holds the engine, and no re-lock runs: it starts and stops as software asks. -/
structure Startable (d : Device) (n : Nat) : Prop where
  present : d.engPresent n = true
  migrating : d.migrating n = false
  relock : d.pwr.relock = none

theorem Startable.setEngine (h : Startable d n) (k : Nat) (y : Engine) : Startable (d.setEngine k y) n := ⟨h.present, h.migrating, h.relock⟩

theorem engStart_stopped {restart clkr : Bool} (h : Startable d n) (hrun : (d.engine n).run = false)
    (hok : ¬ ((d.engine n).err ≠ 0 ∧ restart = false)) (hevout : (d.engine n).rg peEvout = 0) :
    d.engStart n restart clkr = d.setEngine n (started (if restart then (d.engine n).restart else d.engine n) clkr) := by
  have hquiet : (started (if restart then (d.engine n).restart else d.engine n) clkr).rg peEvout = 0 := by
    rw [rg_started]
    cases restart
    · exact hevout
    · exact (rg_restart _ (by decide)).trans hevout
  unfold Device.engStart
  rw [h.present, h.migrating, h.relock]
  dsimp only
  rw [hrun, if_neg hok]
  exact engUpdate_silent d hquiet

theorem engStart_running {restart clkr : Bool} (h : Startable d n) (hrun : (d.engine n).run = true) :
    d.engStart n restart clkr = if clkr then d.setEngine n (d.engine n).divRestart else d := by
  unfold Device.engStart
  rw [h.present, h.migrating, h.relock]
  dsimp only
  rw [hrun]
  rfl

theorem engStart_error {clkr : Bool} (h : Startable d n) (hrun : (d.engine n).run = false) (herr : (d.engine n).err ≠ 0) :
    d.engStart n false clkr = d.engIgnore (n / 8) := by
  unfold Device.engStart
  rw [h.present, h.migrating, h.relock]
  dsimp only
  have hrelock : ¬ (false || (none : Option Relock).isSome && bitOf (d.rd64 Reg.CLK_TCRIT) n) = true := Bool.false_ne_true
  rw [hrun, if_neg (by decide), if_neg hrelock, if_neg Bool.false_ne_true, if_pos ⟨herr, rfl⟩]

theorem engStop_eq (h : Startable d n) : d.engStop n = d.setEngine n (d.engine n).stop := by
  unfold Device.engStop
  rw [h.present, h.migrating]
  rfl

/-! ### Writes of PE_CTRL (R239, R243) -/

/-- A start of an engine that is stopped. -/
theorem ctrlWrite_start (h : Startable d n) (hevout : (d.engine n).rg peEvout = 0) (hclears : v / 8 % 8 = 0) (hen : bitOf v 0 = true)
    (hrun : (d.engine n).run = false) (hok : ¬ ((d.engine n).err ≠ 0 ∧ bitOf v 1 = false)) : d.ctrlWrite n v =
      d.setEngine n (started (if bitOf v 1 then (d.engine n).restart else d.engine n) (bitOf v 2)) := by
  have hsame : (d.setEngine n (d.engine n)).engine n = d.engine n := engine_setEngine_same ..
  rw [Device.ctrlWrite, clears_none _ hclears, if_pos hen, engStart_stopped (h.setEngine ..), hsame, setEngine_setEngine]
  · rw [hsame]; exact hrun
  · rw [hsame]; exact hok
  · rw [hsame]; exact hevout

/-- A start of a stopped engine with ERR set, without RESTART, is counted alone (R239). -/
theorem ctrlWrite_error (h : Startable d n) (hclears : v / 8 % 8 = 0) (hen : bitOf v 0 = true) (hrestart : bitOf v 1 = false)
    (hrun : (d.engine n).run = false) (herr : (d.engine n).err ≠ 0) :
    d.ctrlWrite n v = (d.setEngine n (d.engine n)).engIgnore (n / 8) := by
  have hsame : (d.setEngine n (d.engine n)).engine n = d.engine n := engine_setEngine_same ..
  rw [Device.ctrlWrite, clears_none _ hclears, if_pos hen, hrestart, engStart_error (h.setEngine ..)]
  · rw [hsame]; exact hrun
  · rw [hsame]; exact herr

/-- A write with EN of an engine that runs. -/
theorem ctrlWrite_running (h : Startable d n) (hen : bitOf v 0 = true) (hrun : (d.engine n).run = true) : d.ctrlWrite n v =
    d.setEngine n (if bitOf v 2 then ((d.engine n).clears v).divRestart else (d.engine n).clears v) := by
  have hruns : ((d.setEngine n ((d.engine n).clears v)).engine n).run = true := by
    rw [engine_setEngine_same, (clears_cleared _ v).run, hrun]
  rw [Device.ctrlWrite, if_pos hen, engStart_running (h.setEngine ..) hruns, engine_setEngine_same]
  split
  · exact setEngine_setEngine ..
  · rfl

/-- A write without EN. -/
theorem ctrlWrite_stop (h : Startable d n) (hen : bitOf v 0 = false) : d.ctrlWrite n v =
    d.setEngine n (if bitOf v 2 then ((d.engine n).clears v).divRestart else (d.engine n).clears v).stop := by
  have hmig : (d.setEngine n ((d.engine n).clears v)).migrating n = false := h.migrating
  rw [Device.ctrlWrite, if_neg (by rw [hen]; decide), hmig]
  dsimp only
  by_cases hclkr : bitOf v 2 = true
  · rw [if_pos ⟨hclkr, rfl⟩, if_pos hclkr, engine_setEngine_same, setEngine_setEngine, engStop_eq (h.setEngine ..), engine_setEngine_same,
      setEngine_setEngine]
  · rw [if_neg fun hand => hclkr hand.1, if_neg hclkr, engStop_eq (h.setEngine ..), engine_setEngine_same, setEngine_setEngine]

end

/-! ### The commands that write PE_CTRL -/

theorem engine_setTileReg (d : Device) (t r v k : Nat) : (d.setTileReg t r v).engine k = d.engine k := rfl

theorem engine_engIgnore (d : Device) (t k : Nat) : (d.engIgnore t).engine k = d.engine k := engine_setTileReg ..

/-- A command that completes, with the engine n left as P says, and every other as it was. -/
def LeavesEngine (s : State) (n : Nat) (c : Instr) (P : Engine → Prop) : Prop :=
  Completes c s fun f => P (f.engine n) ∧ ∀ k, k ≠ n → f.engine k = s.dev.engine k

section
variable {s : State} {w : Writer} {e : BitVec 6} {c : Instr} {u : Nat} {P : Engine → Prop}

/-- A command that writes PE_CTRL, by the engine that the write leaves. -/
theorem completes_ctrl (hexec : exec c s = s.upd fun d => d.rowWrite w (engOffset e.toNat 2) u)
    (harrives : s.dev.arrives w (engOffset e.toNat 2) = true) (hpresent : s.dev.engPresent e.toNat = true) {y : Engine}
    (hctrl : s.dev.ctrlWrite e.toNat (u % 2 ^ 32) = s.dev.setEngine e.toNat y ∨
      s.dev.ctrlWrite e.toNat (u % 2 ^ 32) = (s.dev.setEngine e.toNat y).engIgnore (e.toNat / 8)) (hP : P y) :
    LeavesEngine s e.toNat c P := by
  have hset : (s.dev.setEngine e.toNat y).engine e.toNat = y := engine_setEngine_same ..
  have hother : ∀ k, k ≠ e.toNat → (s.dev.setEngine e.toNat y).engine k = s.dev.engine k := fun k hk => engine_setEngine_other _ _ hk
  have hwrite := (rowWrite_engReg (d := s.dev) u e.isLt (by decide) harrives).trans (engWrite_ctrl _ hpresent)
  obtain hctrl | hctrl := hctrl
  · refine completes_device hexec (hwrite.trans hctrl) rfl ⟨?_, hother⟩
    rwa [hset]
  · have hcounted (k : Nat) := engine_engIgnore (s.dev.setEngine e.toNat y) (e.toNat / 8) k
    refine completes_device hexec (hwrite.trans hctrl) rfl ⟨?_, fun k hk => (hcounted k).trans (hother k hk)⟩
    rwa [hcounted, hset]

end

/-- A bit of the word that a command writes. -/
theorem bitOf_written (v lo w x : Nat) {i : Nat} (hi : i < 32) :
    bitOf (setBits v lo w x % 2 ^ 32) i = if lo ≤ i ∧ i < lo + w then x.testBit (i - lo) else v.testBit i := by
  rw [bitOf_mod hi, bitOf_eq_testBit, testBit_setBits]

theorem clears_written {v lo w x : Nat} (h : lo + w ≤ 3) : setBits v lo w x % 2 ^ 32 / 8 % 8 = v / 8 % 8 := by
  have hfield : bitsOf (setBits v lo w x % 2 ^ 32) 3 3 = bitsOf v 3 3 := by
    rw [bitsOf_mod (by decide), bitsOf_setBits_other (.inr h)]
  exact hfield

theorem lowBits_of_mod {v : Nat} {run : Bool} (h : v % 8 = if run then 1 else 0) : v.testBit 0 = run ∧ v.testBit 2 = false := by
  have hlow (i : Nat) (hi : i < 3) : v.testBit i = (v % 8).testBit i := by
    rw [show (8 : Nat) = 2 ^ 3 from rfl, Nat.testBit_mod_two_pow, decide_eq_true hi, Bool.true_and]
  rw [hlow 0 (by decide), hlow 2 (by decide), h]
  cases run <;> decide

section
variable {s : State} {w : Writer} {e : BitVec 6} {c : Instr} {v : BitVec 32} {lo wd x : Nat} {P : Engine → Prop}
  (harrives : s.dev.arrives w (engOffset e.toNat 2) = true) (h : Startable s.dev e.toNat)
  (hexec : exec c s = s.upd fun d => d.rowWrite w (engOffset e.toNat 2) (setBits v.toNat lo wd x))
include harrives h hexec

theorem leavesEngine_start (hplain : engPlain s.dev e.toNat) (hlow : lo + wd ≤ 3) (hclears : v.toNat / 8 % 8 = 0)
    (hen : bitOf (setBits v.toNat lo wd x % 2 ^ 32) 0 = true) (hrun : (s.dev.engine e.toNat).run = false) {restart clkr : Bool}
    (hrestart : bitOf (setBits v.toNat lo wd x % 2 ^ 32) 1 = restart) (hclkr : bitOf (setBits v.toNat lo wd x % 2 ^ 32) 2 = clkr)
    (hok : ¬ ((s.dev.engine e.toNat).err ≠ 0 ∧ restart = false))
    (hP : P (started (if restart then (s.dev.engine e.toNat).restart else s.dev.engine e.toNat) clkr)) :
    LeavesEngine s e.toNat c P := by
  have hstart := ctrlWrite_start h hplain.2.1 ((clears_written hlow).trans hclears) hen hrun (hrestart.symm ▸ hok)
  rw [hrestart, hclkr] at hstart
  exact completes_ctrl hexec harrives h.present (.inl hstart) hP

theorem leavesEngine_error (hlow : lo + wd ≤ 3) (hclears : v.toNat / 8 % 8 = 0) (hen : bitOf (setBits v.toNat lo wd x % 2 ^ 32) 0 = true)
    (hrun : (s.dev.engine e.toNat).run = false) (hrestart : bitOf (setBits v.toNat lo wd x % 2 ^ 32) 1 = false)
    (herr : (s.dev.engine e.toNat).err ≠ 0) : LeavesEngine s e.toNat c fun y => y = s.dev.engine e.toNat :=
  completes_ctrl hexec harrives h.present
    (.inr (ctrlWrite_error h ((clears_written hlow).trans hclears) hen hrestart hrun herr)) rfl

theorem leavesEngine_stop (hlow : lo + wd ≤ 3) (hclears : v.toNat / 8 % 8 = 0) (hen : bitOf (setBits v.toNat lo wd x % 2 ^ 32) 0 = false)
    {clkr : Bool} (hclkr : bitOf (setBits v.toNat lo wd x % 2 ^ 32) 2 = clkr)
    (hP : P (if clkr then (s.dev.engine e.toNat).divRestart else s.dev.engine e.toNat).stop) : LeavesEngine s e.toNat c P := by
  have hstop := ctrlWrite_stop h hen
  rw [clears_none _ ((clears_written hlow).trans hclears), hclkr] at hstop
  exact completes_ctrl hexec harrives h.present (.inl hstop) hP

theorem leavesEngine_divRestart (hlow : lo + wd ≤ 3) (hclears : v.toNat / 8 % 8 = 0)
    (hen : bitOf (setBits v.toNat lo wd x % 2 ^ 32) 0 = true) (hclkr : bitOf (setBits v.toNat lo wd x % 2 ^ 32) 2 = true)
    (hrun : (s.dev.engine e.toNat).run = true) (hP : P (s.dev.engine e.toNat).divRestart) : LeavesEngine s e.toNat c P := by
  have hstart := ctrlWrite_running h hen hrun
  rw [clears_none _ ((clears_written hlow).trans hclears), hclkr] at hstart
  exact completes_ctrl hexec harrives h.present (.inl hstart) hP

/-- A write that neither starts nor stops the engine clears alone. -/
theorem leavesEngine_clears (hlow : 3 ≤ lo) (hlow3 : v.toNat % 8 = if (s.dev.engine e.toNat).run then 1 else 0)
    (hP : ∀ y, Cleared (s.dev.engine e.toNat) (setBits v.toNat lo wd x % 2 ^ 32) y → P y) : LeavesEngine s e.toNat c P := by
  obtain ⟨hbit0, hbit2⟩ := lowBits_of_mod hlow3
  have hen : bitOf (setBits v.toNat lo wd x % 2 ^ 32) 0 = (s.dev.engine e.toNat).run := by
    rw [bitOf_written _ _ _ _ (by decide), if_neg (by omega), hbit0]
  have hclkr : bitOf (setBits v.toNat lo wd x % 2 ^ 32) 2 = false := by
    rw [bitOf_written _ _ _ _ (by decide), if_neg (by omega), hbit2]
  have hcleared := clears_cleared (s.dev.engine e.toNat) (setBits v.toNat lo wd x % 2 ^ 32)
  cases hrun : (s.dev.engine e.toNat).run with
  | true =>
    have hstands := ctrlWrite_running h (hen.trans hrun) hrun
    rw [hclkr] at hstands
    exact completes_ctrl hexec harrives h.present (.inl hstands) (hP _ hcleared)
  | false =>
    have hstop := ctrlWrite_stop h (hen.trans hrun)
    rw [hclkr] at hstop
    refine completes_ctrl hexec harrives h.present (.inl hstop) (hP _ ?_)
    exact ⟨hcleared.tx, hcleared.rx, hcleared.stall, hcleared.pc, hrun.symm⟩

end

/-! ### Group starts and stops (R240) -/

/-- The device with other engines. -/
def withEngines (d : Device) (m : Store Engine) : Device := { d with eng := { d.eng with engines := m } }

/-- The second device is the first one with y as its engine k. -/
structure SetsEngine (d : Device) (k : Nat) (y : Engine) (e : Device) : Prop where
  eq : ∃ m, e = withEngines d m
  engine : ∀ i, e.engine i = if k = i then y else d.engine i

theorem setsEngine_setEngine (d : Device) (k : Nat) (y : Engine) : SetsEngine d k y (d.setEngine k y) :=
  ⟨⟨_, rfl⟩, fun i => engine_setEngine d k i y⟩

theorem setsEngine_self {d : Device} {k : Nat} {y : Engine} (h : d.engine k = y) : SetsEngine d k y d := by
  refine ⟨⟨d.eng.engines, rfl⟩, fun i => ?_⟩
  split
  · next hk => rw [← hk, h]
  · rfl

/-- A fold that replaces each engine of a list by its own image. -/
theorem foldl_setsEngine {d : Device} {g : Engine → Engine} {step : Device → Nat → Device} {l : List Nat} (hnodup : l.Nodup)
    (hstep : ∀ k ∈ l, ∀ m, (withEngines d m).engine k = d.engine k →
      SetsEngine (withEngines d m) k (g (d.engine k)) (step (withEngines d m) k)) :
    (∃ m, l.foldl step d = withEngines d m) ∧ ∀ k, (l.foldl step d).engine k = if k ∈ l then g (d.engine k) else d.engine k := by
  have hfold (l' : List Nat) (hl : l'.Nodup) (hsub : ∀ k ∈ l', k ∈ l) (m : Store Engine)
      (hm : ∀ k ∈ l', (withEngines d m).engine k = d.engine k) : (∃ m', l'.foldl step (withEngines d m) = withEngines d m') ∧
        ∀ k, (l'.foldl step (withEngines d m)).engine k = if k ∈ l' then g (d.engine k) else (withEngines d m).engine k := by
    induction l' generalizing m with
    | nil => exact ⟨⟨m, rfl⟩, fun _ => rfl⟩
    | cons a r ih =>
      obtain ⟨ha, hr⟩ := List.nodup_cons.mp hl
      have htwice (m1 : Store Engine) : withEngines (withEngines d m) m1 = withEngines d m1 := rfl
      obtain ⟨⟨m1, hone⟩, hset⟩ := hstep a (hsub a (List.mem_cons_self ..)) m (hm a (List.mem_cons_self ..))
      rw [hone, htwice] at hset
      rw [List.foldl_cons, hone, htwice]
      obtain ⟨hm', hall⟩ := ih hr (fun k hk => hsub k (List.mem_cons_of_mem _ hk)) m1 fun k hk => by
        rw [hset, if_neg fun h : a = k => ha (h ▸ hk)]
        exact hm k (List.mem_cons_of_mem _ hk)
      refine ⟨hm', fun k => ?_⟩
      rw [hall, hset]
      by_cases hk : k ∈ r
      · rw [if_pos hk, if_pos (List.mem_cons_of_mem _ hk)]
      · by_cases hak : a = k
        · rw [if_neg hk, if_pos hak, if_pos (hak ▸ List.mem_cons_self ..), hak]
        · rw [if_neg hk, if_neg hak, if_neg fun h => (List.mem_cons.mp h).elim (fun h => hak h.symm) hk]
  exact hfold l hnodup (fun _ h => h) d.eng.engines fun _ _ => rfl

theorem maskedEngines_nodup (t mask : Nat) : (maskedEngines t mask).Nodup :=
  (List.nodup_range.filter _).map fun a b h => by omega

theorem mem_maskedEngines {t mask j : Nat} (hj : j < 8) : 8 * t + j ∈ maskedEngines t mask ↔ bitOf mask j = true := by
  simp only [maskedEngines, List.mem_map, List.mem_filter, List.mem_range]
  exact ⟨fun ⟨k, ⟨_, hk⟩, h⟩ => by rwa [show j = k by omega], fun h => ⟨j, ⟨hj, h⟩, rfl⟩⟩

/-- The engine that a group start leaves. -/
def groupStarted (restart clkr : Bool) (x : Engine) : Engine :=
  let y := if clkr then x.divRestart else x
  if y.run then y else started (if restart then y.restart else y) false

theorem pc_withPc (x : Engine) (p : Nat) : ({ x with pc := p } : Engine).pc = p := rfl

theorem acc_withPc (x : Engine) (p : Nat) : ({ x with pc := p } : Engine).acc = x.acc := rfl

theorem acc_setRg (x : Engine) (r v : Nat) : (x.setRg r v).acc = x.acc := rfl

theorem acc_setFld (x : Engine) (r lo w v : Nat) : (x.setFld r lo w v).acc = x.acc := acc_setRg ..

theorem restart_pc (x : Engine) : x.restart.pc = 0 := pc_withPc _ 0

theorem restart_acc (x : Engine) : x.restart.acc = x.acc :=
  (acc_withPc _ 0).trans ((acc_setFld ..).trans ((acc_setFld ..).trans ((acc_setRg ..).trans ((acc_setRg ..).trans (acc_setRg ..)))))

theorem groupStarted_fields (restart clkr : Bool) (x : Engine) :
    (groupStarted restart clkr x).run = true ∧ (clkr = true → (groupStarted restart clkr x).acc = 0) ∧
    (groupStarted restart clkr x).pc = if restart && !x.run then 0 else x.pc := by
  unfold groupStarted
  generalize hy : (if clkr then x.divRestart else x) = y
  have hrun : y.run = x.run := by rw [← hy]; cases clkr <;> rfl
  have hpc : y.pc = x.pc := by rw [← hy]; cases clkr <;> rfl
  have hacc (h : clkr = true) : y.acc = 0 := by rw [← hy, h]; rfl
  dsimp only
  cases hx : x.run with
  | true =>
    rw [hx] at hrun
    rw [if_pos hrun, Bool.not_true, Bool.and_false]
    exact ⟨hrun, hacc, hpc⟩
  | false =>
    rw [hx] at hrun
    rw [if_neg (by rw [hrun]; decide), started_acc, started_pc, Bool.not_false, Bool.and_true, if_neg Bool.false_ne_true]
    cases restart with
    | true => exact ⟨started_run .., fun h => (restart_acc y).trans (hacc h), restart_pc y⟩
    | false => exact ⟨started_run .., hacc, hpc⟩

/-- A group's start of one engine, whose divider has restarted or not. -/
theorem setsEngine_engStart {e : Device} {k : Nat} {restart : Bool} (h : Startable e k) (hevout : (e.engine k).rg peEvout = 0)
    (herr : (e.engine k).err = 0) : SetsEngine e k
      (if (e.engine k).run then e.engine k else started (if restart then (e.engine k).restart else e.engine k) false)
        (e.engStart k restart false) := by
  cases hrun : (e.engine k).run with
  | true =>
    rw [engStart_running h hrun]
    exact setsEngine_self rfl
  | false =>
    rw [engStart_stopped h hrun (fun hand => hand.1 herr) hevout]
    exact setsEngine_setEngine ..

theorem SetsEngine.of_setEngine {d e : Device} {k : Nat} {x y : Engine} (h : SetsEngine (d.setEngine k x) k y e) : SetsEngine d k y e := by
  obtain ⟨⟨m, hm⟩, hengine⟩ := h
  refine ⟨⟨m, hm⟩, fun i => ?_⟩
  rw [hengine, engine_setEngine]
  split <;> rfl

/-- One engine of a group start. -/
theorem setsEngine_groupStep {e : Device} {k : Nat} {restart clkr : Bool} (h : Startable e k) (hevout : (e.engine k).rg peEvout = 0)
    (herr : (e.engine k).err = 0) : SetsEngine e k (groupStarted restart clkr (e.engine k))
      ((if clkr && e.engPresent k && !e.migrating k then e.setEngine k (e.engine k).divRestart else e).engStart k restart false) := by
  rw [h.present, h.migrating, Bool.and_true, Bool.not_false, Bool.and_true]
  cases clkr with
  | false => exact setsEngine_engStart h hevout herr
  | true =>
    have hdivider : (e.setEngine k (e.engine k).divRestart).engine k = (e.engine k).divRestart := engine_setEngine_same ..
    have hstart := setsEngine_engStart (restart := restart) (h.setEngine k (e.engine k).divRestart) (by rw [hdivider]; exact hevout)
      (by rw [hdivider]; exact herr)
    rw [hdivider] at hstart
    exact hstart.of_setEngine

section
variable {d : Device} {t mask : Nat} (hstart : ∀ k ∈ maskedEngines t mask, Startable d k)
include hstart

theorem engine_groupStop (k : Nat) :
    (d.groupStop t mask).engine k = if k ∈ maskedEngines t mask then (d.engine k).stop else d.engine k := by
  obtain ⟨_, hengines⟩ := foldl_setsEngine (d := d) (g := Engine.stop) (step := fun e k => e.engStop k) (maskedEngines_nodup t mask)
    fun k hk m hm => by
      have hstands : Startable (withEngines d m) k := ⟨(hstart k hk).present, (hstart k hk).migrating, (hstart k hk).relock⟩
      rw [engStop_eq hstands, hm]
      exact setsEngine_setEngine ..
  exact hengines k

theorem engine_groupStart {clkr restart : Bool} (hevout : ∀ k ∈ maskedEngines t mask, (d.engine k).rg peEvout = 0 ∧ (d.engine k).err = 0)
    (k : Nat) : (d.groupStart t mask clkr restart).engine k =
      if k ∈ maskedEngines t mask then groupStarted restart clkr (d.engine k) else d.engine k := by
  obtain ⟨_, hengines⟩ := foldl_setsEngine (d := d) (g := groupStarted restart clkr)
    (step := fun e k => (if clkr && e.engPresent k && !e.migrating k then e.setEngine k (e.engine k).divRestart else e).engStart k restart false)
    (maskedEngines_nodup t mask) fun k hk m hm => by
      have hstands : Startable (withEngines d m) k := ⟨(hstart k hk).present, (hstart k hk).migrating, (hstart k hk).relock⟩
      rw [← hm]
      exact setsEngine_groupStep hstands (hm ▸ (hevout k hk).1) (hm ▸ (hevout k hk).2)
  exact hengines k

end

end Sys2Proof.Proofs
end

section
/-! PROOF. EnginesAreControlled, continued: tile flags and lines (R245), program words (R253), and the statement. -/

open Sys2Proof Sys2Proof.Machine Sys2Proof.Claims

namespace Sys2Proof.Proofs

/-! ### Interrupt lines reach no engine -/

section
variable (d : Device)

theorem eng_ite {d e f : Device} {c : Prop} [Decidable c] (he : e.eng = d.eng) (hf : f.eng = d.eng) : (if c then e else f).eng = d.eng := by
  split <;> assumption

theorem eng_traceLose : d.traceLose.eng = d.eng := (Device.setTrace_eng ..).trans (Device.setFld_eng ..)

theorem eng_traceEnter (key : Nat) (p : List Byte) : (d.traceEnter key p).eng = d.eng := by
  unfold Device.traceEnter
  exact eng_ite (eng_traceLose d) (Device.setTrace_eng ..)

theorem eng_traceSync : d.traceSync.eng = d.eng := eng_traceEnter ..

theorem eng_record (type flags src : Nat) (p : List Byte) : (d.record type flags src p).eng = d.eng := by
  unfold Device.record
  exact eng_ite rfl (eng_ite (eng_ite (Device.setTrace_eng ..) rfl) (eng_traceEnter ..))

theorem eng_sendMsi : d.sendMsi.eng = d.eng := by
  unfold Device.sendMsi
  refine List.foldlRecOn (motive := fun e : Device => e.eng = d.eng) _ _ rfl fun e he r _ => ?_
  exact eng_ite ((Device.sendRequest_eng ..).trans he) he

theorem eng_hostSource (k : Nat) : (d.hostSource k).eng = d.eng := by
  unfold Device.hostSource
  extract_lets was d1 r
  have h1 : d1.eng = d.eng := Device.setFlag_eng ..
  exact eng_ite ((eng_sendMsi _).trans h1) h1

/-- The trace of a wake from DOZE. -/
theorem eng_traceMode (m : Mode) (hdoze : d.mode = .doze) : (d.traceMode m).eng = d.eng := by
  unfold Device.traceMode
  dsimp only
  rw [hdoze]
  split
  · next h => exact absurd h (by simp)
  · split
    · have h1 : ({ d.setFlag Reg.DBG_STAT 1 false with mode := m } : Device).eng = d.eng := Device.setFlag_eng d Reg.DBG_STAT 1 false
      have hback (e : Device) (c : Bool) (he : e.eng = d.eng) : (if c then e.record 0x0C m.code 0x3FF [] else e).eng = d.eng :=
        eng_ite ((eng_record ..).trans he) he
      refine hback _ _ (eng_ite h1 (eng_ite ?_ ((eng_traceSync _).trans h1)))
      exact (eng_traceSync _).trans ((Device.setFld_eng ..).trans ((Device.setTrace_eng ..).trans ((eng_record ..).trans h1)))
    · exact eng_record ..

theorem eng_modeLevels (v : Bool) : ((d.hostSource 2).setLevel 0x53 v).followFault.eng = d.eng :=
  fabricOnly_followFault.parts.2.trans ((fabricOnly_setLevel 0x53 v).parts.2.trans (eng_hostSource d 2))

/-- The end of DOZE changes no engine (R519). -/
theorem eng_setMode (m : Mode) (hdoze : d.mode = .doze) : (d.setMode m).eng = d.eng := by
  unfold Device.setMode
  split
  · rfl
  · dsimp only
    rw [if_neg (by rw [hdoze]; simp)]
    exact (eng_modeLevels _ _).trans (eng_traceMode d m hdoze)

theorem eng_dozeExit (b : Nat) : (d.dozeExit b).eng = d.eng := by
  unfold Device.dozeExit
  split
  · next h => exact eng_setMode d _ h.1
  · rfl

theorem eng_setLine (b k : Nat) : (d.setLine b k).eng = d.eng := by
  unfold Device.setLine Device.assertLines Device.countAbsent
  dsimp only
  split
  · split
    · rfl
    · split
      · split
        · exact (Device.draw_eng ..).trans (Device.setBerth_eng ..)
        · rfl
      · exact (eng_dozeExit ..).trans (Device.setBerth_eng ..)
  · split
    · exact Device.bump_eng ..
    · rfl

theorem eng_tileLine (t i : Nat) : (d.tileLine t i).eng = d.eng :=
  List.foldlRecOn (motive := fun e : Device => e.eng = d.eng) _ _ rfl fun e he b _ => (eng_setLine e b (i + 1)).trans he

end

/-! ### Tile flags and lines (R245) -/

section
variable (d : Device) (t v : Nat)

theorem tileReg_tileSet : (d.tileSet t v).tileReg t 48 = d.tileReg t 48 ||| v % 2 ^ 24 := by
  have hlines : (d.tileSet t v).eng = (d.setTileReg t 48 (d.tileReg t 48 ||| v % 2 ^ 24)).eng :=
    List.foldlRecOn (motive := fun e : Device => e.eng = _) _ _ rfl fun e he i _ => eng_ite ((eng_tileLine e t i).trans he) he
  rw [tileReg_of_eng hlines, tileReg_setTileReg_same]
  exact Nat.mod_eq_of_lt (Nat.or_lt_two_pow (tileReg_lt ..) ((Nat.mod_lt _ (Nat.two_pow_pos 24)).trans (by decide)))

/-- What two numbers share can be taken from the first one bit by bit. -/
theorem testBit_sub_and (a m j : Nat) : (a - (a &&& m)).testBit j = (a.testBit j && !m.testBit j) := by
  induction j generalizing a m with
  | zero =>
    have hand : (a &&& m) % 2 = 1 ↔ a % 2 = 1 ∧ m % 2 = 1 := Nat.and_mod_two_eq_one
    have hle : (a &&& m) ≤ a := Nat.and_le_left
    rw [Nat.testBit_zero, Nat.testBit_zero, Nat.testBit_zero, Bool.eq_iff_iff]
    simp only [decide_eq_true_eq, Bool.and_eq_true, Bool.not_eq_true', decide_eq_false_iff_not]
    omega
  | succ j ih =>
    have hand : (a &&& m) % 2 = 1 ↔ a % 2 = 1 ∧ m % 2 = 1 := Nat.and_mod_two_eq_one
    have hle : (a &&& m) ≤ a := Nat.and_le_left
    have hhalf : (a - (a &&& m)) / 2 = a / 2 - (a / 2 &&& m / 2) := by
      rw [← Nat.and_div_two]
      omega
    rw [Nat.testBit_succ, hhalf, ih, Nat.testBit_succ, Nat.testBit_succ]

theorem tileReg_tileClear {j : Nat} (hj : j < 24) :
    bitOf ((d.tileClear t v).tileReg t 48) j = (bitOf (d.tileReg t 48) j && !v.testBit j) := by
  have hlt : d.tileReg t 48 - (d.tileReg t 48 &&& v % 2 ^ 24) < 2 ^ 32 := (Nat.sub_le ..).trans_lt (tileReg_lt ..)
  rw [Device.tileClear, tileReg_setTileReg_same, Nat.mod_eq_of_lt hlt, bitOf_eq_testBit, testBit_sub_and, Nat.testBit_mod_two_pow,
    decide_eq_true hj, Bool.true_and, bitOf_eq_testBit]

end

/-! ### Program words (R253) -/

section
variable {d : Device} {e k v : Nat}

theorem progWrite_stopped (hpresent : d.engPresent e = true) (hmig : d.migrating e = false) (hgate : d.mode ≠ .run ∨ d.gateIs 4 = true)
    (hrun : (d.engine e).run = false) : d.progWrite e k v =
      d.setEngine e { d.engine e with prog := (d.engine e).prog.put (fun _ => 0) k (v % 2 ^ 16) } := by
  have hopen : ¬ (d.mode = .run ∧ d.gateIs 4 = false) := by
    rintro ⟨hmode, hclosed⟩
    obtain h | h := hgate
    · exact h hmode
    · exact Bool.false_ne_true (hclosed.symm.trans h)
  unfold Device.progWrite
  rw [hpresent, hmig]
  dsimp only
  rw [hrun, if_neg (by decide), if_neg (by simpa using hopen)]

theorem progWrite_running (hpresent : d.engPresent e = true) (hrun : (d.engine e).run = true) : d.progWrite e k v = d.engDeny (e / 8) := by
  unfold Device.progWrite
  rw [hpresent]
  dsimp only
  rw [if_neg (by decide), if_pos (.inl hrun)]

theorem word_put (x : Engine) (k v j : Nat) :
    ({ x with prog := x.prog.put (fun _ => 0) k v } : Engine).word j = if k = j then v else x.word j := by
  unfold Engine.word
  exact Store.get_put x.prog (fun _ => 0) k j v

theorem deny_engDeny (t : Nat) : bitsOf ((d.engDeny t).tileReg t 47) 0 16 = min (bitsOf (d.tileReg t 47) 0 16 + 1) 0xFFFF := by
  rw [Device.engDeny, tileReg_setTileReg_same, bitsOf_mod (by decide), bitsOf_setBits_same, satInc_bitsOf]
  exact Nat.mod_eq_of_lt (by omega)

end

/-! ### The tile registers' commands -/

section
variable {s : State} {w : Writer} {t : BitVec 3}

/-- A command that writes a register, by the device that the write leaves. -/
theorem completes_rowWrite {c : Instr} {off u : Nat} {g : Device} {P : Device → Prop} (hexec : exec c s = s.upd fun d => d.rowWrite w off u)
    (hwrite : s.dev.rowWrite w off u = g) (hP : P { g with cfg := s.dev.cfg }) : Completes c s P :=
  completes_of_exec hexec (by rw [hwrite]; exact hP)

theorem engine_withCfg (d : Device) (c : Straps) (k : Nat) : ({ d with cfg := c } : Device).engine k = d.engine k := rfl

theorem tileReg_withCfg (d : Device) (c : Straps) (t r : Nat) : ({ d with cfg := c } : Device).tileReg t r = d.tileReg t r := rfl

theorem rowWrite_tile {r : Nat} (v : Nat) (hpresent : s.dev.engPresent (8 * t.toNat) = true) (hlow : 47 ≤ r) (hr : r < 64)
    (harrives : s.dev.arrives w (engOffset (8 * t.toNat) r) = true) :
    s.dev.rowWrite w (engOffset (8 * t.toNat) r) v = s.dev.tileRegWrite .window t.toNat r (v % 2 ^ 32) := by
  have ht : 8 * t.toNat < 64 := by have := t.isLt; omega
  exact (rowWrite_engReg v ht hr harrives).trans (engWrite_tile _ hpresent hlow)

theorem bit01_le (p : Bool) : bit01 p ≤ 1 := by cases p <;> decide

theorem bit01_beq (p : Bool) : (bit01 p == 1) = p := by cases p <;> rfl

/-- The word that a group start writes. -/
theorem groupWord (mask : BitVec 8) (restart clkr : Bool) :
    let v := (mask.toNat + 2 ^ 8 * bit01 clkr + 2 ^ 9 * bit01 restart) % 2 ^ 32
    v % 256 = mask.toNat ∧ bitOf v 8 = clkr ∧ bitOf v 9 = restart := by
  intro v
  have hmask := mask.isLt
  have hclkr := bit01_le clkr
  have hrestart := bit01_le restart
  have h8 : v / 2 ^ 8 % 2 = bit01 clkr := by omega
  have h9 : v / 2 ^ 9 % 2 = bit01 restart := by omega
  refine ⟨by omega, ?_, ?_⟩
  · rw [bitOf, h8, bit01_beq]
  · rw [bitOf, h9, bit01_beq]

end

/-! ### The commands of PE_CTRL -/

section
variable {s : State} {w : Writer} {e : BitVec 6} {v : BitVec 32}

theorem bitOf_written_other (lo wd y : Nat) {i : Nat} (hi : i < 32) (hout : ¬ (lo ≤ i ∧ i < lo + wd)) :
    bitOf (setBits v.toNat lo wd y % 2 ^ 32) i = v.getLsbD i := (bitOf_written _ _ _ _ hi).trans (if_neg hout)

theorem bitOf_written_same (v lo wd y : Nat) {i : Nat} (hi : i < 32) (hin : lo ≤ i ∧ i < lo + wd) :
    bitOf (setBits v lo wd y % 2 ^ 32) i = y.testBit (i - lo) := (bitOf_written _ _ _ _ hi).trans (if_pos hin)

section
variable (harrives : s.dev.arrives w (engOffset e.toNat 2) = true) (h : Startable s.dev e.toNat)
include harrives h

theorem engineStart_leaves (hplain : engPlain s.dev e.toNat) (hclears : v.toNat / 8 % 8 = 0) (hrun : (s.dev.engine e.toNat).run = false)
    (hrestart : v.getLsbD 1 = false) (herr : (s.dev.engine e.toNat).err = 0) : LeavesEngine s e.toNat (.engineStart w e v) fun y =>
      y.run = true ∧ y.wait = .none ∧ y.pc = (s.dev.engine e.toNat).pc ∧ y.regs = (s.dev.engine e.toNat).regs ∧
      y.acc = if v.getLsbD 2 then 0 else (s.dev.engine e.toNat).acc :=
  leavesEngine_start (lo := 0) (wd := 1) (x := 1) harrives h rfl hplain (by decide) hclears (bitOf_written_same _ _ _ _ (by decide) (by decide)) hrun
    ((bitOf_written_other _ _ _ (by decide) (by decide)).trans hrestart) (bitOf_written_other _ _ _ (by decide) (by decide))
    (fun hand => hand.1 herr) ⟨rfl, rfl, started_pc .., started_regs .., started_acc ..⟩

theorem engineStart_error (hclears : v.toNat / 8 % 8 = 0) (hrun : (s.dev.engine e.toNat).run = false) (hrestart : v.getLsbD 1 = false)
    (herr : (s.dev.engine e.toNat).err ≠ 0) : LeavesEngine s e.toNat (.engineStart w e v) fun y => y = s.dev.engine e.toNat :=
  leavesEngine_error (lo := 0) (wd := 1) (x := 1) harrives h rfl (by decide) hclears (bitOf_written_same _ _ _ _ (by decide) (by decide)) hrun
    ((bitOf_written_other _ _ _ (by decide) (by decide)).trans hrestart) herr

theorem programRestart_leaves (hplain : engPlain s.dev e.toNat) (hclears : v.toNat / 8 % 8 = 0) (hrun : (s.dev.engine e.toNat).run = false) :
    LeavesEngine s e.toNat (.programRestart w e v) fun y => y.run = true ∧ y.wait = .none ∧
      (y.pc = 0 ∧ y.rg peRsh = 0 ∧ y.rg peTsh = 0 ∧ y.rg peScnt = 0 ∧ y.err = 0 ∧ y.cmatch = false) := by
  obtain ⟨hrsh, htsh, hscnt⟩ := restart_shifts (s.dev.engine e.toNat)
  refine leavesEngine_start (lo := 0) (wd := 2) (x := 3) harrives h rfl hplain (by decide) hclears
    (bitOf_written_same _ _ _ _ (by decide) (by decide)) hrun (bitOf_written_same _ _ _ _ (by decide) (by decide))
    (bitOf_written_other _ _ _ (by decide) (by decide)) (fun hand => absurd hand.2 (by decide)) ?_
  rw [if_pos (by decide)]
  refine ⟨rfl, rfl, (started_pc ..).trans (restart_pc _), (rg_started ..).trans hrsh, (rg_started ..).trans htsh,
    (rg_started ..).trans hscnt, ?_, ?_⟩
  · rw [Engine.err, Engine.fld, rg_started]
    exact engErr_restart _
  · rw [Engine.cmatch, Engine.flag, rg_started]
    exact engCmatch_restart _

theorem engineStop_leaves (hclears : v.toNat / 8 % 8 = 0) (hclkr : v.getLsbD 2 = false) : LeavesEngine s e.toNat (.engineStop w e v) fun y =>
    y = { s.dev.engine e.toNat with run := false, wait := .none, frozen := false } :=
  leavesEngine_stop (lo := 0) (wd := 1) (x := 0) harrives h rfl (by decide) hclears (bitOf_written_same _ _ _ _ (by decide) (by decide))
    ((bitOf_written_other _ _ _ (by decide) (by decide)).trans hclkr) rfl

theorem dividerRestart_leaves (hclears : v.toNat / 8 % 8 = 0) (hen : v.getLsbD 0 = (s.dev.engine e.toNat).run) :
    LeavesEngine s e.toNat (.dividerRestart w e v) fun y => y.acc = 0 ∧ y.run = (s.dev.engine e.toNat).run ∧
      y.pc = (s.dev.engine e.toNat).pc ∧ y.regs = (s.dev.engine e.toNat).regs := by
  have hbit0 := (bitOf_written_other (v := v) 2 1 1 (i := 0) (by decide) (by decide)).trans hen
  have hbit2 := bitOf_written_same v.toNat 2 1 1 (i := 2) (by decide) (by decide)
  cases hrun : (s.dev.engine e.toNat).run with
  | true => exact leavesEngine_divRestart harrives h rfl (by decide) hclears (hbit0.trans hrun) hbit2 hrun ⟨rfl, hrun, rfl, rfl⟩
  | false => exact leavesEngine_stop harrives h rfl (by decide) hclears (hbit0.trans hrun) hbit2 ⟨rfl, rfl, rfl, rfl⟩

section
variable (hlow : v.toNat % 8 = if (s.dev.engine e.toNat).run then 1 else 0)
include hlow

theorem txClear_leaves : LeavesEngine s e.toNat (.txClear w e v) fun y =>
    y.tx = if (s.dev.engine e.toNat).run then (s.dev.engine e.toNat).tx else [] := by
  refine leavesEngine_clears (lo := 3) (wd := 1) (x := 1) harrives h rfl (by decide) hlow fun y hy => hy.tx.trans ?_
  rw [bitOf_written_same _ _ _ _ (by decide) (by decide)]
  cases (s.dev.engine e.toNat).run <;> rfl

theorem rxClear_leaves : LeavesEngine s e.toNat (.rxClear w e v) fun y =>
    y.rx = if (s.dev.engine e.toNat).run then (s.dev.engine e.toNat).rx else [] := by
  refine leavesEngine_clears (lo := 4) (wd := 1) (x := 1) harrives h rfl (by decide) hlow fun y hy => hy.rx.trans ?_
  rw [bitOf_written_same _ _ _ _ (by decide) (by decide)]
  cases (s.dev.engine e.toNat).run <;> rfl

theorem stallClear_leaves : LeavesEngine s e.toNat (.stallClear w e v) fun y =>
    y.rg peStall = 0 ∧ y.rg peStallcyc = 0 ∧ y.pc = (s.dev.engine e.toNat).pc := by
  refine leavesEngine_clears (lo := 5) (wd := 1) (x := 1) harrives h rfl (by decide) hlow fun y hy => ?_
  obtain ⟨hstall, hcycles⟩ := hy.stall (bitOf_written_same _ _ _ _ (by decide) (by decide))
  exact ⟨hstall, hcycles, hy.pc⟩

end

end

end

/-! ### The commands of groups, tile flags and program words -/

section
variable {s : State} {w : Writer} {t : BitVec 3} {mask : BitVec 8}

section
variable (hmask : ∀ j, j < 8 → mask.getLsbD j = true →
    engPlain s.dev (8 * t.toNat + j) ∧ s.dev.migrating (8 * t.toNat + j) = false ∧ (s.dev.engine (8 * t.toNat + j)).err = 0)
  (hrelock : s.dev.pwr.relock = none)

theorem mem_maskedEngines_toNat (t : Nat) {j : Nat} (hj : j < 8) : 8 * t + j ∈ maskedEngines t mask.toNat ↔ mask.getLsbD j = true := by
  rw [mem_maskedEngines hj, bitOf_eq_testBit]
  rfl

include hmask

theorem masked_plain : ∀ k ∈ maskedEngines t.toNat mask.toNat, engPlain s.dev k ∧ s.dev.migrating k = false ∧ (s.dev.engine k).err = 0 := by
  intro k hk
  obtain ⟨j, hj, rfl⟩ := List.mem_map.mp hk
  rw [List.mem_filter, List.mem_range, bitOf_eq_testBit] at hj
  exact hmask j hj.1 hj.2

include hrelock

theorem masked_startable : ∀ k ∈ maskedEngines t.toNat mask.toNat, Startable s.dev k := fun k hk =>
  ⟨(masked_plain hmask k hk).1.1, (masked_plain hmask k hk).2.1, hrelock⟩

variable (hpresent : s.dev.engPresent (8 * t.toNat) = true)
include hpresent

theorem completes_groupStart {restart clkr : Bool} (harrives : s.dev.arrives w (engOffset (8 * t.toNat) 51) = true) :
    Completes (.groupStart w t mask restart clkr) s fun f => ∀ j, j < 8 →
      if mask.getLsbD j then (f.engine (8 * t.toNat + j)).run = true ∧ (clkr = true → (f.engine (8 * t.toNat + j)).acc = 0) ∧
        (f.engine (8 * t.toNat + j)).pc = (if restart && !(s.dev.engine (8 * t.toNat + j)).run then 0 else (s.dev.engine (8 * t.toNat + j)).pc)
      else f.engine (8 * t.toNat + j) = s.dev.engine (8 * t.toNat + j) := by
  obtain ⟨hlow, h8, h9⟩ := groupWord mask restart clkr
  have hwrite := rowWrite_tile (mask.toNat + 2 ^ 8 * bit01 clkr + 2 ^ 9 * bit01 restart) hpresent (by decide) (by decide) harrives
  have hstart (f : Device) (v : Nat) : f.tileRegWrite .window t.toNat 51 v = f.groupStart t.toNat (v % 256) (bitOf v 8) (bitOf v 9) := rfl
  have hplain := masked_plain hmask
  rw [hstart, hlow, h8, h9] at hwrite
  refine completes_rowWrite rfl hwrite fun j hj => ?_
  rw [engine_withCfg, engine_groupStart (masked_startable hmask hrelock) fun k hk => ⟨(hplain k hk).1.2.1, (hplain k hk).2.2⟩]
  by_cases hj' : mask.getLsbD j = true
  · rw [if_pos hj', if_pos ((mem_maskedEngines_toNat _ hj).mpr hj')]
    exact groupStarted_fields ..
  · rw [if_neg hj', if_neg ((mem_maskedEngines_toNat _ hj).not.mpr hj')]

theorem completes_groupStop (harrives : s.dev.arrives w (engOffset (8 * t.toNat) 52) = true) :
    Completes (.groupStop w t mask) s fun f => ∀ j, j < 8 → f.engine (8 * t.toNat + j) =
      if mask.getLsbD j then { s.dev.engine (8 * t.toNat + j) with run := false, wait := .none, frozen := false }
      else s.dev.engine (8 * t.toNat + j) := by
  have hlow : mask.toNat % 2 ^ 32 % 256 = mask.toNat := by have := mask.isLt; omega
  have hwrite := rowWrite_tile mask.toNat hpresent (by decide) (by decide) harrives
  have hstop (f : Device) (v : Nat) : f.tileRegWrite .window t.toNat 52 v = f.groupStop t.toNat (v % 256) := rfl
  rw [hstop, hlow] at hwrite
  refine completes_rowWrite rfl hwrite fun j hj => ?_
  rw [engine_withCfg, engine_groupStop (masked_startable hmask hrelock)]
  by_cases hj' : mask.getLsbD j = true
  · rw [if_pos hj', if_pos ((mem_maskedEngines_toNat _ hj).mpr hj')]
    rfl
  · rw [if_neg hj', if_neg ((mem_maskedEngines_toNat _ hj).not.mpr hj')]

end

theorem tileRegWrite_clear (d : Device) (t v : Nat) : d.tileRegWrite .window t 50 v =
    if bitOf v 31 then (d.tileClear t v).setTileReg t 47 0 else d.tileClear t v := rfl

section
variable (hpresent : s.dev.engPresent (8 * t.toNat) = true)
include hpresent

theorem completes_tileFlagSet {v : BitVec 32} (harrives : s.dev.arrives w (engOffset (8 * t.toNat) 49) = true) :
    Completes (.tileFlagSet w t v) s fun f => f.tileReg t.toNat 48 = s.dev.tileReg t.toNat 48 ||| v.toNat % 2 ^ 24 := by
  have hwrite := rowWrite_tile v.toNat hpresent (by decide) (by decide) harrives
  have hset (f : Device) (u : Nat) : f.tileRegWrite .window t.toNat 49 u = f.tileSet t.toNat u := rfl
  rw [hset, Nat.mod_eq_of_lt v.isLt] at hwrite
  exact completes_rowWrite rfl hwrite ((tileReg_withCfg ..).trans (tileReg_tileSet ..))

theorem completes_tileFlagClear {u : BitVec 31} (harrives : s.dev.arrives w (engOffset (8 * t.toNat) 50) = true) :
    Completes (.tileFlagClear w t u) s fun f =>
      ∀ j, j < 24 → bitOf (f.tileReg t.toNat 48) j = (bitOf (s.dev.tileReg t.toNat 48) j && !u.getLsbD j) := by
  have hwrite := rowWrite_tile u.toNat hpresent (by decide) (by decide) harrives
  have hbit : bitOf u.toNat 31 = false := by
    rw [bitOf_eq_testBit]
    exact Nat.testBit_eq_false_of_lt u.isLt
  have hu : u.toNat % 2 ^ 32 = u.toNat := Nat.mod_eq_of_lt (u.isLt.trans (by decide))
  rw [hu, tileRegWrite_clear, hbit, if_neg Bool.false_ne_true] at hwrite
  refine completes_rowWrite rfl hwrite fun j hj => ?_
  rw [tileReg_withCfg]
  exact tileReg_tileClear _ _ _ hj

theorem completes_tstatClear (harrives : s.dev.arrives w (engOffset (8 * t.toNat) 50) = true) :
    Completes (.tstatClear w t) s fun f => f.tileReg t.toNat 47 = 0 ∧ f.tileReg t.toNat 48 = s.dev.tileReg t.toNat 48 := by
  have hwrite := rowWrite_tile (2 ^ 31) hpresent (by decide) (by decide) harrives
  rw [show 2 ^ 31 % 2 ^ 32 = 2 ^ 31 from rfl, tileRegWrite_clear, if_pos (by decide)] at hwrite
  have hflags : (s.dev.tileClear t.toNat (2 ^ 31)).tileReg t.toNat 48 = s.dev.tileReg t.toNat 48 := by
    rw [Device.tileClear, tileReg_setTileReg_same, show 2 ^ 31 % 2 ^ 24 = 0 from rfl, Nat.and_zero, Nat.sub_zero]
    exact Nat.mod_eq_of_lt (tileReg_lt ..)
  refine completes_rowWrite rfl hwrite ⟨?_, ?_⟩ <;> rw [tileReg_withCfg]
  · rw [tileReg_setTileReg_same, Nat.zero_mod]
  · rw [tileReg_setTileReg_other _ _ _ (by decide), hflags]

end

end

section
variable {s : State} {w : Writer} {e k : BitVec 6} {p : BitVec 16} (hpresent : s.dev.engPresent e.toNat = true)
  (harrives : s.dev.arrives w (0x40000 + 0x1000 * e.toNat + 0x100 + 4 * k.toNat) = true)
include hpresent harrives

theorem completes_programWordWrite (hmig : s.dev.migrating e.toNat = false) (hgate : s.dev.mode ≠ .run ∨ s.dev.gateIs 4 = true)
    (hrun : (s.dev.engine e.toNat).run = false) : Completes (.programWordWrite w e k p) s fun f =>
      (f.engine e.toNat).word k.toNat = p.toNat ∧ (∀ j, j ≠ k.toNat → (f.engine e.toNat).word j = (s.dev.engine e.toNat).word j) ∧
      (f.engine e.toNat).regs = (s.dev.engine e.toNat).regs ∧ ∀ j, j ≠ e.toNat → f.engine j = s.dev.engine j := by
  have hp : p.toNat % 2 ^ 32 % 2 ^ 16 = p.toNat := by have := p.isLt; omega
  have hwrite := (rowWrite_prog p.toNat rfl e.isLt k.isLt harrives).trans (progWrite_stopped hpresent hmig hgate hrun)
  rw [hp] at hwrite
  refine completes_rowWrite rfl hwrite ?_
  simp only [engine_withCfg, engine_setEngine_same]
  exact ⟨(word_put ..).trans (if_pos rfl), fun j hj => (word_put ..).trans (if_neg hj.symm), trivial, fun j hj => engine_setEngine_other _ _ hj⟩

theorem completes_programWordDeny (hrun : (s.dev.engine e.toNat).run = true) : Completes (.programWordWrite w e k p) s fun f =>
    (f.engine e.toNat).prog = (s.dev.engine e.toNat).prog ∧
    bitsOf (f.tileReg (e.toNat / 8) 47) 0 16 = min (bitsOf (s.dev.tileReg (e.toNat / 8) 47) 0 16 + 1) 0xFFFF := by
  have hwrite := (rowWrite_prog p.toNat rfl e.isLt k.isLt harrives).trans (progWrite_running hpresent hrun)
  refine completes_rowWrite rfl hwrite ⟨?_, ?_⟩
  · rw [engine_withCfg, Device.engDeny, engine_setTileReg]
  · rw [tileReg_withCfg, deny_engDeny]

end

/-! ### The statement -/

/-- Settles O29: what a write of PE_CTRL, of a group or tile register, or of a program word leaves of the engines. -/
theorem enginesAreControlled : Obligations.EnginesAreControlled := by
  unfold Obligations.EnginesAreControlled
  refine ⟨?_, ?_⟩
  · intro s w e v t mask restart clkr d n x others does cleared
    refine ⟨fun hclears hrun hrestart herr harr hplain hmig hrelock =>
        engineStart_leaves harr ⟨hplain.1, hmig, hrelock⟩ hplain hclears hrun hrestart herr,
      fun hclears hrun hrestart herr harr hplain hmig hrelock =>
        engineStart_error harr ⟨hplain.1, hmig, hrelock⟩ hclears hrun hrestart herr,
      fun hclears hrun harr hplain hmig hrelock => programRestart_leaves harr ⟨hplain.1, hmig, hrelock⟩ hplain hclears hrun,
      fun hclears hclkr harr hplain hmig hrelock => engineStop_leaves harr ⟨hplain.1, hmig, hrelock⟩ hclears hclkr,
      fun hclears hen harr hplain hmig hrelock => dividerRestart_leaves harr ⟨hplain.1, hmig, hrelock⟩ hclears hen,
      fun hlow => ⟨fun harr hplain hmig hrelock => txClear_leaves harr ⟨hplain.1, hmig, hrelock⟩ hlow,
        fun harr hplain hmig hrelock => rxClear_leaves harr ⟨hplain.1, hmig, hrelock⟩ hlow,
        fun harr hplain hmig hrelock => stallClear_leaves harr ⟨hplain.1, hmig, hrelock⟩ hlow⟩,
      fun hmask hrelock hpresent => ⟨fun harr => ?_, fun harr => ?_⟩⟩
    · exact completes_groupStart hmask hrelock hpresent harr
    · exact completes_groupStop hmask hrelock hpresent harr
  · intro s w t v u e k p d n old hpresent
    exact ⟨completes_tileFlagSet hpresent, fun harr => ⟨completes_tileFlagClear hpresent harr, completes_tstatClear hpresent harr⟩,
      fun harr hpresent' hmig hgate => ⟨completes_programWordWrite hpresent' harr hmig hgate, completes_programWordDeny hpresent' harr⟩⟩

end Sys2Proof.Proofs
end

section
/-! PROOF. MigrationMovesAnEngine (R248 to R251). -/

open Sys2Proof Sys2Proof.Machine Sys2Proof.Claims

namespace Sys2Proof.Proofs

/-! ### PE_MIGST and the migration of a tile (Table 7.19) -/

section
variable (d : Device) (t : Nat)

theorem migStatus_setMig (code phase : Nat) (hphase : phase < 4) : (d.setMig t code phase).migPhase t = phase ∧
    (d.setMig t code phase).tileReg t 54 % 16 = code % 16 := by
  have hcode (v : Nat) : v % 16 = bitsOf v 0 4 := congrArg (· % 16) (Nat.div_one v).symm
  constructor
  · rw [Device.migPhase, Device.setMig, tileReg_setTileReg_same, bitsOf_mod (by decide), bitsOf_setBits_same]
    exact Nat.mod_eq_of_lt hphase
  · rw [hcode, Device.setMig, tileReg_setTileReg_same, bitsOf_mod (by decide), bitsOf_setBits_other (.inl (by decide)), bitsOf_setBits_same]
    rfl

theorem migOf_setMigration (m : Option Migration) : (d.setMigration t m).migOf t = m := by
  unfold Device.migOf Device.setMigration
  exact Store.get_put_same d.eng.mig (fun _ => none) t m

theorem tileReg_setMigration (m : Option Migration) (u r : Nat) : (d.setMigration t m).tileReg u r = d.tileReg u r := rfl

theorem engine_setMigration (m : Option Migration) (k : Nat) : (d.setMigration t m).engine k = d.engine k := rfl

theorem engine_setMig (code phase k : Nat) : (d.setMig t code phase).engine k = d.engine k := engine_setTileReg ..

theorem migOf_setMig (code phase : Nat) : (d.setMig t code phase).migOf t = d.migOf t := rfl

theorem migOf_setEngine (n : Nat) (y : Engine) : (d.setEngine n y).migOf t = d.migOf t := rfl

/-- PE_MIGST of a request (R248). -/
theorem migSt_lt {src dst qh code phase : Nat} (hsrc : src < 8) (hdst : dst < 8) (hqh : qh < 8) (hcode : code < 16) (hphase : phase < 4) :
    migSt code phase src dst qh < 2 ^ 32 := by
  unfold migSt
  omega

/-- The fence's phase in PE_MIGST. -/
theorem migSt_fence {src dst qh : Nat} :
    setBits (setBits (migSt 9 1 src dst qh) 0 4 9) 4 2 2 = migSt 9 2 src dst qh := by
  unfold setBits migSt
  omega

end

/-! ### Requests and cancels (R248, R249) -/

section
variable {d : Device} {t : Nat}

theorem fifoDepth_apart {k : Nat} (h : (d.engine (k - k % 2)).flag peShift 14 = false) : d.joined k = false ∧ d.fifoDepth k = 8 := by
  have hjoined : d.joined k = false := h
  exact ⟨hjoined, by rw [Device.fifoDepth, hjoined]; rfl⟩

/-- A request that passes the checks of Table 7.8. -/
theorem migCheck_passes {src dst qh : Nat} {pads : Bool} (hidle : d.migPhase t = 0) (hne : src ≠ dst)
    (hstopped : (d.engine (8 * t + dst)).run = false)
    (herr : (d.engine (8 * t + dst)).err = 0) (hpads : pads = true ∨ (d.engine (8 * t + dst)).fld pePins 8 6 = 0)
    (hhandle : d.handleEngine t qh = some src) (hother : ∀ j, j < 8 → j ≠ qh → d.handleEngine t j ≠ some dst)
    (hsrc : d.joined (8 * t + src) = false ∧ d.fifoDepth (8 * t + src) = 8)
    (hdst : d.joined (8 * t + dst) = false ∧ d.fifoDepth (8 * t + dst) = 8)
    (hgate : d.mode ≠ .run ∨ d.gateIs 4 = true) : d.migCheck t src dst qh pads = 9 := by
  have hfree : ((List.range 8).any fun n => n != qh && d.handleEngine t n == some dst) = false := by
    rw [List.any_eq_false]
    intro j hj
    by_cases hjq : j = qh
    · simp [hjq]
    · simp [hother j (List.mem_range.mp hj) hjq]
  have hready : ¬ ((d.engine (8 * t + dst)).run = true ∨ (d.engine (8 * t + dst)).err ≠ 0 ∨
      (pads = false ∧ (d.engine (8 * t + dst)).fld pePins 8 6 ≠ 0)) := by
    rw [hstopped]
    rintro (h | h | ⟨hp, h⟩)
    · exact Bool.false_ne_true h
    · exact h herr
    · exact hpads.elim (fun hp' => Bool.false_ne_true (hp.symm.trans hp')) h
  have hopen : ¬ (d.mode = .run ∧ d.gateIs 4 = false) := fun ⟨hmode, hclosed⟩ =>
    hgate.elim (fun h => h hmode) fun h => Bool.false_ne_true (hclosed.symm.trans h)
  unfold Device.migCheck
  dsimp only
  rw [hfree, hdst.1, hdst.2, hsrc.2, if_neg (by simp [hidle]), if_neg hne, if_neg hready, if_neg (by simp [hhandle]), if_neg (by simp), if_neg hopen]

/-- The device that a request leaves which passes the checks (R248, R249). -/
def requested (d : Device) (t src dst qh : Nat) (pads : Bool) : Device :=
  let x := d.engine (8 * t + src)
  let e := (d.setTileReg t 54 (migSt 9 1 src dst qh)).setMigration t (some ⟨src, dst, qh, pads, x.wait == .push true || x.wait == .shifted⟩)
  if !x.run || x.stalled then e.fenceAt t (8 * t + src) x else e

theorem migWrite_request {v : Nat} (hcancel : bitOf v 15 = false)
    (hcheck : d.migCheck t (bitsOf v 0 3) (bitsOf v 4 3) (bitsOf v 8 3) (bitOf v 12) = 9) :
    d.migWrite t v = requested d t (bitsOf v 0 3) (bitsOf v 4 3) (bitsOf v 8 3) (bitOf v 12) := by
  unfold Device.migWrite requested
  dsimp only
  have hphase : (if 9 = 1 then d.migPhase t else if 9 = 9 then 1 else 0) = 1 := rfl
  rw [hcancel, if_neg Bool.false_ne_true, hcheck, if_neg (show ¬ (9 : Nat) ≠ 9 from fun h => h rfl), hphase]
  exact ite_congr (by simp) (fun _ => rfl) fun _ => rfl

theorem requested_leaves (d : Device) (t : Nat) {src dst qh : Nat} (pads : Bool) (hsrc : src < 8) (hdst : dst < 8) (hqh : qh < 8) :
    let x := d.engine (8 * t + src)
    let ends := !x.run || x.stalled
    let f := requested d t src dst qh pads
    f.tileReg t 54 = migSt 9 (if ends then 2 else 1) src dst qh ∧
    f.migOf t = some ⟨src, dst, qh, pads, x.wait == .push true || x.wait == .shifted⟩ ∧
    f.engine (8 * t + src) = (if ends then x.stop else x) ∧ ∀ j, j ≠ 8 * t + src → f.engine j = d.engine j := by
  intro x ends f
  have hlt (phase : Nat) (hphase : phase < 4) : migSt 9 phase src dst qh % 2 ^ 32 = migSt 9 phase src dst qh :=
    Nat.mod_eq_of_lt (migSt_lt hsrc hdst hqh (by decide) hphase)
  have hf : f = if ends then _ else _ := rfl
  cases hends : ends with
  | true =>
    rw [hf, if_pos hends, Device.fenceAt]
    refine ⟨?_, ?_, ?_, fun j hj => ?_⟩
    · rw [Device.setMig, tileReg_setTileReg_same, tileReg_setEngine, tileReg_setMigration, tileReg_setTileReg_same, hlt 1 (by decide),
        migSt_fence, hlt 2 (by decide)]
      rfl
    · rw [migOf_setMig, migOf_setEngine, migOf_setMigration]
    · rw [engine_setMig, engine_setEngine_same]
      rfl
    · rw [engine_setMig, engine_setEngine_other _ _ hj, engine_setMigration, engine_setTileReg]
  | false =>
    rw [hf, if_neg (by rw [hends]; decide)]
    refine ⟨?_, migOf_setMigration .., ?_, fun j _ => ?_⟩
    · rw [tileReg_setMigration, tileReg_setTileReg_same, hlt 1 (by decide)]
      rfl
    · rw [engine_setMigration, engine_setTileReg]
      rfl
    · rw [engine_setMigration, engine_setTileReg]

theorem migWrite_cancel {v : Nat} (hcancel : bitOf v 15 = true) :
    d.migWrite t v = if d.migPhase t = 1 then (d.setMig t 7 0).setMigration t none else d := by
  unfold Device.migWrite
  rw [if_pos hcancel]

/-! ### The fence (R249) -/

theorem edgesPass_atFence (x : Engine) : x.atFence.pc = x.pc ∧ x.atFence.tx = x.tx := by
  have hedges := edgesPass_edges (x.now - x.passed - 1) x
  exact ⟨hedges.pc, hedges.tx⟩

theorem engine_engUpdate (d : Device) (n : Nat) (y : Engine) (k : Nat) : (d.engUpdate n y).engine k = (d.setEngine n y).engine k :=
  engine_of_eng (fabricOnly_engUpdate d n y).parts.2 k

theorem migFence_eq (hphase : d.migPhase t = 1) (hrun : (d.engine (8 * t + d.migSrc t)).run = true)
    (hwait : (d.engine (8 * t + d.migSrc t)).wait = .none) (hfenced : d.fenced (8 * t + d.migSrc t) = true) :
    d.migFence t = ((d.engUpdate (8 * t + d.migSrc t) (d.engine (8 * t + d.migSrc t)).atFence).setEngine (8 * t + d.migSrc t)
      (d.engine (8 * t + d.migSrc t)).atFence.stop).setMig t 9 2 := if_pos ⟨hphase, hrun, hwait, hfenced⟩

theorem migFence_rests (h : d.migPhase t ≠ 1 ∨ d.fenced (8 * t + d.migSrc t) = false) : d.migFence t = d := by
  refine if_neg fun ⟨hphase, _, _, hfenced⟩ => ?_
  obtain h | h := h
  · exact h hphase
  · exact Bool.false_ne_true (h.symm.trans hfenced)

/-! ### The copy (R250) -/

theorem rg_foldl_setRg (x y : Engine) (l : List Nat) (r : Nat) :
    (l.foldl (fun z k => z.setRg k (x.rg k)) y).rg r = if r ∈ l then x.rg r else y.rg r := by
  induction l generalizing y with
  | nil => rfl
  | cons k l ih =>
    rw [List.foldl_cons, ih, rg_setRg, Nat.mod_eq_of_lt (rg_lt x k)]
    by_cases hl : r ∈ l
    · rw [if_pos hl, if_pos (List.mem_cons_of_mem _ hl)]
    · by_cases hk : k = r
      · rw [if_neg hl, if_pos hk, if_pos (hk ▸ List.mem_cons_self ..), hk]
      · rw [if_neg hl, if_neg hk, if_neg fun h => (List.mem_cons.mp h).elim (fun h => hk h.symm) hl]

/-- The destination's registers as the copy leaves them. -/
def copiedRegs (x y : Engine) : Engine :=
  ((migRegs.foldl (fun z r => z.setRg r (x.rg r)) y).setRg peShift (setBits (x.rg peShift) 14 1 (bitsOf (y.rg peShift) 14 1))).setFlag peStat 21
    (x.flag peStat 21)

/-- The destination with the source's program, place, divider and TX entries. -/
def carried (m : Migration) (x y z : Engine) : Engine :=
  let g := x.gridFrom 8 (x.passed + 8)
  { z with
    prog := x.prog, pc := x.pc, acc := g.acc, passed := y.passed + 7, now := y.passed + (g.now - x.passed)
    tx := y.tx ++ x.tx, wait := if m.shifted then .shifted else .none, run := true }

/-- An engine with the source's pads, where they move too. -/
def withPads (m : Migration) (x y z : Engine) : Engine :=
  let out := if m.pads then y.out % 2 ^ 32 + x.out / 2 ^ 32 * 2 ^ 32 else x.out
  { (if m.pads then z else z.setRg pePins (x.rg pePins)) with out := out, seen := out, past := [] }

/-- The destination as the copy leaves it, started at the fenced instruction. -/
def copied (m : Migration) (x y : Engine) : Engine := withPads m x y (carried m x y (copiedRegs x y))

/-- The source as the copy leaves it. -/
def moved (m : Migration) (x : Engine) : Engine := { (if m.pads then x else x.setFld pePins 8 6 0) with tx := [] }

theorem migCopy_eq {m : Migration} (hm : d.migOf t = some m) (hphase : d.migPhase t = 2) :
    d.migCopy t = ((d.setEngine (8 * t + m.src) (moved m ((d.engine (8 * t + m.src)).take fun _ => true))).engUpdate (8 * t + m.dst)
      (copied m ((d.engine (8 * t + m.src)).take fun _ => true) ((d.engine (8 * t + m.dst)).take fun _ => true))).setMig t 9 3 := by
  unfold Device.migCopy
  rw [hm]
  dsimp only
  rw [if_neg (not_not.mpr hphase)]
  rfl

theorem rg_copiedRegs (x y : Engine) {r : Nat} (hr : r ∈ migRegs) : (copiedRegs x y).rg r = x.rg r := by
  have hkeeps : ∀ k ∈ migRegs, peShift ≠ k ∧ peStat ≠ k := by decide
  obtain ⟨hshift, hstat⟩ := hkeeps r hr
  rw [copiedRegs, rg_setFlag_other _ _ _ hstat, rg_setRg_other _ _ hshift, rg_foldl_setRg, if_pos hr]

/-- The second engine has the first one's program, place and TX entries, and every register but the run's. -/
structure PadsApart (z w : Engine) : Prop where
  prog : w.prog = z.prog
  pc : w.pc = z.pc
  run : w.run = z.run
  tx : w.tx = z.tx
  wait : w.wait = z.wait
  rg : ∀ r, pePins ≠ r → w.rg r = z.rg r

theorem padsApart_setRg {r : Nat} (hr : r = pePins) (z : Engine) (v : Nat) : PadsApart z (z.setRg r v) :=
  ⟨rfl, rfl, rfl, rfl, rfl, fun _ ho => rg_setRg_other z v (hr ▸ ho)⟩

theorem padsApart_withOut {z w : Engine} (h : PadsApart z w) (out : Nat) : PadsApart z { w with out := out, seen := out, past := [] } :=
  ⟨h.prog, h.pc, h.run, h.tx, h.wait, h.rg⟩

theorem padsApart_withPads (m : Migration) (x y z : Engine) : PadsApart z (withPads m x y z) := by
  refine padsApart_withOut ?_ _
  split
  · exact ⟨rfl, rfl, rfl, rfl, rfl, fun _ _ => rfl⟩
  · exact padsApart_setRg rfl z _

theorem carried_fields (m : Migration) (x y z : Engine) :
    (carried m x y z).prog = x.prog ∧ (carried m x y z).pc = x.pc ∧ (carried m x y z).run = true ∧ (carried m x y z).tx = y.tx ++ x.tx ∧
    (carried m x y z).wait = (if m.shifted then .shifted else .none) ∧ ∀ r, (carried m x y z).rg r = z.rg r :=
  ⟨rfl, rfl, rfl, rfl, rfl, fun _ => rfl⟩

/-- What of the source the destination has. -/
theorem copied_fields (m : Migration) (x y : Engine) :
    (copied m x y).prog = x.prog ∧ (copied m x y).pc = x.pc ∧ (copied m x y).run = true ∧ (copied m x y).tx = y.tx ++ x.tx ∧
    (copied m x y).wait = (if m.shifted then .shifted else .none) ∧ ∀ r ∈ migRegs, (copied m x y).rg r = x.rg r := by
  have hpins : ∀ k ∈ migRegs, pePins ≠ k := by decide
  obtain ⟨hprog, hpc, hrun, htx, hwait, hregs⟩ := padsApart_withPads m x y (carried m x y (copiedRegs x y))
  obtain ⟨hprog', hpc', hrun', htx', hwait', hregs'⟩ := carried_fields m x y (copiedRegs x y)
  exact ⟨hprog.trans hprog', hpc.trans hpc', hrun.trans hrun', htx.trans htx', hwait.trans hwait',
    fun r hr => (hregs r (hpins r hr)).trans ((hregs' r).trans (rg_copiedRegs x y hr))⟩

/-! ### The end (R251) -/

theorem migDone_eq (hphase : d.migPhase t = 3) (hdrained : (d.engine (8 * t + d.migSrc t)).rx = []) : d.migDone t =
    (((d.setTileReg t 55 (setBits (d.tileReg t 55) (4 * d.migHandle t) 3 (d.migDst t))).setEngine (8 * t + d.migSrc t)
      ((d.engine (8 * t + d.migSrc t)).setFlag peStat 27 true)).setMig t 0 0).setMigration t none := if_pos ⟨hphase, hdrained⟩

end

/-! ### The commands -/

section
variable {s : State} {w : Writer} {t : BitVec 3}

theorem migOf_withCfg (d : Device) (c : Straps) (n : Nat) : ({ d with cfg := c } : Device).migOf n = d.migOf n := rfl

theorem migPhase_withCfg (d : Device) (c : Straps) (n : Nat) : ({ d with cfg := c } : Device).migPhase n = d.migPhase n := rfl

/-- A command by the device that it leaves. -/
theorem completes_of_eq {c : Instr} {f : Device → Device} {g : Device} {P : Device → Prop} (hexec : exec c s = s.upd f) (hf : f s.dev = g)
    (hP : P { g with cfg := s.dev.cfg }) : Completes c s P := completes_of_exec hexec (by rw [hf]; exact hP)

theorem completes_migrationRequest {v : BitVec 15} (harrives : s.dev.arrives w (engOffset (8 * t.toNat) 53) = true)
    (hpresent : s.dev.engPresent (8 * t.toNat) = true)
    (hcheck : s.dev.migCheck t.toNat (v.toNat % 8) (v.toNat / 16 % 8) (v.toNat / 256 % 8) (v.getLsbD 12) = 9) {P : Device → Prop}
    (hP : P { requested s.dev t.toNat (v.toNat % 8) (v.toNat / 16 % 8) (v.toNat / 256 % 8) (v.getLsbD 12) with cfg := s.dev.cfg }) :
    Completes (.migrationRequest w t v) s P := by
  have hv : v.toNat % 2 ^ 32 = v.toNat := Nat.mod_eq_of_lt (v.isLt.trans (by decide))
  have hcancel : bitOf v.toNat 15 = false := by
    rw [bitOf_eq_testBit]
    exact Nat.testBit_eq_false_of_lt v.isLt
  have hsrc : bitsOf v.toNat 0 3 = v.toNat % 8 := congrArg (· % 8) (Nat.div_one _)
  have hpads : bitOf v.toNat 12 = v.getLsbD 12 := bitOf_eq_testBit ..
  have hmig (f : Device) (u : Nat) : f.tileRegWrite .window t.toNat 53 u = f.migWrite t.toNat u := rfl
  have hwrite := rowWrite_tile v.toNat hpresent (by decide) (by decide) harrives
  rw [hmig, hv, migWrite_request hcancel (by rw [hsrc, hpads]; exact hcheck), hsrc, hpads] at hwrite
  exact completes_rowWrite rfl hwrite hP

theorem rowWrite_cancel (harrives : s.dev.arrives w (engOffset (8 * t.toNat) 53) = true) (hpresent : s.dev.engPresent (8 * t.toNat) = true) :
    s.dev.rowWrite w (engOffset (8 * t.toNat) 53) (2 ^ 15) =
      if s.dev.migPhase t.toNat = 1 then (s.dev.setMig t.toNat 7 0).setMigration t.toNat none else s.dev := by
  have hmig (f : Device) (u : Nat) : f.tileRegWrite .window t.toNat 53 u = f.migWrite t.toNat u := rfl
  rw [rowWrite_tile _ hpresent (by decide) (by decide) harrives, hmig, show 2 ^ 15 % 2 ^ 32 = 2 ^ 15 from rfl, migWrite_cancel (by decide)]

theorem migSrc_of {d : Device} {n : Nat} {m : Migration} (h : d.migOf n = some m) : d.migSrc n = m.src := by rw [Device.migSrc, h]

theorem migDst_of {d : Device} {n : Nat} {m : Migration} (h : d.migOf n = some m) : d.migDst n = m.dst := by rw [Device.migDst, h]

theorem migPhase_setMigration (d : Device) (m : Option Migration) (n : Nat) : (d.setMigration n m).migPhase n = d.migPhase n := rfl

section
variable (harrives : s.dev.arrives w (engOffset (8 * t.toNat) 53) = true) (hpresent : s.dev.engPresent (8 * t.toNat) = true)
include harrives hpresent

theorem completes_migrationCancel (hphase : s.dev.migPhase t.toNat = 1) : Completes (.migrationCancel w t) s fun f =>
    f.migPhase t.toNat = 0 ∧ f.tileReg t.toNat 54 % 16 = 7 ∧ f.migOf t.toNat = none ∧ ∀ j, f.engine j = s.dev.engine j := by
  have hcancel := (rowWrite_cancel harrives hpresent).trans (if_pos hphase)
  obtain ⟨hidle, hcode⟩ := migStatus_setMig s.dev t.toNat 7 0 (by decide)
  exact completes_device (f := fun d => d.rowWrite w (engOffset (8 * t.toNat) 53) (2 ^ 15)) rfl hcancel rfl
    ⟨(migPhase_setMigration ..).trans hidle, hcode, migOf_setMigration .., fun j => (engine_setMigration ..).trans (engine_setMig ..)⟩

theorem migrationCancel_rests (hphase : s.dev.migPhase t.toNat ≠ 1) : exec (.migrationCancel w t) s = .next s :=
  exec_stands (f := fun d => d.rowWrite w (engOffset (8 * t.toNat) 53) (2 ^ 15)) rfl ((rowWrite_cancel harrives hpresent).trans (if_neg hphase))

end

theorem completes_migrationFence (hphase : s.dev.migPhase t.toNat = 1) (hrun : (s.dev.engine (8 * t.toNat + s.dev.migSrc t.toNat)).run = true)
    (hwait : (s.dev.engine (8 * t.toNat + s.dev.migSrc t.toNat)).wait = .none)
    (hfenced : s.dev.fenced (8 * t.toNat + s.dev.migSrc t.toNat) = true) : Completes (.migrationFence t) s fun f =>
      f.migPhase t.toNat = 2 ∧ f.tileReg t.toNat 54 % 16 = 9 ∧ (f.engine (8 * t.toNat + s.dev.migSrc t.toNat)).run = false ∧
      (f.engine (8 * t.toNat + s.dev.migSrc t.toNat)).pc = (s.dev.engine (8 * t.toNat + s.dev.migSrc t.toNat)).pc ∧
      (f.engine (8 * t.toNat + s.dev.migSrc t.toNat)).tx = (s.dev.engine (8 * t.toNat + s.dev.migSrc t.toNat)).tx ∧
      ∀ j, j ≠ 8 * t.toNat + s.dev.migSrc t.toNat → f.engine j = s.dev.engine j := by
  have hfence := migFence_eq hphase hrun hwait hfenced
  generalize 8 * t.toNat + s.dev.migSrc t.toNat = e at hfence
  obtain ⟨hpc, htx⟩ := edgesPass_atFence (s.dev.engine e)
  obtain ⟨hstatus, hcode⟩ := migStatus_setMig ((s.dev.engUpdate e (s.dev.engine e).atFence).setEngine e (s.dev.engine e).atFence.stop) t.toNat 9 2
    (by decide)
  refine completes_of_eq (f := fun d => d.migFence t.toNat) rfl hfence ?_
  simp only [engine_withCfg, tileReg_withCfg, engine_setMig, engine_setEngine_same]
  refine ⟨hstatus, hcode, rfl, hpc, htx, fun j hj => ?_⟩
  rw [engine_setEngine_other _ _ hj, engine_engUpdate, engine_setEngine_other _ _ hj]

theorem completes_migrationCopy {m : Migration} (hm : s.dev.migOf t.toNat = some m) (hphase : s.dev.migPhase t.toNat = 2)
    (hne : 8 * t.toNat + m.src ≠ 8 * t.toNat + m.dst) : Completes (.migrationCopy t) s fun f =>
      f.migPhase t.toNat = 3 ∧ f.engine (8 * t.toNat + m.dst) = copied m ((s.dev.engine (8 * t.toNat + m.src)).take fun _ => true)
        ((s.dev.engine (8 * t.toNat + m.dst)).take fun _ => true) ∧ (f.engine (8 * t.toNat + m.src)).tx = [] ∧
      ∀ j, j ≠ 8 * t.toNat + m.src → j ≠ 8 * t.toNat + m.dst → f.engine j = s.dev.engine j := by
  have hcopy := migCopy_eq hm hphase
  generalize 8 * t.toNat + m.src = es at *
  generalize 8 * t.toNat + m.dst = ed at *
  generalize copied m ((s.dev.engine es).take fun _ => true) ((s.dev.engine ed).take fun _ => true) = y at *
  obtain ⟨hstatus, _⟩ := migStatus_setMig ((s.dev.setEngine es (moved m ((s.dev.engine es).take fun _ => true))).engUpdate ed y)
    t.toNat 9 3 (by decide)
  refine completes_of_eq (f := fun d => d.migCopy t.toNat) rfl hcopy ?_
  simp only [engine_withCfg, engine_setMig, engine_engUpdate, engine_setEngine_same]
  refine ⟨hstatus, trivial, ?_, fun j hsrc hdst => ?_⟩
  · rw [engine_setEngine_other _ _ hne, engine_setEngine_same]
    rfl
  · rw [engine_setEngine_other _ _ hdst, engine_setEngine_other _ _ hsrc]

theorem completes_migrationDone (hphase : s.dev.migPhase t.toNat = 3) (hrx : (s.dev.engine (8 * t.toNat + s.dev.migSrc t.toNat)).rx = [])
    (hhandle : s.dev.migHandle t.toNat < 8) : Completes (.migrationDone t) s fun f =>
      f.tileReg t.toNat 54 % 16 = 0 ∧ f.migPhase t.toNat = 0 ∧
      bitsOf (f.tileReg t.toNat 55) (4 * s.dev.migHandle t.toNat) 3 = s.dev.migDst t.toNat % 8 ∧ f.migOf t.toNat = none ∧
      (f.engine (8 * t.toNat + s.dev.migSrc t.toNat)).flag peStat 27 = true ∧
      ∀ j, j ≠ 8 * t.toNat + s.dev.migSrc t.toNat → f.engine j = s.dev.engine j := by
  have hdone := migDone_eq hphase hrx
  generalize 8 * t.toNat + s.dev.migSrc t.toNat = e at *
  have hflag := engFlag_setFlag_same (s.dev.engine e) peStat (i := 27) true (by decide)
  generalize (s.dev.engine e).setFlag peStat 27 true = y at *
  obtain ⟨hstatus, hcode⟩ := migStatus_setMig ((s.dev.setTileReg t.toNat 55
    (setBits (s.dev.tileReg t.toNat 55) (4 * s.dev.migHandle t.toNat) 3 (s.dev.migDst t.toNat))).setEngine e y) t.toNat 0 0 (by decide)
  refine completes_of_eq (f := fun d => d.migDone t.toNat) rfl hdone ?_
  simp -implicitDefEqProofs only [engine_withCfg, tileReg_withCfg, migOf_withCfg,
    migPhase_withCfg, migPhase_setMigration, engine_setMigration, tileReg_setMigration, migOf_setMigration, engine_setMig,
    engine_setEngine_same]
  refine ⟨hcode, hstatus, ?_, trivial, hflag, fun j hj => ?_⟩
  · rw [Device.setMig, tileReg_setTileReg_other _ _ _ (by decide), tileReg_setEngine, tileReg_setTileReg_same, bitsOf_mod (by omega),
      bitsOf_setBits_same]
    rfl
  · rw [engine_setEngine_other _ _ hj, engine_setTileReg]

end

/-- Settles O30: a request that passes its checks, its cancel, and the fence, copy and end of a migration. -/
theorem migrationMovesAnEngine : Obligations.MigrationMovesAnEngine := by
  unfold Obligations.MigrationMovesAnEngine
  intro s w t v d n at_ src dst
  refine ⟨fun harr hpresent => ⟨?_, completes_migrationCancel harr hpresent, migrationCancel_rests harr hpresent⟩,
    ⟨completes_migrationFence, fun hrests => exec_stands (f := fun d => d.migFence n) rfl (migFence_rests hrests)⟩,
    fun m hm hphase hne => ?_, completes_migrationDone⟩
  · intro a b q x y ends hidle hne hstopped herr hpads hhandle hother hapart hgate
    have ha : a < 8 := Nat.mod_lt _ (by decide)
    have hb : b < 8 := Nat.mod_lt _ (by decide)
    have hq : q < 8 := Nat.mod_lt _ (by decide)
    have hdepth (j : Nat) (hj : j < 8) : d.joined (8 * n + j) = false ∧ d.fifoDepth (8 * n + j) = 8 := by
      have heven : 8 * n + j - (8 * n + j) % 2 = 8 * n + (j - j % 2) := by omega
      refine fifoDepth_apart ?_
      rw [heven]
      exact hapart (j - j % 2) (by omega)
    have hcheck := migCheck_passes hidle hne hstopped herr hpads hhandle hother (hdepth a ha) (hdepth b hb) hgate
    obtain ⟨hst, hmig, hsrc, hothers⟩ := requested_leaves d n (v.getLsbD 12) ha hb hq
    exact completes_migrationRequest harr hpresent hcheck ⟨hst, hmig, hsrc, hothers⟩
  · have hsrc : src = 8 * n + m.src := congrArg (8 * n + ·) (migSrc_of hm)
    have hdst : dst = 8 * n + m.dst := congrArg (8 * n + ·) (migDst_of hm)
    have hapart : 8 * n + m.src ≠ 8 * n + m.dst := fun h => hne (hsrc.trans (h.trans hdst.symm))
    have hmoves : ∀ r ∈ [peX, peY, peTsh, peRsh, peScnt, peCnt, pePdir, peClkdiv, peWrap], r ∈ migRegs := by decide
    rw [hsrc, hdst]
    refine completes_mono (completes_migrationCopy hm hphase hapart) ?_
    rintro f ⟨hstatus, hengine, htx, hothers⟩
    obtain ⟨hprog, hpc, hrun, htx', hwait, hregs⟩ := copied_fields m ((d.engine (8 * n + m.src)).take fun _ => true)
      ((d.engine (8 * n + m.dst)).take fun _ => true)
    rw [hengine]
    exact ⟨hstatus, hprog, hpc, hrun, htx', hwait, fun r hr => hregs r (hmoves r hr), htx, hothers⟩

end Sys2Proof.Proofs
end

section
/-! PROOF. PadsTakeLevelsAndWrites: what a change of a pad's read-back and of its function can reach (R277, R283, R291). -/

open Sys2Proof Sys2Proof.Machine Sys2Proof.Claims

namespace Sys2Proof.Proofs

/-! ### What the followers of a pad can change -/

/-- The registers that a change of a routed input may write: its conflict, the count of PAD_CONFLICT, and the merge registers. -/
def routeRegs (off : Nat) : Prop :=
  off = Reg.PAD_INCONF ∨ off = Reg.RMS_STATN 6 ∨ (Reg.EVF_MERGE 0 ≤ off ∧ off < Reg.EVF_MERGE 4)

theorem routeRegs_iff (off : Nat) : routeRegs off ↔ off = 0x80200 ∨ off = 0xE2018 ∨ (0x90220 ≤ off ∧ off < 0x90230) := Iff.rfl

/-- And those that a change of the comparators may write. -/
def cmpRegs (off : Nat) : Prop := routeRegs off ∨ ∃ c, off = Reg.PAD_CMP (c / 2) (c % 2)

/-- The second device has the first one's pads, berths and memories, and every register but those that may change. -/
structure PadsStand (changes : Nat → Prop) (d e : Device) : Prop where
  eq : e = { d with regs := e.regs, evf := e.evf, eng := e.eng, tb := e.tb, lpt := e.lpt, draws := e.draws }
  rd : ∀ off, ¬ changes off → e.rd off = d.rd off

section
variable {p q : Nat → Prop} {d e f : Device}

theorem PadsStand.refl (p : Nat → Prop) (d : Device) : PadsStand p d d := ⟨rfl, fun _ _ => rfl⟩

theorem PadsStand.trans (h : PadsStand p d e) (k : PadsStand p e f) : PadsStand p d f := by
  refine ⟨?_, fun off ho => (k.rd off ho).trans (h.rd off ho)⟩
  rw [k.eq, h.eq]

theorem PadsStand.mono (h : PadsStand p d e) (hpq : ∀ off, p off → q off) : PadsStand q d e :=
  ⟨h.eq, fun off ho => h.rd off (mt (hpq off) ho)⟩

theorem PadsStand.flag (h : PadsStand p d e) {off : Nat} (ho : ¬ p off) (i : Nat) : e.flag off i = d.flag off i := by
  rw [Device.flag, Device.flag, h.rd off ho]

theorem PadsStand.fld (h : PadsStand p d e) {off : Nat} (ho : ¬ p off) (lo w : Nat) : e.fld off lo w = d.fld off lo w := by
  rw [Device.fld, Device.fld, h.rd off ho]

theorem PadsStand.parts (h : PadsStand p d e) : e.pad = d.pad ∧ e.berths = d.berths ∧ e.mem = d.mem ∧ e.mode = d.mode ∧ e.cfg = d.cfg := by
  rw [h.eq]
  exact ⟨rfl, rfl, rfl, rfl, rfl⟩

theorem PadsStand.berth (h : PadsStand p d e) (b : Nat) : e.berth b = d.berth b := by
  rw [Device.berth, Device.berth, h.parts.2.1]

theorem padsStand_ite {c : Prop} [Decidable c] (he : PadsStand p d e) (hf : PadsStand p d f) : PadsStand p d (if c then e else f) := by
  split <;> assumption

theorem padsStand_foldl {β : Type} (g : Device → β → Device) (l : List β) (h : ∀ e, PadsStand p d e → ∀ b ∈ l, PadsStand p e (g e b)) :
    PadsStand p d (l.foldl g d) :=
  List.foldlRecOn (motive := PadsStand p d) l g (.refl p d) fun e he b hb => he.trans (h e he b hb)

theorem padsStand_fabric (h : FabricOnly d e) : PadsStand routeRegs d e := by
  refine ⟨?_, fun off ho => h.rd off ?_⟩
  · rw [h.eq]
  · by_contra hin
    exact ho (.inr (.inr (by omega)))

theorem padsStand_setFlag {off : Nat} (hoff : p off) (d : Device) (i : Nat) (v : Bool) : PadsStand p d (d.setFlag off i v) :=
  ⟨rfl, fun _ ho => rd_setFlag_other _ _ _ fun h => ho (h ▸ hoff)⟩

theorem padsStand_bump {off : Nat} (hoff : p off) (d : Device) (lo w : Nat) : PadsStand p d (d.bump off lo w) :=
  ⟨rfl, fun _ ho => rd_bump_other _ _ fun h => ho (h ▸ hoff)⟩

theorem padsStand_setLevel (d : Device) (code : Nat) (v : Bool) : PadsStand routeRegs d (d.setLevel code v) :=
  padsStand_fabric (fabricOnly_setLevel code v)

theorem padsStand_setEngine (d : Device) (n : Nat) (y : Engine) : PadsStand p d (d.setEngine n y) := ⟨rfl, fun _ _ => rfl⟩

theorem padsStand_engUpdate (d : Device) (n : Nat) (y : Engine) : PadsStand routeRegs d (d.engUpdate n y) :=
  (padsStand_setEngine d n y).trans (padsStand_fabric (fabricOnly_engUpdate d n y))

theorem padsStand_draw (d : Device) : PadsStand p d d.draw := ⟨rfl, fun _ _ => rfl⟩

/-! ### Engines and routed inputs -/

theorem padsStand_engPad (d : Device) (t i : Nat) (v : Bool) : PadsStand routeRegs d (d.engPad t i v) := by
  refine padsStand_foldl _ _ fun e _ k _ => ?_
  dsimp only
  refine padsStand_ite (.refl _ _) ?_
  split
  · exact (padsStand_ite (padsStand_engUpdate e _ _) (.refl _ _)).trans (padsStand_ite (padsStand_setEngine _ _ _) (.refl _ _))
  · exact padsStand_ite (padsStand_engUpdate e _ _) (.refl _ _)

theorem padsStand_routeTo (d : Device) (n : Nat) (was now : Bool) : PadsStand routeRegs d (d.routeTo n was now) := by
  unfold Device.routeTo
  split_ifs
  · exact padsStand_setLevel ..
  · exact .refl _ _
  · exact ⟨rfl, fun _ _ => rfl⟩
  · exact .refl _ _
  · exact ⟨rfl, fun _ _ => rfl⟩
  · exact .refl _ _

/-- No conflict of routed inputs is an event here: its source is off, or no pad names an input (R277). -/
def ConflictsQuiet (d : Device) : Prop := d.flag (Reg.RMS_CFG 6) 12 = false ∨ ∀ n, 1 ≤ n → n < 19 → d.routedPads n = []

theorem padsStand_followRoutes (h : ConflictsQuiet d) (b : Device) : PadsStand routeRegs d (d.followRoutes b) := by
  unfold Device.followRoutes
  refine padsStand_foldl _ _ fun e he n hn => ?_
  dsimp only
  have hset : PadsStand routeRegs e (e.setFlag Reg.PAD_INCONF n (decide (2 ≤ (d.routedPads n).length))) := padsStand_setFlag (.inl rfl) _ _ _
  refine PadsStand.trans (PadsStand.trans hset ?_) (padsStand_routeTo _ _ _ _)
  split
  · next hraise =>
    obtain hoff | hnone := h
    · have hsource := ((he.trans hset).flag (off := Reg.RMS_CFG 6) (by rw [routeRegs_iff]; unfold Reg.RMS_CFG; omega) 12).trans hoff
      obtain hr | hr := raise_disabled n (by decide) hsource
      · rw [hr]
        exact .refl _ _
      · rw [hr]
        exact padsStand_bump (.inr (.inl rfl)) _ _ _
    · obtain ⟨hlow, hhigh⟩ := List.mem_range'_1.mp hn
      rw [hnone n hlow hhigh] at hraise
      exact absurd hraise (by simp)
  · exact .refl _ _

theorem padsStand_cmpLevel (d : Device) (c : Nat) (v : Bool) : PadsStand cmpRegs d (d.cmpLevel c v) :=
  (padsStand_setFlag (p := cmpRegs) (.inr ⟨c, rfl⟩) d 16 v).trans ((padsStand_setLevel _ _ _).mono fun _ => .inl)

theorem padsStand_cmpEval (d : Device) (c : Nat) : PadsStand cmpRegs d (d.cmpEval c) := by
  unfold Device.cmpEval
  dsimp only
  split
  · exact padsStand_cmpLevel ..
  · exact (padsStand_cmpLevel ..).trans (padsStand_draw _)

theorem padsStand_followCmps (d b : Device) : PadsStand cmpRegs d (d.followCmps b) := by
  refine padsStand_foldl _ _ fun e _ c _ => ?_
  exact padsStand_ite (padsStand_cmpLevel ..) (padsStand_ite (.refl _ _) (padsStand_cmpEval ..))

end

/-! ### A pad's read-back takes a level (R215, R283) -/

theorem conflictsQuiet_unrouted {d : Device} (h : unrouted d) : ConflictsQuiet d := by
  refine .inr fun n hlow _ => ?_
  rw [Device.routedPads, List.filter_eq_nil_iff]
  intro p hp
  have hp' : p < 32 * d.cfg.tiles := List.mem_range.mp hp
  rw [h (p / 32) (p % 32) (by omega) (Nat.mod_lt _ (by decide))]
  simp only [beq_iff_eq]
  omega

/-- The pad's read-back is v; every other read-back, the berths, the memories and the comparators' inputs stand. -/
structure PadReads (d : Device) (t i : Nat) (v : Bool) (e : Device) : Prop where
  reads : e.padIn t i = v
  others : ∀ u j, j < 32 → (u ≠ t ∨ j ≠ i) → e.padIn u j = d.padIn u j
  berths : e.berths = d.berths
  mem : e.mem = d.mem
  cmpIn : e.pad.cmpIn = d.pad.cmpIn
  cfg : e.cfg = d.cfg
  rd : ∀ off, ¬ routeRegs off → e.rd off = d.rd off

section
variable {d e f : Device} {t i : Nat} {v : Bool}

theorem padIn_of_pad (hpad : e.pad = d.pad) (hmode : e.mode = d.mode) (u j : Nat) : e.padIn u j = d.padIn u j := by
  rw [Device.padIn, Device.padIn, Device.isolated, Device.isolated, hpad, hmode]

theorem PadReads.then (h : PadReads d t i v e) (k : PadsStand routeRegs e f) : PadReads d t i v f := by
  obtain ⟨hpad, hberths, hmem, hmode, hcfg⟩ := k.parts
  exact ⟨(padIn_of_pad hpad hmode t i).trans h.reads, fun u j hj hne => (padIn_of_pad hpad hmode u j).trans (h.others u j hj hne),
    hberths.trans h.berths, hmem.trans h.mem, (congrArg PadSys.cmpIn hpad).trans h.cmpIn, hcfg.trans h.cfg,
    fun off ho => (k.rd off ho).trans (h.rd off ho)⟩

/-- The device with another read-back of a pad. -/
def withLevel (d : Device) (t i : Nat) (v : Bool) : Device :=
  { d with pad := { d.pad with level := d.pad.level.put (fun _ => false) (32 * t + i) v } }

theorem padIn_withLevel (hisolated : d.isolated = false) (u j : Nat) :
    (withLevel d t i v).padIn u j = if 32 * t + i = 32 * u + j then v else d.padIn u j := by
  have hgoes : (withLevel d t i v).isolated = false := hisolated
  rw [Device.padIn, Device.padIn, hisolated, hgoes, Bool.not_false, Bool.true_and, Bool.true_and]
  exact Store.get_put d.pad.level (fun _ => false) _ _ v

theorem padReads_withLevel (hisolated : d.isolated = false) (hi : i < 32) : PadReads d t i v (withLevel d t i v) :=
  ⟨(padIn_withLevel hisolated t i).trans (if_pos rfl), fun u j hj hne => (padIn_withLevel hisolated u j).trans (if_neg (by omega)),
    rfl, rfl, rfl, rfl, fun _ _ => rfl⟩

theorem psenseChange_same (d : Device) : d.psenseChange d.psense = d := by
  rw [Device.psenseChange]
  cases d.psense <;> simp

theorem PadReads.psense (h : PadReads d t i v e) (hmode : e.mode = d.mode) (hpad : ¬ (t = 1 ∧ i = 11)) : e.psense = d.psense := by
  have hflag : e.flag Reg.NET_SNCFG 0 = d.flag Reg.NET_SNCFG 0 := by
    rw [Device.flag, Device.flag, h.rd _ (by rw [routeRegs_iff]; unfold Reg.NET_SNCFG; omega)]
  rw [Device.psense, Device.psense, Device.snOn, Device.snOn, Device.isolated, Device.isolated, hflag, hmode, h.others 1 11 (by decide) (by omega)]

theorem padReads_padTakes (hun : unrouted d) (hisolated : d.isolated = false) (hi : i < 32) (hpad : ¬ (t = 1 ∧ i = 11)) :
    PadReads d t i v (d.padTakes t i v) := by
  unfold Device.padTakes
  split
  · next h => exact ⟨h, fun _ _ _ _ => rfl, rfl, rfl, rfl, rfl, fun _ _ => rfl⟩
  · have hlevel := padReads_withLevel (v := v) hisolated hi (t := t)
    have hquiet : ConflictsQuiet (withLevel d t i v) := conflictsQuiet_unrouted (d := withLevel d t i v) hun
    have hafter := (padsStand_followRoutes hquiet d).trans (padsStand_engPad _ t i v)
    have hreads := hlevel.then hafter
    have hsense := hreads.psense (hafter.parts.2.2.2.1) hpad
    have hsame := psenseChange_same (((withLevel d t i v).followRoutes d).engPad t i v)
    rw [hsense] at hsame
    exact hsame.symm ▸ hreads

theorem padReads_padFollow (hun : unrouted d) (hisolated : d.isolated = false) (hi : i < 32) (hpad : ¬ (t = 1 ∧ i = 11)) :
    PadReads d t i ((d.padLevel t i).getD (Config.freeLevel d.draws)) (d.padFollow t i) := by
  unfold Device.padFollow
  split
  · next v hv => rw [hv]; exact padReads_padTakes hun hisolated hi hpad
  · next hv => rw [hv]; exact (padReads_padTakes hun hisolated hi hpad).then (padsStand_draw _)

/-! ### What a pad's read-back follows (R276, R281, R283) -/

/-- The device with another level from outside at a pad. -/
def withExt (d : Device) (t i : Nat) (l : PinLevel) : Device :=
  { d with pad := { d.pad with ext := d.pad.ext.put (fun _ => .released) (32 * t + i) l } }

/-- The level of a pad that nothing drives. -/
def undriven (d : Device) (t i : Nat) : Option Bool :=
  if d.padFunction t i = 1 then receiverLevel (d.bank t == .high33) (d.pad.cmpIn.get (fun _ => 0) (2 * t + (i - 30)))
  else match d.fld (Reg.PAD_CFG t i) 0 2 with
    | 1 => some true
    | 2 => some false
    | 3 => some (d.padIn t i)
    | _ => none

/-- The level of a pad by what the device and the outside drive. -/
def levelOf (drive : Drive) (ext : PinLevel) (kept : Bool) (free : Option Bool) : Option Bool :=
  match drive, ext with
  | .zero, .low | .zero, .released | .highZ, .low | .block, .low => some false
  | .one, .high | .one, .released | .highZ, .high | .block, .high => some true
  | .zero, _ | .one, _ | _, .between => none
  | .block, _ => some kept
  | .highZ, _ => free

theorem padLevel_withExt (d : Device) (t i : Nat) (l : PinLevel) :
    (withExt d t i l).padLevel t i = levelOf (d.padDriveBy Engine.seen t i) l (d.padIn t i) (undriven d t i) := by
  have hext : (withExt d t i l).pad.ext.get (fun _ => .released) (32 * t + i) = l := Store.get_put_same d.pad.ext (fun _ => .released) _ l
  have hdrive : (withExt d t i l).padDriveBy Engine.seen t i = d.padDriveBy Engine.seen t i := rfl
  have hfree : undriven (withExt d t i l) t i = undriven d t i := rfl
  rw [← hfree]
  unfold Device.padLevel Device.padLevelBy
  rw [hext, hdrive]
  generalize d.padDriveBy Engine.seen t i = drive
  cases drive <;> cases l <;> rfl

theorem receiverLevel_getD (high33 : Bool) (u : Nat) (either : Bool) : (receiverLevel high33 u).getD either = received high33 u either := by
  unfold receiverLevel received
  dsimp only
  generalize 65 * (if high33 then 3465000 else 1890000) = top
  generalize 35 * (if high33 then 3135000 else 1710000) = bottom
  by_cases hhigh : top ≤ 100 * u
  · simp [hhigh]
  · by_cases hlow : 100 * u ≤ bottom <;> simp [hhigh, hlow]

theorem undriven_getD (d : Device) (t i : Nat) (either : Bool) : (undriven d t i).getD either =
    if d.padFunction t i = 1 then received (d.bank t == .high33) (d.pad.cmpIn.get (fun _ => 0) (2 * t + (i - 30))) either
    else if d.fld (Reg.PAD_CFG t i) 0 2 = 1 then true else if d.fld (Reg.PAD_CFG t i) 0 2 = 2 then false
    else if d.fld (Reg.PAD_CFG t i) 0 2 = 3 then d.padIn t i else either := by
  unfold undriven
  by_cases hf : d.padFunction t i = 1
  · rw [if_pos hf, if_pos hf]
    exact receiverLevel_getD ..
  · rw [if_neg hf, if_neg hf]
    have hpull : d.fld (Reg.PAD_CFG t i) 0 2 < 4 := Nat.mod_lt _ (by decide)
    generalize d.fld (Reg.PAD_CFG t i) 0 2 = pull at hpull
    interval_cases pull <;> rfl

theorem padReads_padInput {l : PinLevel} (hun : unrouted d) (hisolated : d.isolated = false) (hi : i < 32) (hpad : ¬ (t = 1 ∧ i = 11))
    (ht : t < d.cfg.tiles) : PadReads d t i ((levelOf (d.padDriveBy Engine.seen t i) l (d.padIn t i) (undriven d t i)).getD
      (Config.freeLevel d.draws)) (d.padInput t i l) := by
  have hgoes : (withExt d t i l).isolated = false := hisolated
  have hreads := padReads_padFollow (d := withExt d t i l) (t := t) (i := i) hun hgoes hi hpad
  rw [padLevel_withExt] at hreads
  have hinput : d.padInput t i l = if (withExt d t i l).isolated then withExt d t i l else (withExt d t i l).padFollow t i :=
    if_neg (Nat.not_le.mpr ht)
  rw [hinput, hgoes, if_neg Bool.false_ne_true]
  exact ⟨hreads.reads, hreads.others, hreads.berths, hreads.mem, hreads.cmpIn, hreads.cfg, hreads.rd⟩

end

/-! ### The voltage of a comparator's input (R291) -/

theorem hystMv_eq {h : Nat} (hh : h < 4) : hystMv h = [0, 10, 20, 40].getD h 0 := by interval_cases h <;> rfl

/-- The voltage at which a comparator's output changes, in units of 1/1,024 µV. -/
def tripPoint (d : Device) (r : Nat) : Int :=
  let back : Int := if d.flag r 16 then 1024000 * ([0, 10, 20, 40].getD (d.fld r 10 2) 0 : Nat) else 0
  1800000 * d.fld r 0 10 + (if d.flag r 12 then back else -back)

theorem cmpOutput_eq (d : Device) (r u : Nat) : cmpOutput (d.fld r 0 10) (d.fld r 10 2) (d.flag r 12) (d.flag r 16) u =
    if tripPoint d r + 7200000 < 1024 * u then some (!d.flag r 12)
    else if (1024 * u : Int) < tripPoint d r - 7200000 then some (d.flag r 12) else none := by
  have hhyst : d.fld r 10 2 < 4 := Nat.mod_lt _ (by decide)
  unfold cmpOutput tripPoint
  dsimp only
  rw [hystMv_eq hhyst]
  generalize (if d.flag r 16 then (1024000 * ([0, 10, 20, 40].getD (d.fld r 10 2) 0 : Nat) : Int) else 0) = back
  cases d.flag r 12
  · rfl
  · rfl

/-! ### A voltage at a comparator's input (R291) -/

section
variable {d : Device} {c u : Nat}

/-- The device with another voltage at a comparator's input. -/
def withVoltage (d : Device) (c u : Nat) : Device := { d with pad := { d.pad with cmpIn := d.pad.cmpIn.put (fun _ => 0) c u } }

theorem cmpIn_withVoltage (d : Device) (c u : Nat) : (withVoltage d c u).pad.cmpIn.get (fun _ => 0) c = u :=
  Store.get_put_same d.pad.cmpIn (fun _ => 0) c u

/-- A running comparator whose output no write leaves open: its output is defined outside the hysteresis and the threshold's accuracy. -/
theorem cmpEval_defined {v : Bool} (hdue : ∀ q ∈ d.pad.cmpDue, q.1 ≠ c)
    (hv : cmpOutput (d.fld (Reg.PAD_CMP (c / 2) (c % 2)) 0 10) (d.fld (Reg.PAD_CMP (c / 2) (c % 2)) 10 2)
      (d.flag (Reg.PAD_CMP (c / 2) (c % 2)) 12) (d.flag (Reg.PAD_CMP (c / 2) (c % 2)) 16) (d.pad.cmpIn.get (fun _ => 0) c) = some v) :
    d.cmpEval c = d.cmpLevel c v := by
  have hopen : (d.pad.cmpDue.any fun p => p.1 == c) = false := by
    rw [List.any_eq_false]
    exact fun q hq => by simpa using hdue q hq
  unfold Device.cmpEval
  dsimp only
  rw [hv, hopen]

theorem cmp_stands (c : Nat) : ¬ routeRegs (Reg.PAD_CMP (c / 2) (c % 2)) := by
  rw [routeRegs_iff]
  unfold Reg.PAD_CMP
  omega

theorem flag_cmpLevel (d : Device) (c : Nat) (v : Bool) : (d.cmpLevel c v).flag (Reg.PAD_CMP (c / 2) (c % 2)) 16 = v := by
  have hlevel : (d.cmpLevel c v).flag (Reg.PAD_CMP (c / 2) (c % 2)) 16 = (d.setFlag (Reg.PAD_CMP (c / 2) (c % 2)) 16 v).flag
      (Reg.PAD_CMP (c / 2) (c % 2)) 16 := (padsStand_setLevel _ _ v).flag (cmp_stands c) 16
  rw [hlevel, flag_setFlag _ _ _ _ (by decide), if_pos rfl]

theorem unrouted_stands {d e : Device} (h : unrouted d) (hstands : PadsStand cmpRegs d e) : unrouted e := by
  have htiles : d.cfg.tiles ≤ 8 := by cases hq : d.cfg.qs <;> simp [Straps.tiles, hq, Qs.tiles]
  intro t i ht hi
  rw [hstands.parts.2.2.2.2] at ht
  refine (hstands.fld ?_ 20 5).trans (h t i ht hi)
  rintro (hroute | ⟨c, hc⟩)
  · rw [routeRegs_iff] at hroute
    unfold Reg.PAD_CFG at hroute
    omega
  · unfold Reg.PAD_CFG Reg.PAD_CMP at hc
    omega

/-- What every voltage leaves. -/
structure Heard (d : Device) (c u : Nat) (e : Device) : Prop where
  cmpIn : e.pad.cmpIn.get (fun _ => 0) c = u
  berths : e.berths = d.berths
  mem : e.mem = d.mem
  cfg : e.cfg = d.cfg

/-- The pad of a running comparator follows too. -/
theorem cmpInput_runs {v : Bool} (hruns : d.cmpRuns c = true) (hun : unrouted d) (hdue : ∀ q ∈ d.pad.cmpDue, q.1 ≠ c)
    (hv : cmpOutput (d.fld (Reg.PAD_CMP (c / 2) (c % 2)) 0 10) (d.fld (Reg.PAD_CMP (c / 2) (c % 2)) 10 2)
      (d.flag (Reg.PAD_CMP (c / 2) (c % 2)) 12) (d.flag (Reg.PAD_CMP (c / 2) (c % 2)) 16) u = some v) :
    (d.cmpInput c u).flag (Reg.PAD_CMP (c / 2) (c % 2)) 16 = v ∧ Heard d c u (d.cmpInput c u) := by
  have htrip : d.cmpTrip c u = (withVoltage d c u).cmpLevel c v := by
    have hruns' : (withVoltage d c u).cmpRuns c = true := hruns
    have heval := cmpEval_defined (d := withVoltage d c u) (c := c) (v := v) hdue (by rw [cmpIn_withVoltage]; exact hv)
    exact (if_pos hruns').trans heval
  have hlevel := padsStand_cmpLevel (withVoltage d c u) c v
  obtain ⟨hpad, hberths, hmem, _, hcfg⟩ := hlevel.parts
  have hflag := flag_cmpLevel (withVoltage d c u) c v
  have hheard := cmpIn_withVoltage d c u
  rw [← hpad] at hheard
  unfold Device.cmpInput
  rw [htrip]
  generalize (withVoltage d c u).cmpLevel c v = e at *
  dsimp only
  split
  · next hgoes =>
    have hisolated : e.isolated = false := by
      rw [Device.cmpRuns, Bool.and_eq_true, Bool.not_eq_true'] at hgoes
      exact hgoes.2
    have hfollow := padReads_padFollow (t := c / 2) (i := 30 + c % 2) (unrouted_stands (d := withVoltage d c u) hun hlevel) hisolated (by omega)
      (by omega)
    refine ⟨?_, ?_, hfollow.berths.trans hberths, hfollow.mem.trans hmem, hfollow.cfg.trans hcfg⟩
    · rw [Device.flag, hfollow.rd _ (cmp_stands c)]
      exact hflag
    · rw [hfollow.cmpIn]
      exact hheard
  · exact ⟨hflag, hheard, hberths, hmem, hcfg⟩

/-- The input of a comparator that does not run is heard alone. -/
theorem cmpInput_stopped (hruns : d.cmpRuns c = false) : d.cmpInput c u = withVoltage d c u := by
  have hrests : ¬ (withVoltage d c u).cmpRuns c = true := fun h => Bool.false_ne_true (hruns.symm.trans h)
  have htrip : d.cmpTrip c u = withVoltage d c u := if_neg hrests
  unfold Device.cmpInput
  rw [htrip]
  exact if_neg hrests

end

end Sys2Proof.Proofs
end

section
/-! PROOF. PadsTakeLevelsAndWrites: writes of the pads' registers (R279, R284, R286, R289, R292, R294, R300, R302), and the statement. -/

open Sys2Proof Sys2Proof.Machine Sys2Proof.Claims

namespace Sys2Proof.Proofs

/-! ### Writes that reach a pad's register -/

section
variable {d : Device} {w : Writer} {t o : Nat}

theorem rowWrite_pad {off : Nat} (v : Nat) (harrives : d.arrives w off = true) (hlow : 0x80000 ≤ off) (hhigh : off < 0x90000) :
    d.rowWrite w off v = d.padWrite w off (v % 2 ^ 32) := by
  unfold Device.rowWrite
  rw [if_pos harrives, Device.regWrite, if_neg (show ¬ off = 0x30004C by omega), Device.cwWrite]
  rw [if_neg (by omega), if_neg (by omega), if_neg (by omega), if_pos hhigh]

/-- What a write of a tile's pad register does, by its place in the tile's block. -/
def padPlace (d : Device) (who : Identity) (t o v : Nat) : Device :=
  if o < 0x80 then d.padCfgWrite who t (o / 4) v
  else if o < 0x100 then d.padOwnWrite who t ((o - 0x80) / 4) v
  else if o = 0x100 then d.padDoutWrite who t v
  else if o = 0x120 then d.padImgbWrite who t v
  else if o = 0x124 then d.padSfstWrite who t v
  else if o = 0x128 then d.latchRelease t v
  else if o = 0x12C then d.denyClear t v
  else if o = 0x130 then d.padLockWrite who t v
  else if o = 0x140 ∨ o = 0x144 then d.padCmpWrite who t ((o - 0x140) / 4) v
  else d

/-- A secure writer is refused no pad (R279). -/
theorem padRefused_secure (d : Device) (off v : Nat) : d.padRefused .secure off v = false := by
  have hpermit (t i : Nat) : d.padPermit .secure t i = true := rfl
  unfold Device.padRefused
  simp [hpermit]

/-- A write of a pad register that the target port does not refuse. -/
theorem padWrite_place {off v : Nat} (h : d.padRefused (d.identity w) off v = false ∨ ∀ q, w ≠ .host q)
    (ht : (off - 0x80000) / 0x1000 < d.cfg.tiles) : d.padWrite w off v = padPlace d (d.identity w) ((off - 0x80000) / 0x1000) (off % 0x1000) v := by
  have hrefused (host : Bool) (hhost : host = false ∨ d.padRefused (d.identity w) off v = false) :
      (host && d.padRefused (d.identity w) off v) = false := by
    obtain h | h := hhost <;> rw [h]
    · exact Bool.false_and _
    · exact Bool.and_false _
  unfold Device.padWrite
  dsimp only
  rw [if_neg (Nat.not_le.mpr ht), hrefused _ ?_, if_neg Bool.false_ne_true]
  · rfl
  · obtain h | h := h
    · exact .inr h
    · cases w with
      | host q => exact absurd rfl (h q)
      | _ => exact .inl rfl

theorem rowWrite_place {off : Nat} (v : Nat) (harrives : d.arrives w off = true) (ht8 : t < 8) (ho : o < 0x1000)
    (hoff : off = 0x80000 + 0x1000 * t + o) (ht : t < d.cfg.tiles) (hw : d.identity w = .secure ∨ ∀ q, w ≠ .host q) :
    d.rowWrite w off v = padPlace d (d.identity w) t o (v % 2 ^ 32) := by
  have htile : (off - 0x80000) / 0x1000 = t := by omega
  have hplace : off % 0x1000 = o := by omega
  have hrefused : d.padRefused (d.identity w) off (v % 2 ^ 32) = false ∨ ∀ q, w ≠ .host q :=
    hw.imp_left fun h => by rw [h, padRefused_secure]
  rw [rowWrite_pad v harrives (by omega) (by omega), padWrite_place hrefused (by rwa [htile]), htile, hplace]

theorem padPlace_dout (d : Device) (who : Identity) (t v : Nat) : padPlace d who t 0x100 v = d.padDoutWrite who t v := by
  unfold padPlace
  rw [if_neg (by decide), if_neg (by decide), if_pos rfl]

theorem padPlace_imgb (d : Device) (who : Identity) (t v : Nat) : padPlace d who t 0x120 v = d.padImgbWrite who t v := by
  unfold padPlace
  rw [if_neg (by decide), if_neg (by decide), if_neg (by decide), if_pos rfl]

theorem padPlace_sfst (d : Device) (who : Identity) (t v : Nat) : padPlace d who t 0x124 v = d.padSfstWrite who t v := by
  unfold padPlace
  rw [if_neg (by decide), if_neg (by decide), if_neg (by decide), if_neg (by decide), if_pos rfl]

theorem padPlace_latch (d : Device) (who : Identity) (t v : Nat) : padPlace d who t 0x128 v = d.latchRelease t v := by
  unfold padPlace
  rw [if_neg (by decide), if_neg (by decide), if_neg (by decide), if_neg (by decide), if_neg (by decide), if_pos rfl]

theorem padPlace_stat (d : Device) (who : Identity) (t v : Nat) : padPlace d who t 0x12C v = d.denyClear t v := by
  unfold padPlace
  rw [if_neg (by decide), if_neg (by decide), if_neg (by decide), if_neg (by decide), if_neg (by decide), if_neg (by decide), if_pos rfl]

theorem padPlace_own (d : Device) (who : Identity) (v : Nat) {i : Nat} (hi : i < 32) :
    padPlace d who t (0x80 + 4 * i) v = d.padOwnWrite who t i v := by
  have hpad : (0x80 + 4 * i - 0x80) / 4 = i := by rw [Nat.add_sub_cancel_left, Nat.mul_div_cancel_left _ (by decide)]
  unfold padPlace
  rw [if_neg (by omega), if_pos (by omega), hpad]

theorem padPlace_cmp (d : Device) (who : Identity) (v : Nat) {k : Nat} (hk : k < 2) :
    padPlace d who t (0x140 + 4 * k) v = d.padCmpWrite who t k v := by
  have hpad : (0x140 + 4 * k - 0x140) / 4 = k := by rw [Nat.add_sub_cancel_left, Nat.mul_div_cancel_left _ (by decide)]
  unfold padPlace
  rw [if_neg (by omega), if_neg (by omega), if_neg (by omega), if_neg (by omega), if_neg (by omega), if_neg (by omega), if_neg (by omega),
    if_neg (by omega), if_pos (by omega), hpad]

end

/-! ### What a secure write leaves -/

/-- The second device differs from the first in some registers, and in nothing that a berth holds. -/
structure WritesOnly (offs : List Nat) (d e : Device) : Prop where
  regs : onlyRegs d e offs
  berths : e.berths = d.berths
  cfg : e.cfg = d.cfg

theorem WritesOnly.sameBerths {offs : List Nat} {d e : Device} (h : WritesOnly offs d e) : sameBerths d e := fun b => by
  rw [Device.berth, Device.berth, h.berths]

section
variable {d : Device} {t i v : Nat}

theorem writesOnly_refl (offs : List Nat) (d : Device) : WritesOnly offs d d := ⟨fun _ _ => rfl, rfl, rfl⟩

theorem writesOnly_wr (d : Device) (off v : Nat) : WritesOnly [off] d (d.wr off v) :=
  ⟨fun _ ho => Device.rd_wr_other _ _ fun h => ho (List.mem_singleton.mpr h.symm), rfl, rfl⟩

theorem writesOnly_setFld (d : Device) (off lo w v : Nat) : WritesOnly [off] d (d.setFld off lo w v) := writesOnly_wr d off _

theorem padOwnWrite_leaves (d : Device) (t i v : Nat) :
    (d.padOwnWrite .secure t i v).rd (Reg.PAD_OWN t i) = (if d.flag (Reg.PAD_LOCK t) 0 then d.rd (Reg.PAD_OWN t i) else v % 2 ^ 7) ∧
    WritesOnly [Reg.PAD_OWN t i] d (d.padOwnWrite .secure t i v) := by
  have hwrite : d.padOwnWrite .secure t i v = if d.flag (Reg.PAD_LOCK t) 0 then d else d.wr (Reg.PAD_OWN t i) (v % 2 ^ 7) := rfl
  rw [hwrite]
  split
  · exact ⟨rfl, writesOnly_refl ..⟩
  · refine ⟨?_, writesOnly_wr ..⟩
    rw [Device.rd_wr_same]
    exact Nat.mod_eq_of_lt ((Nat.mod_lt _ (by decide)).trans (by decide))

theorem padImgbWrite_leaves (d : Device) (t v : Nat) :
    (d.padImgbWrite .secure t v).fld (Reg.PAD_IMGB t) 4 17 = v % (2 * d.cfg.imageS) / 16 % 2 ^ 17 ∧
    WritesOnly [Reg.PAD_IMGB t] d (d.padImgbWrite .secure t v) :=
  ⟨fld_setFld_same d _ _ (by decide), writesOnly_setFld ..⟩

theorem bits_eq_wordOf {v : Nat} (hv : v < 2 ^ 32) : wordOf (bitOf v) 32 = v := by
  refine Nat.eq_of_testBit_eq fun k => ?_
  rw [testBit_wordOf, bitOf_eq_testBit]
  by_cases hk : k < 32
  · rw [decide_eq_true hk, Bool.true_and]
  · rw [decide_eq_false hk, Bool.false_and, Nat.testBit_eq_false_of_lt (hv.trans_le (Nat.pow_le_pow_right (by decide) (by omega)))]

theorem padDoutWrite_leaves (d : Device) (t : Nat) (hv : v < 2 ^ 32) : d.padDoutWrite .secure t v = d.wr (Reg.PAD_DOUT t) v := by
  have hnew : (List.range 32).foldl (fun m i => m + bit01 (if d.padPermit .secure t i then bitOf v i else bitOf (d.rd (Reg.PAD_DOUT t)) i) * 2 ^ i)
      0 = v := bits_eq_wordOf hv
  unfold Device.padDoutWrite
  dsimp only
  rw [hnew, if_pos (Nat.mod_eq_of_lt hv).symm]

/-- PAD_SFST after a secure write (R289). -/
def sfstWord (d : Device) (t v : Nat) : Nat :=
  wordOf (fun i => bitOf (d.rd (Reg.PAD_SFST t)) i && !(bitOf v i && d.padPermit .secure t i && !d.forceHeld t i)) 32

theorem padSfstWrite_leaves (d : Device) (t v : Nat) : d.padSfstWrite .secure t v = d.wr (Reg.PAD_SFST t) (sfstWord d t v) := by
  have hpermit (i : Nat) : d.padPermit .secure t i = true := rfl
  have hrefused : ((List.range 32).any fun i => bitOf v i && bitOf (d.rd (Reg.PAD_SFST t)) i && !d.padPermit .secure t i) = false := by
    simp [hpermit]
  unfold Device.padSfstWrite
  dsimp only
  rw [hrefused, if_neg Bool.false_ne_true]
  rfl

theorem flag_sfstWord {j : Nat} (hj : j < 32) : (d.wr (Reg.PAD_SFST t) (sfstWord d t v)).flag (Reg.PAD_SFST t) j =
    (d.flag (Reg.PAD_SFST t) j && !(bitOf v j && !d.forceHeld t j)) := by
  have hpermit : d.padPermit .secure t j = true := rfl
  rw [Device.flag, Device.rd_wr_same, bitOf_mod hj, sfstWord, bitOf_eq_testBit, testBit_wordOf, decide_eq_true hj, Bool.true_and, hpermit,
    Bool.and_true]
  rfl

theorem latchRelease_leaves (d : Device) (t : Nat) (hv : bitOf v 8 = true) :
    (d.latchRelease t v).flag (Reg.PAD_LATCH t) 0 = false ∧ (∀ q ∈ (d.latchRelease t v).pad.deep, q.1 / 32 ≠ t) ∧
    WritesOnly [Reg.PAD_LATCH t] d (d.latchRelease t v) := by
  unfold Device.latchRelease
  rw [if_pos hv]
  refine ⟨(flag_setFlag d (Reg.PAD_LATCH t) 0 false (by decide)).trans (if_pos rfl), fun q hq => ?_, ?_⟩
  · exact of_decide_eq_true (by simpa using (List.mem_filter.mp hq).2)
  · obtain ⟨hregs, hberths, hcfg⟩ := writesOnly_setFld d (Reg.PAD_LATCH t) 0 1 (bit01 false)
    exact ⟨hregs, hberths, hcfg⟩

theorem denyClear_leaves (d : Device) (t : Nat) (hv : bitOf v 31 = true) :
    (d.denyClear t v).fld (Reg.PAD_STAT t) 0 16 = 0 ∧ WritesOnly [Reg.PAD_STAT t] d (d.denyClear t v) := by
  unfold Device.denyClear
  rw [if_pos hv]
  exact ⟨fld_setFld_same d _ _ (by decide), writesOnly_setFld ..⟩

/-- PAD_CFG as a write leaves it (R274). -/
def padCfgWord (i v : Nat) : Nat := if i < 30 then setBits (v % 2 ^ 25) 7 1 0 else v % 2 ^ 25

theorem padCfgWord_lt (i v : Nat) : padCfgWord i v < 2 ^ 32 := by
  unfold padCfgWord setBits
  split <;> omega

theorem cfg_stands (hi : i < 32) (ht : t < 8) : ¬ cmpRegs (Reg.PAD_CFG t i) := by
  rintro (hroute | ⟨c, hc⟩)
  · rw [routeRegs_iff] at hroute
    unfold Reg.PAD_CFG at hroute
    omega
  · unfold Reg.PAD_CFG Reg.PAD_CMP at hc
    omega

/-- A write of PAD_CFG and what follows it: the routed inputs and the comparators (R274, R277, R291). -/
theorem padCfgWrite_leaves (d : Device) (v : Nat) (hi : i < 32) (ht : t < 8) (hquiet : d.flag (Reg.RMS_CFG 6) 12 = false) :
    (d.padCfgWrite .secure t i v).rd (Reg.PAD_CFG t i) = padCfgWord i v ∧ (d.padCfgWrite .secure t i v).berths = d.berths ∧
    (d.padCfgWrite .secure t i v).cfg = d.cfg := by
  have hpermit : d.padPermit .secure t i = true := rfl
  have hnew : (if i < 30 then setBits (v % 2 ^ 25) 7 1 0 else v % 2 ^ 25) = padCfgWord i v := rfl
  unfold Device.padCfgWrite
  dsimp only
  rw [hnew, hpermit]
  split
  · next h => exact ⟨h.symm, rfl, rfl⟩
  · rw [if_neg (by decide)]
    generalize hdout : (if bitOf (d.rd (Reg.PAD_CFG t i)) 4 = true ∧ bitOf (padCfgWord i v) 4 = false then
      d.setFlag (Reg.PAD_DOUT t) i (bitOf (d.imageWord t) i) else d) = d1
    have hd1 : d1.berths = d.berths ∧ d1.cfg = d.cfg ∧ d1.rd (Reg.RMS_CFG 6) = d.rd (Reg.RMS_CFG 6) := by
      rw [← hdout]
      split
      · exact ⟨Device.setFlag_berths .., Device.setFlag_cfg .., rd_setFlag_other _ _ _ (by unfold Reg.RMS_CFG Reg.PAD_DOUT; omega)⟩
      · exact ⟨rfl, rfl, rfl⟩
    obtain ⟨hberths, hcfg, hsource⟩ := hd1
    have hwritten : (d1.wr (Reg.PAD_CFG t i) (padCfgWord i v)).flag (Reg.RMS_CFG 6) 12 = false := by
      rw [Device.flag, Device.rd_wr_other _ _ (by unfold Reg.RMS_CFG Reg.PAD_CFG; omega), hsource]
      exact hquiet
    have hfollow := ((padsStand_followRoutes (.inl hwritten) d).mono fun _ => .inl).trans (padsStand_followCmps _ d)
    obtain ⟨_, hberths', _, _, hcfg'⟩ := hfollow.parts
    refine ⟨?_, hberths'.trans hberths, hcfg'.trans hcfg⟩
    rw [hfollow.rd _ (cfg_stands hi ht), Device.rd_wr_same]
    exact Nat.mod_eq_of_lt (padCfgWord_lt i v)

theorem fld_cmpLevel (d : Device) (c : Nat) (v : Bool) :
    (d.cmpLevel c v).fld (Reg.PAD_CMP (c / 2) (c % 2)) 0 13 = d.fld (Reg.PAD_CMP (c / 2) (c % 2)) 0 13 := by
  refine ((padsStand_setLevel _ _ v).fld (cmp_stands c) 0 13).trans ?_
  rw [Device.fld, Device.setFlag, Device.setFld, Device.rd_wr_same, bitsOf_mod (by decide), bitsOf_setBits_other (.inl (by decide)), ← Device.fld]

theorem fld_cmpEval (d : Device) (c : Nat) :
    (d.cmpEval c).fld (Reg.PAD_CMP (c / 2) (c % 2)) 0 13 = d.fld (Reg.PAD_CMP (c / 2) (c % 2)) 0 13 := by
  unfold Device.cmpEval
  dsimp only
  split
  · exact fld_cmpLevel ..
  · exact ((padsStand_draw (p := routeRegs) _).fld (cmp_stands c) 0 13).trans (fld_cmpLevel ..)

/-- A write of PAD_CMP, and the output that it leaves open for 200 ns (R292). -/
theorem padCmpWrite_leaves (d : Device) (c v : Nat) :
    (d.padCmpWrite .secure (c / 2) (c % 2) v).fld (Reg.PAD_CMP (c / 2) (c % 2)) 0 13 = v % 2 ^ 13 ∧
    (d.padCmpWrite .secure (c / 2) (c % 2) v).berths = d.berths ∧ (d.padCmpWrite .secure (c / 2) (c % 2) v).cfg = d.cfg := by
  have hindex : 2 * (c / 2) + c % 2 = c := Nat.div_add_mod c 2
  have hfield := fld_setFld_same d (Reg.PAD_CMP (c / 2) (c % 2)) v (lo := 0) (w := 13) (by decide)
  unfold Device.padCmpWrite Device.secureWrite
  rw [if_pos rfl]
  dsimp only
  rw [hindex]
  split
  · exact ⟨hfield, rfl, rfl⟩
  · generalize hopen : ({ d.setFld (Reg.PAD_CMP (c / 2) (c % 2)) 0 13 v with pad := _ } : Device) = e
    have he : e.fld (Reg.PAD_CMP (c / 2) (c % 2)) 0 13 = v % 2 ^ 13 ∧ e.berths = d.berths ∧ e.cfg = d.cfg := by
      rw [← hopen]
      exact ⟨hfield, rfl, rfl⟩
    split
    · obtain ⟨_, hberths, _, _, hcfg⟩ := (padsStand_cmpEval e c).parts
      exact ⟨(fld_cmpEval e c).trans he.1, hberths.trans he.2.1, hcfg.trans he.2.2⟩
    · exact he

/-- A write of any other writer is refused and counted (R279). -/
theorem secureWrite_denied {who : Identity} (hwho : who ≠ .secure) (d : Device) (t : Nat) (f : Device → Device) :
    d.secureWrite who t f = d.padDeny t := if_neg hwho

theorem padDeny_leaves (d : Device) (t : Nat) : (d.padDeny t).fld (Reg.PAD_STAT t) 0 16 = min (d.fld (Reg.PAD_STAT t) 0 16 + 1) 0xFFFF ∧
    WritesOnly [Reg.PAD_STAT t] d (d.padDeny t) := ⟨fld_bump d _ (by decide), writesOnly_setFld ..⟩

end

/-! ### The commands -/

section
variable {s : State} {w : Writer} {t : BitVec 3} {i : BitVec 5} {c : BitVec 4} {v : BitVec 32}

/-- A command that writes a pad register, by what the write does at its place in the tile's block. -/
theorem completes_padPlace {q : Instr} {n o off u : Nat} {g : Device} {P : Device → Prop} (hexec : exec q s = s.upd fun d => d.rowWrite w off u)
    (harrives : s.dev.arrives w off = true) (hn8 : n < 8) (ho : o < 0x1000) (hoff : off = 0x80000 + 0x1000 * n + o) (hn : n < s.dev.cfg.tiles)
    (hw : s.dev.identity w = .secure ∨ ∀ q, w ≠ .host q) (hu : u < 2 ^ 32) (hg : padPlace s.dev (s.dev.identity w) n o u = g)
    (hcfg : g.cfg = s.dev.cfg) (hP : P g) : Completes q s P := by
  have hwrite := rowWrite_place u harrives hn8 ho hoff hn hw
  rw [Nat.mod_eq_of_lt hu] at hwrite
  exact completes_device hexec (hwrite.trans hg) hcfg hP

section
variable (ht : t.toNat < s.dev.cfg.tiles) (hsecure : s.dev.identity w = .secure)
include ht hsecure

theorem completes_padConfigWrite (harrives : s.dev.arrives w (Reg.PAD_CFG t.toNat i.toNat) = true)
    (hquiet : s.dev.flag (Reg.RMS_CFG 6) 12 = false) : Completes (.padConfigWrite w t i v) s fun e =>
      e.rd (Reg.PAD_CFG t.toNat i.toNat) = padCfgWord i.toNat v.toNat ∧ sameBerths s.dev e := by
  have hi := i.isLt
  have hplace : padPlace s.dev (s.dev.identity w) t.toNat (4 * i.toNat) v.toNat = s.dev.padCfgWrite .secure t.toNat i.toNat v.toNat := by
    unfold padPlace
    rw [hsecure, if_pos (by omega), Nat.mul_div_cancel_left _ (by decide)]
  obtain ⟨hrd, hberths, hcfg⟩ := padCfgWrite_leaves s.dev v.toNat hi t.isLt hquiet
  refine completes_padPlace (off := Reg.PAD_CFG t.toNat i.toNat) rfl harrives t.isLt (by omega) rfl ht (.inl hsecure) v.isLt hplace hcfg
    ⟨hrd, fun b => ?_⟩
  rw [Device.berth, Device.berth, hberths]

theorem completes_padDoutWrite (harrives : s.dev.arrives w (Reg.PAD_DOUT t.toNat) = true) : Completes (.padDoutWrite w t v) s fun e =>
    (e.rd (Reg.PAD_DOUT t.toNat) = v.toNat ∧ onlyRegs s.dev e [Reg.PAD_DOUT t.toNat]) ∧ sameBerths s.dev e := by
  have hplace : padPlace s.dev (s.dev.identity w) t.toNat 0x100 v.toNat = s.dev.wr (Reg.PAD_DOUT t.toNat) v.toNat := by
    rw [padPlace_dout, hsecure, padDoutWrite_leaves s.dev t.toNat v.isLt]
  have hwrites := writesOnly_wr s.dev (Reg.PAD_DOUT t.toNat) v.toNat
  refine completes_padPlace rfl harrives t.isLt (by decide) (by unfold Reg.PAD_DOUT; omega) ht (.inl hsecure) v.isLt hplace hwrites.cfg
    ⟨⟨?_, hwrites.regs⟩, hwrites.sameBerths⟩
  rw [Device.rd_wr_same]
  exact Nat.mod_eq_of_lt v.isLt

theorem completes_padOwnerWrite (harrives : s.dev.arrives w (Reg.PAD_OWN t.toNat i.toNat) = true) :
    Completes (.padOwnerWrite w t i v) s fun e =>
      (e.rd (Reg.PAD_OWN t.toNat i.toNat) = (if s.dev.flag (Reg.PAD_LOCK t.toNat) 0 then s.dev.rd (Reg.PAD_OWN t.toNat i.toNat)
        else v.toNat % 2 ^ 7) ∧ onlyRegs s.dev e [Reg.PAD_OWN t.toNat i.toNat]) ∧ sameBerths s.dev e := by
  have hi := i.isLt
  have hplace : padPlace s.dev (s.dev.identity w) t.toNat (0x80 + 4 * i.toNat) v.toNat = s.dev.padOwnWrite .secure t.toNat i.toNat v.toNat := by
    rw [padPlace_own _ _ _ hi, hsecure]
  obtain ⟨hrd, hwrites⟩ := padOwnWrite_leaves s.dev t.toNat i.toNat v.toNat
  exact completes_padPlace rfl harrives t.isLt (by omega) (by unfold Reg.PAD_OWN; omega) ht (.inl hsecure) v.isLt hplace hwrites.cfg
    ⟨⟨hrd, hwrites.regs⟩, hwrites.sameBerths⟩

theorem completes_safeForceClear (harrives : s.dev.arrives w (Reg.PAD_SFST t.toNat) = true) : Completes (.safeForceClear w t v) s fun e =>
    ((∀ j, j < 32 → e.flag (Reg.PAD_SFST t.toNat) j =
        (s.dev.flag (Reg.PAD_SFST t.toNat) j && !(v.getLsbD j && !s.dev.forceHeld t.toNat j))) ∧
      onlyRegs s.dev e [Reg.PAD_SFST t.toNat]) ∧ sameBerths s.dev e := by
  have hplace : padPlace s.dev (s.dev.identity w) t.toNat 0x124 v.toNat = s.dev.wr (Reg.PAD_SFST t.toNat) (sfstWord s.dev t.toNat v.toNat) := by
    rw [padPlace_sfst, hsecure, padSfstWrite_leaves]
  have hwrites := writesOnly_wr s.dev (Reg.PAD_SFST t.toNat) (sfstWord s.dev t.toNat v.toNat)
  refine completes_padPlace rfl harrives t.isLt (by decide) (by unfold Reg.PAD_SFST; omega) ht (.inl hsecure) v.isLt hplace hwrites.cfg
    ⟨⟨fun j hj => ?_, hwrites.regs⟩, hwrites.sameBerths⟩
  rw [flag_sfstWord hj, bitOf_eq_testBit]
  rfl

theorem completes_imageWordSelect (harrives : s.dev.arrives w (Reg.PAD_IMGB t.toNat) = true) : Completes (.imageWordSelect w t v) s fun e =>
    (e.fld (Reg.PAD_IMGB t.toNat) 4 17 = v.toNat % (2 * s.dev.cfg.imageS) / 16 % 2 ^ 17 ∧ onlyRegs s.dev e [Reg.PAD_IMGB t.toNat]) ∧
      sameBerths s.dev e := by
  have hplace : padPlace s.dev (s.dev.identity w) t.toNat 0x120 v.toNat = s.dev.padImgbWrite .secure t.toNat v.toNat := by
    rw [padPlace_imgb, hsecure]
  obtain ⟨hfld, hwrites⟩ := padImgbWrite_leaves s.dev t.toNat v.toNat
  exact completes_padPlace rfl harrives t.isLt (by decide) (by unfold Reg.PAD_IMGB; omega) ht (.inl hsecure) v.isLt hplace hwrites.cfg
    ⟨⟨hfld, hwrites.regs⟩, hwrites.sameBerths⟩

theorem completes_latchRelease (harrives : s.dev.arrives w (Reg.PAD_LATCH t.toNat) = true) : Completes (.latchRelease w t) s fun e =>
    (e.flag (Reg.PAD_LATCH t.toNat) 0 = false ∧ (∀ q ∈ e.pad.deep, q.1 / 32 ≠ t.toNat) ∧ onlyRegs s.dev e [Reg.PAD_LATCH t.toNat]) ∧
      sameBerths s.dev e := by
  have hplace : padPlace s.dev (s.dev.identity w) t.toNat 0x128 (2 ^ 8) = s.dev.latchRelease t.toNat (2 ^ 8) := padPlace_latch ..
  obtain ⟨hflag, hdeep, hwrites⟩ := latchRelease_leaves s.dev t.toNat (v := 2 ^ 8) (by decide)
  exact completes_padPlace rfl harrives t.isLt (by decide) (by unfold Reg.PAD_LATCH; omega) ht (.inl hsecure) (by decide) hplace hwrites.cfg
    ⟨⟨hflag, hdeep, hwrites.regs⟩, hwrites.sameBerths⟩

theorem completes_denyClear (harrives : s.dev.arrives w (Reg.PAD_STAT t.toNat) = true) : Completes (.denyClear w t) s fun e =>
    (e.fld (Reg.PAD_STAT t.toNat) 0 16 = 0 ∧ onlyRegs s.dev e [Reg.PAD_STAT t.toNat]) ∧ sameBerths s.dev e := by
  have hplace : padPlace s.dev (s.dev.identity w) t.toNat 0x12C (2 ^ 31) = s.dev.denyClear t.toNat (2 ^ 31) := padPlace_stat ..
  obtain ⟨hfld, hwrites⟩ := denyClear_leaves s.dev t.toNat (v := 2 ^ 31) (by decide)
  exact completes_padPlace rfl harrives t.isLt (by decide) (by unfold Reg.PAD_STAT; omega) ht (.inl hsecure) (by decide) hplace hwrites.cfg
    ⟨⟨hfld, hwrites.regs⟩, hwrites.sameBerths⟩

end

theorem completes_comparatorConfig (harrives : s.dev.arrives w (Reg.PAD_CMP (c.toNat / 2) (c.toNat % 2)) = true)
    (ht : c.toNat / 2 < s.dev.cfg.tiles) (hsecure : s.dev.identity w = .secure) : Completes (.comparatorConfig w c v) s fun e =>
      e.fld (Reg.PAD_CMP (c.toNat / 2) (c.toNat % 2)) 0 13 = v.toNat % 2 ^ 13 ∧ sameBerths s.dev e := by
  have hc := c.isLt
  have hplace : padPlace s.dev (s.dev.identity w) (c.toNat / 2) (0x140 + 4 * (c.toNat % 2)) v.toNat =
      s.dev.padCmpWrite .secure (c.toNat / 2) (c.toNat % 2) v.toNat := by
    rw [padPlace_cmp _ _ _ (Nat.mod_lt _ (by decide)), hsecure]
  obtain ⟨hfld, hberths, hcfg⟩ := padCmpWrite_leaves s.dev c.toNat v.toNat
  refine completes_padPlace rfl harrives (by omega) (by omega) (by unfold Reg.PAD_CMP; omega) ht (.inl hsecure) v.isLt hplace hcfg
    ⟨hfld, fun b => ?_⟩
  rw [Device.berth, Device.berth, hberths]

/-- A write that another writer than a secure one is refused, and that counts (R279). -/
theorem completes_refused {q : Instr} {n o off u : Nat} (hexec : exec q s = s.upd fun d => d.rowWrite w off u)
    (harrives : s.dev.arrives w off = true) (hn8 : n < 8) (ho : o < 0x1000) (hoff : off = 0x80000 + 0x1000 * n + o) (hn : n < s.dev.cfg.tiles)
    (hw : ∀ q, w ≠ .host q) (hu : u < 2 ^ 32) (hg : padPlace s.dev (s.dev.identity w) n o u = s.dev.padDeny n) : Completes q s fun e =>
      e.fld (Reg.PAD_STAT n) 0 16 = min (s.dev.fld (Reg.PAD_STAT n) 0 16 + 1) 0xFFFF ∧
      onlyRegs s.dev e [Reg.PAD_STAT n] ∧ sameBerths s.dev e := by
  obtain ⟨hdeny, hwrites⟩ := padDeny_leaves s.dev n
  exact completes_padPlace hexec harrives hn8 ho hoff hn (.inr hw) hu hg hwrites.cfg ⟨hdeny, hwrites.regs, hwrites.sameBerths⟩

end

/-! ### Levels from outside and voltages -/

section
variable {s : State} {t : BitVec 3} {i : BitVec 5} {c : BitVec 4} {u : BitVec 21}

theorem completes_padInputChange {l : PinLevel} {b : Bool} (hisolated : s.dev.isolated = false) (ht : t.toNat < s.dev.cfg.tiles)
    (hun : unrouted s.dev) (hpad : ¬ (t = 1 ∧ i = 11))
    (hb : (levelOf (s.dev.padDriveBy Engine.seen t.toNat i.toNat) l (s.dev.padIn t.toNat i.toNat) (undriven s.dev t.toNat i.toNat)).getD
      (Config.freeLevel s.dev.draws) = b) : Completes (.padInputChange t i l) s fun e =>
        e.padIn t.toNat i.toNat = b ∧ (∀ v j, j < 32 → (v ≠ t.toNat ∨ j ≠ i.toNat) → e.padIn v j = s.dev.padIn v j) ∧
        sameBerths s.dev e ∧
        e.mem = s.dev.mem := by
  have hpad' : ¬ (t.toNat = 1 ∧ i.toNat = 11) := fun ⟨h1, h11⟩ => hpad ⟨BitVec.eq_of_toNat_eq h1, BitVec.eq_of_toNat_eq h11⟩
  have hreads := padReads_padInput (l := l) hun hisolated i.isLt hpad' ht
  rw [hb] at hreads
  obtain ⟨hread, hothers, hberths, hmem, _, hcfg, _⟩ := hreads
  refine completes_device (f := fun d => d.padInput t.toNat i.toNat l) rfl rfl hcfg ⟨hread, hothers, fun b => ?_, hmem⟩
  exact congrArg (fun m => Store.get m berthDefault b) hberths

theorem completes_comparatorTrip {v : Bool} (hruns : s.dev.cmpRuns c.toNat = true) (hun : unrouted s.dev)
    (hdue : ∀ q ∈ s.dev.pad.cmpDue, q.1 ≠ c.toNat)
    (hv : (if tripPoint s.dev (Reg.PAD_CMP (c.toNat / 2) (c.toNat % 2)) + 7200000 < 1024 * u.toNat then
        some (!s.dev.flag (Reg.PAD_CMP (c.toNat / 2) (c.toNat % 2)) 12)
      else if (1024 * u.toNat : Int) < tripPoint s.dev (Reg.PAD_CMP (c.toNat / 2) (c.toNat % 2)) - 7200000 then
        some (s.dev.flag (Reg.PAD_CMP (c.toNat / 2) (c.toNat % 2)) 12) else none) = some v) : Completes (.comparatorTrip c u) s fun e =>
      e.flag (Reg.PAD_CMP (c.toNat / 2) (c.toNat % 2)) 16 = v ∧ e.pad.cmpIn.get (fun _ => 0) c.toNat = u.toNat ∧ sameBerths s.dev e ∧
      e.mem = s.dev.mem := by
  obtain ⟨hflag, hcmpIn, hberths, hmem, hcfg⟩ := cmpInput_runs hruns hun hdue ((cmpOutput_eq ..).trans hv)
  refine completes_device (f := fun d => d.cmpInput c.toNat u.toNat) rfl rfl hcfg ⟨hflag, hcmpIn, fun b => ?_, hmem⟩
  exact congrArg (fun m => Store.get m berthDefault b) hberths

theorem completes_comparatorHeard (hruns : s.dev.cmpRuns c.toNat = false) : Completes (.comparatorTrip c u) s fun e =>
    (e.pad.cmpIn.get (fun _ => 0) c.toNat = u.toNat ∧ sameBerths s.dev e ∧ e.mem = s.dev.mem) ∧ e.regs = s.dev.regs :=
  completes_device (f := fun d => d.cmpInput c.toNat u.toNat) rfl (cmpInput_stopped hruns) rfl
    ⟨⟨cmpIn_withVoltage .., fun _ => rfl, rfl⟩, rfl⟩

end

/-- Settles O31: what a pad reads, what a comparator's output becomes, and what a write of each pad register leaves. -/
theorem padsTakeLevelsAndWrites : Obligations.PadsTakeLevelsAndWrites := by
  unfold Obligations.PadsTakeLevelsAndWrites
  refine ⟨?_, ?_⟩
  · intro s t i c u d driven pull input reads either
    refine ⟨fun hisolated ht hun hpad => ?_, fun ht l => exec_stands (f := fun d => d.padInput t.toNat i.toNat l) rfl (if_pos ht), ?_⟩
    · have hreads (drive : Drive) (hdrive : driven = drive) (l : PinLevel) (b : Bool)
          (hb : (levelOf drive l (d.padIn t.toNat i.toNat) (undriven d t.toNat i.toNat)).getD either = b) : reads l b :=
        completes_padInputChange hisolated ht hun hpad (by
          rw [show d.padDriveBy Engine.seen t.toNat i.toNat = drive from hdrive]
          exact hb)
      refine ⟨fun h => ⟨hreads _ h _ _ rfl, hreads _ h _ _ rfl, hreads _ h _ _ rfl⟩,
        fun h => ⟨hreads _ h _ _ rfl, hreads _ h _ _ rfl, hreads _ h _ _ rfl⟩, fun h => ?_, fun h => ?_, ?_⟩
      · obtain h | h := h
        · exact ⟨hreads _ h _ _ rfl, hreads _ h _ _ rfl⟩
        · exact ⟨hreads _ h _ _ rfl, hreads _ h _ _ rfl⟩
      · exact hreads _ h _ _ (undriven_getD ..)
      · refine hreads _ rfl _ _ ?_
        cases driven <;> rfl
    · intro cmp heard below back point
      refine ⟨fun hruns hun hdue => ⟨fun hover => ?_, fun hunder => ?_⟩, completes_comparatorHeard⟩
      · exact completes_comparatorTrip hruns hun hdue (if_pos hover)
      · have hnot : ¬ point + 7200000 < 1024 * u.toNat := by omega
        exact completes_comparatorTrip hruns hun hdue ((if_neg hnot).trans (if_pos hunder))
  · intro s w t i c v d n x cmp does refused
    have hc := c.isLt
    have hi := i.isLt
    refine ⟨fun hquiet harr ht hsecure => completes_padConfigWrite ht hsecure harr hquiet,
      fun harr ht hsecure => completes_padDoutWrite ht hsecure harr, fun harr ht hsecure => completes_padOwnerWrite ht hsecure harr,
      fun harr ht hsecure => completes_safeForceClear ht hsecure harr, fun harr ht hsecure => completes_imageWordSelect ht hsecure harr,
      fun harr ht hsecure => completes_latchRelease ht hsecure harr, fun harr ht hsecure => completes_denyClear ht hsecure harr,
      fun harr ht hsecure => completes_comparatorConfig harr ht hsecure, fun hnot => ⟨fun harr ht hwho => ?_, fun harr ht hwho => ?_,
        fun harr ht hwho => ?_⟩⟩
    · exact completes_refused rfl harr t.isLt (by omega) (by unfold Reg.PAD_OWN; omega) ht hnot v.isLt
        ((padPlace_own _ _ _ hi).trans (secureWrite_denied hwho ..))
    · exact completes_refused rfl harr t.isLt (by decide) (by unfold Reg.PAD_IMGB; omega) ht hnot v.isLt
        ((padPlace_imgb ..).trans (secureWrite_denied hwho ..))
    · exact completes_refused (o := 0x140 + 4 * (c.toNat % 2)) rfl harr (by omega) (by omega) (by unfold Reg.PAD_CMP; omega) ht hnot v.isLt
        ((padPlace_cmp _ _ _ (Nat.mod_lt _ (by decide))).trans (secureWrite_denied hwho ..))

end Sys2Proof.Proofs
end
